-- ==== Sys2Proof/Word.lean ====
section
/-! DEFINITION. The word types of the Huakan Z8 and the finite table used for every register file.
A table lists the entries that differ from nothing in particular: an index that is not listed reads
as the default its reader names, so a file needs no length invariant. -/

namespace Sys2Proof

/-- A scalar register, R109. -/
abbrev W64 := BitVec 64
/-- One byte of memory or scratchpad, R4. -/
abbrev Byte := BitVec 8
/-- A vector register, pattern register or cache line: 1,024 bits (R146, R184, R356). -/
abbrev Line := BitVec 1024

/-- A sparse table from numbers to values, listed with rising keys. -/
abbrev Tab (α : Type) := List (Nat × α)

/-- The entry of key `k`, or `d` when none is listed. -/
def Tab.get {α : Type} (d : α) : Tab α → Nat → α
  | [], _ => d
  | (j, v) :: t, k => if j = k then v else Tab.get d t k

/-- Write the entry of key `k`, keeping the keys in rising order. -/
def Tab.set {α : Type} : Tab α → Nat → α → Tab α
  | [], k, v => [(k, v)]
  | (j, w) :: t, k, v =>
    if k < j then (k, v) :: (j, w) :: t
    else if j = k then (k, v) :: t
    else (j, w) :: Tab.set t k v

/-- The entry of key `k` when one is listed. -/
def Tab.find {α : Type} : Tab α → Nat → Option α
  | [], _ => none
  | (j, v) :: t, k => if j = k then some v else Tab.find t k

/-- The table without key `k`. -/
def Tab.del {α : Type} (t : Tab α) (k : Nat) : Tab α := t.filter (fun p => p.1 != k)

/-- Apply `f` to the entry of key `k`. -/
def Tab.upd {α : Type} (d : α) (t : Tab α) (k : Nat) (f : α → α) : Tab α := t.set k (f (t.get d k))

/-- The keys listed, in order. -/
def Tab.keys {α : Type} (t : Tab α) : List Nat := t.map (fun p => p.1)

/-- The lowest n bits of a natural number. -/
def lowBits (n x : Nat) : Nat := x % 2 ^ n

/-- Bits [hi:lo] of a natural number, R4. -/
def bitsOf (hi lo x : Nat) : Nat := (x / 2 ^ lo) % 2 ^ (hi - lo + 1)

/-- Bit i of a natural number. -/
def bitOf (i x : Nat) : Bool := x.testBit i

/-- The two's complement value of the low n bits of x. -/
def signedOf (n x : Nat) : Int :=
  let y := x % 2 ^ n
  if 2 * y < 2 ^ n then (y : Int) else (y : Int) - (2 ^ n : Nat)

/-- The n-bit pattern of an integer. -/
def patOf (n : Nat) (i : Int) : Nat := (i % ((2 ^ n : Nat) : Int)).toNat

/-- Division rounded up. -/
def ceilDiv (a b : Nat) : Nat := (a + b - 1) / b

end Sys2Proof
end

