-- ==== Sys2Proof/Syntax.lean ====
section
/-! DEFINITION. The instructions and events of the Huakan Z8: one constructor for each row of the opcode
table. A slot operation carries the fields of its word (R26 to R37); the slot bit `sl` of a vector word is
set in VB, the bit `cb` of a copy word in CB. An event carries what the outside supplies with it. -/

namespace Sys2Proof

/-- S word with a guard only (R26). -/
structure OpSN where
  g : BitVec 4
  n : Bool
  deriving DecidableEq, Repr

/-- SR word with three registers (R26). -/
structure OpSR where
  g : BitVec 4
  n : Bool
  d : BitVec 5
  a : BitVec 5
  b : BitVec 5
  deriving DecidableEq, Repr

/-- SR or SI word with D and A (R26). -/
structure OpSR2 where
  g : BitVec 4
  n : Bool
  d : BitVec 5
  a : BitVec 5
  deriving DecidableEq, Repr

/-- SEL, X names the selecting guard (R30). -/
structure OpSSel where
  g : BitVec 4
  n : Bool
  d : BitVec 5
  a : BitVec 5
  b : BitVec 5
  x : BitVec 4
  deriving DecidableEq, Repr

/-- LEA, X[1:0] is the shift (R30). -/
structure OpSLea where
  g : BitVec 4
  n : Bool
  d : BitVec 5
  a : BitVec 5
  b : BitVec 5
  sh : BitVec 2
  deriving DecidableEq, Repr

/-- SI and SM words (R26). -/
structure OpSI where
  g : BitVec 4
  n : Bool
  d : BitVec 5
  a : BitVec 5
  i : BitVec 9
  deriving DecidableEq, Repr

/-- SI word of an immediate shift (R116). -/
structure OpSSh where
  g : BitVec 4
  n : Bool
  d : BitVec 5
  a : BitVec 5
  i : BitVec 6
  deriving DecidableEq, Repr

/-- SC word with two registers (R26, R28). -/
structure OpSC where
  g : BitVec 4
  n : Bool
  e : BitVec 4
  a : BitVec 5
  b : BitVec 5
  deriving DecidableEq, Repr

/-- SC word with an immediate (R26). -/
structure OpSCI where
  g : BitVec 4
  n : Bool
  e : BitVec 4
  a : BitVec 5
  i : BitVec 9
  deriving DecidableEq, Repr

/-- SC word on guards (R28). -/
structure OpSGl where
  g : BitVec 4
  n : Bool
  e : BitVec 4
  p : Bool
  f : BitVec 4
  q : Bool
  h : BitVec 4
  deriving DecidableEq, Repr

/-- GSET (R28). -/
structure OpSGs where
  g : BitVec 4
  n : Bool
  e : BitVec 4
  v : Bool
  deriving DecidableEq, Repr

/-- SL word with IMM32 (R26, R119). -/
structure OpSL where
  g : BitVec 4
  n : Bool
  d : BitVec 5
  a : BitVec 5
  imm : BitVec 32
  deriving DecidableEq, Repr

/-- scalar float SR word (R30). -/
structure OpSF where
  g : BitVec 4
  n : Bool
  d : BitVec 5
  a : BitVec 5
  b : BitVec 5
  f : BitVec 2
  r : BitVec 2
  deriving DecidableEq, Repr

/-- FCVT (R30). -/
structure OpSFcvt where
  g : BitVec 4
  n : Bool
  d : BitVec 5
  a : BitVec 5
  r : BitVec 2
  s : BitVec 2
  c : BitVec 2
  deriving DecidableEq, Repr

/-- scalar float compare (R30). -/
structure OpSFc where
  g : BitVec 4
  n : Bool
  e : BitVec 4
  a : BitVec 5
  b : BitVec 5
  f : BitVec 2
  deriving DecidableEq, Repr

/-- SX word with its EXT fields (R29). -/
structure OpSX where
  g : BitVec 4
  n : Bool
  d : BitVec 5
  a : BitVec 5
  b : BitVec 5
  c : BitVec 5
  width : Bool
  order : BitVec 2
  scope : BitVec 3
  deriving DecidableEq, Repr

/-- FENCE and DRAIN (R29, R403). -/
structure OpSFence where
  g : BitVec 4
  n : Bool
  order : BitVec 2
  scope : BitVec 3
  deriving DecidableEq, Repr

/-- PFENCE (R29, R286). -/
structure OpSPf where
  g : BitVec 4
  n : Bool
  toc : BitVec 7
  fromc : BitVec 7
  order : BitVec 2
  scope : BitVec 3
  deriving DecidableEq, Repr

/-- SB word (R26). -/
structure OpSB where
  g : BitVec 4
  n : Bool
  i : BitVec 19
  deriving DecidableEq, Repr

/-- JR (R135). -/
structure OpSJr where
  g : BitVec 4
  n : Bool
  a : BitVec 5
  deriving DecidableEq, Repr

/-- LOOP and MOVCW and MARK: A and IMM9 (R138, R142, R479). -/
structure OpSLoop where
  g : BitVec 4
  n : Bool
  a : BitVec 5
  i : BitVec 9
  deriving DecidableEq, Repr

/-- TRAP (R322). -/
structure OpSTrap where
  g : BitVec 4
  n : Bool
  a : BitVec 5
  c : BitVec 5
  deriving DecidableEq, Repr

/-- YCHK (R322). -/
structure OpSYc where
  g : BitVec 4
  n : Bool
  e : BitVec 4
  deriving DecidableEq, Repr

/-- EVSIG (R322). -/
structure OpSEv where
  g : BitVec 4
  n : Bool
  a : BitVec 5
  m : BitVec 8
  deriving DecidableEq, Repr

/-- MOVC (R142). -/
structure OpSMovc where
  g : BitVec 4
  n : Bool
  d : BitVec 5
  c : BitVec 9
  deriving DecidableEq, Repr

/-- XSA and XSB (R144). -/
structure OpSXv where
  g : BitVec 4
  n : Bool
  d : BitVec 5
  a : BitVec 5
  t : BitVec 4
  deriving DecidableEq, Repr

/-- XSH, XSJ and XSY (R144). -/
structure OpSXh where
  g : BitVec 4
  n : Bool
  d : BitVec 4
  a : BitVec 5
  deriving DecidableEq, Repr

/-- BAR, BARA, BARW and BARI (R335). -/
structure OpSBar where
  g : BitVec 4
  n : Bool
  d : BitVec 5
  a : BitVec 5
  b : BitVec 4
  deriving DecidableEq, Repr

/-- GARM (R441). -/
structure OpSGarm where
  g : BitVec 4
  n : Bool
  d : BitVec 5
  a : BitVec 5
  k : BitVec 2
  deriving DecidableEq, Repr

/-- HIRQ (R441). -/
structure OpSHirq where
  g : BitVec 4
  n : Bool
  v : BitVec 6
  deriving DecidableEq, Repr

/-- PFLIP (R441). -/
structure OpSD where
  g : BitVec 4
  n : Bool
  d : BitVec 5
  deriving DecidableEq, Repr

/-- BKPT (R479). -/
structure OpSBk where
  g : BitVec 4
  n : Bool
  i : BitVec 9
  deriving DecidableEq, Repr

/-- SYSC with a service number no row names (R322). -/
structure OpSSvc where
  g : BitVec 4
  n : Bool
  d : BitVec 5
  a : BitVec 5
  svc : BitVec 9
  deriving DecidableEq, Repr

/-- VNOP (R41). -/
structure OpV0 where
  sl : Bool
  m : Bool
  g : BitVec 4
  w : BitVec 2
  l : BitVec 2
  deriving DecidableEq, Repr

/-- vector word with D, A and B (R31). -/
structure OpV3 where
  sl : Bool
  m : Bool
  g : BitVec 4
  w : BitVec 2
  d : BitVec 5
  a : BitVec 5
  b : BitVec 6
  l : BitVec 2
  deriving DecidableEq, Repr

/-- vector word with D and A (R31, R32). -/
structure OpV2 where
  sl : Bool
  m : Bool
  g : BitVec 4
  w : BitVec 2
  d : BitVec 5
  a : BitVec 5
  l : BitVec 2
  deriving DecidableEq, Repr

/-- vector compare (R32). -/
structure OpVC where
  sl : Bool
  m : Bool
  g : BitVec 4
  w : BitVec 2
  k : BitVec 3
  a : BitVec 5
  b : BitVec 6
  l : BitVec 2
  deriving DecidableEq, Repr

/-- mask logic with two sources (R32). -/
structure OpVK where
  sl : Bool
  m : Bool
  g : BitVec 4
  w : BitVec 2
  k : BitVec 3
  j : BitVec 3
  h : BitVec 3
  l : BitVec 2
  deriving DecidableEq, Repr

/-- KNOT (R32). -/
structure OpVK1 where
  sl : Bool
  m : Bool
  g : BitVec 4
  w : BitVec 2
  k : BitVec 3
  j : BitVec 3
  l : BitVec 2
  deriving DecidableEq, Repr

/-- KPOP (R168). -/
structure OpVKp where
  sl : Bool
  m : Bool
  g : BitVec 4
  w : BitVec 2
  d : BitVec 5
  j : BitVec 3
  l : BitVec 2
  deriving DecidableEq, Repr

/-- VCVT (R32). -/
structure OpVCv where
  sl : Bool
  m : Bool
  g : BitVec 4
  w : BitVec 2
  d : BitVec 5
  a : BitVec 5
  r : BitVec 3
  t : BitVec 4
  deriving DecidableEq, Repr

/-- VQBLK (R171). -/
structure OpVQb where
  sl : Bool
  m : Bool
  g : BitVec 4
  w : BitVec 2
  d : BitVec 5
  a : BitVec 5
  o : BitVec 3
  l : BitVec 2
  deriving DecidableEq, Repr

/-- VDQBLK (R172). -/
structure OpVDq where
  sl : Bool
  m : Bool
  g : BitVec 4
  w : BitVec 2
  d : BitVec 5
  a : BitVec 5
  t : BitVec 2
  o : BitVec 3
  l : BitVec 2
  deriving DecidableEq, Repr

/-- VRND (R32). -/
structure OpVRn where
  sl : Bool
  m : Bool
  g : BitVec 4
  w : BitVec 2
  d : BitVec 5
  a : BitVec 5
  r : BitVec 3
  deriving DecidableEq, Repr

/-- VSQ (R32, R181). -/
structure OpVSq where
  sl : Bool
  m : Bool
  g : BitVec 4
  w : BitVec 2
  q : BitVec 4
  a : BitVec 5
  b : BitVec 6
  l : BitVec 2
  deriving DecidableEq, Repr

/-- VSPL and VIOTA: D and B (R178). -/
structure OpVB1 where
  sl : Bool
  m : Bool
  g : BitVec 4
  w : BitVec 2
  d : BitVec 5
  b : BitVec 6
  l : BitVec 2
  deriving DecidableEq, Repr

/-- VTAG (R32). -/
structure OpVTg where
  sl : Bool
  m : Bool
  g : BitVec 4
  w : BitVec 2
  d : BitVec 5
  a : BitVec 5
  t : BitVec 4
  l : BitVec 2
  deriving DecidableEq, Repr

/-- XPRM (R36). -/
structure OpXP where
  g : BitVec 4
  n : Bool
  p : BitVec 3
  f : Bool
  d : BitVec 5
  a : BitVec 5
  b : BitVec 5
  deriving DecidableEq, Repr

/-- XPLD, one source (R188). -/
structure OpXL where
  g : BitVec 4
  n : Bool
  p : BitVec 3
  a : BitVec 5
  deriving DecidableEq, Repr

/-- XZIP and XUZP (R188). -/
structure OpXZ where
  g : BitVec 4
  n : Bool
  h : Bool
  e : BitVec 2
  f : Bool
  d : BitVec 5
  a : BitVec 5
  b : BitVec 5
  deriving DecidableEq, Repr

/-- XCMP and XEXP (R188). -/
structure OpXC where
  g : BitVec 4
  n : Bool
  e : BitVec 2
  f : Bool
  d : BitVec 5
  a : BitVec 5
  b : BitVec 5
  deriving DecidableEq, Repr

/-- NMAP (R193). -/
structure OpNM where
  g : BitVec 4
  n : Bool
  d : BitVec 4
  k : BitVec 3
  p : BitVec 3
  deriving DecidableEq, Repr

/-- NMAPX (R193). -/
structure OpNMx where
  g : BitVec 4
  n : Bool
  d : BitVec 4
  k : BitVec 3
  p : BitVec 3
  c : BitVec 3
  deriving DecidableEq, Repr

/-- NPLD (R193). -/
structure OpNP where
  g : BitVec 4
  n : Bool
  p : BitVec 3
  s : Bool
  deriving DecidableEq, Repr

/-- NMOV (R193). -/
structure OpNV where
  g : BitVec 4
  n : Bool
  d : BitVec 4
  k : BitVec 3
  s : Bool
  deriving DecidableEq, Repr

/-- NXS (R193). -/
structure OpNX where
  g : BitVec 4
  n : Bool
  d : BitVec 5
  k : BitVec 3
  s : Bool
  deriving DecidableEq, Repr

/-- NLI (R193). -/
structure OpNL where
  g : BitVec 4
  n : Bool
  d : BitVec 4
  b : BitVec 3
  i : BitVec 8
  deriving DecidableEq, Repr

/-- MMA, MMAZ and MCONV (R228). -/
structure OpMM where
  g : BitVec 4
  n : Bool
  zd : BitVec 3
  ra : BitVec 4
  rb : BitVec 4
  shp : BitVec 5
  kb : BitVec 8
  acc : Bool
  deriving DecidableEq, Repr

/-- MZERO (R228). -/
structure OpMZ where
  g : BitVec 4
  n : Bool
  zd : BitVec 3
  zm : BitVec 2
  deriving DecidableEq, Repr

/-- MLDZ (R228). -/
structure OpML where
  g : BitVec 4
  n : Bool
  zd : BitVec 3
  ra : BitVec 4
  deriving DecidableEq, Repr

/-- MSTZ (R228). -/
structure OpMS where
  g : BitVec 4
  n : Bool
  zs : BitVec 3
  ra : BitVec 4
  rm : BitVec 3
  deriving DecidableEq, Repr

/-- MTAG (R228). -/
structure OpMT where
  g : BitVec 4
  n : Bool
  ra : BitVec 4
  tag : BitVec 12
  deriving DecidableEq, Repr

/-- MSKP (R228). -/
structure OpMK where
  g : BitVec 4
  n : Bool
  ra : BitVec 4
  kb : BitVec 8
  deriving DecidableEq, Repr

/-- MWAIT (R228). -/
structure OpMW where
  g : BitVec 4
  n : Bool
  kb : BitVec 8
  deriving DecidableEq, Repr

/-- TACQ, TREL and TRST (R346). -/
structure OpT0 where
  g : BitVec 4
  n : Bool
  deriving DecidableEq, Repr

/-- TLDW and TCAP (R346). -/
structure OpT1 where
  g : BitVec 4
  n : Bool
  ra : BitVec 4
  deriving DecidableEq, Repr

/-- TLNC (R346). -/
structure OpTL where
  g : BitVec 4
  n : Bool
  ra : BitVec 4
  join : Bool
  fb : Bool
  src : Bool
  deriving DecidableEq, Repr

/-- CPY: queue B when cb, AA, AB, SCOPE, LEN (R254). -/
structure OpCC where
  cb : Bool
  g : BitVec 4
  n : Bool
  a : BitVec 4
  b : BitVec 4
  scope : BitVec 3
  len : BitVec 25
  deriving DecidableEq, Repr

/-- CPYS (R254). -/
structure OpCS where
  cb : Bool
  g : BitVec 4
  n : Bool
  a : BitVec 4
  b : BitVec 4
  di : BitVec 5
  scope : BitVec 3
  deriving DecidableEq, Repr

/-- CPYT, CPYW and LDBLK: AA, F, SCOPE, LEN (R254, R259). -/
structure OpCT where
  cb : Bool
  g : BitVec 4
  n : Bool
  a : BitVec 4
  f : BitVec 4
  scope : BitVec 3
  len : BitVec 25
  deriving DecidableEq, Repr

/-- EVBLK (R260). -/
structure OpCE where
  cb : Bool
  g : BitVec 4
  n : Bool
  f : BitVec 4
  deriving DecidableEq, Repr

/-- BIND (R246). -/
structure OpCBd where
  cb : Bool
  g : BitVec 4
  n : Bool
  q : BitVec 4
  useA : Bool
  a : BitVec 4
  deriving DecidableEq, Repr

/-- UNBD (R246). -/
structure OpCU where
  cb : Bool
  g : BitVec 4
  n : Bool
  q : BitVec 4
  scope : BitVec 3
  deriving DecidableEq, Repr

/-- GTHR and SCTR (R254). -/
structure OpCG where
  cb : Bool
  g : BitVec 4
  n : Bool
  q : BitVec 4
  a : BitVec 4
  ix : BitVec 2
  scope : BitVec 3
  len : BitVec 25
  deriving DecidableEq, Repr

/-- CWAIT (R261). -/
structure OpCW where
  cb : Bool
  g : BitVec 4
  n : Bool
  len : BitVec 25
  deriving DecidableEq, Repr

/-- CFLAG (R262). -/
structure OpCF where
  cb : Bool
  g : BitVec 4
  n : Bool
  f : BitVec 4
  di : BitVec 5
  len : BitVec 25
  deriving DecidableEq, Repr

/-- CSIG (R263). -/
structure OpCSg where
  cb : Bool
  g : BitVec 4
  n : Bool
  a : BitVec 4
  b : BitVec 4
  scope : BitVec 3
  order : BitVec 2
  w32 : Bool
  deriving DecidableEq, Repr

/-- COLL (R264). -/
structure OpCL where
  cb : Bool
  g : BitVec 4
  n : Bool
  a : BitVec 4
  b : BitVec 4
  di : BitVec 5
  f : BitVec 4
  scope : BitVec 3
  len : BitVec 25
  deriving DecidableEq, Repr

/-- HADD (R239). -/
structure OpCH where
  cb : Bool
  g : BitVec 4
  n : Bool
  a : BitVec 4
  b : BitVec 4
  imm : BitVec 25
  deriving DecidableEq, Repr

/-- HMOV (R239). -/
structure OpCM where
  cb : Bool
  g : BitVec 4
  n : Bool
  a : BitVec 4
  b : BitVec 4
  deriving DecidableEq, Repr

/-- HLI (R239). -/
structure OpCI where
  cb : Bool
  g : BitVec 4
  n : Bool
  a : BitVec 4
  imm : BitVec 25
  deriving DecidableEq, Repr

/-- HXS (R239). -/
structure OpCX where
  cb : Bool
  g : BitVec 4
  n : Bool
  d : BitVec 5
  b : BitVec 4
  deriving DecidableEq, Repr

/-- A received flit as the link layer hands it over: its header fields, whether the RS code and the tag
pass, and its decrypted payload (R516). -/
structure Flit where
  type : Nat
  slot : Nat
  seqNo : Nat
  ack : Nat
  good : Bool
  payload : List Nat
  deriving DecidableEq, Repr

/-- A peer's link report as R519 checks it: the outcomes of the two cryptographic checks and the fields. -/
structure LinkRep where
  sigOk : Bool
  rootHash : List Nat
  fwHash : List Nat
  car : Nat
  topo : Nat
  ncar : Nat
  nonce : List Nat
  /-- The ML-KEM-1024 encapsulation key. -/
  kem : List Nat
  /-- The ciphertext that the end with the lower car index sends once it has accepted the other's report. -/
  cipher : List Nat
  deriving DecidableEq, Repr

/-- What another participant brings to a collective: its car, its F, LEN and DI (R526) and its input (R527). -/
structure PeerInput where
  car : Nat
  kind : Nat
  len : Nat
  di : Nat
  data : List Nat
  deriving DecidableEq, Repr

/-- What a control flit tells of a link between two other cars: the link, and whether it is UP again or lost (R530). -/
structure LinkNews where
  link : Nat
  up : Bool
  deriving DecidableEq, Repr

/-- A reset abort as it arrives: the number of its collective and the car that sent it (R531). -/
structure AbortNews where
  num : Nat
  car : Nat
  deriving DecidableEq, Repr

/-- A remote access as it arrives at the owning car: R521, R522. kind 0 read, 1 write, 2 atomic (old value
returned, F by op), 3 compare-and-swap. -/
structure RemAcc where
  car : Nat
  /-- The number that the requester gave it. -/
  id : Nat
  tenant : Nat
  win : Nat
  off : Nat
  len : Nat
  kind : Nat
  op : Nat
  data : List Nat
  cmp : List Nat
  deriving DecidableEq, Repr

/-- One constructor for each row of the opcode table. -/
inductive Instr where
  | snop (o : OpSN)
  | add (o : OpSR)
  | sub (o : OpSR)
  | mul (o : OpSR)
  | mulh (o : OpSR)
  | mulhu (o : OpSR)
  | div (o : OpSR)
  | divu (o : OpSR)
  | rem (o : OpSR)
  | remu (o : OpSR)
  | and (o : OpSR)
  | or (o : OpSR)
  | xor (o : OpSR)
  | shl (o : OpSR)
  | shr (o : OpSR)
  | sra (o : OpSR)
  | min (o : OpSR)
  | max (o : OpSR)
  | minu (o : OpSR)
  | maxu (o : OpSR)
  | clz (o : OpSR2)
  | popc (o : OpSR2)
  | sel (o : OpSSel)
  | addw (o : OpSR)
  | lea (o : OpSLea)
  | mov (o : OpSR2)
  | addi (o : OpSI)
  | andi (o : OpSI)
  | ori (o : OpSI)
  | xori (o : OpSI)
  | shli (o : OpSSh)
  | shri (o : OpSSh)
  | srai (o : OpSSh)
  | muli (o : OpSI)
  | ceq (o : OpSC)
  | cne (o : OpSC)
  | clt (o : OpSC)
  | cge (o : OpSC)
  | cltu (o : OpSC)
  | cgeu (o : OpSC)
  | ceqi (o : OpSCI)
  | cnei (o : OpSCI)
  | clti (o : OpSCI)
  | cgei (o : OpSCI)
  | gand (o : OpSGl)
  | gor (o : OpSGl)
  | gxor (o : OpSGl)
  | gset (o : OpSGs)
  | movi (o : OpSL)
  | movhi (o : OpSL)
  | addil (o : OpSL)
  | fadd (o : OpSF)
  | fsub (o : OpSF)
  | fmul (o : OpSF)
  | fma (o : OpSF)
  | fmin (o : OpSF)
  | fmax (o : OpSF)
  | fcvt (o : OpSFcvt)
  | fceq (o : OpSFc)
  | fclt (o : OpSFc)
  | fcle (o : OpSFc)
  | ldB (o : OpSI)
  | ldH (o : OpSI)
  | ldW (o : OpSI)
  | ldD (o : OpSI)
  | ldsB (o : OpSI)
  | ldsH (o : OpSI)
  | ldsW (o : OpSI)
  | stB (o : OpSI)
  | stH (o : OpSI)
  | stW (o : OpSI)
  | stD (o : OpSI)
  | lda (o : OpSX)
  | stl (o : OpSX)
  | amoadd (o : OpSX)
  | amoswp (o : OpSX)
  | amocas (o : OpSX)
  | amomin (o : OpSX)
  | amomax (o : OpSX)
  | amoand (o : OpSX)
  | amoor (o : OpSX)
  | amoxor (o : OpSX)
  | scld (o : OpSX)
  | scst (o : OpSX)
  | scamo (o : OpSX)
  | fence (o : OpSFence)
  | pfence (o : OpSPf)
  | drain (o : OpSFence)
  | br (o : OpSB)
  | jal (o : OpSB)
  | jr (o : OpSJr)
  | jalr (o : OpSR2)
  | loop (o : OpSLoop)
  | lexit (o : OpSN)
  | trap (o : OpSTrap)
  | kend (o : OpSR2)
  | sysord (o : OpSR2)
  | evadd (o : OpSR2)
  | claim (o : OpSR2)
  | release (o : OpSR2)
  | gstat (o : OpSR2)
  | notify (o : OpSR2)
  | sysc (o : OpSSvc)
  | eret (o : OpSN)
  | ychk (o : OpSYc)
  | yield (o : OpSN)
  | wfe (o : OpSN)
  | evsig (o : OpSEv)
  | movc (o : OpSMovc)
  | movcw (o : OpSLoop)
  | xsa (o : OpSXv)
  | xsb (o : OpSXv)
  | xsh (o : OpSXh)
  | xsj (o : OpSXh)
  | xsy (o : OpSXh)
  | bar (o : OpSBar)
  | bara (o : OpSBar)
  | barw (o : OpSBar)
  | bari (o : OpSBar)
  | lnch (o : OpSR2)
  | garm (o : OpSGarm)
  | hirq (o : OpSHirq)
  | pflip (o : OpSD)
  | bkpt (o : OpSBk)
  | mark (o : OpSLoop)
  | vnop (o : OpV0)
  | vadd (o : OpV3)
  | vsub (o : OpV3)
  | vmul (o : OpV3)
  | vfma (o : OpV3)
  | vfms (o : OpV3)
  | vmin (o : OpV3)
  | vmax (o : OpV3)
  | vabs (o : OpV2)
  | vneg (o : OpV2)
  | vsqd (o : OpV3)
  | vmulh (o : OpV3)
  | vdot4 (o : OpV3)
  | vand (o : OpV3)
  | vor (o : OpV3)
  | vxor (o : OpV3)
  | vshl (o : OpV3)
  | vshr (o : OpV3)
  | vsra (o : OpV3)
  | vceq (o : OpVC)
  | vcne (o : OpVC)
  | vclt (o : OpVC)
  | vcle (o : OpVC)
  | vsel (o : OpV3)
  | kand (o : OpVK)
  | kor (o : OpVK)
  | kxor (o : OpVK)
  | knot (o : OpVK1)
  | kpop (o : OpVKp)
  | vcvt (o : OpVCv)
  | vqblk (o : OpVQb)
  | vdqblk (o : OpVDq)
  | vrnd (o : OpVRn)
  | vexp2 (o : OpV2)
  | vlog2 (o : OpV2)
  | vrcp (o : OpV2)
  | vrsq (o : OpV2)
  | vsigm (o : OpV2)
  | vtanh (o : OpV2)
  | vrsum (o : OpV2)
  | vrmax (o : OpV2)
  | vrmin (o : OpV2)
  | vscan (o : OpV2)
  | vamax (o : OpV2)
  | vmov (o : OpV2)
  | vsq (o : OpVSq)
  | vxs (o : OpV2)
  | vxab (o : OpV2)
  | vspl (o : OpVB1)
  | viota (o : OpVB1)
  | vtag (o : OpVTg)
  | xprm (o : OpXP)
  | xpldA (o : OpXL)
  | xpldB (o : OpXL)
  | xzip (o : OpXZ)
  | xuzp (o : OpXZ)
  | xcmp (o : OpXC)
  | xexp (o : OpXC)
  | nmap (o : OpNM)
  | nmapx (o : OpNMx)
  | npld (o : OpNP)
  | nmov (o : OpNV)
  | nxs (o : OpNX)
  | nli (o : OpNL)
  | mma (o : OpMM)
  | mmaz (o : OpMM)
  | mconv (o : OpMM)
  | mzero (o : OpMZ)
  | mldz (o : OpML)
  | mstz (o : OpMS)
  | mtag (o : OpMT)
  | mskp (o : OpMK)
  | mwait (o : OpMW)
  | tacq (o : OpT0)
  | trel (o : OpT0)
  | tldw (o : OpT1)
  | tlnc (o : OpTL)
  | tcap (o : OpT1)
  | trst (o : OpT0)
  | cpy (o : OpCC)
  | cpys (o : OpCS)
  | cpyt (o : OpCT)
  | cpyw (o : OpCT)
  | ldblk (o : OpCT)
  | evblk (o : OpCE)
  | bind (o : OpCBd)
  | unbd (o : OpCU)
  | gthr (o : OpCG)
  | sctr (o : OpCG)
  | cwait (o : OpCW)
  | cflag (o : OpCF)
  | csig (o : OpCSg)
  | coll (o : OpCL)
  | hadd (o : OpCH)
  | hmov (o : OpCM)
  | hli (o : OpCI)
  | hxs (o : OpCX)
  /-- Bundle bytes arrive (R269). -/
  | fetchFill (core : Nat)
  /-- The oldest unresolved branch resolves (R137). -/
  | branchResolution (core : Nat)
  /-- The oldest standing checkpoint is taken (R298). -/
  | checkpoint (core : Nat)
  /-- The oldest released store performs (R301). -/
  | storePerform (core : Nat)
  /-- The data of a missed load returns (R128). -/
  | loadDataReturn (core : Nat)
  /-- A pending asynchronous cause is taken (R307). -/
  | asyncTrap (core : Nat)
  /-- YDL has reached 0 (R317). -/
  | forcedSave (core : Nat)
  /-- The frame list is refilled (R319). -/
  | savewaitEnd (core : Nat)
  /-- An EVSIG reaches the core (R322). -/
  | eventLatchSet (core : Nat)
  /-- The matrix engine begins its next command (R222). -/
  | matrixCommandBegin (core : Nat)
  /-- The running matrix command completes (R222). -/
  | matrixCommandComplete (core : Nat)
  /-- The oldest unfinished command of a copy queue completes (R250). -/
  | copyCommandComplete (core : Nat) (q : Nat)
  /-- A fetched group enters a stream buffer (R244). -/
  | streamGroupArrival (core : Nat) (k : Nat)
  /-- Appended groups are written (R181). -/
  | streamOutputWrite (core : Nat) (k : Nat)
  /-- The head of the grant queue receives the array (R342). -/
  | temporalGrant (cl : Nat)
  /-- A committed temporal command begins (R345). -/
  | temporalCommandBegin (cl : Nat)
  /-- The running temporal command finishes (R345). -/
  | temporalCommandComplete (cl : Nat)
  /-- The barrier unit acts on its oldest access (R336). -/
  | barrierAccess (cl : Nat)
  /-- The Capstan stands at an owned position (R406). -/
  | capstanIssue (core : Nat)
  /-- The oldest held request is admitted or held (R367). -/
  | regulationAdmit (die : Nat) (point : Nat) (guest : Nat)
  /-- 1 µs has passed (R368). -/
  | regulatorTick
  /-- HCNT has reached HOLD + 1 in TRAP mode (R369). -/
  | budget (die : Nat) (point : Nat) (guest : Nat)
  /-- The home slice looks up a request (R366). -/
  | l2Lookup (req : Nat)
  /-- A controller serves a request (R370). -/
  | controllerAccess (req : Nat)
  /-- A walk completes and fills the TLBs or faults (R380). -/
  | translationWalk (core : Nat)
  /-- The host answers a WPGT: resume when 1, fail when 0 (R378). -/
  | wpgtAnswer (core : Nat) (resume : Nat)
  /-- Invalidation of a GVA range (R381). -/
  | shadowInvalidate (guest : Nat) (lo : Nat) (hi : Nat)
  /-- Refresh takes channel time (R499). -/
  | channelRefresh (die : Nat) (ch : Nat)
  /-- A channel is retired or refused (R500). -/
  | channelRetirement (die : Nat) (ch : Nat)
  /-- A cluster is replaced by the spare (R352). -/
  | clusterSwap (cl : Nat)
  /-- A cluster is retired (R353). -/
  | clusterRetire (cl : Nat)
  /-- A core is retired (R511). -/
  | coreRetire (core : Nat)
  /-- A row of a core's array is replaced (R510). -/
  | sramRowRepair (core : Nat) (row : Nat)
  /-- An L2 way leaves service (R383). -/
  | l2WayRetire (way : Nat)
  /-- The walker of a die fails (R383). -/
  | walkerFailover (die : Nat)
  /-- A mesh link of a die fails (R383). -/
  | meshLinkFailure (die : Nat)
  /-- A die-to-die link is lost: 0-3 ring link d to d+1, 4-7 anchor link of die link-4 (R512). -/
  | dieLinkLoss (link : Nat)
  /-- The host writes TAIL (R415). -/
  | commandStreamTailWrite (guest : Nat) (k : Nat) (v : Nat)
  /-- EN is cleared (R414). -/
  | commandStreamDisable (guest : Nat) (k : Nat)
  /-- HALT is cleared (R414). -/
  | haltClear (guest : Nat) (k : Nat)
  /-- The entry at HEAD is taken (R413). -/
  | streamEntryTake (guest : Nat) (k : Nat)
  /-- The walk enters its node (R423). -/
  | nodeEnter (guest : Nat) (k : Nat)
  /-- An EVENT node acts (R419). -/
  | eventNode (guest : Nat) (node : Nat)
  /-- A HOSTIRQ node acts (R420). -/
  | hostirqNode (guest : Nat) (node : Nat)
  /-- A SPLICE node acts (R421). -/
  | spliceNode (guest : Nat) (node : Nat)
  /-- The COND node of a walk acts (R422). -/
  | condNode (guest : Nat) (k : Nat)
  /-- A KERNEL record is ready (R426). -/
  | kernelRecordReady (guest : Nat) (rcd : Nat)
  /-- One placement decision (R428). -/
  | groupPlacement (guest : Nat)
  /-- A group completes (R429). -/
  | groupComplete (guest : Nat) (rcd : Nat) (grp : Nat)
  /-- A major frame starts (R434). -/
  | frameStart
  /-- The guard band of window k begins (R435). -/
  | windowGuard (k : Nat)
  /-- Window k ends (R435). -/
  | windowEnd (k : Nat)
  /-- GC_CTL is written with v, EN = 1 (R452). -/
  | contractLoad (guest : Nat) (v : Nat)
  /-- GC_CMD START (R446). -/
  | start (guest : Nat)
  /-- GC_CMD STOP (R458). -/
  | stop (guest : Nat)
  /-- GC_CMD RESET (R457). -/
  | reset (guest : Nat)
  /-- GC_PART is written while EN = 1 (R453). -/
  | resize (guest : Nat) (part : Nat)
  /-- KCMD GENERATE (R459). -/
  | generate (guest : Nat)
  /-- KCMD IMPORT (R459). -/
  | importKey (guest : Nat)
  /-- KCMD ERASE (R459). -/
  | erase (guest : Nat)
  /-- POOL_ALLOCg is read (R460). -/
  | poolAlloc (guest : Nat)
  /-- POOL_FREE is written (R460). -/
  | poolFree (pa : Nat)
  /-- The scrub engine finishes a frame (R460). -/
  | frameScrub
  /-- ATT_GO is written (R461). -/
  | attestation (guest : Nat)
  /-- An event counter is written (R447). -/
  | eventCounterAdd (guest : Nat) (e : Nat) (v : Nat)
  /-- ITIME has expired (R449). -/
  | irqTimer (guest : Nat) (vec : Nat)
  /-- A masked vector is unmasked (R449). -/
  | vectorUnmask (guest : Nat) (vec : Nat)
  /-- The host claims a resource (R463). -/
  | hostClaim (res : Nat)
  /-- The host releases a resource (R463). -/
  | hostRelease (res : Nat)
  /-- A debugged core stops (R476). -/
  | debugStop (core : Nat)
  /-- DBG_CTL.HALT is written (R476). -/
  | halt (core : Nat)
  /-- DBG_CTL.RESUME is written (R478). -/
  | resume (core : Nat)
  /-- DBG_DATA is written (R475). -/
  | dbgDataWrite (core : Nat) (v : Nat)
  /-- TRC_BASE is written with EN = 1 (R483). -/
  | traceEnable (cl : Nat) (v : Nat)
  /-- A SAMPLE record of core k of the cluster (R482). -/
  | traceSample (cl : Nat) (k : Nat)
  /-- PMCTL.CLR is written (R484). -/
  | pmctlClr (core : Nat)
  /-- The low half of counter i is read in the host's view (R484, R486). -/
  | counterLowRead (core : Nat) (i : Nat)
  /-- MTCFG.MCINV is written (R219). -/
  | mcinv (core : Nat)
  /-- RPL_CTL.GO is written (R489). -/
  | replayGo (guest : Nat)
  /-- RPL_CTL.ABORT is written (R489). -/
  | replayAbort (guest : Nat)
  /-- The next replay pass (R490). -/
  | replayPass (guest : Nat)
  /-- PERST_N or a hot reset (R495). -/
  | perstN
  /-- A compute die has been brought up: passed when 1 (R502). -/
  | dieBringup (die : Nat) (pass : Nat)
  /-- PLAT_CTL.FULL is written (R504). -/
  | full
  /-- TJ has reached 125 degrees (R509). -/
  | thermalTrip
  /-- A TSYNC edge (R506). -/
  | tsync
  /-- 3 s without an edge (R506). -/
  | tsyncTimeout
  /-- FLR of a virtual function (R493). -/
  | functionLevelReset (guest : Nat)
  /-- An access through a virtual BAR4 (R494). -/
  | hostWindowAccess (guest : Nat) (write : Nat) (addr : Nat) (data : List Nat)
  /-- A signal is detected (R518). -/
  | signalDetect (port : Nat)
  /-- Training has ended (R518). -/
  | trainingComplete (port : Nat)
  /-- Training has not ended in 500 ms (R518). -/
  | trainingTimeout (port : Nat)
  /-- No lock at 56 GBd (R515). -/
  | rateFallback (port : Nat)
  /-- A peer's link report arrives (R519). -/
  | linkReport (port : Nat) (rep : LinkRep)
  /-- A flit arrives (R516). -/
  | flitReceive (port : Nat) (flit : Flit)
  /-- ACK has not moved for 2 µs (R516). -/
  | flitResend (port : Nat)
  /-- No flit for 10 µs (R516). -/
  | flitSilence (port : Nat)
  /-- A sequence number has reached 2^48 (R520). -/
  | rekey (port : Nat)
  /-- A remote access arrives at this car (R522). -/
  | remoteAccess (acc : RemAcc)
  /-- A response arrives (R523). -/
  | remoteResponse (id : Nat) (ok : Nat) (data : List Nat)
  /-- A collective combines its inputs (R527). -/
  | collectiveComplete (guest : Nat) (peers : List PeerInput)
  /-- A participant has not entered in time (R526). -/
  | collectiveTimeout (guest : Nat)
  /-- FCGRP is written (R526). -/
  | fcgrpWrite (guest : Nat) (v : Nat)
  /-- A port goes DOWN (R530). -/
  | portDown (port : Nat) (why : Nat)
  /-- A control flit tells of a lost car (R530). -/
  | peerLossNotice (news : LinkNews)
  /-- A reset abort of collective k arrives (R531). -/
  | abortMessage (guest : Nat) (news : AbortNews)
  /-- An abort is not acknowledged in 1 ms (R531). -/
  | abortAckTimeout (port : Nat)
  /-- FAB_CTL.EN = 0 is written (R518). -/
  | fabricDisable
  /-- FAB_LOG is read (R523). -/
  | fabLogRead
  /-- FWIN is written (R529). -/
  | windowRewrite (win : Nat) (base : Nat) (cfg : Nat)
  /-- A revocation arrives from a car (R529). -/
  | windowRevocation (car : Nat)
  /-- A register write with no row of its own (R6). -/
  | registerWrite (space : Nat) (off : Nat) (v : Nat)
  /-- The bundle at the program counter fails a check of R51. -/
  | illegalEncoding (core : Nat)
  /-- A header with MASK = 0 (R21). -/
  | idleBundle (hdr : Nat)
  /-- An access through the physical BAR4 (R494). -/
  | hostPhysicalAccess (write : Nat) (addr : Nat) (data : List Nat)
  /-- GC_MIN is written (R455). -/
  | gcMinWrite (guest : Nat) (v : Nat)
  /-- PMCSR is written (R493). -/
  | pmcsrWrite (d3 : Nat)
  /-- An instruction on the debug pins (R507). -/
  | ieee11491 (ir : Nat) (data : List Nat)
  /-- The supply is lost (R462). -/
  | powerLoss
  /-- A request on the recovery mailbox (R501). -/
  | recoveryMailbox (data : List Nat)
  deriving DecidableEq, Repr

end Sys2Proof
end

