-- ==== Sys2Proof/WellFormed.lean ====
section
/-! DEFINITION. Which field values of a slot operation are no reserved values (R38). The reserved width 11 and
the scope codes 6 and 7 are structural conditions (R48) and are not checked here. -/

namespace Sys2Proof

/-- No field holds a value that the manual marks reserved, and no field that the opcode leaves unused is set (R38). -/
def Instr.wf : Instr → Bool
  -- C is zero but in AMOCAS and SCAMO; B is zero where the operation has no third operand (R130, R131, R132, R408)
  | .lda o | .stl o | .scld o | .scst o => o.b == 0 && o.c == 0
  | .amoadd o | .amoswp o | .amomin o | .amomax o | .amoand o | .amoor o | .amoxor o => o.c == 0
  -- MOVI and MOVHI have A = 0 (R40)
  | .movi o | .movhi o => o.a == 0
  -- tag 15 is a reserved value of every tag field (R67)
  | .xsa o | .xsb o => o.t != 15
  | .vtag o => o.t != 15
  | .vcvt o => o.t != 15 && decide (o.r.toNat < 5)
  | .vrnd o => decide (o.r.toNat < 5)
  | .mtag o => o.tag.toNat % 16 != 15
  -- the destination of VQBLK is even (R87)
  | .vqblk o => o.d.toNat % 2 == 0
  | .vdqblk o => o.t != 3
  | .vsq o => if o.b.toNat < 48 then o.b == 0 else o.a == 0 && o.l == 0
  | .nmapx o => o.c != 7
  | .mma o | .mmaz o => o.shp == 0
  | .mstz o => decide (o.rm.toNat < 5)
  -- GTHR names no scope; index width 11 is reserved (R254, R258)
  | .gthr o => o.scope == 0 && o.ix != 3
  | .sctr o => o.ix != 3
  | .bind o => o.useA || o.a == 0
  | .cflag o => if o.di.toNat < 16 then o.di == 0 else o.len == 0
  | .coll o => decide (o.f.toNat < 6)
  -- the service numbers 0 to 6 have constructors of their own (R450)
  | .sysc o => decide (7 ≤ o.svc.toNat)
  | _ => true

end Sys2Proof
end

