-- ==== Sys2Proof/Decode.lean ====
section
/-! DEFINITION. The words of every slot (R16 to R44): the fields of each word listed from the top bit down,
the encoder that packs them, and the decoder that unpacks a word, refuses it by name when an unused bit is
set, a field holds a reserved value (R38) or the opcode is unassigned (R39), and answers the instruction. -/

namespace Sys2Proof

/-- Fields listed from the top bit down, packed into one number. -/
def pack : List (Nat × Nat) → Nat
  | [] => 0
  | (v, _) :: t => v * 2 ^ ((t.map Prod.snd).sum) + pack t

/-- The fields of the given widths, from the top bit down. -/
def unpack : List Nat → Nat → List Nat
  | [], _ => []
  | n :: t, w => (w / 2 ^ t.sum) % 2 ^ n :: unpack t w

/-- A one-bit field. -/
def n1 (x : Nat) : Bool := x == 1

/-- The fields of a word of operands `OpSN`, from the top bit down. -/
def fieldsSN (op : Nat) (o : OpSN) : List (Nat × Nat) :=
  [(op, 8), (o.g.toNat, 4), (o.n.toNat, 1), (0, 19)]

/-- Read a word of operands `OpSN` back; a set unused bit refuses the word (R38). -/
def readSN (c : OpSN → Instr) (w : Nat) : Option Instr :=
  match unpack [8, 4, 1, 19] w with
  | [_, g', n', 0] => some (c ⟨BitVec.ofNat 4 g', (n1 n')⟩)
  | _ => none

/-- The fields of a word of operands `OpSR`, from the top bit down. -/
def fieldsSR (op : Nat) (o : OpSR) : List (Nat × Nat) :=
  [(op, 8), (o.g.toNat, 4), (o.n.toNat, 1), (o.d.toNat, 5), (o.a.toNat, 5), (o.b.toNat, 5), (0, 4)]

/-- Read a word of operands `OpSR` back; a set unused bit refuses the word (R38). -/
def readSR (c : OpSR → Instr) (w : Nat) : Option Instr :=
  match unpack [8, 4, 1, 5, 5, 5, 4] w with
  | [_, g', n', d', a', b', 0] => some (c ⟨BitVec.ofNat 4 g', (n1 n'), BitVec.ofNat 5 d', BitVec.ofNat 5 a', BitVec.ofNat 5 b'⟩)
  | _ => none

/-- The fields of a word of operands `OpSR2`, from the top bit down. -/
def fieldsSR2 (op : Nat) (k : Nat) (o : OpSR2) : List (Nat × Nat) :=
  [(op, 8), (o.g.toNat, 4), (o.n.toNat, 1), (o.d.toNat, 5), (o.a.toNat, 5), (k, 9)]

/-- Read a word of operands `OpSR2` back; a set unused bit refuses the word (R38). -/
def readSR2 (k : Nat) (c : OpSR2 → Instr) (w : Nat) : Option Instr :=
  match unpack [8, 4, 1, 5, 5, 9] w with
  | [_, g', n', d', a', k'] => if k' = k then some (c ⟨BitVec.ofNat 4 g', (n1 n'), BitVec.ofNat 5 d', BitVec.ofNat 5 a'⟩) else none
  | _ => none

/-- The fields of a word of operands `OpSSel`, from the top bit down. -/
def fieldsSSel (op : Nat) (o : OpSSel) : List (Nat × Nat) :=
  [(op, 8), (o.g.toNat, 4), (o.n.toNat, 1), (o.d.toNat, 5), (o.a.toNat, 5), (o.b.toNat, 5), (o.x.toNat, 4)]

/-- Read a word of operands `OpSSel` back; a set unused bit refuses the word (R38). -/
def readSSel (c : OpSSel → Instr) (w : Nat) : Option Instr :=
  match unpack [8, 4, 1, 5, 5, 5, 4] w with
  | [_, g', n', d', a', b', x'] => some (c ⟨BitVec.ofNat 4 g', (n1 n'), BitVec.ofNat 5 d', BitVec.ofNat 5 a', BitVec.ofNat 5 b', BitVec.ofNat 4 x'⟩)
  | _ => none

/-- The fields of a word of operands `OpSLea`, from the top bit down. -/
def fieldsSLea (op : Nat) (o : OpSLea) : List (Nat × Nat) :=
  [(op, 8), (o.g.toNat, 4), (o.n.toNat, 1), (o.d.toNat, 5), (o.a.toNat, 5), (o.b.toNat, 5), (0, 2), (o.sh.toNat, 2)]

/-- Read a word of operands `OpSLea` back; a set unused bit refuses the word (R38). -/
def readSLea (c : OpSLea → Instr) (w : Nat) : Option Instr :=
  match unpack [8, 4, 1, 5, 5, 5, 2, 2] w with
  | [_, g', n', d', a', b', 0, sh'] => some (c ⟨BitVec.ofNat 4 g', (n1 n'), BitVec.ofNat 5 d', BitVec.ofNat 5 a', BitVec.ofNat 5 b', BitVec.ofNat 2 sh'⟩)
  | _ => none

/-- The fields of a word of operands `OpSI`, from the top bit down. -/
def fieldsSI (op : Nat) (o : OpSI) : List (Nat × Nat) :=
  [(op, 8), (o.g.toNat, 4), (o.n.toNat, 1), (o.d.toNat, 5), (o.a.toNat, 5), (o.i.toNat, 9)]

/-- Read a word of operands `OpSI` back; a set unused bit refuses the word (R38). -/
def readSI (c : OpSI → Instr) (w : Nat) : Option Instr :=
  match unpack [8, 4, 1, 5, 5, 9] w with
  | [_, g', n', d', a', i'] => some (c ⟨BitVec.ofNat 4 g', (n1 n'), BitVec.ofNat 5 d', BitVec.ofNat 5 a', BitVec.ofNat 9 i'⟩)
  | _ => none

/-- The fields of a word of operands `OpSSh`, from the top bit down. -/
def fieldsSSh (op : Nat) (o : OpSSh) : List (Nat × Nat) :=
  [(op, 8), (o.g.toNat, 4), (o.n.toNat, 1), (o.d.toNat, 5), (o.a.toNat, 5), (0, 3), (o.i.toNat, 6)]

/-- Read a word of operands `OpSSh` back; a set unused bit refuses the word (R38). -/
def readSSh (c : OpSSh → Instr) (w : Nat) : Option Instr :=
  match unpack [8, 4, 1, 5, 5, 3, 6] w with
  | [_, g', n', d', a', 0, i'] => some (c ⟨BitVec.ofNat 4 g', (n1 n'), BitVec.ofNat 5 d', BitVec.ofNat 5 a', BitVec.ofNat 6 i'⟩)
  | _ => none

/-- The fields of a word of operands `OpSC`, from the top bit down. -/
def fieldsSC (op : Nat) (o : OpSC) : List (Nat × Nat) :=
  [(op, 8), (o.g.toNat, 4), (o.n.toNat, 1), (o.e.toNat, 4), (0, 1), (o.a.toNat, 5), (o.b.toNat, 5), (0, 4)]

/-- Read a word of operands `OpSC` back; a set unused bit refuses the word (R38). -/
def readSC (c : OpSC → Instr) (w : Nat) : Option Instr :=
  match unpack [8, 4, 1, 4, 1, 5, 5, 4] w with
  | [_, g', n', e', 0, a', b', 0] => some (c ⟨BitVec.ofNat 4 g', (n1 n'), BitVec.ofNat 4 e', BitVec.ofNat 5 a', BitVec.ofNat 5 b'⟩)
  | _ => none

/-- The fields of a word of operands `OpSCI`, from the top bit down. -/
def fieldsSCI (op : Nat) (o : OpSCI) : List (Nat × Nat) :=
  [(op, 8), (o.g.toNat, 4), (o.n.toNat, 1), (o.e.toNat, 4), (0, 1), (o.a.toNat, 5), (o.i.toNat, 9)]

/-- Read a word of operands `OpSCI` back; a set unused bit refuses the word (R38). -/
def readSCI (c : OpSCI → Instr) (w : Nat) : Option Instr :=
  match unpack [8, 4, 1, 4, 1, 5, 9] w with
  | [_, g', n', e', 0, a', i'] => some (c ⟨BitVec.ofNat 4 g', (n1 n'), BitVec.ofNat 4 e', BitVec.ofNat 5 a', BitVec.ofNat 9 i'⟩)
  | _ => none

/-- The fields of a word of operands `OpSGl`, from the top bit down. -/
def fieldsSGl (op : Nat) (o : OpSGl) : List (Nat × Nat) :=
  [(op, 8), (o.g.toNat, 4), (o.n.toNat, 1), (o.e.toNat, 4), (0, 1), (o.p.toNat, 1), (o.f.toNat, 4), (o.q.toNat, 1), (o.h.toNat, 4), (0, 4)]

/-- Read a word of operands `OpSGl` back; a set unused bit refuses the word (R38). -/
def readSGl (c : OpSGl → Instr) (w : Nat) : Option Instr :=
  match unpack [8, 4, 1, 4, 1, 1, 4, 1, 4, 4] w with
  | [_, g', n', e', 0, p', f', q', h', 0] => some (c ⟨BitVec.ofNat 4 g', (n1 n'), BitVec.ofNat 4 e', (n1 p'), BitVec.ofNat 4 f', (n1 q'), BitVec.ofNat 4 h'⟩)
  | _ => none

/-- The fields of a word of operands `OpSGs`, from the top bit down. -/
def fieldsSGs (op : Nat) (o : OpSGs) : List (Nat × Nat) :=
  [(op, 8), (o.g.toNat, 4), (o.n.toNat, 1), (o.e.toNat, 4), (0, 14), (o.v.toNat, 1)]

/-- Read a word of operands `OpSGs` back; a set unused bit refuses the word (R38). -/
def readSGs (c : OpSGs → Instr) (w : Nat) : Option Instr :=
  match unpack [8, 4, 1, 4, 14, 1] w with
  | [_, g', n', e', 0, v'] => some (c ⟨BitVec.ofNat 4 g', (n1 n'), BitVec.ofNat 4 e', (n1 v')⟩)
  | _ => none

/-- The fields of a word of operands `OpSL`, from the top bit down. -/
def fieldsSL (op : Nat) (o : OpSL) : List (Nat × Nat) :=
  [(o.imm.toNat, 32), (op, 8), (o.g.toNat, 4), (o.n.toNat, 1), (o.d.toNat, 5), (o.a.toNat, 5), (0, 9)]

/-- Read a word of operands `OpSL` back; a set unused bit refuses the word (R38). -/
def readSL (c : OpSL → Instr) (w : Nat) : Option Instr :=
  match unpack [32, 8, 4, 1, 5, 5, 9] w with
  | [imm', _, g', n', d', a', 0] => some (c ⟨BitVec.ofNat 4 g', (n1 n'), BitVec.ofNat 5 d', BitVec.ofNat 5 a', BitVec.ofNat 32 imm'⟩)
  | _ => none

/-- The fields of a word of operands `OpSF`, from the top bit down. -/
def fieldsSF (op : Nat) (o : OpSF) : List (Nat × Nat) :=
  [(op, 8), (o.g.toNat, 4), (o.n.toNat, 1), (o.d.toNat, 5), (o.a.toNat, 5), (o.b.toNat, 5), (o.f.toNat, 2), (o.r.toNat, 2)]

/-- Read a word of operands `OpSF` back; a set unused bit refuses the word (R38). -/
def readSF (c : OpSF → Instr) (w : Nat) : Option Instr :=
  match unpack [8, 4, 1, 5, 5, 5, 2, 2] w with
  | [_, g', n', d', a', b', f', r'] => some (c ⟨BitVec.ofNat 4 g', (n1 n'), BitVec.ofNat 5 d', BitVec.ofNat 5 a', BitVec.ofNat 5 b', BitVec.ofNat 2 f', BitVec.ofNat 2 r'⟩)
  | _ => none

/-- The fields of a word of operands `OpSFcvt`, from the top bit down. -/
def fieldsSFcvt (op : Nat) (o : OpSFcvt) : List (Nat × Nat) :=
  [(op, 8), (o.g.toNat, 4), (o.n.toNat, 1), (o.d.toNat, 5), (o.a.toNat, 5), (o.r.toNat, 2), (0, 1), (o.s.toNat, 2), (o.c.toNat, 2), (0, 2)]

/-- Read a word of operands `OpSFcvt` back; a set unused bit refuses the word (R38). -/
def readSFcvt (c : OpSFcvt → Instr) (w : Nat) : Option Instr :=
  match unpack [8, 4, 1, 5, 5, 2, 1, 2, 2, 2] w with
  | [_, g', n', d', a', r', 0, s', c', 0] => some (c ⟨BitVec.ofNat 4 g', (n1 n'), BitVec.ofNat 5 d', BitVec.ofNat 5 a', BitVec.ofNat 2 r', BitVec.ofNat 2 s', BitVec.ofNat 2 c'⟩)
  | _ => none

/-- The fields of a word of operands `OpSFc`, from the top bit down. -/
def fieldsSFc (op : Nat) (o : OpSFc) : List (Nat × Nat) :=
  [(op, 8), (o.g.toNat, 4), (o.n.toNat, 1), (o.e.toNat, 4), (0, 1), (o.a.toNat, 5), (o.b.toNat, 5), (o.f.toNat, 2), (0, 2)]

/-- Read a word of operands `OpSFc` back; a set unused bit refuses the word (R38). -/
def readSFc (c : OpSFc → Instr) (w : Nat) : Option Instr :=
  match unpack [8, 4, 1, 4, 1, 5, 5, 2, 2] w with
  | [_, g', n', e', 0, a', b', f', 0] => some (c ⟨BitVec.ofNat 4 g', (n1 n'), BitVec.ofNat 4 e', BitVec.ofNat 5 a', BitVec.ofNat 5 b', BitVec.ofNat 2 f'⟩)
  | _ => none

/-- The fields of a word of operands `OpSX`, from the top bit down. -/
def fieldsSX (op : Nat) (o : OpSX) : List (Nat × Nat) :=
  [(0, 19), (o.c.toNat, 5), (0, 2), (o.width.toNat, 1), (o.order.toNat, 2), (o.scope.toNat, 3), (op, 8), (o.g.toNat, 4), (o.n.toNat, 1), (o.d.toNat, 5), (o.a.toNat, 5), (o.b.toNat, 5), (0, 4)]

/-- Read a word of operands `OpSX` back; a set unused bit refuses the word (R38). -/
def readSX (c : OpSX → Instr) (w : Nat) : Option Instr :=
  match unpack [19, 5, 2, 1, 2, 3, 8, 4, 1, 5, 5, 5, 4] w with
  | [0, c', 0, width', order', scope', _, g', n', d', a', b', 0] => some (c ⟨BitVec.ofNat 4 g', (n1 n'), BitVec.ofNat 5 d', BitVec.ofNat 5 a', BitVec.ofNat 5 b', BitVec.ofNat 5 c', (n1 width'), BitVec.ofNat 2 order', BitVec.ofNat 3 scope'⟩)
  | _ => none

/-- The fields of a word of operands `OpSFence`, from the top bit down. -/
def fieldsSFence (op : Nat) (o : OpSFence) : List (Nat × Nat) :=
  [(0, 26), (0, 1), (o.order.toNat, 2), (o.scope.toNat, 3), (op, 8), (o.g.toNat, 4), (o.n.toNat, 1), (0, 19)]

/-- Read a word of operands `OpSFence` back; a set unused bit refuses the word (R38). -/
def readSFence (c : OpSFence → Instr) (w : Nat) : Option Instr :=
  match unpack [26, 1, 2, 3, 8, 4, 1, 19] w with
  | [0, 0, order', scope', _, g', n', 0] => some (c ⟨BitVec.ofNat 4 g', (n1 n'), BitVec.ofNat 2 order', BitVec.ofNat 3 scope'⟩)
  | _ => none

/-- The fields of a word of operands `OpSPf`, from the top bit down. -/
def fieldsSPf (op : Nat) (o : OpSPf) : List (Nat × Nat) :=
  [(0, 5), (o.toc.toNat, 7), (o.fromc.toNat, 7), (0, 8), (o.order.toNat, 2), (o.scope.toNat, 3), (op, 8), (o.g.toNat, 4), (o.n.toNat, 1), (0, 19)]

/-- Read a word of operands `OpSPf` back; a set unused bit refuses the word (R38). -/
def readSPf (c : OpSPf → Instr) (w : Nat) : Option Instr :=
  match unpack [5, 7, 7, 8, 2, 3, 8, 4, 1, 19] w with
  | [0, toc', fromc', 0, order', scope', _, g', n', 0] => some (c ⟨BitVec.ofNat 4 g', (n1 n'), BitVec.ofNat 7 toc', BitVec.ofNat 7 fromc', BitVec.ofNat 2 order', BitVec.ofNat 3 scope'⟩)
  | _ => none

/-- The fields of a word of operands `OpSB`, from the top bit down. -/
def fieldsSB (op : Nat) (o : OpSB) : List (Nat × Nat) :=
  [(op, 8), (o.g.toNat, 4), (o.n.toNat, 1), (o.i.toNat, 19)]

/-- Read a word of operands `OpSB` back; a set unused bit refuses the word (R38). -/
def readSB (c : OpSB → Instr) (w : Nat) : Option Instr :=
  match unpack [8, 4, 1, 19] w with
  | [_, g', n', i'] => some (c ⟨BitVec.ofNat 4 g', (n1 n'), BitVec.ofNat 19 i'⟩)
  | _ => none

/-- The fields of a word of operands `OpSJr`, from the top bit down. -/
def fieldsSJr (op : Nat) (o : OpSJr) : List (Nat × Nat) :=
  [(op, 8), (o.g.toNat, 4), (o.n.toNat, 1), (0, 5), (o.a.toNat, 5), (0, 9)]

/-- Read a word of operands `OpSJr` back; a set unused bit refuses the word (R38). -/
def readSJr (c : OpSJr → Instr) (w : Nat) : Option Instr :=
  match unpack [8, 4, 1, 5, 5, 9] w with
  | [_, g', n', 0, a', 0] => some (c ⟨BitVec.ofNat 4 g', (n1 n'), BitVec.ofNat 5 a'⟩)
  | _ => none

/-- The fields of a word of operands `OpSLoop`, from the top bit down. -/
def fieldsSLoop (op : Nat) (o : OpSLoop) : List (Nat × Nat) :=
  [(op, 8), (o.g.toNat, 4), (o.n.toNat, 1), (0, 5), (o.a.toNat, 5), (o.i.toNat, 9)]

/-- Read a word of operands `OpSLoop` back; a set unused bit refuses the word (R38). -/
def readSLoop (c : OpSLoop → Instr) (w : Nat) : Option Instr :=
  match unpack [8, 4, 1, 5, 5, 9] w with
  | [_, g', n', 0, a', i'] => some (c ⟨BitVec.ofNat 4 g', (n1 n'), BitVec.ofNat 5 a', BitVec.ofNat 9 i'⟩)
  | _ => none

/-- The fields of a word of operands `OpSTrap`, from the top bit down. -/
def fieldsSTrap (op : Nat) (o : OpSTrap) : List (Nat × Nat) :=
  [(op, 8), (o.g.toNat, 4), (o.n.toNat, 1), (0, 5), (o.a.toNat, 5), (0, 4), (o.c.toNat, 5)]

/-- Read a word of operands `OpSTrap` back; a set unused bit refuses the word (R38). -/
def readSTrap (c : OpSTrap → Instr) (w : Nat) : Option Instr :=
  match unpack [8, 4, 1, 5, 5, 4, 5] w with
  | [_, g', n', 0, a', 0, c'] => some (c ⟨BitVec.ofNat 4 g', (n1 n'), BitVec.ofNat 5 a', BitVec.ofNat 5 c'⟩)
  | _ => none

/-- The fields of a word of operands `OpSYc`, from the top bit down. -/
def fieldsSYc (op : Nat) (o : OpSYc) : List (Nat × Nat) :=
  [(op, 8), (o.g.toNat, 4), (o.n.toNat, 1), (o.e.toNat, 4), (0, 15)]

/-- Read a word of operands `OpSYc` back; a set unused bit refuses the word (R38). -/
def readSYc (c : OpSYc → Instr) (w : Nat) : Option Instr :=
  match unpack [8, 4, 1, 4, 15] w with
  | [_, g', n', e', 0] => some (c ⟨BitVec.ofNat 4 g', (n1 n'), BitVec.ofNat 4 e'⟩)
  | _ => none

/-- The fields of a word of operands `OpSEv`, from the top bit down. -/
def fieldsSEv (op : Nat) (o : OpSEv) : List (Nat × Nat) :=
  [(op, 8), (o.g.toNat, 4), (o.n.toNat, 1), (0, 5), (o.a.toNat, 5), (0, 1), (o.m.toNat, 8)]

/-- Read a word of operands `OpSEv` back; a set unused bit refuses the word (R38). -/
def readSEv (c : OpSEv → Instr) (w : Nat) : Option Instr :=
  match unpack [8, 4, 1, 5, 5, 1, 8] w with
  | [_, g', n', 0, a', 0, m'] => some (c ⟨BitVec.ofNat 4 g', (n1 n'), BitVec.ofNat 5 a', BitVec.ofNat 8 m'⟩)
  | _ => none

/-- The fields of a word of operands `OpSMovc`, from the top bit down. -/
def fieldsSMovc (op : Nat) (o : OpSMovc) : List (Nat × Nat) :=
  [(op, 8), (o.g.toNat, 4), (o.n.toNat, 1), (o.d.toNat, 5), (0, 5), (o.c.toNat, 9)]

/-- Read a word of operands `OpSMovc` back; a set unused bit refuses the word (R38). -/
def readSMovc (c : OpSMovc → Instr) (w : Nat) : Option Instr :=
  match unpack [8, 4, 1, 5, 5, 9] w with
  | [_, g', n', d', 0, c'] => some (c ⟨BitVec.ofNat 4 g', (n1 n'), BitVec.ofNat 5 d', BitVec.ofNat 9 c'⟩)
  | _ => none

/-- The fields of a word of operands `OpSXv`, from the top bit down. -/
def fieldsSXv (op : Nat) (o : OpSXv) : List (Nat × Nat) :=
  [(op, 8), (o.g.toNat, 4), (o.n.toNat, 1), (o.d.toNat, 5), (o.a.toNat, 5), (0, 1), (o.t.toNat, 4), (0, 4)]

/-- Read a word of operands `OpSXv` back; a set unused bit refuses the word (R38). -/
def readSXv (c : OpSXv → Instr) (w : Nat) : Option Instr :=
  match unpack [8, 4, 1, 5, 5, 1, 4, 4] w with
  | [_, g', n', d', a', 0, t', 0] => some (c ⟨BitVec.ofNat 4 g', (n1 n'), BitVec.ofNat 5 d', BitVec.ofNat 5 a', BitVec.ofNat 4 t'⟩)
  | _ => none

/-- The fields of a word of operands `OpSXh`, from the top bit down. -/
def fieldsSXh (op : Nat) (o : OpSXh) : List (Nat × Nat) :=
  [(op, 8), (o.g.toNat, 4), (o.n.toNat, 1), (0, 1), (o.d.toNat, 4), (o.a.toNat, 5), (0, 9)]

/-- Read a word of operands `OpSXh` back; a set unused bit refuses the word (R38). -/
def readSXh (c : OpSXh → Instr) (w : Nat) : Option Instr :=
  match unpack [8, 4, 1, 1, 4, 5, 9] w with
  | [_, g', n', 0, d', a', 0] => some (c ⟨BitVec.ofNat 4 g', (n1 n'), BitVec.ofNat 4 d', BitVec.ofNat 5 a'⟩)
  | _ => none

/-- The fields of a word of operands `OpSBar`, from the top bit down. -/
def fieldsSBar (op : Nat) (o : OpSBar) : List (Nat × Nat) :=
  [(op, 8), (o.g.toNat, 4), (o.n.toNat, 1), (o.d.toNat, 5), (o.a.toNat, 5), (0, 5), (o.b.toNat, 4)]

/-- Read a word of operands `OpSBar` back; a set unused bit refuses the word (R38). -/
def readSBar (c : OpSBar → Instr) (w : Nat) : Option Instr :=
  match unpack [8, 4, 1, 5, 5, 5, 4] w with
  | [_, g', n', d', a', 0, b'] => some (c ⟨BitVec.ofNat 4 g', (n1 n'), BitVec.ofNat 5 d', BitVec.ofNat 5 a', BitVec.ofNat 4 b'⟩)
  | _ => none

/-- The fields of a word of operands `OpSGarm`, from the top bit down. -/
def fieldsSGarm (op : Nat) (o : OpSGarm) : List (Nat × Nat) :=
  [(op, 8), (o.g.toNat, 4), (o.n.toNat, 1), (o.d.toNat, 5), (o.a.toNat, 5), (0, 7), (o.k.toNat, 2)]

/-- Read a word of operands `OpSGarm` back; a set unused bit refuses the word (R38). -/
def readSGarm (c : OpSGarm → Instr) (w : Nat) : Option Instr :=
  match unpack [8, 4, 1, 5, 5, 7, 2] w with
  | [_, g', n', d', a', 0, k'] => some (c ⟨BitVec.ofNat 4 g', (n1 n'), BitVec.ofNat 5 d', BitVec.ofNat 5 a', BitVec.ofNat 2 k'⟩)
  | _ => none

/-- The fields of a word of operands `OpSHirq`, from the top bit down. -/
def fieldsSHirq (op : Nat) (o : OpSHirq) : List (Nat × Nat) :=
  [(op, 8), (o.g.toNat, 4), (o.n.toNat, 1), (0, 13), (o.v.toNat, 6)]

/-- Read a word of operands `OpSHirq` back; a set unused bit refuses the word (R38). -/
def readSHirq (c : OpSHirq → Instr) (w : Nat) : Option Instr :=
  match unpack [8, 4, 1, 13, 6] w with
  | [_, g', n', 0, v'] => some (c ⟨BitVec.ofNat 4 g', (n1 n'), BitVec.ofNat 6 v'⟩)
  | _ => none

/-- The fields of a word of operands `OpSD`, from the top bit down. -/
def fieldsSD (op : Nat) (o : OpSD) : List (Nat × Nat) :=
  [(op, 8), (o.g.toNat, 4), (o.n.toNat, 1), (o.d.toNat, 5), (0, 14)]

/-- Read a word of operands `OpSD` back; a set unused bit refuses the word (R38). -/
def readSD (c : OpSD → Instr) (w : Nat) : Option Instr :=
  match unpack [8, 4, 1, 5, 14] w with
  | [_, g', n', d', 0] => some (c ⟨BitVec.ofNat 4 g', (n1 n'), BitVec.ofNat 5 d'⟩)
  | _ => none

/-- The fields of a word of operands `OpSBk`, from the top bit down. -/
def fieldsSBk (op : Nat) (o : OpSBk) : List (Nat × Nat) :=
  [(op, 8), (o.g.toNat, 4), (o.n.toNat, 1), (0, 10), (o.i.toNat, 9)]

/-- Read a word of operands `OpSBk` back; a set unused bit refuses the word (R38). -/
def readSBk (c : OpSBk → Instr) (w : Nat) : Option Instr :=
  match unpack [8, 4, 1, 10, 9] w with
  | [_, g', n', 0, i'] => some (c ⟨BitVec.ofNat 4 g', (n1 n'), BitVec.ofNat 9 i'⟩)
  | _ => none

/-- The fields of a word of operands `OpSSvc`, from the top bit down. -/
def fieldsSSvc (op : Nat) (o : OpSSvc) : List (Nat × Nat) :=
  [(op, 8), (o.g.toNat, 4), (o.n.toNat, 1), (o.d.toNat, 5), (o.a.toNat, 5), (o.svc.toNat, 9)]

/-- Read a word of operands `OpSSvc` back; a set unused bit refuses the word (R38). -/
def readSSvc (c : OpSSvc → Instr) (w : Nat) : Option Instr :=
  match unpack [8, 4, 1, 5, 5, 9] w with
  | [_, g', n', d', a', svc'] => some (c ⟨BitVec.ofNat 4 g', (n1 n'), BitVec.ofNat 5 d', BitVec.ofNat 5 a', BitVec.ofNat 9 svc'⟩)
  | _ => none

/-- The fields of a word of operands `OpV0`, from the top bit down. -/
def fieldsV0 (op : Nat) (o : OpV0) : List (Nat × Nat) :=
  [(o.m.toNat, 1), (op, 7), (o.g.toNat, 4), (o.w.toNat, 2), (0, 16), (o.l.toNat, 2)]

/-- Read a word of operands `OpV0` back; a set unused bit refuses the word (R38). -/
def readV0 (sl : Bool) (c : OpV0 → Instr) (w : Nat) : Option Instr :=
  match unpack [1, 7, 4, 2, 16, 2] w with
  | [m', _, g', w', 0, l'] => some (c ⟨sl, (n1 m'), BitVec.ofNat 4 g', BitVec.ofNat 2 w', BitVec.ofNat 2 l'⟩)
  | _ => none

/-- The fields of a word of operands `OpV3`, from the top bit down. -/
def fieldsV3 (op : Nat) (o : OpV3) : List (Nat × Nat) :=
  [(o.m.toNat, 1), (op, 7), (o.g.toNat, 4), (o.w.toNat, 2), (o.d.toNat, 5), (o.a.toNat, 5), (o.b.toNat, 6), (o.l.toNat, 2)]

/-- Read a word of operands `OpV3` back; a set unused bit refuses the word (R38). -/
def readV3 (sl : Bool) (c : OpV3 → Instr) (w : Nat) : Option Instr :=
  match unpack [1, 7, 4, 2, 5, 5, 6, 2] w with
  | [m', _, g', w', d', a', b', l'] => some (c ⟨sl, (n1 m'), BitVec.ofNat 4 g', BitVec.ofNat 2 w', BitVec.ofNat 5 d', BitVec.ofNat 5 a', BitVec.ofNat 6 b', BitVec.ofNat 2 l'⟩)
  | _ => none

/-- The fields of a word of operands `OpV2`, from the top bit down. -/
def fieldsV2 (op : Nat) (o : OpV2) : List (Nat × Nat) :=
  [(o.m.toNat, 1), (op, 7), (o.g.toNat, 4), (o.w.toNat, 2), (o.d.toNat, 5), (o.a.toNat, 5), (0, 6), (o.l.toNat, 2)]

/-- Read a word of operands `OpV2` back; a set unused bit refuses the word (R38). -/
def readV2 (sl : Bool) (c : OpV2 → Instr) (w : Nat) : Option Instr :=
  match unpack [1, 7, 4, 2, 5, 5, 6, 2] w with
  | [m', _, g', w', d', a', 0, l'] => some (c ⟨sl, (n1 m'), BitVec.ofNat 4 g', BitVec.ofNat 2 w', BitVec.ofNat 5 d', BitVec.ofNat 5 a', BitVec.ofNat 2 l'⟩)
  | _ => none

/-- The fields of a word of operands `OpVC`, from the top bit down. -/
def fieldsVC (op : Nat) (o : OpVC) : List (Nat × Nat) :=
  [(o.m.toNat, 1), (op, 7), (o.g.toNat, 4), (o.w.toNat, 2), (0, 2), (o.k.toNat, 3), (o.a.toNat, 5), (o.b.toNat, 6), (o.l.toNat, 2)]

/-- Read a word of operands `OpVC` back; a set unused bit refuses the word (R38). -/
def readVC (sl : Bool) (c : OpVC → Instr) (w : Nat) : Option Instr :=
  match unpack [1, 7, 4, 2, 2, 3, 5, 6, 2] w with
  | [m', _, g', w', 0, k', a', b', l'] => some (c ⟨sl, (n1 m'), BitVec.ofNat 4 g', BitVec.ofNat 2 w', BitVec.ofNat 3 k', BitVec.ofNat 5 a', BitVec.ofNat 6 b', BitVec.ofNat 2 l'⟩)
  | _ => none

/-- The fields of a word of operands `OpVK`, from the top bit down. -/
def fieldsVK (op : Nat) (o : OpVK) : List (Nat × Nat) :=
  [(o.m.toNat, 1), (op, 7), (o.g.toNat, 4), (o.w.toNat, 2), (0, 2), (o.k.toNat, 3), (0, 2), (o.j.toNat, 3), (0, 3), (o.h.toNat, 3), (o.l.toNat, 2)]

/-- Read a word of operands `OpVK` back; a set unused bit refuses the word (R38). -/
def readVK (sl : Bool) (c : OpVK → Instr) (w : Nat) : Option Instr :=
  match unpack [1, 7, 4, 2, 2, 3, 2, 3, 3, 3, 2] w with
  | [m', _, g', w', 0, k', 0, j', 0, h', l'] => some (c ⟨sl, (n1 m'), BitVec.ofNat 4 g', BitVec.ofNat 2 w', BitVec.ofNat 3 k', BitVec.ofNat 3 j', BitVec.ofNat 3 h', BitVec.ofNat 2 l'⟩)
  | _ => none

/-- The fields of a word of operands `OpVK1`, from the top bit down. -/
def fieldsVK1 (op : Nat) (o : OpVK1) : List (Nat × Nat) :=
  [(o.m.toNat, 1), (op, 7), (o.g.toNat, 4), (o.w.toNat, 2), (0, 2), (o.k.toNat, 3), (0, 2), (o.j.toNat, 3), (0, 6), (o.l.toNat, 2)]

/-- Read a word of operands `OpVK1` back; a set unused bit refuses the word (R38). -/
def readVK1 (sl : Bool) (c : OpVK1 → Instr) (w : Nat) : Option Instr :=
  match unpack [1, 7, 4, 2, 2, 3, 2, 3, 6, 2] w with
  | [m', _, g', w', 0, k', 0, j', 0, l'] => some (c ⟨sl, (n1 m'), BitVec.ofNat 4 g', BitVec.ofNat 2 w', BitVec.ofNat 3 k', BitVec.ofNat 3 j', BitVec.ofNat 2 l'⟩)
  | _ => none

/-- The fields of a word of operands `OpVKp`, from the top bit down. -/
def fieldsVKp (op : Nat) (o : OpVKp) : List (Nat × Nat) :=
  [(o.m.toNat, 1), (op, 7), (o.g.toNat, 4), (o.w.toNat, 2), (o.d.toNat, 5), (0, 2), (o.j.toNat, 3), (0, 6), (o.l.toNat, 2)]

/-- Read a word of operands `OpVKp` back; a set unused bit refuses the word (R38). -/
def readVKp (sl : Bool) (c : OpVKp → Instr) (w : Nat) : Option Instr :=
  match unpack [1, 7, 4, 2, 5, 2, 3, 6, 2] w with
  | [m', _, g', w', d', 0, j', 0, l'] => some (c ⟨sl, (n1 m'), BitVec.ofNat 4 g', BitVec.ofNat 2 w', BitVec.ofNat 5 d', BitVec.ofNat 3 j', BitVec.ofNat 2 l'⟩)
  | _ => none

/-- The fields of a word of operands `OpVCv`, from the top bit down. -/
def fieldsVCv (op : Nat) (o : OpVCv) : List (Nat × Nat) :=
  [(o.m.toNat, 1), (op, 7), (o.g.toNat, 4), (o.w.toNat, 2), (o.d.toNat, 5), (o.a.toNat, 5), (o.r.toNat / 4, 1), (0, 1), (o.t.toNat, 4), (o.r.toNat % 4, 2)]

/-- Read a word of operands `OpVCv` back; a set unused bit refuses the word (R38). -/
def readVCv (sl : Bool) (c : OpVCv → Instr) (w : Nat) : Option Instr :=
  match unpack [1, 7, 4, 2, 5, 5, 1, 1, 4, 2] w with
  | [m', _, g', w', d', a', rh', 0, t', rl'] => some (c ⟨sl, (n1 m'), BitVec.ofNat 4 g', BitVec.ofNat 2 w', BitVec.ofNat 5 d', BitVec.ofNat 5 a', BitVec.ofNat 3 (rh' * 4 + rl'), BitVec.ofNat 4 t'⟩)
  | _ => none

/-- The fields of a word of operands `OpVQb`, from the top bit down. -/
def fieldsVQb (op : Nat) (o : OpVQb) : List (Nat × Nat) :=
  [(o.m.toNat, 1), (op, 7), (o.g.toNat, 4), (o.w.toNat, 2), (o.d.toNat, 5), (o.a.toNat, 5), (0, 3), (o.o.toNat, 3), (o.l.toNat, 2)]

/-- Read a word of operands `OpVQb` back; a set unused bit refuses the word (R38). -/
def readVQb (sl : Bool) (c : OpVQb → Instr) (w : Nat) : Option Instr :=
  match unpack [1, 7, 4, 2, 5, 5, 3, 3, 2] w with
  | [m', _, g', w', d', a', 0, o', l'] => some (c ⟨sl, (n1 m'), BitVec.ofNat 4 g', BitVec.ofNat 2 w', BitVec.ofNat 5 d', BitVec.ofNat 5 a', BitVec.ofNat 3 o', BitVec.ofNat 2 l'⟩)
  | _ => none

/-- The fields of a word of operands `OpVDq`, from the top bit down. -/
def fieldsVDq (op : Nat) (o : OpVDq) : List (Nat × Nat) :=
  [(o.m.toNat, 1), (op, 7), (o.g.toNat, 4), (o.w.toNat, 2), (o.d.toNat, 5), (o.a.toNat, 5), (0, 1), (o.t.toNat, 2), (o.o.toNat, 3), (o.l.toNat, 2)]

/-- Read a word of operands `OpVDq` back; a set unused bit refuses the word (R38). -/
def readVDq (sl : Bool) (c : OpVDq → Instr) (w : Nat) : Option Instr :=
  match unpack [1, 7, 4, 2, 5, 5, 1, 2, 3, 2] w with
  | [m', _, g', w', d', a', 0, t', o', l'] => some (c ⟨sl, (n1 m'), BitVec.ofNat 4 g', BitVec.ofNat 2 w', BitVec.ofNat 5 d', BitVec.ofNat 5 a', BitVec.ofNat 2 t', BitVec.ofNat 3 o', BitVec.ofNat 2 l'⟩)
  | _ => none

/-- The fields of a word of operands `OpVRn`, from the top bit down. -/
def fieldsVRn (op : Nat) (o : OpVRn) : List (Nat × Nat) :=
  [(o.m.toNat, 1), (op, 7), (o.g.toNat, 4), (o.w.toNat, 2), (o.d.toNat, 5), (o.a.toNat, 5), (o.r.toNat / 4, 1), (0, 5), (o.r.toNat % 4, 2)]

/-- Read a word of operands `OpVRn` back; a set unused bit refuses the word (R38). -/
def readVRn (sl : Bool) (c : OpVRn → Instr) (w : Nat) : Option Instr :=
  match unpack [1, 7, 4, 2, 5, 5, 1, 5, 2] w with
  | [m', _, g', w', d', a', rh', 0, rl'] => some (c ⟨sl, (n1 m'), BitVec.ofNat 4 g', BitVec.ofNat 2 w', BitVec.ofNat 5 d', BitVec.ofNat 5 a', BitVec.ofNat 3 (rh' * 4 + rl')⟩)
  | _ => none

/-- The fields of a word of operands `OpVSq`, from the top bit down. -/
def fieldsVSq (op : Nat) (o : OpVSq) : List (Nat × Nat) :=
  [(o.m.toNat, 1), (op, 7), (o.g.toNat, 4), (o.w.toNat, 2), (0, 1), (o.q.toNat, 4), (o.a.toNat, 5), (o.b.toNat, 6), (o.l.toNat, 2)]

/-- Read a word of operands `OpVSq` back; a set unused bit refuses the word (R38). -/
def readVSq (sl : Bool) (c : OpVSq → Instr) (w : Nat) : Option Instr :=
  match unpack [1, 7, 4, 2, 1, 4, 5, 6, 2] w with
  | [m', _, g', w', 0, q', a', b', l'] => some (c ⟨sl, (n1 m'), BitVec.ofNat 4 g', BitVec.ofNat 2 w', BitVec.ofNat 4 q', BitVec.ofNat 5 a', BitVec.ofNat 6 b', BitVec.ofNat 2 l'⟩)
  | _ => none

/-- The fields of a word of operands `OpVB1`, from the top bit down. -/
def fieldsVB1 (op : Nat) (o : OpVB1) : List (Nat × Nat) :=
  [(o.m.toNat, 1), (op, 7), (o.g.toNat, 4), (o.w.toNat, 2), (o.d.toNat, 5), (0, 5), (o.b.toNat, 6), (o.l.toNat, 2)]

/-- Read a word of operands `OpVB1` back; a set unused bit refuses the word (R38). -/
def readVB1 (sl : Bool) (c : OpVB1 → Instr) (w : Nat) : Option Instr :=
  match unpack [1, 7, 4, 2, 5, 5, 6, 2] w with
  | [m', _, g', w', d', 0, b', l'] => some (c ⟨sl, (n1 m'), BitVec.ofNat 4 g', BitVec.ofNat 2 w', BitVec.ofNat 5 d', BitVec.ofNat 6 b', BitVec.ofNat 2 l'⟩)
  | _ => none

/-- The fields of a word of operands `OpVTg`, from the top bit down. -/
def fieldsVTg (op : Nat) (o : OpVTg) : List (Nat × Nat) :=
  [(o.m.toNat, 1), (op, 7), (o.g.toNat, 4), (o.w.toNat, 2), (o.d.toNat, 5), (o.a.toNat, 5), (0, 2), (o.t.toNat, 4), (o.l.toNat, 2)]

/-- Read a word of operands `OpVTg` back; a set unused bit refuses the word (R38). -/
def readVTg (sl : Bool) (c : OpVTg → Instr) (w : Nat) : Option Instr :=
  match unpack [1, 7, 4, 2, 5, 5, 2, 4, 2] w with
  | [m', _, g', w', d', a', 0, t', l'] => some (c ⟨sl, (n1 m'), BitVec.ofNat 4 g', BitVec.ofNat 2 w', BitVec.ofNat 5 d', BitVec.ofNat 5 a', BitVec.ofNat 4 t', BitVec.ofNat 2 l'⟩)
  | _ => none

/-- The fields of a word of operands `OpXP`, from the top bit down. -/
def fieldsXP (op : Nat) (o : OpXP) : List (Nat × Nat) :=
  [(op, 8), (o.g.toNat, 4), (o.n.toNat, 1), (o.p.toNat, 3), (o.f.toNat, 1), (o.d.toNat, 5), (o.a.toNat, 5), (o.b.toNat, 5)]

/-- Read a word of operands `OpXP` back; a set unused bit refuses the word (R38). -/
def readXP (c : OpXP → Instr) (w : Nat) : Option Instr :=
  match unpack [8, 4, 1, 3, 1, 5, 5, 5] w with
  | [_, g', n', p', f', d', a', b'] => some (c ⟨BitVec.ofNat 4 g', (n1 n'), BitVec.ofNat 3 p', (n1 f'), BitVec.ofNat 5 d', BitVec.ofNat 5 a', BitVec.ofNat 5 b'⟩)
  | _ => none

/-- The fields of a word of operands `OpXL`, from the top bit down. -/
def fieldsXL (op : Nat) (df : Bool) (o : OpXL) : List (Nat × Nat) :=
  [(op, 8), (o.g.toNat, 4), (o.n.toNat, 1), (o.p.toNat, 3), (if df then 32 else 0, 6), (if df then 0 else o.a.toNat, 5), (if df then o.a.toNat else 0, 5)]

/-- Read the operands of an XPLD back: DF chooses which source field is used. -/
def readXL (df : Bool) (c : OpXL → Instr) (w : Nat) : Option Instr :=
  match unpack [8, 4, 1, 3, 6, 5, 5] w with
  | [_, g', n', p', x', a', b'] =>
    if (x', (if df then a' else b')) = ((if df then 32 else 0), 0) then
      some (c ⟨BitVec.ofNat 4 g', n1 n', BitVec.ofNat 3 p', BitVec.ofNat 5 (if df then b' else a')⟩)
    else none
  | _ => none

/-- The fields of a word of operands `OpXZ`, from the top bit down. -/
def fieldsXZ (op : Nat) (o : OpXZ) : List (Nat × Nat) :=
  [(op, 8), (o.g.toNat, 4), (o.n.toNat, 1), (o.h.toNat, 1), (o.e.toNat, 2), (o.f.toNat, 1), (o.d.toNat, 5), (o.a.toNat, 5), (o.b.toNat, 5)]

/-- Read a word of operands `OpXZ` back; a set unused bit refuses the word (R38). -/
def readXZ (c : OpXZ → Instr) (w : Nat) : Option Instr :=
  match unpack [8, 4, 1, 1, 2, 1, 5, 5, 5] w with
  | [_, g', n', h', e', f', d', a', b'] => some (c ⟨BitVec.ofNat 4 g', (n1 n'), (n1 h'), BitVec.ofNat 2 e', (n1 f'), BitVec.ofNat 5 d', BitVec.ofNat 5 a', BitVec.ofNat 5 b'⟩)
  | _ => none

/-- The fields of a word of operands `OpXC`, from the top bit down. -/
def fieldsXC (op : Nat) (o : OpXC) : List (Nat × Nat) :=
  [(op, 8), (o.g.toNat, 4), (o.n.toNat, 1), (0, 1), (o.e.toNat, 2), (o.f.toNat, 1), (o.d.toNat, 5), (o.a.toNat, 5), (o.b.toNat, 5)]

/-- Read a word of operands `OpXC` back; a set unused bit refuses the word (R38). -/
def readXC (c : OpXC → Instr) (w : Nat) : Option Instr :=
  match unpack [8, 4, 1, 1, 2, 1, 5, 5, 5] w with
  | [_, g', n', 0, e', f', d', a', b'] => some (c ⟨BitVec.ofNat 4 g', (n1 n'), BitVec.ofNat 2 e', (n1 f'), BitVec.ofNat 5 d', BitVec.ofNat 5 a', BitVec.ofNat 5 b'⟩)
  | _ => none

/-- The fields of a word of operands `OpNM`, from the top bit down. -/
def fieldsNM (op : Nat) (o : OpNM) : List (Nat × Nat) :=
  [(op, 8), (o.g.toNat, 4), (o.n.toNat, 1), (0, 1), (o.d.toNat, 4), (o.k.toNat, 3), (o.p.toNat, 3), (0, 8)]

/-- Read a word of operands `OpNM` back; a set unused bit refuses the word (R38). -/
def readNM (c : OpNM → Instr) (w : Nat) : Option Instr :=
  match unpack [8, 4, 1, 1, 4, 3, 3, 8] w with
  | [_, g', n', 0, d', k', p', 0] => some (c ⟨BitVec.ofNat 4 g', (n1 n'), BitVec.ofNat 4 d', BitVec.ofNat 3 k', BitVec.ofNat 3 p'⟩)
  | _ => none

/-- The fields of a word of operands `OpNMx`, from the top bit down. -/
def fieldsNMx (op : Nat) (o : OpNMx) : List (Nat × Nat) :=
  [(op, 8), (o.g.toNat, 4), (o.n.toNat, 1), (0, 1), (o.d.toNat, 4), (o.k.toNat, 3), (o.p.toNat, 3), (0, 5), (o.c.toNat, 3)]

/-- Read a word of operands `OpNMx` back; a set unused bit refuses the word (R38). -/
def readNMx (c : OpNMx → Instr) (w : Nat) : Option Instr :=
  match unpack [8, 4, 1, 1, 4, 3, 3, 5, 3] w with
  | [_, g', n', 0, d', k', p', 0, c'] => some (c ⟨BitVec.ofNat 4 g', (n1 n'), BitVec.ofNat 4 d', BitVec.ofNat 3 k', BitVec.ofNat 3 p', BitVec.ofNat 3 c'⟩)
  | _ => none

/-- The fields of a word of operands `OpNP`, from the top bit down. -/
def fieldsNP (op : Nat) (o : OpNP) : List (Nat × Nat) :=
  [(op, 8), (o.g.toNat, 4), (o.n.toNat, 1), (0, 8), (o.p.toNat, 3), (0, 7), (o.s.toNat, 1)]

/-- Read a word of operands `OpNP` back; a set unused bit refuses the word (R38). -/
def readNP (c : OpNP → Instr) (w : Nat) : Option Instr :=
  match unpack [8, 4, 1, 8, 3, 7, 1] w with
  | [_, g', n', 0, p', 0, s'] => some (c ⟨BitVec.ofNat 4 g', (n1 n'), BitVec.ofNat 3 p', (n1 s')⟩)
  | _ => none

/-- The fields of a word of operands `OpNV`, from the top bit down. -/
def fieldsNV (op : Nat) (o : OpNV) : List (Nat × Nat) :=
  [(op, 8), (o.g.toNat, 4), (o.n.toNat, 1), (0, 1), (o.d.toNat, 4), (o.k.toNat, 3), (0, 10), (o.s.toNat, 1)]

/-- Read a word of operands `OpNV` back; a set unused bit refuses the word (R38). -/
def readNV (c : OpNV → Instr) (w : Nat) : Option Instr :=
  match unpack [8, 4, 1, 1, 4, 3, 10, 1] w with
  | [_, g', n', 0, d', k', 0, s'] => some (c ⟨BitVec.ofNat 4 g', (n1 n'), BitVec.ofNat 4 d', BitVec.ofNat 3 k', (n1 s')⟩)
  | _ => none

/-- The fields of a word of operands `OpNX`, from the top bit down. -/
def fieldsNX (op : Nat) (o : OpNX) : List (Nat × Nat) :=
  [(op, 8), (o.g.toNat, 4), (o.n.toNat, 1), (o.d.toNat, 5), (o.k.toNat, 3), (0, 10), (o.s.toNat, 1)]

/-- Read a word of operands `OpNX` back; a set unused bit refuses the word (R38). -/
def readNX (c : OpNX → Instr) (w : Nat) : Option Instr :=
  match unpack [8, 4, 1, 5, 3, 10, 1] w with
  | [_, g', n', d', k', 0, s'] => some (c ⟨BitVec.ofNat 4 g', (n1 n'), BitVec.ofNat 5 d', BitVec.ofNat 3 k', (n1 s')⟩)
  | _ => none

/-- The fields of a word of operands `OpNL`, from the top bit down. -/
def fieldsNL (op : Nat) (o : OpNL) : List (Nat × Nat) :=
  [(op, 8), (o.g.toNat, 4), (o.n.toNat, 1), (0, 1), (o.d.toNat, 4), (o.b.toNat, 3), (0, 3), (o.i.toNat, 8)]

/-- Read a word of operands `OpNL` back; a set unused bit refuses the word (R38). -/
def readNL (c : OpNL → Instr) (w : Nat) : Option Instr :=
  match unpack [8, 4, 1, 1, 4, 3, 3, 8] w with
  | [_, g', n', 0, d', b', 0, i'] => some (c ⟨BitVec.ofNat 4 g', (n1 n'), BitVec.ofNat 4 d', BitVec.ofNat 3 b', BitVec.ofNat 8 i'⟩)
  | _ => none

/-- The fields of a word of operands `OpMM`, from the top bit down. -/
def fieldsMM (op : Nat) (o : OpMM) : List (Nat × Nat) :=
  [(op, 8), (o.g.toNat, 4), (o.n.toNat, 1), (o.zd.toNat, 3), (0, 3), (o.ra.toNat, 4), (o.rb.toNat, 4), (o.shp.toNat, 5), (o.kb.toNat, 8), (o.acc.toNat, 1), (0, 23)]

/-- Read a word of operands `OpMM` back; a set unused bit refuses the word (R38). -/
def readMM (c : OpMM → Instr) (w : Nat) : Option Instr :=
  match unpack [8, 4, 1, 3, 3, 4, 4, 5, 8, 1, 23] w with
  | [_, g', n', zd', 0, ra', rb', shp', kb', acc', 0] => some (c ⟨BitVec.ofNat 4 g', (n1 n'), BitVec.ofNat 3 zd', BitVec.ofNat 4 ra', BitVec.ofNat 4 rb', BitVec.ofNat 5 shp', BitVec.ofNat 8 kb', (n1 acc')⟩)
  | _ => none

/-- The fields of a word of operands `OpMZ`, from the top bit down. -/
def fieldsMZ (op : Nat) (o : OpMZ) : List (Nat × Nat) :=
  [(op, 8), (o.g.toNat, 4), (o.n.toNat, 1), (o.zd.toNat, 3), (0, 29), (o.zm.toNat, 2), (0, 17)]

/-- Read a word of operands `OpMZ` back; a set unused bit refuses the word (R38). -/
def readMZ (c : OpMZ → Instr) (w : Nat) : Option Instr :=
  match unpack [8, 4, 1, 3, 29, 2, 17] w with
  | [_, g', n', zd', 0, zm', 0] => some (c ⟨BitVec.ofNat 4 g', (n1 n'), BitVec.ofNat 3 zd', BitVec.ofNat 2 zm'⟩)
  | _ => none

/-- The fields of a word of operands `OpML`, from the top bit down. -/
def fieldsML (op : Nat) (o : OpML) : List (Nat × Nat) :=
  [(op, 8), (o.g.toNat, 4), (o.n.toNat, 1), (o.zd.toNat, 3), (0, 3), (o.ra.toNat, 4), (0, 41)]

/-- Read a word of operands `OpML` back; a set unused bit refuses the word (R38). -/
def readML (c : OpML → Instr) (w : Nat) : Option Instr :=
  match unpack [8, 4, 1, 3, 3, 4, 41] w with
  | [_, g', n', zd', 0, ra', 0] => some (c ⟨BitVec.ofNat 4 g', (n1 n'), BitVec.ofNat 3 zd', BitVec.ofNat 4 ra'⟩)
  | _ => none

/-- The fields of a word of operands `OpMS`, from the top bit down. -/
def fieldsMS (op : Nat) (o : OpMS) : List (Nat × Nat) :=
  [(op, 8), (o.g.toNat, 4), (o.n.toNat, 1), (0, 3), (o.zs.toNat, 3), (o.ra.toNat, 4), (0, 24), (o.rm.toNat, 3), (0, 14)]

/-- Read a word of operands `OpMS` back; a set unused bit refuses the word (R38). -/
def readMS (c : OpMS → Instr) (w : Nat) : Option Instr :=
  match unpack [8, 4, 1, 3, 3, 4, 24, 3, 14] w with
  | [_, g', n', 0, zs', ra', 0, rm', 0] => some (c ⟨BitVec.ofNat 4 g', (n1 n'), BitVec.ofNat 3 zs', BitVec.ofNat 4 ra', BitVec.ofNat 3 rm'⟩)
  | _ => none

/-- The fields of a word of operands `OpMT`, from the top bit down. -/
def fieldsMT (op : Nat) (o : OpMT) : List (Nat × Nat) :=
  [(op, 8), (o.g.toNat, 4), (o.n.toNat, 1), (0, 6), (o.ra.toNat, 4), (o.tag.toNat / 256, 4), (0, 5), (o.tag.toNat % 256, 8), (0, 24)]

/-- Read a word of operands `OpMT` back; a set unused bit refuses the word (R38). -/
def readMT (c : OpMT → Instr) (w : Nat) : Option Instr :=
  match unpack [8, 4, 1, 6, 4, 4, 5, 8, 24] w with
  | [_, g', n', 0, ra', th', 0, tl', 0] => some (c ⟨BitVec.ofNat 4 g', (n1 n'), BitVec.ofNat 4 ra', BitVec.ofNat 12 (th' * 256 + tl')⟩)
  | _ => none

/-- The fields of a word of operands `OpMK`, from the top bit down. -/
def fieldsMK (op : Nat) (o : OpMK) : List (Nat × Nat) :=
  [(op, 8), (o.g.toNat, 4), (o.n.toNat, 1), (0, 6), (o.ra.toNat, 4), (0, 9), (o.kb.toNat, 8), (0, 24)]

/-- Read a word of operands `OpMK` back; a set unused bit refuses the word (R38). -/
def readMK (c : OpMK → Instr) (w : Nat) : Option Instr :=
  match unpack [8, 4, 1, 6, 4, 9, 8, 24] w with
  | [_, g', n', 0, ra', 0, kb', 0] => some (c ⟨BitVec.ofNat 4 g', (n1 n'), BitVec.ofNat 4 ra', BitVec.ofNat 8 kb'⟩)
  | _ => none

/-- The fields of a word of operands `OpMW`, from the top bit down. -/
def fieldsMW (op : Nat) (o : OpMW) : List (Nat × Nat) :=
  [(op, 8), (o.g.toNat, 4), (o.n.toNat, 1), (0, 19), (o.kb.toNat, 8), (0, 24)]

/-- Read a word of operands `OpMW` back; a set unused bit refuses the word (R38). -/
def readMW (c : OpMW → Instr) (w : Nat) : Option Instr :=
  match unpack [8, 4, 1, 19, 8, 24] w with
  | [_, g', n', 0, kb', 0] => some (c ⟨BitVec.ofNat 4 g', (n1 n'), BitVec.ofNat 8 kb'⟩)
  | _ => none

/-- The fields of a word of operands `OpT0`, from the top bit down. -/
def fieldsT0 (op : Nat) (o : OpT0) : List (Nat × Nat) :=
  [(op, 8), (o.g.toNat, 4), (o.n.toNat, 1), (0, 28), (1, 1), (0, 22)]

/-- Read a word of operands `OpT0` back; a set unused bit refuses the word (R38). -/
def readT0 (c : OpT0 → Instr) (w : Nat) : Option Instr :=
  match unpack [8, 4, 1, 28, 1, 22] w with
  | [_, g', n', 0, 1, 0] => some (c ⟨BitVec.ofNat 4 g', (n1 n')⟩)
  | _ => none

/-- The fields of a word of operands `OpT1`, from the top bit down. -/
def fieldsT1 (op : Nat) (o : OpT1) : List (Nat × Nat) :=
  [(op, 8), (o.g.toNat, 4), (o.n.toNat, 1), (0, 6), (o.ra.toNat, 4), (0, 18), (1, 1), (0, 22)]

/-- Read a word of operands `OpT1` back; a set unused bit refuses the word (R38). -/
def readT1 (c : OpT1 → Instr) (w : Nat) : Option Instr :=
  match unpack [8, 4, 1, 6, 4, 18, 1, 22] w with
  | [_, g', n', 0, ra', 0, 1, 0] => some (c ⟨BitVec.ofNat 4 g', (n1 n'), BitVec.ofNat 4 ra'⟩)
  | _ => none

/-- The fields of a word of operands `OpTL`, from the top bit down. -/
def fieldsTL (op : Nat) (o : OpTL) : List (Nat × Nat) :=
  [(op, 8), (o.g.toNat, 4), (o.n.toNat, 1), (0, 6), (o.ra.toNat, 4), (0, 18), (1, 1), (o.join.toNat, 1), (o.fb.toNat, 1), (o.src.toNat, 1), (0, 19)]

/-- Read a word of operands `OpTL` back; a set unused bit refuses the word (R38). -/
def readTL (c : OpTL → Instr) (w : Nat) : Option Instr :=
  match unpack [8, 4, 1, 6, 4, 18, 1, 1, 1, 1, 19] w with
  | [_, g', n', 0, ra', 0, 1, join', fb', src', 0] => some (c ⟨BitVec.ofNat 4 g', (n1 n'), BitVec.ofNat 4 ra', (n1 join'), (n1 fb'), (n1 src')⟩)
  | _ => none

/-- The fields of a word of operands `OpCC`, from the top bit down. -/
def fieldsCC (op : Nat) (o : OpCC) : List (Nat × Nat) :=
  [(op, 8), (o.g.toNat, 4), (o.n.toNat, 1), (0, 4), (o.a.toNat, 4), (o.b.toNat, 4), (0, 9), (o.scope.toNat, 3), (0, 2), (o.len.toNat, 25)]

/-- Read a word of operands `OpCC` back; a set unused bit refuses the word (R38). -/
def readCC (cb : Bool) (c : OpCC → Instr) (w : Nat) : Option Instr :=
  match unpack [8, 4, 1, 4, 4, 4, 9, 3, 2, 25] w with
  | [_, g', n', 0, a', b', 0, scope', 0, len'] => some (c ⟨cb, BitVec.ofNat 4 g', (n1 n'), BitVec.ofNat 4 a', BitVec.ofNat 4 b', BitVec.ofNat 3 scope', BitVec.ofNat 25 len'⟩)
  | _ => none

/-- The fields of a word of operands `OpCS`, from the top bit down. -/
def fieldsCS (op : Nat) (o : OpCS) : List (Nat × Nat) :=
  [(op, 8), (o.g.toNat, 4), (o.n.toNat, 1), (0, 4), (o.a.toNat, 4), (o.b.toNat, 4), (o.di.toNat, 5), (0, 4), (o.scope.toNat, 3), (0, 27)]

/-- Read a word of operands `OpCS` back; a set unused bit refuses the word (R38). -/
def readCS (cb : Bool) (c : OpCS → Instr) (w : Nat) : Option Instr :=
  match unpack [8, 4, 1, 4, 4, 4, 5, 4, 3, 27] w with
  | [_, g', n', 0, a', b', di', 0, scope', 0] => some (c ⟨cb, BitVec.ofNat 4 g', (n1 n'), BitVec.ofNat 4 a', BitVec.ofNat 4 b', BitVec.ofNat 5 di', BitVec.ofNat 3 scope'⟩)
  | _ => none

/-- The fields of a word of operands `OpCT`, from the top bit down. -/
def fieldsCT (op : Nat) (o : OpCT) : List (Nat × Nat) :=
  [(op, 8), (o.g.toNat, 4), (o.n.toNat, 1), (0, 4), (o.a.toNat, 4), (0, 9), (o.f.toNat, 4), (o.scope.toNat, 3), (0, 2), (o.len.toNat, 25)]

/-- Read a word of operands `OpCT` back; a set unused bit refuses the word (R38). -/
def readCT (cb : Bool) (c : OpCT → Instr) (w : Nat) : Option Instr :=
  match unpack [8, 4, 1, 4, 4, 9, 4, 3, 2, 25] w with
  | [_, g', n', 0, a', 0, f', scope', 0, len'] => some (c ⟨cb, BitVec.ofNat 4 g', (n1 n'), BitVec.ofNat 4 a', BitVec.ofNat 4 f', BitVec.ofNat 3 scope', BitVec.ofNat 25 len'⟩)
  | _ => none

/-- The fields of a word of operands `OpCE`, from the top bit down. -/
def fieldsCE (op : Nat) (o : OpCE) : List (Nat × Nat) :=
  [(op, 8), (o.g.toNat, 4), (o.n.toNat, 1), (0, 17), (o.f.toNat, 4), (0, 30)]

/-- Read a word of operands `OpCE` back; a set unused bit refuses the word (R38). -/
def readCE (cb : Bool) (c : OpCE → Instr) (w : Nat) : Option Instr :=
  match unpack [8, 4, 1, 17, 4, 30] w with
  | [_, g', n', 0, f', 0] => some (c ⟨cb, BitVec.ofNat 4 g', (n1 n'), BitVec.ofNat 4 f'⟩)
  | _ => none

/-- The fields of a word of operands `OpCBd`, from the top bit down. -/
def fieldsCBd (op : Nat) (o : OpCBd) : List (Nat × Nat) :=
  [(op, 8), (o.g.toNat, 4), (o.n.toNat, 1), (o.q.toNat, 4), (o.a.toNat, 4), (0, 8), (o.useA.toNat, 1), (0, 34)]

/-- Read a word of operands `OpCBd` back; a set unused bit refuses the word (R38). -/
def readCBd (cb : Bool) (c : OpCBd → Instr) (w : Nat) : Option Instr :=
  match unpack [8, 4, 1, 4, 4, 8, 1, 34] w with
  | [_, g', n', q', a', 0, useA', 0] => some (c ⟨cb, BitVec.ofNat 4 g', (n1 n'), BitVec.ofNat 4 q', (n1 useA'), BitVec.ofNat 4 a'⟩)
  | _ => none

/-- The fields of a word of operands `OpCU`, from the top bit down. -/
def fieldsCU (op : Nat) (o : OpCU) : List (Nat × Nat) :=
  [(op, 8), (o.g.toNat, 4), (o.n.toNat, 1), (o.q.toNat, 4), (0, 17), (o.scope.toNat, 3), (0, 27)]

/-- Read a word of operands `OpCU` back; a set unused bit refuses the word (R38). -/
def readCU (cb : Bool) (c : OpCU → Instr) (w : Nat) : Option Instr :=
  match unpack [8, 4, 1, 4, 17, 3, 27] w with
  | [_, g', n', q', 0, scope', 0] => some (c ⟨cb, BitVec.ofNat 4 g', (n1 n'), BitVec.ofNat 4 q', BitVec.ofNat 3 scope'⟩)
  | _ => none

/-- The fields of a word of operands `OpCG`, from the top bit down. -/
def fieldsCG (op : Nat) (o : OpCG) : List (Nat × Nat) :=
  [(op, 8), (o.g.toNat, 4), (o.n.toNat, 1), (o.q.toNat, 4), (o.a.toNat, 4), (0, 9), (0, 2), (o.ix.toNat, 2), (o.scope.toNat, 3), (0, 2), (o.len.toNat, 25)]

/-- Read a word of operands `OpCG` back; a set unused bit refuses the word (R38). -/
def readCG (cb : Bool) (c : OpCG → Instr) (w : Nat) : Option Instr :=
  match unpack [8, 4, 1, 4, 4, 9, 2, 2, 3, 2, 25] w with
  | [_, g', n', q', a', 0, 0, ix', scope', 0, len'] => some (c ⟨cb, BitVec.ofNat 4 g', (n1 n'), BitVec.ofNat 4 q', BitVec.ofNat 4 a', BitVec.ofNat 2 ix', BitVec.ofNat 3 scope', BitVec.ofNat 25 len'⟩)
  | _ => none

/-- The fields of a word of operands `OpCW`, from the top bit down. -/
def fieldsCW (op : Nat) (o : OpCW) : List (Nat × Nat) :=
  [(op, 8), (o.g.toNat, 4), (o.n.toNat, 1), (0, 26), (o.len.toNat, 25)]

/-- Read a word of operands `OpCW` back; a set unused bit refuses the word (R38). -/
def readCW (cb : Bool) (c : OpCW → Instr) (w : Nat) : Option Instr :=
  match unpack [8, 4, 1, 26, 25] w with
  | [_, g', n', 0, len'] => some (c ⟨cb, BitVec.ofNat 4 g', (n1 n'), BitVec.ofNat 25 len'⟩)
  | _ => none

/-- The fields of a word of operands `OpCF`, from the top bit down. -/
def fieldsCF (op : Nat) (o : OpCF) : List (Nat × Nat) :=
  [(op, 8), (o.g.toNat, 4), (o.n.toNat, 1), (0, 12), (o.di.toNat, 5), (o.f.toNat, 4), (0, 5), (o.len.toNat, 25)]

/-- Read a word of operands `OpCF` back; a set unused bit refuses the word (R38). -/
def readCF (cb : Bool) (c : OpCF → Instr) (w : Nat) : Option Instr :=
  match unpack [8, 4, 1, 12, 5, 4, 5, 25] w with
  | [_, g', n', 0, di', f', 0, len'] => some (c ⟨cb, BitVec.ofNat 4 g', (n1 n'), BitVec.ofNat 4 f', BitVec.ofNat 5 di', BitVec.ofNat 25 len'⟩)
  | _ => none

/-- The fields of a word of operands `OpCSg`, from the top bit down. -/
def fieldsCSg (op : Nat) (o : OpCSg) : List (Nat × Nat) :=
  [(op, 8), (o.g.toNat, 4), (o.n.toNat, 1), (0, 4), (o.a.toNat, 4), (o.b.toNat, 4), (0, 9), (o.scope.toNat, 3), (o.order.toNat, 2), (0, 24), (o.w32.toNat, 1)]

/-- Read a word of operands `OpCSg` back; a set unused bit refuses the word (R38). -/
def readCSg (cb : Bool) (c : OpCSg → Instr) (w : Nat) : Option Instr :=
  match unpack [8, 4, 1, 4, 4, 4, 9, 3, 2, 24, 1] w with
  | [_, g', n', 0, a', b', 0, scope', order', 0, w32'] => some (c ⟨cb, BitVec.ofNat 4 g', (n1 n'), BitVec.ofNat 4 a', BitVec.ofNat 4 b', BitVec.ofNat 3 scope', BitVec.ofNat 2 order', (n1 w32')⟩)
  | _ => none

/-- The fields of a word of operands `OpCL`, from the top bit down. -/
def fieldsCL (op : Nat) (o : OpCL) : List (Nat × Nat) :=
  [(op, 8), (o.g.toNat, 4), (o.n.toNat, 1), (0, 4), (o.a.toNat, 4), (o.b.toNat, 4), (o.di.toNat, 5), (o.f.toNat, 4), (o.scope.toNat, 3), (0, 2), (o.len.toNat, 25)]

/-- Read a word of operands `OpCL` back; a set unused bit refuses the word (R38). -/
def readCL (cb : Bool) (c : OpCL → Instr) (w : Nat) : Option Instr :=
  match unpack [8, 4, 1, 4, 4, 4, 5, 4, 3, 2, 25] w with
  | [_, g', n', 0, a', b', di', f', scope', 0, len'] => some (c ⟨cb, BitVec.ofNat 4 g', (n1 n'), BitVec.ofNat 4 a', BitVec.ofNat 4 b', BitVec.ofNat 5 di', BitVec.ofNat 4 f', BitVec.ofNat 3 scope', BitVec.ofNat 25 len'⟩)
  | _ => none

/-- The fields of a word of operands `OpCH`, from the top bit down. -/
def fieldsCH (op : Nat) (o : OpCH) : List (Nat × Nat) :=
  [(op, 8), (o.g.toNat, 4), (o.n.toNat, 1), (0, 4), (o.a.toNat, 4), (o.b.toNat, 4), (0, 14), (o.imm.toNat, 25)]

/-- Read a word of operands `OpCH` back; a set unused bit refuses the word (R38). -/
def readCH (cb : Bool) (c : OpCH → Instr) (w : Nat) : Option Instr :=
  match unpack [8, 4, 1, 4, 4, 4, 14, 25] w with
  | [_, g', n', 0, a', b', 0, imm'] => some (c ⟨cb, BitVec.ofNat 4 g', (n1 n'), BitVec.ofNat 4 a', BitVec.ofNat 4 b', BitVec.ofNat 25 imm'⟩)
  | _ => none

/-- The fields of a word of operands `OpCM`, from the top bit down. -/
def fieldsCM (op : Nat) (o : OpCM) : List (Nat × Nat) :=
  [(op, 8), (o.g.toNat, 4), (o.n.toNat, 1), (0, 4), (o.a.toNat, 4), (o.b.toNat, 4), (0, 39)]

/-- Read a word of operands `OpCM` back; a set unused bit refuses the word (R38). -/
def readCM (cb : Bool) (c : OpCM → Instr) (w : Nat) : Option Instr :=
  match unpack [8, 4, 1, 4, 4, 4, 39] w with
  | [_, g', n', 0, a', b', 0] => some (c ⟨cb, BitVec.ofNat 4 g', (n1 n'), BitVec.ofNat 4 a', BitVec.ofNat 4 b'⟩)
  | _ => none

/-- The fields of a word of operands `OpCI`, from the top bit down. -/
def fieldsCI (op : Nat) (o : OpCI) : List (Nat × Nat) :=
  [(op, 8), (o.g.toNat, 4), (o.n.toNat, 1), (0, 4), (o.a.toNat, 4), (0, 18), (o.imm.toNat, 25)]

/-- Read a word of operands `OpCI` back; a set unused bit refuses the word (R38). -/
def readCI (cb : Bool) (c : OpCI → Instr) (w : Nat) : Option Instr :=
  match unpack [8, 4, 1, 4, 4, 18, 25] w with
  | [_, g', n', 0, a', 0, imm'] => some (c ⟨cb, BitVec.ofNat 4 g', (n1 n'), BitVec.ofNat 4 a', BitVec.ofNat 25 imm'⟩)
  | _ => none

/-- The fields of a word of operands `OpCX`, from the top bit down. -/
def fieldsCX (op : Nat) (o : OpCX) : List (Nat × Nat) :=
  [(op, 8), (o.g.toNat, 4), (o.n.toNat, 1), (0, 8), (o.b.toNat, 4), (0, 34), (o.d.toNat, 5)]

/-- Read a word of operands `OpCX` back; a set unused bit refuses the word (R38). -/
def readCX (cb : Bool) (c : OpCX → Instr) (w : Nat) : Option Instr :=
  match unpack [8, 4, 1, 8, 4, 34, 5] w with
  | [_, g', n', 0, b', 0, d'] => some (c ⟨cb, BitVec.ofNat 4 g', (n1 n'), BitVec.ofNat 5 d', BitVec.ofNat 4 b'⟩)
  | _ => none

/-- The fields of the word of an instruction, from the top bit down; an event has none. -/
def Instr.fields : Instr → List (Nat × Nat)
  | .snop o => fieldsSN 0x0 o
  | .add o => fieldsSR 0x1 o
  | .sub o => fieldsSR 0x2 o
  | .mul o => fieldsSR 0x3 o
  | .mulh o => fieldsSR 0x4 o
  | .mulhu o => fieldsSR 0x5 o
  | .div o => fieldsSR 0x6 o
  | .divu o => fieldsSR 0x7 o
  | .rem o => fieldsSR 0x8 o
  | .remu o => fieldsSR 0x9 o
  | .and o => fieldsSR 0xa o
  | .or o => fieldsSR 0xb o
  | .xor o => fieldsSR 0xc o
  | .shl o => fieldsSR 0xd o
  | .shr o => fieldsSR 0xe o
  | .sra o => fieldsSR 0xf o
  | .min o => fieldsSR 0x10 o
  | .max o => fieldsSR 0x11 o
  | .minu o => fieldsSR 0x12 o
  | .maxu o => fieldsSR 0x13 o
  | .clz o => fieldsSR2 0x14 0 o
  | .popc o => fieldsSR2 0x15 0 o
  | .sel o => fieldsSSel 0x16 o
  | .addw o => fieldsSR 0x17 o
  | .lea o => fieldsSLea 0x18 o
  | .mov o => fieldsSR2 0x19 0 o
  | .addi o => fieldsSI 0x20 o
  | .andi o => fieldsSI 0x21 o
  | .ori o => fieldsSI 0x22 o
  | .xori o => fieldsSI 0x23 o
  | .shli o => fieldsSSh 0x24 o
  | .shri o => fieldsSSh 0x25 o
  | .srai o => fieldsSSh 0x26 o
  | .muli o => fieldsSI 0x27 o
  | .ceq o => fieldsSC 0x30 o
  | .cne o => fieldsSC 0x31 o
  | .clt o => fieldsSC 0x32 o
  | .cge o => fieldsSC 0x33 o
  | .cltu o => fieldsSC 0x34 o
  | .cgeu o => fieldsSC 0x35 o
  | .ceqi o => fieldsSCI 0x36 o
  | .cnei o => fieldsSCI 0x37 o
  | .clti o => fieldsSCI 0x38 o
  | .cgei o => fieldsSCI 0x39 o
  | .gand o => fieldsSGl 0x3a o
  | .gor o => fieldsSGl 0x3b o
  | .gxor o => fieldsSGl 0x3c o
  | .gset o => fieldsSGs 0x3d o
  | .movi o => fieldsSL 0x40 o
  | .movhi o => fieldsSL 0x41 o
  | .addil o => fieldsSL 0x42 o
  | .fadd o => fieldsSF 0x48 o
  | .fsub o => fieldsSF 0x49 o
  | .fmul o => fieldsSF 0x4a o
  | .fma o => fieldsSF 0x4b o
  | .fmin o => fieldsSF 0x4c o
  | .fmax o => fieldsSF 0x4d o
  | .fcvt o => fieldsSFcvt 0x4e o
  | .fceq o => fieldsSFc 0x4f o
  | .fclt o => fieldsSFc 0x50 o
  | .fcle o => fieldsSFc 0x51 o
  | .ldB o => fieldsSI 0x60 o
  | .ldH o => fieldsSI 0x61 o
  | .ldW o => fieldsSI 0x62 o
  | .ldD o => fieldsSI 0x63 o
  | .ldsB o => fieldsSI 0x64 o
  | .ldsH o => fieldsSI 0x65 o
  | .ldsW o => fieldsSI 0x66 o
  | .stB o => fieldsSI 0x68 o
  | .stH o => fieldsSI 0x69 o
  | .stW o => fieldsSI 0x6a o
  | .stD o => fieldsSI 0x6b o
  | .lda o => fieldsSX 0x6c o
  | .stl o => fieldsSX 0x6d o
  | .amoadd o => fieldsSX 0x70 o
  | .amoswp o => fieldsSX 0x71 o
  | .amocas o => fieldsSX 0x72 o
  | .amomin o => fieldsSX 0x73 o
  | .amomax o => fieldsSX 0x74 o
  | .amoand o => fieldsSX 0x75 o
  | .amoor o => fieldsSX 0x76 o
  | .amoxor o => fieldsSX 0x77 o
  | .scld o => fieldsSX 0x78 o
  | .scst o => fieldsSX 0x79 o
  | .scamo o => fieldsSX 0x7a o
  | .fence o => fieldsSFence 0x7c o
  | .pfence o => fieldsSPf 0x7d o
  | .drain o => fieldsSFence 0x7e o
  | .br o => fieldsSB 0x80 o
  | .jal o => fieldsSB 0x81 o
  | .jr o => fieldsSJr 0x82 o
  | .jalr o => fieldsSR2 0x83 0 o
  | .loop o => fieldsSLoop 0x84 o
  | .lexit o => fieldsSN 0x85 o
  | .trap o => fieldsSTrap 0x88 o
  | .kend o => fieldsSR2 0x89 0 o
  | .sysord o => fieldsSR2 0x89 1 o
  | .evadd o => fieldsSR2 0x89 2 o
  | .claim o => fieldsSR2 0x89 3 o
  | .release o => fieldsSR2 0x89 4 o
  | .gstat o => fieldsSR2 0x89 5 o
  | .notify o => fieldsSR2 0x89 6 o
  | .sysc o => fieldsSSvc 0x89 o
  | .eret o => fieldsSN 0x8a o
  | .ychk o => fieldsSYc 0x8b o
  | .yield o => fieldsSN 0x8c o
  | .wfe o => fieldsSN 0x8d o
  | .evsig o => fieldsSEv 0x8e o
  | .movc o => fieldsSMovc 0x90 o
  | .movcw o => fieldsSLoop 0x91 o
  | .xsa o => fieldsSXv 0x98 o
  | .xsb o => fieldsSXv 0x99 o
  | .xsh o => fieldsSXh 0x9a o
  | .xsj o => fieldsSXh 0x9b o
  | .xsy o => fieldsSXh 0x9c o
  | .bar o => fieldsSBar 0xa0 o
  | .bara o => fieldsSBar 0xa1 o
  | .barw o => fieldsSBar 0xa2 o
  | .bari o => fieldsSBar 0xa3 o
  | .lnch o => fieldsSR2 0xb0 0 o
  | .garm o => fieldsSGarm 0xb1 o
  | .hirq o => fieldsSHirq 0xb2 o
  | .pflip o => fieldsSD 0xb3 o
  | .bkpt o => fieldsSBk 0xd0 o
  | .mark o => fieldsSLoop 0xd1 o
  | .vnop o => fieldsV0 0x0 o
  | .vadd o => fieldsV3 0x1 o
  | .vsub o => fieldsV3 0x2 o
  | .vmul o => fieldsV3 0x3 o
  | .vfma o => fieldsV3 0x4 o
  | .vfms o => fieldsV3 0x5 o
  | .vmin o => fieldsV3 0x6 o
  | .vmax o => fieldsV3 0x7 o
  | .vabs o => fieldsV2 0x8 o
  | .vneg o => fieldsV2 0x9 o
  | .vsqd o => fieldsV3 0xa o
  | .vmulh o => fieldsV3 0xb o
  | .vdot4 o => fieldsV3 0xc o
  | .vand o => fieldsV3 0x10 o
  | .vor o => fieldsV3 0x11 o
  | .vxor o => fieldsV3 0x12 o
  | .vshl o => fieldsV3 0x13 o
  | .vshr o => fieldsV3 0x14 o
  | .vsra o => fieldsV3 0x15 o
  | .vceq o => fieldsVC 0x20 o
  | .vcne o => fieldsVC 0x21 o
  | .vclt o => fieldsVC 0x22 o
  | .vcle o => fieldsVC 0x23 o
  | .vsel o => fieldsV3 0x24 o
  | .kand o => fieldsVK 0x28 o
  | .kor o => fieldsVK 0x29 o
  | .kxor o => fieldsVK 0x2a o
  | .knot o => fieldsVK1 0x2b o
  | .kpop o => fieldsVKp 0x2c o
  | .vcvt o => fieldsVCv 0x30 o
  | .vqblk o => fieldsVQb 0x31 o
  | .vdqblk o => fieldsVDq 0x32 o
  | .vrnd o => fieldsVRn 0x33 o
  | .vexp2 o => fieldsV2 0x38 o
  | .vlog2 o => fieldsV2 0x39 o
  | .vrcp o => fieldsV2 0x3a o
  | .vrsq o => fieldsV2 0x3b o
  | .vsigm o => fieldsV2 0x3c o
  | .vtanh o => fieldsV2 0x3d o
  | .vrsum o => fieldsV2 0x40 o
  | .vrmax o => fieldsV2 0x41 o
  | .vrmin o => fieldsV2 0x42 o
  | .vscan o => fieldsV2 0x43 o
  | .vamax o => fieldsV2 0x44 o
  | .vmov o => fieldsV2 0x50 o
  | .vsq o => fieldsVSq 0x51 o
  | .vxs o => fieldsV2 0x52 o
  | .vxab o => fieldsV2 0x53 o
  | .vspl o => fieldsVB1 0x54 o
  | .viota o => fieldsVB1 0x55 o
  | .vtag o => fieldsVTg 0x56 o
  | .xprm o => fieldsXP 0x1 o
  | .xpldA o => fieldsXL 0x2 false o
  | .xpldB o => fieldsXL 0x2 true o
  | .xzip o => fieldsXZ 0x3 o
  | .xuzp o => fieldsXZ 0x4 o
  | .xcmp o => fieldsXC 0x5 o
  | .xexp o => fieldsXC 0x6 o
  | .nmap o => fieldsNM 0x1 o
  | .nmapx o => fieldsNMx 0x2 o
  | .npld o => fieldsNP 0x3 o
  | .nmov o => fieldsNV 0x4 o
  | .nxs o => fieldsNX 0x5 o
  | .nli o => fieldsNL 0x6 o
  | .mma o => fieldsMM 0x1 o
  | .mmaz o => fieldsMM 0x2 o
  | .mconv o => fieldsMM 0x3 o
  | .mzero o => fieldsMZ 0x4 o
  | .mldz o => fieldsML 0x5 o
  | .mstz o => fieldsMS 0x6 o
  | .mtag o => fieldsMT 0x7 o
  | .mskp o => fieldsMK 0x8 o
  | .mwait o => fieldsMW 0x9 o
  | .tacq o => fieldsT0 0x10 o
  | .trel o => fieldsT0 0x11 o
  | .tldw o => fieldsT1 0x12 o
  | .tlnc o => fieldsTL 0x13 o
  | .tcap o => fieldsT1 0x14 o
  | .trst o => fieldsT0 0x15 o
  | .cpy o => fieldsCC 0x1 o
  | .cpys o => fieldsCS 0x2 o
  | .cpyt o => fieldsCT 0x3 o
  | .cpyw o => fieldsCT 0x4 o
  | .ldblk o => fieldsCT 0x5 o
  | .evblk o => fieldsCE 0x6 o
  | .bind o => fieldsCBd 0x7 o
  | .unbd o => fieldsCU 0x8 o
  | .gthr o => fieldsCG 0x9 o
  | .sctr o => fieldsCG 0xa o
  | .cwait o => fieldsCW 0xb o
  | .cflag o => fieldsCF 0xc o
  | .csig o => fieldsCSg 0xd o
  | .coll o => fieldsCL 0xe o
  | .hadd o => fieldsCH 0x10 o
  | .hmov o => fieldsCM 0x11 o
  | .hli o => fieldsCI 0x12 o
  | .hxs o => fieldsCX 0x13 o
  | .fetchFill _ => []
  | .branchResolution _ => []
  | .checkpoint _ => []
  | .storePerform _ => []
  | .loadDataReturn _ => []
  | .asyncTrap _ => []
  | .forcedSave _ => []
  | .savewaitEnd _ => []
  | .eventLatchSet _ => []
  | .matrixCommandBegin _ => []
  | .matrixCommandComplete _ => []
  | .copyCommandComplete _ _ => []
  | .streamGroupArrival _ _ => []
  | .streamOutputWrite _ _ => []
  | .temporalGrant _ => []
  | .temporalCommandBegin _ => []
  | .temporalCommandComplete _ => []
  | .barrierAccess _ => []
  | .capstanIssue _ => []
  | .regulationAdmit _ _ _ => []
  | .regulatorTick => []
  | .budget _ _ _ => []
  | .l2Lookup _ => []
  | .controllerAccess _ => []
  | .translationWalk _ => []
  | .wpgtAnswer _ _ => []
  | .shadowInvalidate _ _ _ => []
  | .channelRefresh _ _ => []
  | .channelRetirement _ _ => []
  | .clusterSwap _ => []
  | .clusterRetire _ => []
  | .coreRetire _ => []
  | .sramRowRepair _ _ => []
  | .l2WayRetire _ => []
  | .walkerFailover _ => []
  | .meshLinkFailure _ => []
  | .dieLinkLoss _ => []
  | .commandStreamTailWrite _ _ _ => []
  | .commandStreamDisable _ _ => []
  | .haltClear _ _ => []
  | .streamEntryTake _ _ => []
  | .nodeEnter _ _ => []
  | .eventNode _ _ => []
  | .hostirqNode _ _ => []
  | .spliceNode _ _ => []
  | .condNode _ _ => []
  | .kernelRecordReady _ _ => []
  | .groupPlacement _ => []
  | .groupComplete _ _ _ => []
  | .frameStart => []
  | .windowGuard _ => []
  | .windowEnd _ => []
  | .contractLoad _ _ => []
  | .start _ => []
  | .stop _ => []
  | .reset _ => []
  | .resize _ _ => []
  | .generate _ => []
  | .importKey _ => []
  | .erase _ => []
  | .poolAlloc _ => []
  | .poolFree _ => []
  | .frameScrub => []
  | .attestation _ => []
  | .eventCounterAdd _ _ _ => []
  | .irqTimer _ _ => []
  | .vectorUnmask _ _ => []
  | .hostClaim _ => []
  | .hostRelease _ => []
  | .debugStop _ => []
  | .halt _ => []
  | .resume _ => []
  | .dbgDataWrite _ _ => []
  | .traceEnable _ _ => []
  | .traceSample _ _ => []
  | .pmctlClr _ => []
  | .counterLowRead _ _ => []
  | .mcinv _ => []
  | .replayGo _ => []
  | .replayAbort _ => []
  | .replayPass _ => []
  | .perstN => []
  | .dieBringup _ _ => []
  | .full => []
  | .thermalTrip => []
  | .tsync => []
  | .tsyncTimeout => []
  | .functionLevelReset _ => []
  | .hostWindowAccess _ _ _ _ => []
  | .signalDetect _ => []
  | .trainingComplete _ => []
  | .trainingTimeout _ => []
  | .rateFallback _ => []
  | .linkReport _ _ => []
  | .flitReceive _ _ => []
  | .flitResend _ => []
  | .flitSilence _ => []
  | .rekey _ => []
  | .remoteAccess _ => []
  | .remoteResponse _ _ _ => []
  | .collectiveComplete _ _ => []
  | .collectiveTimeout _ => []
  | .fcgrpWrite _ _ => []
  | .portDown _ _ => []
  | .peerLossNotice _ => []
  | .abortMessage _ _ => []
  | .abortAckTimeout _ => []
  | .fabricDisable => []
  | .fabLogRead => []
  | .windowRewrite _ _ _ => []
  | .windowRevocation _ => []
  | .registerWrite _ _ _ => []
  | .illegalEncoding _ => []
  | .idleBundle _ => []
  | .hostPhysicalAccess _ _ _ => []
  | .gcMinWrite _ _ => []
  | .pmcsrWrite _ => []
  | .ieee11491 _ _ => []
  | .powerLoss => []
  | .recoveryMailbox _ => []

/-- The slot of an instruction by its MASK bit (R16), 8 for an event. -/
def Instr.slot : Instr → Nat
  | .snop _ => 0
  | .add _ => 0
  | .sub _ => 0
  | .mul _ => 0
  | .mulh _ => 0
  | .mulhu _ => 0
  | .div _ => 0
  | .divu _ => 0
  | .rem _ => 0
  | .remu _ => 0
  | .and _ => 0
  | .or _ => 0
  | .xor _ => 0
  | .shl _ => 0
  | .shr _ => 0
  | .sra _ => 0
  | .min _ => 0
  | .max _ => 0
  | .minu _ => 0
  | .maxu _ => 0
  | .clz _ => 0
  | .popc _ => 0
  | .sel _ => 0
  | .addw _ => 0
  | .lea _ => 0
  | .mov _ => 0
  | .addi _ => 0
  | .andi _ => 0
  | .ori _ => 0
  | .xori _ => 0
  | .shli _ => 0
  | .shri _ => 0
  | .srai _ => 0
  | .muli _ => 0
  | .ceq _ => 0
  | .cne _ => 0
  | .clt _ => 0
  | .cge _ => 0
  | .cltu _ => 0
  | .cgeu _ => 0
  | .ceqi _ => 0
  | .cnei _ => 0
  | .clti _ => 0
  | .cgei _ => 0
  | .gand _ => 0
  | .gor _ => 0
  | .gxor _ => 0
  | .gset _ => 0
  | .movi _ => 0
  | .movhi _ => 0
  | .addil _ => 0
  | .fadd _ => 0
  | .fsub _ => 0
  | .fmul _ => 0
  | .fma _ => 0
  | .fmin _ => 0
  | .fmax _ => 0
  | .fcvt _ => 0
  | .fceq _ => 0
  | .fclt _ => 0
  | .fcle _ => 0
  | .ldB _ => 0
  | .ldH _ => 0
  | .ldW _ => 0
  | .ldD _ => 0
  | .ldsB _ => 0
  | .ldsH _ => 0
  | .ldsW _ => 0
  | .stB _ => 0
  | .stH _ => 0
  | .stW _ => 0
  | .stD _ => 0
  | .lda _ => 0
  | .stl _ => 0
  | .amoadd _ => 0
  | .amoswp _ => 0
  | .amocas _ => 0
  | .amomin _ => 0
  | .amomax _ => 0
  | .amoand _ => 0
  | .amoor _ => 0
  | .amoxor _ => 0
  | .scld _ => 0
  | .scst _ => 0
  | .scamo _ => 0
  | .fence _ => 0
  | .pfence _ => 0
  | .drain _ => 0
  | .br _ => 0
  | .jal _ => 0
  | .jr _ => 0
  | .jalr _ => 0
  | .loop _ => 0
  | .lexit _ => 0
  | .trap _ => 0
  | .kend _ => 0
  | .sysord _ => 0
  | .evadd _ => 0
  | .claim _ => 0
  | .release _ => 0
  | .gstat _ => 0
  | .notify _ => 0
  | .sysc _ => 0
  | .eret _ => 0
  | .ychk _ => 0
  | .yield _ => 0
  | .wfe _ => 0
  | .evsig _ => 0
  | .movc _ => 0
  | .movcw _ => 0
  | .xsa _ => 0
  | .xsb _ => 0
  | .xsh _ => 0
  | .xsj _ => 0
  | .xsy _ => 0
  | .bar _ => 0
  | .bara _ => 0
  | .barw _ => 0
  | .bari _ => 0
  | .lnch _ => 0
  | .garm _ => 0
  | .hirq _ => 0
  | .pflip _ => 0
  | .bkpt _ => 0
  | .mark _ => 0
  | .vnop o => if o.sl then 2 else 1
  | .vadd o => if o.sl then 2 else 1
  | .vsub o => if o.sl then 2 else 1
  | .vmul o => if o.sl then 2 else 1
  | .vfma o => if o.sl then 2 else 1
  | .vfms o => if o.sl then 2 else 1
  | .vmin o => if o.sl then 2 else 1
  | .vmax o => if o.sl then 2 else 1
  | .vabs o => if o.sl then 2 else 1
  | .vneg o => if o.sl then 2 else 1
  | .vsqd o => if o.sl then 2 else 1
  | .vmulh o => if o.sl then 2 else 1
  | .vdot4 o => if o.sl then 2 else 1
  | .vand o => if o.sl then 2 else 1
  | .vor o => if o.sl then 2 else 1
  | .vxor o => if o.sl then 2 else 1
  | .vshl o => if o.sl then 2 else 1
  | .vshr o => if o.sl then 2 else 1
  | .vsra o => if o.sl then 2 else 1
  | .vceq o => if o.sl then 2 else 1
  | .vcne o => if o.sl then 2 else 1
  | .vclt o => if o.sl then 2 else 1
  | .vcle o => if o.sl then 2 else 1
  | .vsel o => if o.sl then 2 else 1
  | .kand o => if o.sl then 2 else 1
  | .kor o => if o.sl then 2 else 1
  | .kxor o => if o.sl then 2 else 1
  | .knot o => if o.sl then 2 else 1
  | .kpop o => if o.sl then 2 else 1
  | .vcvt o => if o.sl then 2 else 1
  | .vqblk o => if o.sl then 2 else 1
  | .vdqblk o => if o.sl then 2 else 1
  | .vrnd o => if o.sl then 2 else 1
  | .vexp2 o => if o.sl then 2 else 1
  | .vlog2 o => if o.sl then 2 else 1
  | .vrcp o => if o.sl then 2 else 1
  | .vrsq o => if o.sl then 2 else 1
  | .vsigm o => if o.sl then 2 else 1
  | .vtanh o => if o.sl then 2 else 1
  | .vrsum o => if o.sl then 2 else 1
  | .vrmax o => if o.sl then 2 else 1
  | .vrmin o => if o.sl then 2 else 1
  | .vscan o => if o.sl then 2 else 1
  | .vamax o => if o.sl then 2 else 1
  | .vmov o => if o.sl then 2 else 1
  | .vsq o => if o.sl then 2 else 1
  | .vxs o => if o.sl then 2 else 1
  | .vxab o => if o.sl then 2 else 1
  | .vspl o => if o.sl then 2 else 1
  | .viota o => if o.sl then 2 else 1
  | .vtag o => if o.sl then 2 else 1
  | .xprm _ => 6
  | .xpldA _ => 6
  | .xpldB _ => 6
  | .xzip _ => 6
  | .xuzp _ => 6
  | .xcmp _ => 6
  | .xexp _ => 6
  | .nmap _ => 7
  | .nmapx _ => 7
  | .npld _ => 7
  | .nmov _ => 7
  | .nxs _ => 7
  | .nli _ => 7
  | .mma _ => 3
  | .mmaz _ => 3
  | .mconv _ => 3
  | .mzero _ => 3
  | .mldz _ => 3
  | .mstz _ => 3
  | .mtag _ => 3
  | .mskp _ => 3
  | .mwait _ => 3
  | .tacq _ => 3
  | .trel _ => 3
  | .tldw _ => 3
  | .tlnc _ => 3
  | .tcap _ => 3
  | .trst _ => 3
  | .cpy o => if o.cb then 5 else 4
  | .cpys o => if o.cb then 5 else 4
  | .cpyt o => if o.cb then 5 else 4
  | .cpyw o => if o.cb then 5 else 4
  | .ldblk o => if o.cb then 5 else 4
  | .evblk o => if o.cb then 5 else 4
  | .bind o => if o.cb then 5 else 4
  | .unbd o => if o.cb then 5 else 4
  | .gthr o => if o.cb then 5 else 4
  | .sctr o => if o.cb then 5 else 4
  | .cwait o => if o.cb then 5 else 4
  | .cflag o => if o.cb then 5 else 4
  | .csig o => if o.cb then 5 else 4
  | .coll o => if o.cb then 5 else 4
  | .hadd o => if o.cb then 5 else 4
  | .hmov o => if o.cb then 5 else 4
  | .hli o => if o.cb then 5 else 4
  | .hxs o => if o.cb then 5 else 4
  | .fetchFill _ => 8
  | .branchResolution _ => 8
  | .checkpoint _ => 8
  | .storePerform _ => 8
  | .loadDataReturn _ => 8
  | .asyncTrap _ => 8
  | .forcedSave _ => 8
  | .savewaitEnd _ => 8
  | .eventLatchSet _ => 8
  | .matrixCommandBegin _ => 8
  | .matrixCommandComplete _ => 8
  | .copyCommandComplete _ _ => 8
  | .streamGroupArrival _ _ => 8
  | .streamOutputWrite _ _ => 8
  | .temporalGrant _ => 8
  | .temporalCommandBegin _ => 8
  | .temporalCommandComplete _ => 8
  | .barrierAccess _ => 8
  | .capstanIssue _ => 8
  | .regulationAdmit _ _ _ => 8
  | .regulatorTick => 8
  | .budget _ _ _ => 8
  | .l2Lookup _ => 8
  | .controllerAccess _ => 8
  | .translationWalk _ => 8
  | .wpgtAnswer _ _ => 8
  | .shadowInvalidate _ _ _ => 8
  | .channelRefresh _ _ => 8
  | .channelRetirement _ _ => 8
  | .clusterSwap _ => 8
  | .clusterRetire _ => 8
  | .coreRetire _ => 8
  | .sramRowRepair _ _ => 8
  | .l2WayRetire _ => 8
  | .walkerFailover _ => 8
  | .meshLinkFailure _ => 8
  | .dieLinkLoss _ => 8
  | .commandStreamTailWrite _ _ _ => 8
  | .commandStreamDisable _ _ => 8
  | .haltClear _ _ => 8
  | .streamEntryTake _ _ => 8
  | .nodeEnter _ _ => 8
  | .eventNode _ _ => 8
  | .hostirqNode _ _ => 8
  | .spliceNode _ _ => 8
  | .condNode _ _ => 8
  | .kernelRecordReady _ _ => 8
  | .groupPlacement _ => 8
  | .groupComplete _ _ _ => 8
  | .frameStart => 8
  | .windowGuard _ => 8
  | .windowEnd _ => 8
  | .contractLoad _ _ => 8
  | .start _ => 8
  | .stop _ => 8
  | .reset _ => 8
  | .resize _ _ => 8
  | .generate _ => 8
  | .importKey _ => 8
  | .erase _ => 8
  | .poolAlloc _ => 8
  | .poolFree _ => 8
  | .frameScrub => 8
  | .attestation _ => 8
  | .eventCounterAdd _ _ _ => 8
  | .irqTimer _ _ => 8
  | .vectorUnmask _ _ => 8
  | .hostClaim _ => 8
  | .hostRelease _ => 8
  | .debugStop _ => 8
  | .halt _ => 8
  | .resume _ => 8
  | .dbgDataWrite _ _ => 8
  | .traceEnable _ _ => 8
  | .traceSample _ _ => 8
  | .pmctlClr _ => 8
  | .counterLowRead _ _ => 8
  | .mcinv _ => 8
  | .replayGo _ => 8
  | .replayAbort _ => 8
  | .replayPass _ => 8
  | .perstN => 8
  | .dieBringup _ _ => 8
  | .full => 8
  | .thermalTrip => 8
  | .tsync => 8
  | .tsyncTimeout => 8
  | .functionLevelReset _ => 8
  | .hostWindowAccess _ _ _ _ => 8
  | .signalDetect _ => 8
  | .trainingComplete _ => 8
  | .trainingTimeout _ => 8
  | .rateFallback _ => 8
  | .linkReport _ _ => 8
  | .flitReceive _ _ => 8
  | .flitResend _ => 8
  | .flitSilence _ => 8
  | .rekey _ => 8
  | .remoteAccess _ => 8
  | .remoteResponse _ _ _ => 8
  | .collectiveComplete _ _ => 8
  | .collectiveTimeout _ => 8
  | .fcgrpWrite _ _ => 8
  | .portDown _ _ => 8
  | .peerLossNotice _ => 8
  | .abortMessage _ _ => 8
  | .abortAckTimeout _ => 8
  | .fabricDisable => 8
  | .fabLogRead => 8
  | .windowRewrite _ _ _ => 8
  | .windowRevocation _ => 8
  | .registerWrite _ _ _ => 8
  | .illegalEncoding _ => 8
  | .idleBundle _ => 8
  | .hostPhysicalAccess _ _ _ => 8
  | .gcMinWrite _ _ => 8
  | .pmcsrWrite _ => 8
  | .ieee11491 _ _ => 8
  | .powerLoss => 8
  | .recoveryMailbox _ => 8

/-- The word of an instruction: 32 or 64 bits (R17). A 64-bit S word has its second word in bits [63:32] (R18). -/
def Instr.encode (i : Instr) : Nat := pack i.fields

/-- The size in bits of an instruction's word (R17). -/
def Instr.bits (i : Instr) : Nat := (i.fields.map Prod.snd).sum

/-- A well-formed slot operation: R38 leaves no reserved value in its fields. -/
def keepWf : Option Instr → Option Instr
  | none => none
  | some i => if i.wf then some i else none

/-- The S slot: R40. -/
def decodeS (w : Nat) : Option Instr :=
  match bitsOf 31 24 w with
  | 0x0 => readSN .snop w
  | 0x1 => readSR .add w
  | 0x2 => readSR .sub w
  | 0x3 => readSR .mul w
  | 0x4 => readSR .mulh w
  | 0x5 => readSR .mulhu w
  | 0x6 => readSR .div w
  | 0x7 => readSR .divu w
  | 0x8 => readSR .rem w
  | 0x9 => readSR .remu w
  | 0xa => readSR .and w
  | 0xb => readSR .or w
  | 0xc => readSR .xor w
  | 0xd => readSR .shl w
  | 0xe => readSR .shr w
  | 0xf => readSR .sra w
  | 0x10 => readSR .min w
  | 0x11 => readSR .max w
  | 0x12 => readSR .minu w
  | 0x13 => readSR .maxu w
  | 0x14 => readSR2 0 .clz w
  | 0x15 => readSR2 0 .popc w
  | 0x16 => readSSel .sel w
  | 0x17 => readSR .addw w
  | 0x18 => readSLea .lea w
  | 0x19 => readSR2 0 .mov w
  | 0x20 => readSI .addi w
  | 0x21 => readSI .andi w
  | 0x22 => readSI .ori w
  | 0x23 => readSI .xori w
  | 0x24 => readSSh .shli w
  | 0x25 => readSSh .shri w
  | 0x26 => readSSh .srai w
  | 0x27 => readSI .muli w
  | 0x30 => readSC .ceq w
  | 0x31 => readSC .cne w
  | 0x32 => readSC .clt w
  | 0x33 => readSC .cge w
  | 0x34 => readSC .cltu w
  | 0x35 => readSC .cgeu w
  | 0x36 => readSCI .ceqi w
  | 0x37 => readSCI .cnei w
  | 0x38 => readSCI .clti w
  | 0x39 => readSCI .cgei w
  | 0x3a => readSGl .gand w
  | 0x3b => readSGl .gor w
  | 0x3c => readSGl .gxor w
  | 0x3d => readSGs .gset w
  | 0x40 => readSL .movi w
  | 0x41 => readSL .movhi w
  | 0x42 => readSL .addil w
  | 0x48 => readSF .fadd w
  | 0x49 => readSF .fsub w
  | 0x4a => readSF .fmul w
  | 0x4b => readSF .fma w
  | 0x4c => readSF .fmin w
  | 0x4d => readSF .fmax w
  | 0x4e => readSFcvt .fcvt w
  | 0x4f => readSFc .fceq w
  | 0x50 => readSFc .fclt w
  | 0x51 => readSFc .fcle w
  | 0x60 => readSI .ldB w
  | 0x61 => readSI .ldH w
  | 0x62 => readSI .ldW w
  | 0x63 => readSI .ldD w
  | 0x64 => readSI .ldsB w
  | 0x65 => readSI .ldsH w
  | 0x66 => readSI .ldsW w
  | 0x68 => readSI .stB w
  | 0x69 => readSI .stH w
  | 0x6a => readSI .stW w
  | 0x6b => readSI .stD w
  | 0x6c => readSX .lda w
  | 0x6d => readSX .stl w
  | 0x70 => readSX .amoadd w
  | 0x71 => readSX .amoswp w
  | 0x72 => readSX .amocas w
  | 0x73 => readSX .amomin w
  | 0x74 => readSX .amomax w
  | 0x75 => readSX .amoand w
  | 0x76 => readSX .amoor w
  | 0x77 => readSX .amoxor w
  | 0x78 => readSX .scld w
  | 0x79 => readSX .scst w
  | 0x7a => readSX .scamo w
  | 0x7c => readSFence .fence w
  | 0x7d => readSPf .pfence w
  | 0x7e => readSFence .drain w
  | 0x80 => readSB .br w
  | 0x81 => readSB .jal w
  | 0x82 => readSJr .jr w
  | 0x83 => readSR2 0 .jalr w
  | 0x84 => readSLoop .loop w
  | 0x85 => readSN .lexit w
  | 0x88 => readSTrap .trap w
  | 0x89 =>
    match w % 512 with
    | 0 => readSR2 0 .kend w
    | 1 => readSR2 1 .sysord w
    | 2 => readSR2 2 .evadd w
    | 3 => readSR2 3 .claim w
    | 4 => readSR2 4 .release w
    | 5 => readSR2 5 .gstat w
    | 6 => readSR2 6 .notify w
    | _ => readSSvc .sysc w
  | 0x8a => readSN .eret w
  | 0x8b => readSYc .ychk w
  | 0x8c => readSN .yield w
  | 0x8d => readSN .wfe w
  | 0x8e => readSEv .evsig w
  | 0x90 => readSMovc .movc w
  | 0x91 => readSLoop .movcw w
  | 0x98 => readSXv .xsa w
  | 0x99 => readSXv .xsb w
  | 0x9a => readSXh .xsh w
  | 0x9b => readSXh .xsj w
  | 0x9c => readSXh .xsy w
  | 0xa0 => readSBar .bar w
  | 0xa1 => readSBar .bara w
  | 0xa2 => readSBar .barw w
  | 0xa3 => readSBar .bari w
  | 0xb0 => readSR2 0 .lnch w
  | 0xb1 => readSGarm .garm w
  | 0xb2 => readSHirq .hirq w
  | 0xb3 => readSD .pflip w
  | 0xd0 => readSBk .bkpt w
  | 0xd1 => readSLoop .mark w
  | _ => none

/-- The VA and VB slots: R41. -/
def decodeV (sl : Bool) (w : Nat) : Option Instr :=
  match bitsOf 30 24 w with
  | 0x0 => readV0 sl .vnop w
  | 0x1 => readV3 sl .vadd w
  | 0x2 => readV3 sl .vsub w
  | 0x3 => readV3 sl .vmul w
  | 0x4 => readV3 sl .vfma w
  | 0x5 => readV3 sl .vfms w
  | 0x6 => readV3 sl .vmin w
  | 0x7 => readV3 sl .vmax w
  | 0x8 => readV2 sl .vabs w
  | 0x9 => readV2 sl .vneg w
  | 0xa => readV3 sl .vsqd w
  | 0xb => readV3 sl .vmulh w
  | 0xc => readV3 sl .vdot4 w
  | 0x10 => readV3 sl .vand w
  | 0x11 => readV3 sl .vor w
  | 0x12 => readV3 sl .vxor w
  | 0x13 => readV3 sl .vshl w
  | 0x14 => readV3 sl .vshr w
  | 0x15 => readV3 sl .vsra w
  | 0x20 => readVC sl .vceq w
  | 0x21 => readVC sl .vcne w
  | 0x22 => readVC sl .vclt w
  | 0x23 => readVC sl .vcle w
  | 0x24 => readV3 sl .vsel w
  | 0x28 => readVK sl .kand w
  | 0x29 => readVK sl .kor w
  | 0x2a => readVK sl .kxor w
  | 0x2b => readVK1 sl .knot w
  | 0x2c => readVKp sl .kpop w
  | 0x30 => readVCv sl .vcvt w
  | 0x31 => readVQb sl .vqblk w
  | 0x32 => readVDq sl .vdqblk w
  | 0x33 => readVRn sl .vrnd w
  | 0x38 => readV2 sl .vexp2 w
  | 0x39 => readV2 sl .vlog2 w
  | 0x3a => readV2 sl .vrcp w
  | 0x3b => readV2 sl .vrsq w
  | 0x3c => readV2 sl .vsigm w
  | 0x3d => readV2 sl .vtanh w
  | 0x40 => readV2 sl .vrsum w
  | 0x41 => readV2 sl .vrmax w
  | 0x42 => readV2 sl .vrmin w
  | 0x43 => readV2 sl .vscan w
  | 0x44 => readV2 sl .vamax w
  | 0x50 => readV2 sl .vmov w
  | 0x51 => readVSq sl .vsq w
  | 0x52 => readV2 sl .vxs w
  | 0x53 => readV2 sl .vxab w
  | 0x54 => readVB1 sl .vspl w
  | 0x55 => readVB1 sl .viota w
  | 0x56 => readVTg sl .vtag w
  | _ => none

/-- The M slot: R42. -/
def decodeM (w : Nat) : Option Instr :=
  match bitsOf 63 56 w with
  | 0x1 => readMM .mma w
  | 0x2 => readMM .mmaz w
  | 0x3 => readMM .mconv w
  | 0x4 => readMZ .mzero w
  | 0x5 => readML .mldz w
  | 0x6 => readMS .mstz w
  | 0x7 => readMT .mtag w
  | 0x8 => readMK .mskp w
  | 0x9 => readMW .mwait w
  | 0x10 => readT0 .tacq w
  | 0x11 => readT0 .trel w
  | 0x12 => readT1 .tldw w
  | 0x13 => readTL .tlnc w
  | 0x14 => readT1 .tcap w
  | 0x15 => readT0 .trst w
  | _ => none

/-- The CA and CB slots: R43. -/
def decodeC (cb : Bool) (w : Nat) : Option Instr :=
  match bitsOf 63 56 w with
  | 0x1 => readCC cb .cpy w
  | 0x2 => readCS cb .cpys w
  | 0x3 => readCT cb .cpyt w
  | 0x4 => readCT cb .cpyw w
  | 0x5 => readCT cb .ldblk w
  | 0x6 => readCE cb .evblk w
  | 0x7 => readCBd cb .bind w
  | 0x8 => readCU cb .unbd w
  | 0x9 => readCG cb .gthr w
  | 0xa => readCG cb .sctr w
  | 0xb => readCW cb .cwait w
  | 0xc => readCF cb .cflag w
  | 0xd => readCSg cb .csig w
  | 0xe => readCL cb .coll w
  | 0x10 => readCH cb .hadd w
  | 0x11 => readCM cb .hmov w
  | 0x12 => readCI cb .hli w
  | 0x13 => readCX cb .hxs w
  | _ => none

/-- The X slot: R44. -/
def decodeX (w : Nat) : Option Instr :=
  match bitsOf 31 24 w with
  | 0x1 => readXP .xprm w
  | 0x2 => if bitOf 15 w then readXL true .xpldB w else readXL false .xpldA w
  | 0x3 => readXZ .xzip w
  | 0x4 => readXZ .xuzp w
  | 0x5 => readXC .xcmp w
  | 0x6 => readXC .xexp w
  | _ => none

/-- The N slot: R44. -/
def decodeN (w : Nat) : Option Instr :=
  match bitsOf 31 24 w with
  | 0x1 => readNM .nmap w
  | 0x2 => readNMx .nmapx w
  | 0x3 => readNP .npld w
  | 0x4 => readNV .nmov w
  | 0x5 => readNX .nxs w
  | 0x6 => readNL .nli w
  | _ => none
/-- The instruction of a slot's word, or none when the word is an illegal encoding (R38, R39). -/
def decodeSlot (k w : Nat) : Option Instr :=
  keepWf (match k with
    | 0 => decodeS w
    | 1 => decodeV false w
    | 2 => decodeV true w
    | 3 => decodeM w
    | 4 => decodeC false w
    | 5 => decodeC true w
    | 6 => decodeX w
    | 7 => decodeN w
    | _ => none)

/-- The S word takes 64 bits when OP lies in 0x40-0x47 or 0x6C-0x7F, assigned or not (R17). -/
def longS (op : Nat) : Bool := (0x40 ≤ op && op ≤ 0x47) || (0x6C ≤ op && op ≤ 0x7F)

/-- The number of 32-bit words of the word of slot k whose first 32 bits are w (R17). -/
def slotWords (k w : Nat) : Nat :=
  if k = 0 then (if longS (bitsOf 31 24 w) then 2 else 1)
  else if k = 3 ∨ k = 4 ∨ k = 5 then 2 else 1

/-- The header of a bundle, R20. -/
structure Header where
  mask : Nat
  dbg : Bool
  ckp : Bool
  cap : Bool
  idle : Nat
  rsv : Bool
  deriving DecidableEq, Repr

/-- Read a header word (R20). -/
def readHeader (w : Nat) : Header :=
  { mask := bitsOf 7 0 w, dbg := bitOf 8 w, ckp := bitOf 9 w, cap := bitOf 10 w, idle := bitsOf 14 11 w,
    rsv := bitsOf 31 15 w != 0 }

/-- The header word of a bundle (R20). -/
def encodeHeader (mask : Nat) (dbg ckp cap : Bool) (idle : Nat) : Nat :=
  mask + dbg.toNat * 256 + ckp.toNat * 512 + cap.toNat * 1024 + idle * 2048

/-- A bundle taken apart: its header, the words of the slots that take part in MASK order, its length in bytes. -/
structure Bundle where
  hdr : Header
  words : List (Nat × Nat)
  len : Nat
  deriving DecidableEq, Repr

/-- The slot words of a bundle, read from its 32-bit words (R16, R17). -/
def splitWords (mask : Nat) : List Nat → List Nat → List (Nat × Nat) × Nat
  | [], _ => ([], 0)
  | k :: ks, ws =>
    if bitOf k mask then
      match slotWords k (ws.headD 0), ws with
      | 2, a :: b :: r =>
        let t := splitWords mask ks r
        ((k, a + 2 ^ 32 * b) :: t.1, 8 + t.2)
      | _, a :: r =>
        let t := splitWords mask ks r
        ((k, a) :: t.1, 4 + t.2)
      | _, [] => ([], 0)
    else splitWords mask ks ws

/-- Read one little-endian 32-bit word (R18). -/
def word32 (b : List Nat) : Nat :=
  b.getD 0 0 + 2 ^ 8 * b.getD 1 0 + 2 ^ 16 * b.getD 2 0 + 2 ^ 24 * b.getD 3 0

/-- The 32-bit words of a byte list, n of them. -/
def words32 : Nat → List Nat → List Nat
  | 0, _ => []
  | n + 1, b => word32 b :: words32 n (b.drop 4)

/-- Take apart the bundle that begins with the given bytes; 52 of them always suffice (R17). -/
def splitBundle (b : List Nat) : Bundle :=
  let ws := words32 13 b
  let h := readHeader (ws.headD 0)
  let t := splitWords h.mask [0, 1, 2, 3, 4, 5, 6, 7] ws.tail
  { hdr := h, words := t.1, len := 4 + t.2 }

/-- SCOPE of a copy word holds a reserved code (R10, R43). -/
def scopeReserved (k w : Nat) : Bool := (k == 4 || k == 5) && decide (6 ≤ bitsOf 29 27 w)

/-- The instruction of a slot's word in a bundle. A reserved code in the SCOPE bits of a copy word is left to check 5 of R51
whether its opcode uses the field or not (R38). -/
def decodeWord (k w : Nat) : Option Instr :=
  match decodeSlot k w with
  | some i => some i
  | none => if scopeReserved k w then decodeSlot k (w - bitsOf 29 27 w * 2 ^ 27) else none

/-- The slots whose copy word has a reserved code in SCOPE bits that its opcode does not use (R48 condition 7). -/
def scopeSlots (l : List (Nat × Nat)) : Nat :=
  l.foldl (fun m p => if scopeReserved p.1 p.2 && (decodeSlot p.1 p.2).isNone then m ||| 2 ^ p.1 else m) 0

/-- The outcome of decoding the words of a bundle: the instructions in MASK order, or the slots whose word is an
illegal encoding (check 4 of R51). -/
def decodeWords : List (Nat × Nat) → List Instr × Nat
  | [] => ([], 0)
  | (k, w) :: t =>
    let r := decodeWords t
    match decodeWord k w with
    | some i => (i :: r.1, r.2)
    | none => (r.1, r.2 ||| 2 ^ k)

/-- The little-endian bytes of a number. -/
def leBytes : Nat → Nat → List Nat
  | 0, _ => []
  | n + 1, w => w % 256 :: leBytes n (w / 256)

/-- The bytes of a one-slot bundle around a word of slot k, with CAP set so that an SC operation is legal (R23, R48). -/
def oneSlotBytes (k nbytes w : Nat) : List Nat :=
  leBytes 4 (encodeHeader (2 ^ k) false false true 0) ++ leBytes nbytes w

/-- The slot a table word is read for: a 32-bit word is read for the first of S (but for the opcodes of a long S
word), VA, X and N that takes it, a 64-bit word for the first of S, M and CA (a word alone does not name its
slot; DESIGN CHOICE, log entry 2). -/
def tableSlot (nbits w : Nat) : Nat :=
  if nbits = 64 then
    (if (decodeSlot 0 w).isSome && longS (bitsOf 31 24 w) then 0
     else if (decodeSlot 3 w).isSome then 3 else 4)
  else if (decodeSlot 0 w).isSome && !longS (bitsOf 31 24 w) then 0
  else if (decodeSlot 1 w).isSome then 1
  else if (decodeSlot 6 w).isSome then 6
  else 7

/-- The instruction the decoder reads from a word of nbits bits numbered as the opcode table numbers them: the word
is laid out in a one-slot bundle, and the bundle is decoded. -/
def decodeTableWord (nbits w : Nat) : Option Instr :=
  let k := tableSlot nbits w
  let b := splitBundle (oneSlotBytes k 8 w)
  match decodeWords b.words with
  | ([i], 0) => some i
  | _ => none

end Sys2Proof
end

