-- ==== Sys2Proof/Machine/Cipher.lean ====
section
/-! DEFINITION. The inline cipher of the memory controllers (R362): AES with keys of 256 bits in the XTS mode, over the eight
16-byte blocks of a line, and that of the flits, AES-256-GCM (R516). The rules name the algorithm and leave it to its standards, which the definitions below follow
(PRESUMED, log entry 8). A byte is a number below 256, a block is a list of 16 bytes. -/

namespace Sys2Proof.Machine.Cipher

/-- Twice an element of the field of 256 elements, whose polynomial is 0x11B. -/
def double (b : Nat) : Nat := if b < 128 then 2 * b else (2 * b - 256) ^^^ 0x1B

/-- A multiple of an element by a factor of n bits. -/
def times (a : Nat) : Nat → Nat → Nat
  | 0, _ => 0
  | n + 1, b => (if b % 2 = 1 then a else 0) ^^^ times (double a) n (b / 2)

/-- The substitution of one byte: its inverse, then the affine map. -/
def substitute (b : Nat) : Nat :=
  let inv := ((List.range 256).find? (fun x => times b 8 x == 1)).getD 0
  let turned (k : Nat) : Nat := inv * 2 ^ k % 256 + inv * 2 ^ k / 256
  inv ^^^ turned 1 ^^^ turned 2 ^^^ turned 3 ^^^ turned 4 ^^^ 0x63

/-- The substitution of every byte. -/
def box : List Nat := (List.range 256).map substitute
/-- Its inverse. -/
def boxBack : List Nat := (List.range 256).map (fun y => (box.findIdx? (fun v => v == y)).getD 0)

/-- The bytewise exclusive or. -/
def blend (a b : List Nat) : List Nat := List.zipWith (fun x y => x ^^^ y) a b

/-- The first 8 + n words of the key schedule, the newest first. -/
def schedule (key : List Nat) : Nat → List (List Nat)
  | 0 => (List.range 8).reverse.map (fun i => (key.drop (4 * i)).take 4)
  | n + 1 =>
    let w := schedule key n
    let s := (w.getD 0 []).map (fun b => box.getD b 0)
    let t := if n % 8 = 0 then blend (s.drop 1 ++ s.take 1) [2 ^ (n / 8), 0, 0, 0]
      else if n % 8 = 4 then s else w.getD 0 []
    blend (w.getD 7 []) t :: w

/-- The 15 round keys, the first one first. -/
def roundKeys (key : List Nat) : List (List Nat) :=
  let w := (schedule key 52).reverse
  (List.range 15).map (fun r => ((w.drop (4 * r)).take 4).flatten)

/-- Row r of the block moves by r places to the left; for n = 3 the opposite of n = 1. -/
def shiftRows (n : Nat) (x : List Nat) : List Nat :=
  (List.range 16).map (fun i => x.getD (4 * ((i / 4 + n * (i % 4)) % 4) + i % 4) 0)

/-- Each column of the block times a polynomial with the given factors. -/
def mixColumns (f : List Nat) (x : List Nat) : List Nat :=
  (List.range 16).map (fun i => (List.range 4).foldl (fun t j =>
    t ^^^ times (x.getD (4 * (i / 4) + j) 0) 4 (f.getD ((j + 4 - i % 4) % 4) 0)) 0)

/-- Encrypt a block. -/
def encrypt (ks : List (List Nat)) (x : List Nat) : List Nat :=
  (List.range 14).foldl (fun x r =>
    let y := shiftRows 1 (x.map (fun b => box.getD b 0))
    blend (if r = 13 then y else mixColumns [2, 3, 1, 1] y) (ks.getD (r + 1) [])) (blend x (ks.getD 0 []))

/-- Decrypt a block. -/
def decrypt (ks : List (List Nat)) (x : List Nat) : List Nat :=
  (List.range 14).foldl (fun x r =>
    let y := (shiftRows 3 x).map (fun b => boxBack.getD b 0)
    let z := blend y (ks.getD (13 - r) [])
    if r = 13 then z else mixColumns [14, 11, 13, 9] z) (blend x (ks.getD 14 []))

/-- The number of a block and the block of a number, the first byte lowest. -/
def blockNat : List Nat → Nat
  | [] => 0
  | b :: t => b + 256 * blockNat t
/-- The first n bytes of a number. -/
def natBlock (n v : Nat) : List Nat := (List.range n).map (fun i => v / 256 ^ i % 256)

/-- The tweaks of successive blocks: each is twice the one before in the field of 2^128 elements. -/
def tweaks (t : List Nat) : Nat → List (List Nat)
  | 0 => []
  | n + 1 =>
    let v := 2 * blockNat t
    t :: tweaks (natBlock 16 (if v < 2 ^ 128 then v else (v - 2 ^ 128) ^^^ 0x87)) n

/-- A line of 128 bytes, encrypted or decrypted under the 64 bytes of a key slot: the first 32 are the key of the data, the
others that of the tweak, which is PA[51:7] (R362). -/
def line (enc : Bool) (key : List Nat) (pa : Nat) (b : List Nat) : List Nat :=
  let ks := roundKeys (key.take 32)
  let ts := tweaks (encrypt (roundKeys (key.drop 32)) (natBlock 16 (pa / 128))) 8
  (List.range 8).flatMap (fun i =>
    let t := ts.getD i []
    let x := blend ((b.drop (16 * i)).take 16) t
    blend (if enc then encrypt ks x else decrypt ks x) t)

/-! ### AES-256-GCM (R516) -/

/-- The number of a block whose first byte is the highest. -/
def highFirst (b : List Nat) : Nat := b.foldl (fun v x => 256 * v + x) 0

/-- A product in the field of 2^128 elements of the tag: n bits of x from the highest on, v the multiple for the next one. -/
def fieldTimes (x : Nat) : Nat → Nat → Nat
  | 0, _ => 0
  | n + 1, v => (if x / 2 ^ n % 2 = 1 then v else 0) ^^^
      fieldTimes x n (if v % 2 = 1 then v / 2 ^^^ (0xE1 * 2 ^ 120) else v / 2)

/-- Zeros up to whole blocks. -/
def padBlocks (b : List Nat) : List Nat := b ++ List.replicate ((16 - b.length % 16) % 16) 0

/-- The hash of the tag over whole blocks. -/
def tagHash (h : Nat) (b : List Nat) : Nat :=
  (List.range (b.length / 16)).foldl (fun y i => fieldTimes (y ^^^ highFirst ((b.drop (16 * i)).take 16)) 128 h) 0

/-- Encrypt under a key and a nonce of 12 bytes, with additional data: the ciphertext and the tag. -/
def gcm (key nonce extra b : List Nat) : List Nat × List Nat :=
  let ks := roundKeys key
  let count (i : Nat) : List Nat := encrypt ks (nonce ++ (natBlock 4 i).reverse)
  let h := highFirst (encrypt ks (List.replicate 16 0))
  let c := (List.range ((b.length + 15) / 16)).flatMap (fun i => blend ((b.drop (16 * i)).take 16) (count (i + 2)))
  let bits (l : List Nat) : List Nat := (natBlock 8 (8 * l.length)).reverse
  let y := tagHash h (padBlocks extra ++ padBlocks c ++ bits extra ++ bits c)
  (c, blend (natBlock 16 y).reverse (count 1))

end Sys2Proof.Machine.Cipher
end

