-- ==== Sys2Proof/Machine/Num.lean ====
section
/-! DEFINITION. The numbers of the manual's formats (R66 to R108): exact values, the five rounding modes, the
bit patterns of every format, e2m1 blocks, conversions, and the six special functions (R174, R175). -/

namespace Sys2Proof.Machine

/-- A value of a float format before or after rounding: NaN, an infinity, or (-1)^neg · m · 2^e (R71). A zero keeps
its sign (R75). -/
inductive Num where
  | nan
  | inf (neg : Bool)
  | fin (neg : Bool) (m : Nat) (e : Int)
  deriving DecidableEq, Repr

/-- A rounding mode of R97; stochastic rounding carries the low 16 bits of the stepped register (R101). -/
inductive RMode where
  | rne
  | rz
  | rp
  | rm
  | rs (st : Nat)
  deriving DecidableEq, Repr

/-- The mode of a 2-bit or 3-bit code other than the stochastic one (R97). -/
def RMode.ofCode (c : Nat) : RMode :=
  match c with
  | 1 => .rz
  | 2 => .rp
  | 3 => .rm
  | _ => .rne

/-- A binary float format: significand bits, exponent of the smallest subnormal, the largest finite value
maxSig · 2^maxExp, its width, whether it has infinities, and its canonical NaN (R71, R78, R94). -/
structure FFmt where
  p : Nat
  q : Int
  maxSig : Nat
  maxExp : Int
  width : Nat
  hasInf : Bool
  cnan : Nat
  deriving DecidableEq, Repr

/-- binary16, R71. -/
def f16 : FFmt := ⟨11, -24, 2047, 5, 16, true, 0x7E00⟩
/-- bfloat16, R71. -/
def bf16 : FFmt := ⟨8, -133, 255, 120, 16, true, 0x7FC0⟩
/-- binary32, R71. -/
def f32 : FFmt := ⟨24, -149, 2 ^ 24 - 1, 104, 32, true, 0x7FC00000⟩
/-- e4m3, R78: no infinities. -/
def e4m3 : FFmt := ⟨4, -9, 14, 5, 8, false, 0x7F⟩
/-- e5m2, R78. -/
def e5m2 : FFmt := ⟨3, -16, 7, 13, 8, true, 0x7E⟩
/-- The accumulator float x48, R94. -/
def x48 : FFmt := ⟨38, -547, 2 ^ 38 - 1, 474, 48, true, 0x7FF000000000⟩

/-- The magnitude code of infinity: an exponent field of all ones (R71). -/
def FFmt.infMag (f : FFmt) : Nat := 2 ^ (f.width - 1) - 2 ^ (f.p - 1)

/-- The value of a bit pattern, R71, R72, R78, R94. -/
def FFmt.decode (f : FFmt) (b : Nat) : Num :=
  let neg := b.testBit (f.width - 1)
  let mag := b % 2 ^ (f.width - 1)
  let ef := mag / 2 ^ (f.p - 1)
  let fr := mag % 2 ^ (f.p - 1)
  if f.hasInf && decide (mag ≥ f.infMag) then (if mag = f.infMag then .inf neg else .nan)
  else if !f.hasInf && mag == f.cnan then .nan
  else if ef = 0 then .fin neg fr f.q
  else .fin neg (fr + 2 ^ (f.p - 1)) (f.q + ef - 1)

/-- The sign bit of a pattern. -/
def FFmt.signBit (f : FFmt) (neg : Bool) : Nat := if neg then 2 ^ (f.width - 1) else 0

/-- The pattern of the largest finite magnitude. -/
def FFmt.maxMag (f : FFmt) : Nat := ((f.maxExp - f.q).toNat) * 2 ^ (f.p - 1) + f.maxSig

/-- The number of bits of a magnitude. -/
def bitLen (m : Nat) : Nat := if m = 0 then 0 else Nat.log2 m + 1

/-- Whether a truncated magnitude with remainder r out of 2^s is rounded away from zero (R98, R101). `odd` is the
low bit of the truncated magnitude. -/
def roundAway (mode : RMode) (neg odd : Bool) (r s : Nat) : Bool :=
  match mode with
  | .rne => decide (2 * r > 2 ^ s) || (decide (2 * r = 2 ^ s) && odd)
  | .rz => false
  | .rp => !neg && r != 0
  | .rm => neg && r != 0
  | .rs st =>
    if r = 0 then false
    else if neg then !(decide (st < (2 ^ s - r) * 2 ^ 16 / 2 ^ s))
    else decide (st < r * 2 ^ 16 / 2 ^ s)

/-- A magnitude m · 2^e rounded to a multiple of 2^q, as that multiple. -/
def roundMul (mode : RMode) (neg : Bool) (m : Nat) (e q : Int) : Nat :=
  if e ≥ q then m * 2 ^ (e - q).toNat
  else
    let s := (q - e).toNat
    let n := m / 2 ^ s
    if roundAway mode neg (n % 2 == 1) (m % 2 ^ s) s then n + 1 else n

/-- The pattern of an overflowing magnitude (R79, R100). -/
def FFmt.overflow (f : FFmt) (mode : RMode) (neg : Bool) : Nat :=
  f.signBit neg +
    (if f.hasInf then
      (match mode with
       | .rne => f.infMag
       | .rz => f.maxMag
       | .rp => if neg then f.maxMag else f.infMag
       | .rm => if neg then f.infMag else f.maxMag
       | .rs _ => f.infMag)
     else f.maxMag)

/-- The quantum, the exponent of the unit in the last place, of a magnitude m · 2^e (m not zero). -/
def FFmt.quantum (f : FFmt) (m : Nat) (e : Int) : Int := max f.q (e + (bitLen m : Int) - (f.p : Int))

/-- RND(x, fmt, mode), R98 to R101: the bit pattern. -/
def FFmt.round (f : FFmt) (mode : RMode) : Num → Nat
  | .nan => f.cnan
  | .inf neg => f.signBit neg + (if f.hasInf then f.infMag else f.maxMag)
  | .fin neg m e =>
    if m = 0 then f.signBit neg
    else
      let q := f.quantum m e
      let n := roundMul mode neg m e q
      let code := (q - f.q).toNat * 2 ^ (f.p - 1) + n
      if code > f.maxMag then f.overflow mode neg else f.signBit neg + code

/-- A float value rounded to an integer by the mode (R104, R170). -/
def roundInt (mode : RMode) (neg : Bool) (m : Nat) (e : Int) : Int :=
  let n : Int := roundMul mode neg m e 0
  if neg then -n else n

/-- The value of an integer. -/
def Num.ofInt (i : Int) : Num := .fin (decide (i < 0)) i.natAbs 0

/-- The signed integer m · 2^(e - q) of a finite value, q at most e. -/
def alignTo (neg : Bool) (m : Nat) (e q : Int) : Int :=
  let v : Int := m * 2 ^ (e - q).toNat
  if neg then -v else v

/-- The exact sum (R75, R106). -/
def Num.add (mode : RMode) : Num → Num → Num
  | .nan, _ => .nan
  | _, .nan => .nan
  | .inf s, .inf t => if s = t then .inf s else .nan
  | .inf s, .fin .. => .inf s
  | .fin .., .inf s => .inf s
  | .fin s m e, .fin t n g =>
    let q := min e g
    let v := alignTo s m e q + alignTo t n g q
    if v = 0 then .fin (if s = t then s else decide (mode = .rm)) 0 0
    else .fin (decide (v < 0)) v.natAbs q

/-- The value with its sign flipped. -/
def Num.neg : Num → Num
  | .nan => .nan
  | .inf s => .inf (!s)
  | .fin s m e => .fin (!s) m e

/-- The value with its sign cleared. -/
def Num.abs : Num → Num
  | .nan => .nan
  | .inf _ => .inf false
  | .fin _ m e => .fin false m e

/-- The exact product; infinity times zero is NaN (R106). -/
def Num.mul : Num → Num → Num
  | .nan, _ => .nan
  | _, .nan => .nan
  | .inf s, .inf t => .inf (s != t)
  | .inf s, .fin t m _ => if m = 0 then .nan else .inf (s != t)
  | .fin t m _, .inf s => if m = 0 then .nan else .inf (s != t)
  | .fin s m e, .fin t n g => .fin (s != t) (m * n) (e + g)

/-- Whether the value is NaN. -/
def Num.isNan : Num → Bool
  | .nan => true
  | _ => false

/-- A comparable key: a < b on non-NaN values, with -0 equal to +0 (R74). -/
def Num.lt : Num → Num → Bool
  | .nan, _ => false
  | _, .nan => false
  | .inf s, .inf t => s && !t
  | .inf s, .fin .. => s
  | .fin .., .inf t => !t
  | .fin s m e, .fin t n g =>
    let q := min e g
    decide (alignTo s m e q < alignTo t n g q)

/-- Equality of values: -0 equals +0, NaN equals nothing (R74). -/
def Num.eq (a b : Num) : Bool := !a.isNan && !b.isNan && !a.lt b && !b.lt a

/-- The sign of a value. -/
def Num.sign : Num → Bool
  | .nan => false
  | .inf s => s
  | .fin s _ _ => s

/-- The float minimum of R74: -0 orders below +0; one NaN gives the other operand. -/
def Num.min (a b : Num) : Num :=
  if a.isNan then b else if b.isNan then a
  else if a.lt b then a else if b.lt a then b
  else if a.sign then a else b

/-- The float maximum of R74. -/
def Num.max (a b : Num) : Num :=
  if a.isNan then b else if b.isNan then a
  else if a.lt b then b else if b.lt a then a
  else if a.sign then b else a

/-! ### Element formats (R66) -/

/-- The element size in bits of a format tag (R66). -/
def tagBits (t : Nat) : Nat :=
  match t with
  | 0 => 8 | 1 => 8 | 2 => 16 | 3 => 16 | 4 => 32 | 5 => 32 | 6 => 64 | 7 => 16 | 8 => 16 | 9 => 32
  | 10 => 8 | 11 => 8 | 12 => 4 | 13 => 16 | _ => 8

/-- Integer tags other than t8. -/
def isIntTag (t : Nat) : Bool := decide (t ≤ 6)
/-- Binary float tags. -/
def isFloatTag (t : Nat) : Bool := decide (7 ≤ t) && decide (t ≤ 11)
/-- Signed integer tags. -/
def isSignedTag (t : Nat) : Bool := t == 0 || t == 2 || t == 4 || t == 6

/-- The float format of a float tag. -/
def floatFmt (t : Nat) : FFmt :=
  match t with
  | 7 => f16
  | 8 => bf16
  | 10 => e4m3
  | 11 => e5m2
  | _ => f32

/-- The least integer of an integer tag (R69). -/
def tagMin (t : Nat) : Int := if isSignedTag t then -(2 ^ (tagBits t - 1) : Nat) else 0
/-- The greatest integer of an integer tag (R69). -/
def tagMax (t : Nat) : Int :=
  if isSignedTag t then (2 ^ (tagBits t - 1) : Nat) - 1 else (2 ^ tagBits t : Nat) - 1

/-- SAT(x, fmt) on an integer tag, R70. -/
def satInt (t : Nat) (x : Int) : Int := if x < tagMin t then tagMin t else if x > tagMax t then tagMax t else x

/-- The integer of an element of an integer tag. -/
def intOf (t b : Nat) : Int := if isSignedTag t then signedOf (tagBits t) b else ((b % 2 ^ tagBits t : Nat) : Int)

/-- The value of an element of a float or integer tag, and of t8, whose NEV reads as +∞ (R91, R93). -/
def numOf (t b : Nat) : Num :=
  if isFloatTag t then (floatFmt t).decode (b % 2 ^ tagBits t)
  else if t = 14 then (if b % 256 = 255 then .inf false else Num.ofInt (b % 256 : Nat))
  else if t = 13 then Num.ofInt ((b % 2 ^ 16 : Nat) : Int)
  else Num.ofInt (intOf t b)

/-- A value taken to an integer tag: rounded, then saturated; NaN gives 0 (R104). -/
def toIntTag (mode : RMode) (t : Nat) : Num → Nat
  | .nan => 0
  | .inf neg => patOf (tagBits t) (if neg then tagMin t else tagMax t)
  | .fin neg m e => patOf (tagBits t) (satInt t (roundInt mode neg m e))

/-- A value taken to t8 (R93). -/
def toT8 (mode : RMode) : Num → Nat
  | .nan => 255
  | .inf neg => if neg then 0 else 255
  | .fin neg m e =>
    let i := roundInt mode neg m e
    if i < 0 then 0 else if i > 254 then 255 else i.toNat

/-- The conversion of one element between float, integer and t8 formats (R93, R104). From t8, NEV gives +∞, the
canonical NaN of e4m3, or the maximum of an integer format. -/
def convElem (mode : RMode) (src dst b : Nat) : Nat :=
  if src = 14 ∧ b % 256 = 255 ∧ dst = 10 then e4m3.cnan
  else if src = 14 ∧ b % 256 = 255 ∧ dst = 14 then 255
  else
    let x := numOf src b
    if isFloatTag dst then (floatFmt dst).round mode x
    else if dst = 14 then toT8 mode x
    else toIntTag mode dst x

/-! ### e2m1 blocks (R80 to R90) -/

/-- The magnitude of an e2m1 code in halves (R80). -/
def e2Half (c : Nat) : Nat :=
  match c % 8 with
  | 0 => 0 | 1 => 1 | 2 => 2 | 3 => 3 | 4 => 4 | 5 => 6 | 6 => 8 | _ => 12

/-- The X6 magnitude in sixteenths: 2^(e-2)·(1 + m/4), zero for e = 0 (R84). -/
def x6Sixteenths (x6 : Nat) : Nat :=
  let e := bitsOf 4 2 x6
  let m := bitsOf 1 0 x6
  if e = 0 then 0 else (4 + m) * 2 ^ e

/-- The S10 scale: none for a NaN block, else (significand, exponent) with value significand · 2^exponent (R83). -/
def s10Value (s10 : Nat) : Option (Nat × Int) :=
  let E := bitsOf 9 2 s10
  let M := bitsOf 1 0 s10
  if E = 255 then none
  else if E = 0 then (if M = 0 then some (0, 0) else some (4 + M, -129))
  else some (4 + M, (E : Int) - 129)

/-- The value of an e2m1 element under its block's halfword (R85). -/
def e2m1Value (half code : Nat) : Num :=
  match s10Value (half % 1024) with
  | none => .nan
  | some (sg, ex) =>
    if sg = 0 then .fin false 0 0
    else if code % 16 = 8 then .fin (bitOf 15 half) (sg * x6Sixteenths (bitsOf 15 10 half)) (ex - 4)
    else .fin (bitOf 3 code) (sg * e2Half code) (ex - 1)

/-- The distance from y = n/d to a grid value h/2, times 2d. -/
def gridDist (n d h : Nat) : Nat :=
  let a := 2 * n
  let b := h * d
  if a ≥ b then a - b else b - a

/-- The magnitude code of E2(y) for y = n/d: nearest grid value, a tie to mantissa bit 0, clamped to 6. -/
def e2Code (n d : Nat) : Nat :=
  -- thresholds in quarters: between codes c and c+1, a tie goes to the even code
  let below (t4 : Nat) (strict : Bool) : Bool := if strict then decide (4 * n < t4 * d) else decide (4 * n ≤ t4 * d)
  if below 1 false then 0
  else if below 3 true then 1
  else if below 5 false then 2
  else if below 7 true then 3
  else if below 10 false then 4
  else if below 14 true then 5
  else if below 20 false then 6
  else 7

/-- X6RNE of the magnitude n/d as the 5-bit field (XE, XM): nearest, ties to XM[0] = 0, clamped to 56. Candidates are
tried in rising order; a later one wins when strictly nearer, or at equal distance when the earlier one is odd. -/
def x6Rne (n d : Nat) : Nat :=
  let dist (c : Nat) : Nat :=
    let a := 16 * n
    let b := x6Sixteenths c * d
    if a ≥ b then a - b else b - a
  (List.range 28).foldl (fun best k =>
    let c := k + 4
    if dist c < dist best ∨ (dist c = dist best ∧ best % 2 = 1) then c else best) 0

/-- The smallest S10 code at least mx/6, where mx = m · 2^e; 0x3FB when none suffices (R89). -/
def s10Search (m : Nat) (e : Int) : Nat :=
  if m = 0 then 0
  else
    let ok (c : Nat) : Bool :=
      match s10Value c with
      | none => false
      | some (sg, ex) =>
        -- 6·sg·2^ex ≥ m·2^e
        let q := min ex e
        decide (6 * sg * 2 ^ (ex - q).toNat ≥ m * 2 ^ (e - q).toNat)
    -- S10 codes from 1 on are in rising order: binary search over 1 .. 0x3FB
    let r := (List.range 10).foldl (fun (acc : Nat × Nat) _ =>
      if acc.1 ≥ acc.2 then acc
      else
        let mid := (acc.1 + acc.2) / 2
        if ok mid then (acc.1, mid) else (mid + 1, acc.2)) (1, 0x3FB)
    r.2

/-- Quantise 32 values to a block: the codes and the halfword (R89, R90). -/
def quantBlock (xs : List Num) : List Nat × Nat :=
  if xs.any (fun x => match x with | .fin .. => false | _ => true) then (xs.map (fun _ => 0), 0x3FC)
  else
    let e0 : Int := xs.foldl (fun q x => match x with | .fin _ m e => if m = 0 then q else min q e | _ => q) 0
    let mags : List (Bool × Nat) := xs.map (fun x => match x with
      | .fin s m e => if m = 0 then (false, 0) else (s, m * 2 ^ (e - e0).toNat)
      | _ => (false, 0))
    let mx := mags.foldl (fun a p => max a p.2) 0
    let s10 := s10Search mx e0
    match s10Value s10 with
    | none => (xs.map (fun _ => 0), 0x3FC)
    | some (sg, ex) =>
      if sg = 0 then (xs.map (fun _ => 0), s10)
      else
        -- |y| = mag · 2^e0 / (sg · 2^ex) = num / den
        let sh := e0 - ex
        let up := 2 ^ sh.toNat
        let den := sg * 2 ^ (-sh).toNat
        let ys : List (Bool × Nat) := mags.map (fun p => (p.1, p.2 * up))
        let err (y : Bool × Nat) : Nat := gridDist y.2 den (e2Half (e2Code y.2 den))
        let worst := ys.foldl (fun a y => max a (err y)) 0
        let yj := (ys.find? (fun y => err y == worst)).getD (false, 0)
        let x6m := x6Rne yj.2 den
        let x6 := if x6m = 0 then 0 else x6m + (if yj.1 then 32 else 0)
        let code (y : Bool × Nat) : Nat :=
          let g := e2Code y.2 den
          -- distances in units of 1/(16 den), with sign
          let xd : Int := (16 * y.2 : Nat) - (if x6m ≠ 0 ∧ yj.1 ≠ y.1 then -((x6Sixteenths x6m * den : Nat) : Int)
            else ((x6Sixteenths x6m * den : Nat) : Int))
          let gd := 8 * gridDist y.2 den (e2Half g)
          if xd.natAbs < gd then (if x6m = 0 then 0 else 8)
          else if g = 0 then 0 else g + (if y.1 then 8 else 0)
        (ys.map code, x6 * 1024 + s10)

/-! ### Special functions (R174, R175): fixed point with 160 fraction bits -/

/-- Fraction bits of the fixed-point evaluation. -/
def fxBits : Nat := 160
/-- One in fixed point. -/
def fxOne : Nat := 2 ^ fxBits
/-- ln 2 in fixed point. -/
def fxLn2 : Nat := 1013035739299659071135698605846798551586536899366
/-- log2 e in fixed point. -/
def fxLog2e : Nat := 2108501164428393954197770173035669514763056903505

/-- The Taylor sum of e^t for t in [0, 1) fixed point: n further terms after the term `tm` of index k. -/
def expSum (t : Nat) : Nat → Nat → Nat → Nat
  | 0, _, _ => 0
  | n + 1, k, tm => tm + expSum t n (k + 1) (tm * t / fxOne / (k + 1))

/-- 2^f for f in [0, 1) fixed point. -/
def fxExp2Frac (f : Nat) : Nat := expSum (f * fxLn2 / fxOne) 50 0 fxOne

/-- The odd-power series of atanh: sum of u^(2i+1)/(2i+1), n terms. -/
def atanhSum (u2 : Nat) : Nat → Nat → Nat → Nat
  | 0, _, _ => 0
  | n + 1, k, pw => pw / k + atanhSum u2 n (k + 2) (pw * u2 / fxOne)

/-- log2 of y in [1, 2), fixed point. -/
def fxLog2 (y : Nat) : Nat :=
  let u := (y - fxOne) * fxOne / (y + fxOne)
  (2 * atanhSum (u * u / fxOne) 60 1 u) * fxLog2e / fxOne

/-- A truncated quotient with a sticky low bit, as a value: a / b · 2^e, b not zero. -/
def stickyDiv (neg : Bool) (a b : Nat) (e : Int) : Num :=
  let k := bitLen b + 100
  let q := a * 2 ^ k / b
  let r := a * 2 ^ k % b
  .fin neg (2 * q + (if r = 0 then 0 else 1)) (e - k - 1)

/-- Integer square root by bits, n of them. -/
def isqrt (x : Nat) : Nat → Nat → Nat
  | 0, r => r
  | n + 1, r =>
    let c := r + 2 ^ n
    if c * c ≤ x then isqrt x n c else isqrt x n r

/-- 2^x for x = (-1)^s m 2^e as (fraction in fixed point, exponent); the fraction is in [1, 2]. -/
def exp2Parts (s : Bool) (m : Nat) (e : Int) : Nat × Int :=
  -- x in fixed point
  let v : Int := if e + fxBits ≥ 0 then (m * 2 ^ (e + fxBits).toNat : Nat) else (m / 2 ^ (-(e + fxBits)).toNat : Nat)
  let x : Int := if s then -v else v
  let k := x.fdiv (fxOne : Int)
  let f := (x - k * fxOne).toNat
  (fxExp2Frac f, k)

/-- Bring a transcendental value above or below the bounds every format resolves: exponents beyond ±2^12. -/
def bigExp (m : Nat) (e : Int) : Bool := decide (m ≠ 0) && decide (e + (bitLen m : Int) > 12)

/-- 2^x (x finite, not zero). -/
def fnExp2 (s : Bool) (m : Nat) (e : Int) : Num :=
  if bigExp m e then (if s then .fin false 1 (-5000) else .fin false 1 5000)
  else if e + (bitLen m : Int) < -60 then .fin false 1 0
  else if e ≥ 0 ∨ m % 2 ^ (-e).toNat = 0 then
    let k : Int := roundInt .rz s m e
    .fin false 1 k
  else
    let p := exp2Parts s m e
    .fin false (2 * p.1 + 1) (p.2 - fxBits - 1)

/-- log2 x (x finite, positive). -/
def fnLog2 (m : Nat) (e : Int) : Num :=
  let l := bitLen m
  let E : Int := e + l - 1
  if m = 2 ^ (l - 1) then Num.ofInt E
  else
    let y := if l - 1 ≤ fxBits then m * 2 ^ (fxBits - (l - 1)) else m / 2 ^ (l - 1 - fxBits)
    let v : Int := E * fxOne + fxLog2 y
    .fin (decide (v < 0)) (2 * v.natAbs + 1) (-(fxBits : Int) - 1)

/-- 1/x (x finite, not zero): exact up to a sticky bit. -/
def fnRcp (s : Bool) (m : Nat) (e : Int) : Num := stickyDiv s 1 m (-e)

/-- 1/√x (x finite, positive). -/
def fnRsq (m : Nat) (e : Int) : Num :=
  -- 1/√(m·2^e); make the exponent even, then floor(2^k/√m) with a sticky bit
  let m' := if e % 2 = 0 then m else 2 * m
  let e' := if e % 2 = 0 then e else e - 1
  let k := bitLen m' + 100
  let x := 2 ^ (2 * k) / m'
  let r := isqrt x (bitLen x / 2 + 1) 0
  .fin false (2 * r + (if r * r * m' = 2 ^ (2 * k) then 0 else 1)) (-(e' / 2) - k - 1)

/-- e^(-|x|) as fixed-point fraction and exponent. -/
def expNegParts (m : Nat) (e : Int) : Nat × Int :=
  exp2Parts true (m * fxLog2e) (e - fxBits)

/-- 1/(1 + e^(-x)) (x finite, not zero). -/
def fnSigm (s : Bool) (m : Nat) (e : Int) : Num :=
  if e + (bitLen m : Int) < -60 then .fin false 1 (-1)
  else if bigExp m e then (if s then .fin false 1 (-5000) else .fin false 1 0)
  else
    let p := expNegParts m e
    -- t = g · 2^k, k ≤ 0
    let one := 2 ^ (-p.2 + fxBits).toNat
    let d := one + p.1
    if s then stickyDiv false p.1 d 0 else stickyDiv false one d 0

/-- tanh x (x finite, not zero). -/
def fnTanh (s : Bool) (m : Nat) (e : Int) : Num :=
  if e + (bitLen m : Int) < -40 then .fin s m e
  else if e + (bitLen m : Int) > 8 then .fin s 1 0
  else
    let p := expNegParts m (e + 1)
    let one := 2 ^ (-p.2 + fxBits).toNat
    stickyDiv s (one - p.1) (one + p.1) 0

/-- The six special functions by opcode 0x38 to 0x3D. -/
inductive SpFn where
  | exp2
  | log2
  | rcp
  | rsq
  | sigm
  | tanh
  deriving DecidableEq, Repr

/-- The value of a special function, exact up to a sticky bit (R174), with the special cases of R175. -/
def SpFn.eval (fn : SpFn) (x : Num) : Num :=
  match fn, x with
  | _, .nan => .nan
  | .exp2, .inf s => if s then .fin false 0 0 else .inf false
  | .exp2, .fin s m e => if m = 0 then .fin false 1 0 else fnExp2 s m e
  | .log2, .inf s => if s then .nan else .inf false
  | .log2, .fin s m e => if m = 0 then .inf true else if s then .nan else fnLog2 m e
  | .rcp, .inf s => .fin s 0 0
  | .rcp, .fin s m e => if m = 0 then .inf s else fnRcp s m e
  | .rsq, .inf s => if s then .nan else .fin false 0 0
  | .rsq, .fin s m e => if m = 0 then .inf s else if s then .nan else fnRsq m e
  | .sigm, .inf s => if s then .fin false 0 0 else .fin false 1 0
  | .sigm, .fin s m e => if m = 0 then .fin false 1 (-1) else fnSigm s m e
  | .tanh, .inf s => .fin s 1 0
  | .tanh, .fin s m e => if m = 0 then .fin s 0 0 else fnTanh s m e

/-- The significand kept to b fraction bits, truncated toward zero (R174). -/
def truncSig (b : Nat) : Num → Num
  | .fin s m e =>
    let l := bitLen m
    if l ≤ b + 1 then .fin s m e else .fin s (m / 2 ^ (l - (b + 1))) (e + (l - (b + 1) : Nat))
  | x => x

/-- The significand rounded to b fraction bits by RNE (R174), with an unbounded exponent. -/
def roundSig (b : Nat) : Num → Num
  | .fin s m e =>
    if m = 0 then .fin s m e
    else
      let q : Int := e + (bitLen m : Int) - (b + 1 : Nat)
      if e ≥ q then .fin s m e else .fin s (roundMul .rne s m e q) q
  | x => x

/-- A special function on an element of f16, bf16 or f32 (R174). -/
def SpFn.elem (fn : SpFn) (t b : Nat) : Nat :=
  let x := numOf t b
  if t = 9 then
    let ib := match fn with | .rcp => 8 | .rsq => 8 | _ => 15
    let ob := match fn with | .rcp => 12 | .rsq => 12 | _ => 15
    f32.round .rne (roundSig ob (fn.eval (truncSig ib x)))
  else (floatFmt t).round .rne (fn.eval x)

/-! ### The random source of stochastic rounding (R101) -/

/-- One step of RNGST. -/
def rngStep (st : Nat) : Nat :=
  let s := st / 2
  if st % 2 = 1 then s ^^^ 0x80200003 else s

/-- The register after n steps. -/
def rngSteps : Nat → Nat → Nat
  | 0, st => st
  | n + 1, st => rngSteps n (rngStep st)

/-- The stochastic mode of element k when the operation begins at state st. -/
def rsMode (st k : Nat) : RMode := .rs (rngSteps (k + 1) st % 2 ^ 16)

end Sys2Proof.Machine
end

