-- ==== Sys2Proof/Config.lean ====
section
/-! DEFINITION. What the manual leaves open: the free values (opaque constants applied to a plain counter of State
and a site number, so that no proof can know one), the random source and the cryptography of outside standards
(log entries 6, 7 and 8). None of these constants has a body. -/

namespace Sys2Proof.Config

/-- An unspecified 64-bit value (R7), by the free-value counter and the site that draws it. -/
opaque freeW64 : Nat → Nat → W64
/-- An unspecified vector, pattern or line value (R7). -/
opaque freeLine : Nat → Nat → Line
/-- An unspecified guard (R25). -/
opaque freeBool : Nat → Nat → Bool
/-- An unspecified natural number; its reader takes it modulo what the manual allows (R7, R536). -/
opaque freeNat : Nat → Nat → Nat
/-- An unspecified byte (R255, R251). -/
opaque freeByte : Nat → Nat → Byte

/-- Byte i of draw n of the random source of the anchor die (R459, R519). -/
opaque randomByte : Nat → Nat → Byte
/-- The AES key unwrap of SP 800-38F under the package's transport key (R459): the 64 key bytes, or none. -/
opaque keyUnwrap : List Nat → Option (List Nat)
/-- The HSS signature of a message with the signing index q (R461, R462). -/
opaque hssSign : Nat → List Nat → List Nat
/-- The encapsulation key of draw n of the random source (R519). -/
opaque kemKey : Nat → List Nat
/-- The ciphertext of an encapsulation with draw n to a key (R519). -/
opaque kemCipher : Nat → List Nat → List Nat
/-- The shared secret of that encapsulation (R519). -/
opaque kemShared : Nat → List Nat → List Nat
/-- The shared secret that the owner of the key of draw n takes from a ciphertext (R519). -/
opaque kemOpen : Nat → List Nat → List Nat
/-- The SHA-256 of the verified firmware images (R461, R519). -/
opaque firmwareHash : List Nat
/-- The signature check of an unlock of the debug pins (R507). -/
opaque unlockOk : List Nat → Bool
/-- What an unlocked instruction outside the four of R507 shifts out: instruction and data. -/
opaque jtagVendor : Nat → List Nat → List Nat
/-- The answer of the recovery mailbox (R501), which the manual does not describe. -/
opaque mailboxAnswer : List Nat → List Nat
/-- The JEDEC code of IDCODE (R507). -/
opaque jedecCode : Nat

end Sys2Proof.Config
end

