-- ==== Sys2Proof/Machine/StateCore.lean ====
section
/-! DEFINITION. The state of one core (chapters 01 to 10 and 21): the synchronous state that checkpoints hold
(R299), and around it the traps, buffers, queues, tiles, TLB, L1, scratchpad, counters and debug registers. -/

namespace Sys2Proof.Machine

/-- The context states of a core, R320. -/
inductive CoreMode where
  | idle
  | run
  | handler
  | saving
  | savewait
  | stopped
  deriving DecidableEq, Repr

/-- A vector register with its format tag; at kernel entry zero with tag 9 (R146, R147). -/
structure VReg where
  bits : Line := 0
  tag : Nat := 9
  deriving DecidableEq, Repr

/-- The loop-record state: LSTAT, LITER, LREC, LRECW0-3 and the address after the LOOP (R294, R275). -/
structure LoopSt where
  act : Bool := false
  skip : Bool := false
  exit : Bool := false
  rot : Bool := false
  phase : Nat := 0
  stages : Nat := 0
  iter : Nat := 0
  /-- T - (STAGES - 1) of the running record, which LITER receives after the prologue (R275) -/
  trip : Nat := 0
  recAddr : Nat := 0
  w0 : W64 := 0
  w1 : W64 := 0
  w2 : W64 := 0
  w3 : W64 := 0
  ret : Nat := 0
  deriving DecidableEq, Repr

/-- One element delivered to an input stream's buffer, with the address of a failed fetch (R245). -/
structure SElem where
  v : Nat
  err : Option Nat := none
  deriving DecidableEq, Repr

/-- A stream register: the live words, the description captured by BIND, POS, BND, and the input buffer (R240, R244). -/
structure Stream where
  qbase : W64 := 0
  qdim : W64 := 0
  qstr : W64 := 0
  qblk : W64 := 0
  bnd : Nat := 0
  pos : Nat := 0
  cbase : W64 := 0
  cdim : W64 := 0
  cstr : W64 := 0
  cblk : W64 := 0
  /-- elements fetched into the buffer and not yet consumed -/
  buf : List SElem := []
  /-- elements fetched since BIND -/
  fetched : Nat := 0
  /-- incremented by each BIND, so that late arrivals of an ended binding are told apart -/
  epoch : Nat := 0
  /-- descriptions of ended output bindings whose elements are not all written: epoch and the four words (R246) -/
  olds : List (Nat × W64 × W64 × W64 × W64) := []
  deriving DecidableEq, Repr

/-- A ring: NBASE, NGEOM, the published HEAD, TAIL and COUNT, TAG and DTAG (R201). -/
structure Ring where
  base : Nat := 0
  slotb : Nat := 0
  slots : Nat := 0
  head : Nat := 0
  tail : Nat := 0
  count : Nat := 0
  tag : Nat := 0
  dtag : Nat := 0
  /-- writes to NPTR so far: an older command's push or pop is not applied to a position written after it (R202) -/
  ep : Nat := 0
  deriving DecidableEq, Repr

/-- The synchronous state of a core: what a checkpoint shadow holds (R299) and the program counter. -/
structure Sync where
  pc : Nat := 0
  /-- s1-s31 (R109) -/
  s : Tab W64 := []
  /-- the handler bank s28-s31 (R311) -/
  hb : Tab W64 := []
  /-- g1-g15 (R110) -/
  g : Tab Bool := []
  a : Tab VReg := []
  b : Tab VReg := []
  /-- ka0-ka7 at 0-7 and kb0-kb7 at 8-15; one that is not listed is all ones, as at kernel entry (R147) -/
  k : Tab (BitVec 256) := []
  x : Tab Line := []
  w : Tab (BitVec 512) := []
  y : Tab W64 := []
  h : Tab W64 := []
  j : Tab W64 := []
  rrb : Nat := 0
  /-- AGE of physical a16-a31 at 16-31 and of b16-b31 at 48-63 (R271) -/
  ages : Tab Nat := []
  ldepth : Nat := 15
  loop : LoopSt := {}
  streams : Tab Stream := []
  rings : Tab Ring := []
  /-- mode (bits 1:0) and flags ZINF, ZSAT, ZNAN (bits 2, 3, 4) of each committed tile version (R200) -/
  zst : Tab Nat := []
  /-- write-1-to-clears of ZSTAT that stand on a version: tile, version (0 the committed one, else 1 + the place of its
  writer), place of the clear in issue order, flags (R200) -/
  zclr : List (Nat × Nat × Nat × Nat) := []
  warn : Nat := 0
  rng : Nat := 1
  /-- LP1A, LP2A, LP3A, LP1B, LP2B, LP3B at 0 to 5 (R155) -/
  lp : Tab W64 := []
  /-- tick window of the temporal array (R341) -/
  twin : Nat := 255
  /-- results still in flight: register key and the cycle from which they are read (R25) -/
  landing : Tab Nat := []
  /-- vector registers, by key, that an older result landed over: what program order gives them, for later merges (R149) -/
  covered : Tab VReg := []
  deriving DecidableEq, Repr

/-- One store of the withholding buffer (R301): its physical target, its bytes, its place in issue order, its scope
and whether it is a release store (R386), and the checkpoint that released it. -/
structure Store where
  /-- the address of its first byte -/
  va : Nat
  /-- where it performs: see `Target` codes in Ops -/
  kind : Nat
  pa : Nat
  sel : Nat
  bytes : List Nat
  seqNo : Nat
  scope : Nat
  rel : Bool
  released : Bool := false
  /-- address of the bundle of the checkpoint that released it -/
  ckpt : Nat := 0
  /-- cycle of its release -/
  relAt : Nat := 0
  /-- a remote write that has been sent and not yet acknowledged (R400) -/
  sent : Bool := false
  deriving DecidableEq, Repr

/-- An engine command of the matrix slot (R303, R222): opcode and operands as captured at issue, the dispatch result,
and how far the engine has come. -/
structure MCmd where
  op : Nat
  zd : Nat
  ra : Nat
  rb : Nat
  kb : Nat
  acc : Bool
  shp : Nat
  rm : Nat
  zmode : Nat
  tagA : Nat
  tagB : Nat
  rout : Nat
  /-- 0 run, 1 convert A, 2 convert B -/
  conv : Nat
  ctag : Nat
  cring : Nat
  /-- random values drawn at issue by a stochastic MSTZ (R102): the state before its first step -/
  rng : Nat
  seqNo : Nat
  /-- address of the bundle that issued it (R488) -/
  issued : Nat
  /-- cycle at which the command may begin -/
  ready : Nat
  committed : Bool := false
  begun : Bool := false
  /-- cycle at which it completes, once begun -/
  doneAt : Nat := 0
  /-- cycle at which its steps begin, once its operands are present (R222, R223) -/
  stepAt : Nat := 0
  done : Bool := false
  /-- block from which a resumed command continues (R223) -/
  block : Nat := 0
  /-- cycle at which its conversion task ends, once that has begun (R220, R222) -/
  convAt : Nat := 0
  /-- ring geometry captured at issue (R143): NBASE, slot bytes and slots of RA, RB and CRING -/
  ringA : Ring := {}
  ringB : Ring := {}
  ringC : Ring := {}
  /-- the shape record captured at issue, 32 bytes -/
  shape : List Nat := []
  /-- bytes that it writes when it is published: address and bytes (R204, R220, R232) -/
  out : List (Nat × List Nat) := []
  /-- an error met while the engine read: the failing address (R224) -/
  err : Option Nat := none
  /-- a save has stopped it at a block boundary (R223, R318) -/
  stopped : Bool := false
  /-- of a command that a save has stopped: bit 64i + j is set when every product of cell (i, j) so far, and the accumulator,
  were −0 (R107) -/
  negs : Nat := 0
  /-- of a command that a save has stopped: an error met in the blocks before (R224) -/
  bad : Option Nat := none
  /-- the M word of a tile instruction (R33), which the image of a save holds (R318) -/
  word : Nat := 0
  deriving DecidableEq, Repr

/-- A copy-queue command (R248 to R265) with its operands as captured at issue. -/
structure CCmd where
  op : Nat
  a : Nat
  b : Nat
  q : Nat
  f : Nat
  scope : Nat
  order : Nat
  len : Nat
  di : Nat
  /-- the transfer descriptor captured at issue, 32 bytes -/
  desc : List Nat := []
  ring : Ring := {}
  seqNo : Nat
  /-- address of the bundle that issued it -/
  issued : Nat
  committed : Bool := false
  /-- the cycle from which its completion is possible -/
  doneAt : Nat := 0
  /-- requests that the initiator point has served (R367) -/
  moved : Nat := 0
  /-- COLL: the number of the collective once entered (R526) -/
  coll : Option Nat := none
  /-- UNBD: the stream epoch it ends -/
  epoch : Nat := 0
  /-- waits on a page of a guest table: the address of the write (R378) -/
  wpgt : Option Nat := none
  /-- the writes that it still has to make, the held one first (R378) -/
  left : List (Nat × List Nat) := []
  /-- the host has failed the held write (R378) -/
  denied : Bool := false
  /-- complete: its error cause, or 0, and the address that it logs (R250, R251) -/
  res : Option (Nat × Nat) := none
  /-- GTHR, SCTR: elements done -/
  pos : Nat := 0
  /-- SCTR: the error that ended its writes (R258) -/
  cerr : Option (Nat × Nat) := none
  deriving DecidableEq, Repr

/-- A temporal command (R346). -/
structure TCmd where
  op : Nat
  ra : Nat
  tag : Nat
  join : Bool
  fb : Bool
  src : Bool
  twin : Nat
  ring : Ring := {}
  /-- arrivals taken from a stream at issue (R348) -/
  arrivals : List Nat := []
  seqNo : Nat
  /-- address of the bundle that issued it -/
  issued : Nat
  /-- a TACQ of a core that already holds or awaits the array (R342) -/
  noop : Bool := false
  committed : Bool := false
  /-- it runs on the array; of a TACQ: its request has entered the queue -/
  begun : Bool := false
  doneAt : Nat := 0
  deriving DecidableEq, Repr

/-- An accumulator tile version: mode, flags and its 4,096 cells in row-major order; a short list stands for zero
cells after its end (R195). -/
structure Tile where
  mode : Nat := 0
  flags : Nat := 0
  cells : List Nat := []
  /-- written by a command other than MZERO since its last MZERO or kernel entry (R318) -/
  written : Bool := false
  deriving DecidableEq, Repr

/-- A pending version: the tile and the sequence number of its youngest writer (R196). -/
structure PendTile where
  tile : Tile := {}
  writer : Nat := 0
  deriving DecidableEq, Repr

/-- A line of the L1: address of the line, its key selector, its data, which bytes are dirty, and the flags of the
load-blocks that pin it (R281, R259). -/
structure L1Line where
  pa : Nat
  sel : Nat
  data : List Nat
  dirty : List Bool
  pins : List Nat := []
  /-- the guest virtual address under which it was filled (of a pinned line, that of its block) -/
  va : Nat := 0
  deriving DecidableEq, Repr

/-- A TLB entry (R288, R374): guest, generation, first address, size in bits, physical page, and the leaf's attributes. -/
structure TlbEnt where
  guest : Nat
  gen : Nat
  va : Nat
  bits : Nat
  pa : Nat
  mt : Nat
  enc : Bool
  w : Bool
  x : Bool
  d : Bool
  gt : Bool
  deriving DecidableEq, Repr

/-- What an access does, for the permission checks of R376. kind 0 fetch, 1 S load, 2 S store, 3 atomic, 4 engine read,
5 engine write. -/
structure AccReq where
  va : Nat
  kind : Nat
  deriving DecidableEq, Repr

/-- A memory request of the S path on its way to its home (R364 to R370), and the answer when it is back. op 0 read,
1 write, 2 atomic (R132), 3 compare-and-swap, 4 line fill of the L1, 5 fetch. -/
structure SReq where
  va : Nat
  tgt : Nat
  pa : Nat
  sel : Nat
  len : Nat
  op : Nat
  fop : Nat
  opnd : Nat
  cmp : Nat
  /-- 0 waits at its initiator point, 1 on its way to the slice, 2 waits at its controller point, 3 answered or, of a scratchpad, there;
  4 accepted by a scratchpad (R327) -/
  stage : Nat
  scope : Nat
  /-- it writes back every dirty L1 line before it performs (R397) -/
  rel : Bool := false
  /-- of an SC operation: 1 + its place in the order of the Capstan (R407) -/
  sc : Nat := 0
  /-- cycle from which the next stage may begin -/
  dueAt : Nat := 0
  data : List Nat := []
  fault : Nat := 0
  /-- the bytes that the core's own buffered stores gave a load when it left (R126) -/
  fwd : List (Option Nat) := []
  deriving DecidableEq, Repr

/-- An unresolved branch (R137): when it resolves, whether its prediction is wrong, and the state of the right arm. -/
structure Branch where
  resolveAt : Nat
  seqNo : Nat
  wrong : Bool
  snap : Sync
  rstack : List Nat
  frm : Nat
  target : Nat
  /-- it is taken -/
  taken : Bool := false
  /-- first cycle in which the bundle after its own may issue (R22) -/
  after : Nat := 0
  /-- the right arm passes an iteration boundary at which the core yields (R277) -/
  yields : Bool := false
  deriving DecidableEq, Repr

/-- A standing checkpoint (R297): its bundle, the first sequence number not before it, its shadow. -/
structure Ckpt where
  addr : Nat
  seqNo : Nat
  snap : Sync
  deriving DecidableEq, Repr

/-- A trap on its way: cause, slots, detail, the faulting bundle and whether it is asynchronous (R307, R309). -/
structure TrapReq where
  cause : Nat
  slots : Nat
  info : W64
  flt : Nat
  async : Bool
  deriving DecidableEq, Repr

/-- The trap registers (R313). -/
structure TrapRegs where
  cause : Nat := 0
  async : Bool := false
  addr : Nat := 0
  flt : Nat := 0
  slots : Nat := 0
  info : W64 := 0
  haddr : Nat := 0
  en : Bool := false
  deriving DecidableEq, Repr

/-- The status of a copy queue (R252). -/
structure CqStat where
  ccnt : Nat := 0
  ecause : Nat := 0
  multi : Bool := false
  err : Bool := false
  eaddr : Nat := 0
  deriving DecidableEq, Repr

/-- A load-block: its flag, first line, line count (R259). -/
structure Block where
  flag : Nat
  va : Nat
  lines : Nat
  deriving DecidableEq, Repr

/-- A configuration plane: its bytes, sparse (R437), and the method table's source address and count (R219). -/
structure Plane where
  bytes : Tab Nat := []
  /-- the guest virtual address of the image -/
  tbase : Nat := 0
  deriving DecidableEq, Repr

/-- A Splice that has reached a core in this cycle and begins after the core's bundle (R445): its node, the cycle of its
arrival, the cycle at which it ends, and what R421 gives it. -/
structure SpliceReq where
  node : Nat
  since : Nat
  due : Nat
  seqNo : Nat
  crc : Nat
  image : Nat
  list : List Nat
  deriving DecidableEq, Repr

/-- A Splice that a core is applying (R438): its node, the cycle at which it ends, the inactive plane and the SEQ it leaves,
whether it is accepted, and READY as it stood before it. -/
structure Splicing where
  node : Nat := 0
  due : Nat := 0
  inact : Plane := {}
  seqNo : Nat := 0
  ok : Bool := false
  ready : Bool := false
  deriving DecidableEq, Repr

/-- An event counter of a core (R484): its 64-bit count, its selector word, and the latched high half. -/
structure Pmc where
  count : Nat := 0
  sel : W64 := 0
  latch : Nat := 0
  deriving DecidableEq, Repr

/-- The debug block of a core (R475). -/
structure Dbg where
  ctl : W64 := 0
  why : Nat := 0
  code : Nat := 0
  stopped : Bool := false
  addr : Nat := 0
  sel : W64 := 0
  /-- the next bundle is the first after a resume: STEP does not stop it (R478) -/
  step : Bool := false
  /-- the first bundle after a resume ignores its DBG bit (R478) -/
  skip : Bool := false
  /-- a HALT is pending (R476) -/
  haltReq : Bool := false
  /-- the checkpoint of a stop in progress has been taken (R476 step 2) -/
  ck : Bool := false
  /-- a BKPT that stops the core before its next bundle: the sequence number of its bundle and its code (R480) -/
  bk : Option (Nat × Nat) := none
  /-- an asynchronous trap was taken while a stop for DBG or BKPT was due: the stop falls before the handler's first bundle,
  with this reason and code (R476) -/
  moved : Option (Nat × Nat) := none
  deriving DecidableEq, Repr

/-- A trace record whose bundle may still be squashed (R482). -/
structure PendTrc where
  seqNo : Nat
  type : Nat
  aux : Nat
  addr : Nat
  data : Nat
  cycle : Nat
  flags : Nat
  deriving DecidableEq, Repr

/-- No stop stands, is asked for or is under way; what the registers show of the last one is kept. -/
def Dbg.idle (d : Dbg) : Dbg := { d with stopped := false, step := false, skip := false, haltReq := false, ck := false, bk := none, moved := none }

/-- A group of output elements whose write is held at a page of a guest table: the stream, the elements, and the writes still
to make (R378). -/
structure HeldOut where
  stream : Nat
  elems : List (Nat × Nat × Nat × Nat × Nat)
  left : List (Nat × List Nat)
  deriving DecidableEq, Repr

/-- Some store of the buffer has still to perform, or, where the scope takes in other cars (TENANT is 4), to be acknowledged
by one (R400). -/
def storesPending (l : List Store) (scope : Nat) : Bool := l.any (fun x => !x.sent || decide (4 ≤ scope))

/-- A core. Fields outside `sync` are not moved back by rollback (R299). -/
structure Core where
  mode : CoreMode := .idle
  guest : Nat := 0
  /-- the kernel's place in its guest: record, group and member (R418) -/
  rcd : Nat := 0
  grp : Nat := 0
  mem : Nat := 0
  sync : Sync := {}
  shadow : Sync := {}
  /-- the shadow that the last trap restored, for a forced save in handler mode (R317) -/
  trapShadow : Sync := {}
  ckptAddr : Nat := 0
  /-- the first sequence number not before the last checkpoint -/
  ckptSeq : Nat := 0
  ckpts : List Ckpt := []
  /-- an implicit checkpoint already stands at the bundle at the program counter -/
  ckptHere : Bool := false
  branches : List Branch := []
  rstack : List Nat := []
  /-- sequence number of the next bundle -/
  seqNo : Nat := 0
  /-- first cycle in which the next bundle may issue (R22, R266) -/
  readyAt : Nat := 0
  /-- a synchronous trap held for the resolution of older branches (R307) -/
  held : Option TrapReq := none
  /-- a terminated kernel's report, or a nested trap (R310, R312) -/
  trap : TrapRegs := {}
  /-- asynchronous traps waiting to be taken (R307, R311) -/
  asyncs : List TrapReq := []
  yreq : Bool := false
  ywhy : Nat := 0
  ydl : Nat := 0
  latch : Bool := false
  cycle : Nat := 0
  stores : List Store := []
  mq : List MCmd := []
  cqa : List CCmd := []
  cqb : List CCmd := []
  tq : List TCmd := []
  tiles : Tab Tile := []
  /-- results of complete but uncommitted commands, oldest first: tile number and version (R196) -/
  pend : List (Nat × PendTile) := []
  qa : CqStat := {}
  qb : CqStat := {}
  bflags : Nat := 0
  blocks : List Block := []
  /-- output elements appended and not yet written: stream, epoch, element index, value, sequence number -/
  outq : List (Nat × Nat × Nat × Nat × Nat) := []
  /-- first failure of the writes of an output stream: stream, epoch, cause, address (R246, R430) -/
  oerrs : List (Nat × Nat × Nat × Nat) := []
  /-- output writes that wait for the host's answer to a WPGT, or go on after it (R378) -/
  outHeld : List HeldOut := []
  /-- engine requests that a regulation point has admitted, by tag, and the cycle from which they are served (R367, R370) -/
  adm : List (Nat × Nat) := []
  l1 : List L1Line := []
  l1sz : Nat := 0
  spwoff : Nat := 0
  spwlen : Nat := 0
  cspwoff : Nat := 0
  cspwlen : Nat := 0
  cspmemb : Nat := 0
  capmap : List W64 := [0, 0, 0, 0]
  /-- Capstan occurrence of the core's last SC operation (R406) -/
  capLast : Option Nat := none
  tlb : List TlbEnt := []
  /-- a translation that the core waits for, and a failed walk not yet reported -/
  walk : Option AccReq := none
  walkFault : Option (AccReq × Nat) := none
  /-- cycle at which a hit of the second-level TLB answers the lookup (R289) -/
  walkAt : Nat := 0
  /-- the host's answer to a WPGT is awaited (R378): the address of the write and the bundle that made it -/
  wpgt : Option (Nat × Nat) := none
  fbBase : Nat := 0
  fbBytes : List Nat := []
  fbFault : Option Nat := none
  req : Option SReq := none
  /-- the load of the bundle at the program counter missed, so its result is read at once (R128) -/
  missed : Bool := false
  /-- some of its data came from beyond the L1 and the scratchpads (R485) -/
  missedFar : Bool := false
  /-- the cycle in which that load issued -/
  missAt : Nat := 0
  /-- the queue status and the block flags as they stood when that load issued: what a CFLAG of its bundle reads (R262) -/
  missView : Option (CqStat × CqStat × Nat) := none
  /-- answers to the S-path requests of the bundle at the program counter: address, bytes, cause of a failure -/
  got : List (Nat × List Nat × Nat) := []
  /-- the last answer is that of an access that must not be performed twice: an atomic or an SC operation (R133) -/
  once : Bool := false
  /-- cycle at which the write-back of the L1 that the last context left behind ends (R282) -/
  flushAt : Nat := 0
  /-- the occurrence of a Capstan position in which the SC operation of the bundle may issue (R406) -/
  capGo : Option Nat := none
  mcache : List (Nat × Nat × Nat × Nat × Nat) := []
  mcen : Bool := true
  planeAct : Plane := {}
  planeInact : Plane := {}
  /-- CFGPLANE: active plane, its generation and state (R440) -/
  cfgPlane : Nat := 0
  cfgWord : W64 := 0
  /-- the Splice being applied, while CFGPLANE.BUSY is 1 (R438) -/
  splicing : Option Splicing := none
  /-- Splices that begin after the bundle of the cycle of their arrival, in their order (R445) -/
  arriving : List SpliceReq := []
  /-- a kernel of `guest` has run here and left its planes (R439) -/
  ran : Bool := false
  pmc : Tab Pmc := []
  pmctl : W64 := 0
  mcyc : Tab Nat := []
  /-- the host's counter bank while it holds or borrows the bank (R463, R486) -/
  hpmc : Tab Pmc := []
  hpmctl : W64 := 0
  hmcyc : Tab Nat := []
  dbg : Dbg := {}
  spad : Tab Byte := []
  /-- the 8-byte words of the core's array, numbered from byte 0 of its scratchpad, that give an uncorrectable error (R283) -/
  badWords : List Nat := []
  spareRows : Nat := 0
  retired : Bool := false
  /-- its context is being saved so that the core can be retired (R511) -/
  retiring : Bool := false
  /-- the save in progress has stopped the matrix engine (R315 step 3) -/
  mHalt : Bool := false
  /-- the context being saved stands in its handler: a debugger had stopped it there (R477) -/
  inHandler : Bool := false
  /-- the sequence number of the checkpoint to which the trap being handled went back -/
  trapSeq : Nat := 0
  /-- frames popped by the save in progress (R318) -/
  frames : List Nat := []
  /-- 0 yield, 1 forced, 2 forced in handler mode, 3 the end of a kernel by SYSC service 0 -/
  saveKind : Nat := 0
  /-- YIELD or a loop boundary asks for a save once the branches have resolved: the sequence number of its bundle -/
  yieldPend : Option Nat := none
  saveWhy : Nat := 0
  /-- the rows of R267 that held the bundle at the program counter at its last attempt, as a mask -/
  stallWhy : Nat := 0
  /-- counts, trace records and signature bytes of bundles that may still be squashed (R485, R482) or rolled back (R491) -/
  pendCnt : List (Nat × Nat × Nat) := []
  pendTrc : List PendTrc := []
  pendSig : List (Nat × List Nat) := []
  deriving DecidableEq, Repr

end Sys2Proof.Machine
end

