-- ==== Sys2Proof/Machine/StateDie.lean ====
section
/-! DEFINITION. The state of the clusters and dies (chapters 11, 13, 14 and 21): barriers, temporal arrays, trace units, second-level TLBs, L2 lines, regulation points, walkers. -/

namespace Sys2Proof.Machine

/-- A barrier of a cluster, R333. -/
structure Barrier where
  /-- OWNER, the cores of the gang it is assigned to (R333). -/
  owner : Nat := 0
  /-- MEMB, the member mask (R333). -/
  memb : Nat := 0
  /-- ARR, the arrival mask (R333). -/
  arr : Nat := 0
  /-- PHASE (R333). -/
  phase : Nat := 0
  deriving DecidableEq, Repr

/-- A barrier instruction on its way to the barrier unit, or its waiting core, R336. -/
structure BarReq where
  /-- Core of the cluster (R336). -/
  core : Nat := 0
  /-- 0 BAR, 1 BARA, 2 BARW, 3 BARI (R335). -/
  op : Nat := 0
  /-- Barrier number (R335). -/
  bar : Nat := 0
  /-- S(A) at issue (R335). -/
  val : Nat := 0
  /-- Cycle in which the unit acts: 4 cc after the access leaves the core (R336). -/
  actAt : Nat := 0
  /-- The unit has acted and a BAR or BARW waits for done(p) (R336). -/
  acted : Bool := false
  /-- The value for sD, once the unit has acted and its wait has ended (R336). -/
  ans : Option Nat := none
  /-- Cycle of the answer (R336). -/
  ansAt : Nat := 0
  deriving DecidableEq, Repr

/-- A temporal array and its grant queue, R338. -/
structure TArray where
  /-- The weights w(i, j) at key 256 i + j (R338). -/
  weights : Tab Nat := []
  /-- Cells whose weight has a parity error (R350). -/
  bad : List Nat := []
  /-- The tick at which a row wire rose, 255 while low (R338). -/
  rows : Tab Nat := []
  /-- The tick at which a column wire rose, 255 while low (R338). -/
  cols : Tab Nat := []
  /-- DIRTY (R338). -/
  dirty : Bool := false
  /-- Address of the TACQ or TLNC bundle that made the array DIRTY (R346). -/
  dirtyAddr : Nat := 0
  /-- The core that holds the grant (R342). -/
  holder : Option Nat := none
  /-- Cores whose requests wait for the grant, in order (R342). -/
  queue : List Nat := []
  /-- The last core whose request entered behind a TREL, and the cycle (R342). -/
  late : Nat × Nat := (0, 0)
  /-- Guest of the last holder (R343). -/
  lastGuest : Option Nat := none
  /-- Cycle from which the next grant may be made (2 cc after a release, 520 cc for a scrub) (R342). -/
  freeAt : Nat := 0
  /-- A command on the array whose core has been stopped: the core, the command, the cycles it has run (R345). -/
  cut : Option (Nat × TCmd × Nat) := none
  deriving DecidableEq, Repr

/-- The trace unit of a cluster, R483. -/
structure TraceUnit where
  /-- TRC_BASE.EN (R483). -/
  en : Bool := false
  /-- TRC_BASE.BASE (R483). -/
  base : Nat := 0
  /-- TRC_SIZE.WRAP (R483). -/
  wrap : Bool := false
  /-- TRC_SIZE.PAGES (R483). -/
  pages : Nat := 1
  /-- TRC_PTR (R483). -/
  ptr : Nat := 0
  /-- TRC_CTL.GMASK (R483). -/
  gmask : Nat := 0
  /-- TRC_CTL.PERIOD (R483). -/
  period : Nat := 0
  /-- TRC_CTL.CORES (R483). -/
  cores : Nat := 0
  /-- TRC_CTL.TYPES (R483). -/
  types : Nat := 0
  /-- TRC_LOST (R483). -/
  lost : Nat := 0
  /-- For core k, the cycle of its next SAMPLE record (R482). -/
  nextAt : Tab Nat := []
  /-- records produced in the present cycle: core, guest, bytes (R483). -/
  recs : List (Nat × Nat × List Nat) := []
  deriving DecidableEq, Repr

/-- A logical cluster, R324. -/
structure Cluster where
  /-- The barriers (R333). -/
  bars : Tab Barrier := []
  /-- Accesses on their way to the barrier unit, in the order in which they leave (R336). -/
  breqs : List BarReq := []
  /-- The temporal array (R338). -/
  arr : TArray := {}
  /-- The trace unit (R483). -/
  trc : TraceUnit := {}
  /-- The second-level TLB (R379). -/
  tlb2 : List TlbEnt := []
  /-- The holder of the second-level TLB (R379). -/
  tlbGuest : Option Nat := none
  /-- 1 when the logical cluster lies on the die's spare (R352). -/
  phys : Nat := 0
  /-- 1 while the contexts of the cluster are saved for a swap, 2 for its retirement (R352). -/
  pend : Nat := 0
  /-- The cluster is retired (R353). -/
  retired : Bool := false
  /-- Event-latch writes on their way: cycle and core mask (R322). -/
  evs : List (Nat × Nat) := []
  /-- The settings of the holding guest while the unit is LENT to the host (R463). -/
  lent : Option TraceUnit := none
  /-- For core k, the first cycle in which its scratchpad has no remote access to serve (R327). -/
  netAt : Tab Nat := []
  deriving DecidableEq, Repr

/-- An entry of a walker's upper-level cache, R380. -/
structure WEnt where
  /-- Guest of the entry (R380). -/
  guest : Nat := 0
  /-- Generation (R380). -/
  gen : Nat := 0
  /-- First address covered (R380). -/
  va : Nat := 0
  /-- Level of the table that the entry names (R380). -/
  level : Nat := 0
  /-- PA of that table (R380). -/
  pa : Nat := 0
  deriving DecidableEq, Repr

/-- A compute die, R356. -/
structure Die where
  /-- The walker's upper-level cache (R380). -/
  wcache : List WEnt := []
  /-- The walker has failed and the next die's serves (R383). -/
  walkerFailed : Bool := false
  /-- A mesh link has failed (R383). -/
  meshFailed : Bool := false
  /-- The spare cluster is in use (R353). -/
  spareUsed : Bool := false
  deriving DecidableEq, Repr

/-- A token bucket of one guest at one regulation point, R371. -/
structure Bucket where
  /-- TBK_LEVEL.LEVEL (R371). -/
  level : Int := 0
  /-- TBK_DEPTH.DEPTH (R371). -/
  depth : Nat := 0
  /-- TBK_RATE.RATE (R371). -/
  rate : Nat := 0
  /-- TBK_MODE.MODE: 0 OFF, 1 SHAPE, 2 TRAP (R371). -/
  mode : Nat := 1
  /-- TBK_MODE.HCNT (R371). -/
  hcnt : Nat := 0
  /-- TBK_MODE.HELD (R371). -/
  held : Bool := false
  /-- TBK_MODE.SHR (R371). -/
  shr : Bool := false
  /-- TBK_HOLD.HOLD (R371). -/
  hold : Nat := 1
  /-- 1 when BUDGET is due, 2 once it was delivered in the present episode (R369). -/
  raised : Nat := 0
  /-- First cycle whose slots the admitted requests of the guest have not used (R370). -/
  next : Nat := 0
  deriving DecidableEq, Repr

/-- Who brings requests to the regulation points (R364): an agent of a core, or the command processor or an access from
outside for a guest. -/
structure Payer where
  /-- The core, none for the command processor and for an access from outside. -/
  core : Option Nat := none
  /-- The guest that is charged. -/
  guest : Nat := 0
  /-- As in `HeldReq`. -/
  tag : Nat := 0
  deriving DecidableEq, Repr

/-- Requests that have passed a point and whose access is still to come (R366, R370). -/
structure Grant where
  /-- Who has brought them. -/
  payer : Payer := {}
  /-- The bucket of the point, or the place of a scratchpad on the cluster network. -/
  key : Nat := 0
  /-- Their charge, R365. -/
  units : Nat := 0
  /-- Cycle from which they are served. -/
  since : Nat := 0
  deriving DecidableEq, Repr

/-- An invalidation that the host has requested and that has not completed (R381): the guest, what the affected entries map, the
guest's cores, each with the number of its last bundle, and the lines of their L1s and of their stores under affected entries. -/
structure Inval where
  guest : Nat
  spans : List (Nat × Nat)
  cores : List (Nat × Nat)
  lines : List (Nat × Nat × Nat)
  deriving DecidableEq, Repr

/-- How the accesses of a step pay their charges (the model's own field: `State.regulated`). -/
inductive Paying where
  /-- Each charge posts a request of its own, for which the step does not wait. -/
  | post
  /-- Each charge is debited at once (R316). -/
  | direct
  /-- The charges are collected: bucket and units. -/
  | collect (l : List (Nat × Nat))
  deriving DecidableEq, Repr

/-- A request that waits at a regulation point, R367. -/
structure HeldReq where
  /-- Die (R364). -/
  die : Nat := 0
  /-- Point (R364). -/
  point : Nat := 0
  /-- The guest that is charged (R367). -/
  guest : Nat := 0
  /-- The guest of the payer, another one for an access to a window of the own car (R521, R522). -/
  own : Nat := 0
  /-- The core whose S-path request it is, none for another source (R369). -/
  core : Option Nat := none
  /-- Charge in units of 64 bytes (R365). -/
  units : Nat := 0
  /-- Of a core: 0 the S path; 1 + 4 n + q command n of copy queue q; 3 + 4 k and 4 + 4 k the fetches and writes of stream k;
  68 released stores; 72 walks. Of no core: 0 the command processor, 100 and above an access from outside. 76 is a request for
  which nothing waits (R364). -/
  tag : Nat := 0
  /-- It has been admitted and waits for its slots (R367). -/
  adm : Bool := false
  /-- Requests of the same charge that its source presents behind it, one in each further cycle (R367). -/
  more : Nat := 0
  /-- The cycle in which it reaches the point (R367). -/
  since : Nat := 0
  deriving DecidableEq, Repr

/-- A line of the L2, R358. -/
structure L2Line where
  /-- Address of the line (R358). -/
  pa : Nat := 0
  /-- Key selector (R358). -/
  sel : Nat := 16
  /-- Way that holds it (R357). -/
  way : Nat := 0
  /-- Guest whose access allocated the line (R534). -/
  guest : Nat := 0
  /-- Differs from memory (R534). -/
  dirty : Bool := false
  /-- Its data have an uncorrectable error (R363). -/
  bad : Bool := false
  /-- The data (R356). -/
  data : List Nat := []
  deriving DecidableEq, Repr

end Sys2Proof.Machine
end

