-- ==== Sys2Proof/Machine/StateGuest.lean ====
section
/-! DEFINITION. The state of a guest (chapters 10, 16, 17, 21 and 22): contract, command streams, event counters, status ring, vectors, records, groups, saved contexts, attestation, replay. -/

namespace Sys2Proof.Machine

/-- A command stream, R414. -/
structure Cms where
  /-- CMSk_BASE.EN (R414). -/
  en : Bool := false
  /-- CMSk_BASE.BASE (R414). -/
  base : Nat := 0
  /-- CMSk_BASE.LOGN (R414). -/
  logn : Nat := 4
  /-- CMSk_TAIL (R414). -/
  tail : Nat := 0
  /-- CMSk_HEAD (R414). -/
  head : Nat := 0
  /-- CMSk_STAT.CAUSE (R414). -/
  cause : Nat := 0
  /-- CMSk_STAT.ERRK (R414). -/
  errk : Nat := 0
  /-- CMSk_STAT.ARM (R414). -/
  arm : Bool := false
  /-- CMSk_STAT.HALT (R414). -/
  halt : Bool := false
  /-- CMSk_STAT.RUN (R414). -/
  run : Bool := false
  /-- CMSk_EPOCH (R414). -/
  epoch : Nat := 0
  /-- EN was cleared while this graph was walked: the walk ends after its present node (R414). -/
  leaving : Bool := false
  /-- CMSk_FADDR (R414). -/
  faddr : Nat := 0
  /-- Head node of the graph that is walked (R423). -/
  gHead : Nat := 0
  /-- Node at which the walk stands (R423). -/
  node : Nat := 0
  /-- The walk has entered its node and waits for it (R423). -/
  entered : Bool := false
  /-- Number of the instance the walk waits for (R423). -/
  inst : Nat := 0
  /-- Order in which the walk reached a KERNEL node at the limit of 256 records (R427). -/
  reached : Nat := 0
  deriving DecidableEq, Repr

/-- A node instance or KERNEL record, R425. -/
structure Node where
  /-- Its number, in order of entry (R423). -/
  id : Nat := 0
  /-- Address of its node (R416). -/
  addr : Nat := 0
  /-- Stream it was entered from, or that of the launching kernel (R436). -/
  stream : Nat := 0
  /-- EPOCH of the walk that entered it (R423). -/
  epoch : Nat := 0
  /-- 1 KERNEL, 2 EVENT, 3 SPLICE, 4 HOSTIRQ, 5 COND (R416). -/
  kind : Nat := 1
  /-- The node as it was read (R416). -/
  bytes : List Nat := []
  /-- 0 PENDING, 1 READY, 2 RUNNING, 3 DONE, 4 FAILED (R425). -/
  st : Nat := 0
  /-- Group count, once read (R426). -/
  count : Nat := 0
  /-- Groups placed (R428). -/
  placed : Nat := 0
  /-- Groups complete (R429). -/
  complete : Nat := 0
  /-- Its unplaced groups are dropped (R436). -/
  dropped : Bool := false
  /-- Order in which it entered its queue (R427). -/
  order : Nat := 0
  /-- Bypass count (R428). -/
  bypass : Nat := 0
  /-- Later records that have already added to the bypass count (R428). -/
  passers : List Nat := []
  /-- It is the record of a replay pass (R490). -/
  replay : Bool := false
  /-- A SPLICE node has sent its list to the cores: 1 none refused it, 2 some refused it (R421). -/
  sent : Nat := 0
  deriving DecidableEq, Repr

/-- A member of a placed group, R418. -/
structure Member where
  /-- Core of the cluster (R418). -/
  core : Nat := 0
  /-- The kernel has ended by SYSC service 0 (R429). -/
  ended : Bool := false
  /-- Its stores and commands are performed (R429). -/
  written : Bool := false
  deriving DecidableEq, Repr

/-- A placed group, R425. -/
structure Grp where
  /-- Number of its record (R425). -/
  node : Nat := 0
  /-- Group index (R428). -/
  index : Nat := 0
  /-- Cluster 8d + c on which it is placed (R428). -/
  cl : Nat := 0
  /-- Its members (R418). -/
  members : List Member := []
  /-- 0 RUN, 1 SAVED, 2 COMPLETE, 3 GANGWAIT (R425). -/
  st : Nat := 0
  /-- Order in which it was placed or saved (R428). -/
  order : Nat := 0
  /-- The barriers saved with the gang (R333). -/
  bars : List (Nat × Barrier) := []
  /-- Windows of a relocated group on their way (R453). -/
  spad : List (Nat × Nat × Byte) := []
  /-- It has been asked to yield (R432). -/
  yield : Bool := false
  deriving DecidableEq, Repr

/-- A saved context, as Bowline holds it beside the image in the popped frames, R318. -/
structure SavedCtx where
  /-- Record (R318). -/
  node : Nat := 0
  /-- Group index (R318). -/
  index : Nat := 0
  /-- Member (R318). -/
  mem : Nat := 0
  /-- Cluster (R318). -/
  cl : Nat := 0
  /-- Core of the cluster (R318). -/
  core : Nat := 0
  /-- Image KIND (R318). -/
  kind : Nat := 0
  /-- WHY of the request (R314). -/
  why : Nat := 0
  /-- The context (R318). -/
  ctx : Core := {}
  /-- Frames the image occupies, in the order popped (R318). -/
  frames : List Nat := []
  deriving DecidableEq, Repr

/-- An interrupt vector of a guest, R449. -/
structure IrqVec where
  /-- IRQk_CFG.ITIME (R449). -/
  itime : Nat := 0
  /-- IRQk_CFG.ICNT (R449). -/
  icnt : Nat := 1
  /-- IRQk_STAT.PEND (R449). -/
  pend : Nat := 0
  /-- TIME at which PEND last left 0 (R449). -/
  first : Nat := 0
  /-- Message address of the vector's MSI-X table entry (R447). -/
  addr : Nat := 0
  /-- Message data of the vector's MSI-X table entry (R447). -/
  data : Nat := 0
  /-- Mask bit of the vector's MSI-X table entry (R449). -/
  masked : Bool := true
  /-- Pending bit of the vector (R449). -/
  waiting : Bool := false
  deriving DecidableEq, Repr

/-- The contract of a guest, R451. -/
structure Contract where
  /-- GC_CTL.EN (R451). -/
  en : Bool := false
  /-- GC_CTL.TENANT (R451). -/
  tenant : Nat := 0
  /-- GC_CTL.MAXSCOPE (R451). -/
  maxscope : Nat := 5
  /-- GC_CTL.CLASS (R451). -/
  cls : Nat := 3
  /-- GC_CTL.ERR (R451). -/
  err : Nat := 0
  /-- GC_CTL.GSTATE (R451). -/
  gstate : Nat := 0
  /-- GC_PART.RSZ (R451). -/
  rsz : Bool := false
  /-- GC_PART.PART (R451). -/
  part : Nat := 0
  /-- GC_L2.SHARE (R451). -/
  share : Bool := false
  /-- GC_L2.WAYS (R451). -/
  ways : Nat := 0
  /-- GC_SPW.WOFF (R451). -/
  woff : Nat := 0
  /-- GC_SPW.WLEN (R451). -/
  wlen : Nat := 0
  /-- GC_ROOT.ROOT (R451). -/
  root : Nat := 0
  /-- GC_ROOT.GEN (R451). -/
  gen : Nat := 0
  /-- GC_WALK.WS0-WS3 (R451). -/
  ws : List Nat := [0, 0, 0, 0]
  /-- GC_SFL.LIST (R451). -/
  sfl : Nat := 0
  /-- GC_SFLN.COUNT (R451). -/
  sfln : Nat := 0
  /-- PART, WAYS and COUNT as the host last wrote them (R461). -/
  hostPart : Nat := 0
  hostWays : Nat := 0
  hostSfln : Nat := 0
  /-- GC_MIN.MINBW (R451). -/
  minbw : Nat := 0
  /-- GC_MIN.MINWAYS (R451). -/
  minways : Nat := 0
  /-- GC_MIN.MINCL (R451). -/
  mincl : Nat := 0
  /-- GC_MIN.MINWIN (R451). -/
  minwin : Nat := 0
  /-- GC_EFF.MINBW (R454). -/
  effbw : Nat := 0
  /-- GC_EFF.MINWAYS (R454). -/
  effways : Nat := 0
  /-- GC_EFF.MINCL (R454). -/
  effcl : Nat := 0
  /-- GC_EFF.MINWIN (R454). -/
  effwin : Nat := 0
  /-- GC_KEY.VALID (R451). -/
  keyValid : Bool := false
  /-- GC_KEY.SRC (R451). -/
  keySrc : Nat := 0
  /-- The two keys of the key slot, empty when erased (R459). -/
  key : List Nat := []
  /-- GC_DPR.DPRA (R451). -/
  dpra : Nat := 0
  /-- GC_DPR.DPRP (R451). -/
  dprp : Nat := 0
  /-- GC_CAP0-GC_CAP3 (R451). -/
  caps : List Nat := [0, 0, 0, 0]
  deriving DecidableEq, Repr

/-- The replay registers of a guest, R489. -/
structure Replay where
  /-- RPL_NODE (R489). -/
  node : Nat := 0
  /-- RPL_SEL (R489). -/
  sel : Nat := 0
  /-- RPL_SNAP (R489). -/
  snap : Nat := 0
  /-- RPL_SNAPN (R489). -/
  pages : Nat := 0
  /-- RPL_OUT (R489). -/
  out : Nat := 0
  /-- RPL_CTL.PASSES (R489). -/
  passes : Nat := 0
  /-- RPL_CTL.BUSY (R489). -/
  busy : Bool := false
  /-- RPL_CTL.ABORT awaits the end of the present pass (R489). -/
  abort : Bool := false
  /-- RPL_STAT.REASON (R489). -/
  reason : Nat := 0
  /-- RPL_STAT.FIRSTMM (R489). -/
  firstmm : Nat := 0
  /-- RPL_STAT.DONE (R489). -/
  done : Nat := 0
  /-- Cluster of the member cores (R490). -/
  cl : Nat := 0
  /-- The present pass, from 1; 0 when none runs (R490). -/
  pass : Nat := 0
  /-- The path signature of each member in this pass (R491). -/
  sigs : Tab Nat := []
  /-- The signatures of pass 1 (R491). -/
  sigs1 : Tab Nat := []
  /-- Captured pages in the order of the snapshot area: physical address and key selector (R490). -/
  shots : List (Nat × Nat) := []
  /-- Pages of the snapshot area that the copied member windows take (R490). -/
  winPages : Nat := 0
  deriving DecidableEq, Repr

/-- A guest, R446. -/
structure Guest where
  /-- Its contract (R451). -/
  gc : Contract := {}
  /-- For core n, the frozen values of the counter bank that it holds there while another guest's context has the core: counters,
  PMCTL, MCYC (R463, R486). -/
  banks : Tab (Tab Pmc × W64 × Tab Nat) := []
  /-- Its command streams (R414). -/
  cms : Tab Cms := []
  /-- Event counters E0-E255 (R417). -/
  ev : Tab W64 := []
  /-- SEV_BASE.EN (R448). -/
  sevEn : Bool := false
  /-- SEV_BASE base (R448). -/
  sevBase : Nat := 0
  /-- SEV_BASE N - 4 (R448). -/
  sevN : Nat := 0
  /-- SEV_BASE.LOST (R448). -/
  sevLost : Bool := false
  /-- SEV_TAIL (R448). -/
  sevTail : Nat := 0
  /-- SEV_HEAD (R448). -/
  sevHead : Nat := 0
  /-- Interrupt vectors (R449). -/
  irq : Tab IrqVec := []
  /-- ATT_NONCE (R461). -/
  attNonce : Nat := 0
  /-- ATT_OUT (R461). -/
  attOut : Nat := 0
  /-- HWIN (R494). -/
  hwin : Nat := 0
  /-- Node instances and KERNEL records, in order of entry (R425). -/
  nodes : List Node := []
  /-- Number of the next instance (R423). -/
  nextId : Nat := 0
  /-- Next place in the order of queues and placements (R427). -/
  nextOrder : Nat := 0
  /-- Placed groups (R425). -/
  grps : List Grp := []
  /-- Saved contexts (R318). -/
  saved : List SavedCtx := []
  /-- Pool frames that the guest owns (R460). -/
  frames : List Nat := []
  /-- Walks that wait or run, in order, by who has asked for them (R380). -/
  walks : List (Payer × Option Nat) := []
  /-- Plane image last named by a KERNEL node (R461). -/
  lastImg : Nat := 0
  /-- Replay measurement (R489). -/
  rpl : Replay := {}
  /-- A STOP waits for the end of a resize (R446). -/
  stopWait : Bool := false
  /-- Partition of the resize that runs (R453). -/
  newPart : Nat := 0
  deriving DecidableEq, Repr

end Sys2Proof.Machine
end

