-- ==== Sys2Proof/Machine/StateFabric.lean ====
section
/-! DEFINITION. The state of the platform and of the fabric (chapters 16, 17, 22 and 23): frame registers, memory channels, frame pool, resources, platform block, Hawser ports, remote windows, collectives. -/

namespace Sys2Proof.Machine

/-- The registers of a window of the major frame, R433. -/
structure Win where
  /-- WINk_T.EN (R433). -/
  en : Bool := false
  /-- WINk_T.GUEST (R433). -/
  guest : Nat := 0
  /-- WINk_T.GUARD (R433). -/
  guard : Nat := 0
  /-- WINk_T.WLEN (R433). -/
  wlen : Nat := 0
  /-- WINk_T.START (R433). -/
  start : Nat := 0
  /-- WINk_C.CLMASK (R433). -/
  clmask : Nat := 0
  deriving DecidableEq, Repr

/-- The frame registers, R433. -/
structure FrameRegs where
  /-- FRAME_CTL.EN (R433). -/
  en : Bool := false
  /-- FRAME_CTL.PYDL (R433). -/
  pydl : Nat := 20000
  /-- FRAME_LEN.LEN (R433). -/
  len : Nat := 10000
  /-- WINk_T and WINk_C (R433). -/
  wins : Tab Win := []
  deriving DecidableEq, Repr

/-- The major frame, R433. -/
structure Frame where
  /-- The registers in force (R433). -/
  regs : FrameRegs := {}
  /-- The registers as written, in force from the next frame start (R433). -/
  next : FrameRegs := {}
  /-- FRAME_STAT.WERR (R433). -/
  werr : Nat := 0
  /-- WERR bits that are cleared at the next frame start (R433). -/
  wclr : Nat := 0
  /-- Accepted windows of this frame (R434). -/
  acc : List Nat := []
  /-- Windows whose guard band has begun (R435). -/
  guard : List Nat := []
  /-- Windows that have ended (R435). -/
  ended : List Nat := []
  /-- TIME of the start of this frame (R433). -/
  startAt : Nat := 0
  deriving DecidableEq, Repr

/-- An image slot of the flash (R501), by what the start of the device reads of it: whether its signature verifies by RFC 8554
(log entry 22), its top-level public key, its version and its configuration of memory, C, MEMTOP and RSZ in GiB. -/
structure Slot where
  signed : Bool := false
  key : List Nat := []
  version : Nat := 0
  cap : Nat := 0
  memtop : Nat := 0
  rsz : Nat := 0
  deriving DecidableEq, Repr

/-- The platform block and the parts outside the package, R493. -/
structure Plat where
  /-- Slot A of the flash (R501); as the device is shipped it is accepted (log entry 22). -/
  slotA : Option Slot := some { signed := true, cap := 6, memtop := 256, rsz := 64 }
  /-- Slot B of the flash (R501). -/
  slotB : Option Slot := none
  /-- The fuse value of the SHA-256 of the top-level public key (R501). -/
  fuseKey : List Nat := [0xE3, 0xB0, 0xC4, 0x42, 0x98, 0xFC, 0x1C, 0x14, 0x9A, 0xFB, 0xF4, 0xC8, 0x99, 0x6F, 0xB9, 0x24,
    0x27, 0xAE, 0x41, 0xE4, 0x64, 0x9B, 0x93, 0x4C, 0xA4, 0x95, 0x99, 0x1B, 0x78, 0x52, 0xB8, 0x55]
  /-- The fuse counter of versions (R501). -/
  fuseVersion : Nat := 0
  /-- Dies whose bring-up has been tried, in ascending number (R502). -/
  dieTried : Nat := 0
  /-- The SRAM repair map: spare rows in use, by core (R502, R510). -/
  sramMap : Tab Nat := []
  /-- The MSI-X vectors of the physical function (R493); of an entry the request counts are not used. -/
  pfIrq : Tab IrqVec := []
  /-- PLAT_STAT.STAGE (R502). -/
  stage : Nat := 0
  /-- PLAT_STAT.DIEUP (R502). -/
  dieup : Nat := 0
  /-- PLAT_STAT.REDDIE (R502). -/
  reddie : Nat := 0
  /-- PLAT_STAT.INSTR (R455). -/
  instr : Bool := false
  /-- PLAT_STAT.RECOV (R501). -/
  recov : Bool := false
  /-- PLAT_STAT.THERM (R509). -/
  therm : Bool := false
  /-- PLAT_STAT.FATAL (R512). -/
  fatal : Bool := false
  /-- SAFE_N is asserted (R508). -/
  safeN : Bool := false
  /-- A switchover waits for the next frame start (R504). -/
  full : Bool := false
  /-- The contexts are being saved for the switchover (R504). -/
  switching : Bool := false
  /-- MEM_CFG.MEMTOP in GiB (R496). -/
  memtop : Nat := 256
  /-- MEM_CFG.RSZ in GiB (R496). -/
  rsz : Nat := 64
  /-- MEM_CFG.C in GiB (R496). -/
  chCap : Nat := 6
  /-- MEM_RET (R500). -/
  memRet : Nat := 0
  /-- Channels retired, in order, from which the place of every line follows (R500). -/
  chRet : List Nat := []
  /-- TS_CTL.EN (R506). -/
  tsEn : Bool := false
  /-- TS_CTL.STEP (R506). -/
  tsStep : Bool := false
  /-- TS_SEC (R506). -/
  tsSec : Nat := 0
  /-- TS_STAT.LOCK (R506). -/
  tsLock : Bool := false
  /-- TS_STAT.ERR (R506). -/
  tsErr : Nat := 0
  /-- Rate correction of the timebase (R506). -/
  tsPpm : Int := 0
  /-- Frames by which TIME steps at the next frame start (R506). -/
  tsJump : Nat := 0
  /-- TIME of the last TSYNC edge (R506). -/
  tsLast : Nat := 0
  /-- PWR_CTL.CAP (R509). -/
  cap : Nat := 0
  /-- PWR_STAT.TJ (R509). -/
  tj : Nat := 0
  /-- PWR_STAT.AVG (R509). -/
  avg : Nat := 0
  /-- PWR_STAT.CSTEP (R509). -/
  cstep : Nat := 4
  /-- Consecutive frames that meet the condition of a step up (R509). -/
  coolFrames : Nat := 0
  /-- RAS_THR.ROWCE (R510). -/
  rowce : Nat := 16
  /-- RAS_THR.CLCE (R510). -/
  clce : Nat := 256
  /-- RAS_THR.CHCE (R510). -/
  chce : Nat := 1024
  /-- PMCSR of the physical function: D3hot (R493). -/
  d3 : Bool := false
  /-- Ring links lost between compute dies d and d + 1 (R512). -/
  ringLost : Nat := 0
  /-- Anchor links lost (R512). -/
  anchorLost : Nat := 0
  /-- Instruction of the debug pins (R507). -/
  ir : Nat := 0
  /-- Data shifted out on TDO (R507). -/
  jtagOut : List Nat := []
  /-- An unlock of the debug pins has been accepted (R507). -/
  unlocked : Bool := false
  /-- The answer of the recovery mailbox (R501). -/
  mailOut : List Nat := []
  /-- The completion of the host's last read: its data, or none for a Completer Abort (R494). -/
  hostOut : Option (List Nat) := none
  /-- AER log: function and guest virtual address of failed accesses (R494). -/
  aer : List (Nat × Nat) := []
  /-- The signing state counter (R462). -/
  hss : Nat := 0
  /-- Draws made from the random source (R459). -/
  nonce : Nat := 0
  /-- Clean frames (R460). -/
  poolClean : List Nat := []
  /-- Frames in the scrub queue (R460). -/
  poolScrub : List Nat := []
  /-- Guests whose POOL_ALLOC reads wait (R460). -/
  poolWait : List Nat := []
  /-- Completed POOL_ALLOC reads: guest and PA (R460). -/
  pollOut : List (Nat × Nat) := []
  /-- Holder of each resource: 0 FREE, 1 + g GUEST, 17 HOST, 18 + g LENT (R463). -/
  res : Tab Nat := []
  /-- DBG_CTL.GMASK of each core (R475). -/
  hostGmask : Tab Nat := []
  /-- Host settings of the debug blocks (R475). -/
  hostRegs : Tab W64 := []
  deriving DecidableEq, Repr

/-- What a flit carries: its type, the owner of the slots in which it is sent, a tenant or 0xFF, and its payload (R516, R517). -/
structure FlitMsg where
  type : Nat := 0
  owner : Nat := 0xFF
  payload : List Nat := []
  deriving DecidableEq, Repr

/-- A Hawser port, R528. -/
structure Port where
  /-- FPk_STAT.STATE: 0 DOWN, 1 TRAIN, 2 ATTEST, 3 UP (R518). -/
  state : Nat := 0
  /-- FPk_STAT.WHY (R518). -/
  why : Nat := 0
  /-- FPk_STAT.PEER (R518). -/
  peer : Nat := 0
  /-- FPk_STAT.PEERV (R518). -/
  peerv : Bool := false
  /-- FPk_STAT.RATE (R515). -/
  rate : Bool := false
  /-- FPk_ERR.RETRY (R516). -/
  retry : Nat := 0
  /-- FPk_ERR.FECC (R516). -/
  fecc : Nat := 0
  /-- FPk_WHEEL0-3 (R517). -/
  wheel : List W64 := [18446744073709551615, 18446744073709551615, 18446744073709551615, 18446744073709551615]
  /-- Sequence number of the next flit sent (R516). -/
  txSeq : Nat := 0
  /-- Sequence number of the next flit expected (R516). -/
  rxSeq : Nat := 0
  /-- Sequence number up to which the peer has acknowledged (R516). -/
  acked : Nat := 0
  /-- Sent flits not yet acknowledged, by their numbers (R516). -/
  kept : List (Nat × FlitMsg) := []
  /-- Flits that wait for a slot of their owner (R517). -/
  outq : List FlitMsg := []
  /-- Numbers of flits still to be sent again (R516). -/
  again : List Nat := []
  /-- Flit times of the wheel that have passed (R517). -/
  flitAt : Nat := 0
  /-- Successive failures of the expected flit (R516). -/
  fails : Nat := 0
  /-- Key of the outgoing direction (R519). -/
  txKey : List Nat := []
  /-- Key of the incoming direction (R519). -/
  rxKey : List Nat := []
  /-- Salt of the outgoing direction (R519). -/
  txSalt : List Nat := []
  /-- Salt of the incoming direction (R519). -/
  rxSalt : List Nat := []
  /-- Nonce sent in the link report (R519). -/
  nonce : List Nat := []
  /-- The draw of the encapsulation key sent in the link report (R519). -/
  draw : Nat := 0
  deriving DecidableEq, Repr

/-- A remote window, R522. -/
structure FWin where
  /-- FWINn_BASE.EN (R522). -/
  en : Bool := false
  /-- FWINn_BASE.W (R522). -/
  w : Bool := false
  /-- FWINn_BASE.ENC (R522). -/
  enc : Bool := false
  /-- FWINn_BASE.BASE (R522). -/
  base : Nat := 0
  /-- FWINn_CFG.TENANT (R522). -/
  tenant : Nat := 0
  /-- FWINn_CFG.GUEST (R522). -/
  guest : Nat := 0
  /-- FWINn_CFG.SIZE (R522). -/
  size : Nat := 0
  deriving DecidableEq, Repr

/-- The collective register of a guest, R526. -/
structure Fcgrp where
  /-- FCGRPg.BROKEN (R530). -/
  broken : Bool := false
  /-- FCGRPg.SEQ (R526). -/
  seqNo : Nat := 0
  /-- FCGRPg.TMO (R526). -/
  tmo : Nat := 10
  /-- FCGRPg.MEMB (R526). -/
  memb : Nat := 0
  /-- Collective numbers already aborted, with the status (R531). -/
  done : List (Nat × Nat) := []
  deriving DecidableEq, Repr

/-- A collective in the engine, R526. -/
structure Coll where
  /-- Guest (R526). -/
  guest : Nat := 0
  /-- Its number k (R526). -/
  num : Nat := 0
  /-- The core whose COLL entered it (R526). -/
  core : Nat := 0
  /-- It stands in queue B (R526). -/
  queueB : Bool := false
  /-- Sequence number of its command (R526). -/
  seqNo : Nat := 0
  /-- F (R525). -/
  kind : Nat := 0
  /-- LEN (R525). -/
  len : Nat := 0
  /-- DI (R525). -/
  di : Nat := 0
  /-- Address h(D) (R527). -/
  dst : Nat := 0
  /-- Address h(S) (R527). -/
  src : Nat := 0
  /-- The bytes read from h(S) (R527). -/
  inp : List Nat := []
  /-- TIME of its entry (R526). -/
  since : Nat := 0
  deriving DecidableEq, Repr

/-- A remote access sent and not yet answered, R523. -/
structure RemReq where
  /-- It has left through its port (R517). -/
  sent : Bool := false
  /-- Its number (R523). -/
  id : Nat := 0
  /-- Target car (R521). -/
  car : Nat := 0
  /-- Remote PA (R521). -/
  pa : Nat := 0
  /-- Port it was sent on (R514). -/
  port : Nat := 0
  /-- Issuing core (R523). -/
  core : Nat := 0
  /-- The command of the core it belongs to: 0 the S path, else 1 + 4 sequence number + queue (R523). -/
  tag : Nat := 0
  /-- Bytes (R523). -/
  len : Nat := 0
  /-- 0 read, 1 write, 2 atomic, 3 compare-and-swap (R523). -/
  kind : Nat := 0
  /-- Function of an atomic (R523). -/
  op : Nat := 0
  /-- Bytes written or the operand of an atomic (R523). -/
  data : List Nat := []
  /-- The value compared (R523). -/
  cmp : List Nat := []
  /-- The response: whether it succeeded, and its data (R523). -/
  ans : Option (Bool × List Nat) := none
  deriving DecidableEq, Repr

/-- The fabric block, R528. -/
structure Fab where
  /-- FAB_CTL.EN (R513). -/
  en : Bool := false
  /-- FAB_CTL.NCAR (R513). -/
  ncar : Nat := 0
  /-- FAB_CTL.CAR (R513). -/
  car : Nat := 0
  /-- FAB_CTL.TOPO (R513). -/
  topo : Nat := 0
  /-- FAB_ROOT0-3 (R519). -/
  root : List W64 := [0, 0, 0, 0]
  /-- FAB_LOG (R523). -/
  log : W64 := 0
  /-- The ports (R518). -/
  ports : Tab Port := []
  /-- FWIN0-31 (R522). -/
  wins : Tab FWin := []
  /-- FCGRP0-15 (R526). -/
  grp : Tab Fcgrp := []
  /-- Collectives in the engine (R526). -/
  colls : List Coll := []
  /-- Remote accesses not yet answered (R523). -/
  reqs : List RemReq := []
  /-- Links between other cars that are down, each by the car from which it leads to the next one (R514, R530). -/
  lost : List Nat := []
  /-- Aborts sent and not acknowledged: car, guest, number, TIME of the sending (R531). -/
  aborts : List (Nat × Nat × Nat × Nat) := []
  /-- Number of the next remote access (R523). -/
  nextId : Nat := 0
  deriving DecidableEq, Repr

end Sys2Proof.Machine
end

