-- ==== Sys2Proof/Machine/State.lean ====
section
/-! DEFINITION. The state of the machine (the whole package), as plain data: the cores, clusters and dies, memory and
the L2, the guests, the platform and the fabric, the inputs not yet taken and the signals sent. -/

namespace Sys2Proof.Machine

/-- The context of the bundle that is being executed: the slot operations of one bundle read the state before the bundle
(R23, R24) and write the state after it. -/
structure BCtx where
  /-- a bundle is being executed; otherwise a slot operation reads the present state -/
  on : Bool := false
  pre : Sync := {}
  addr : Nat := 0
  len : Nat := 0
  seqNo : Nat := 0
  mask : Nat := 0
  /-- the row of the stall table of R267 that holds the bundle at issue -/
  stall : Option Nat := none
  /-- every row that holds it, as a mask -/
  stalls : Nat := 0
  /-- causes raised: slot, cause, TRAPINFO (R307) -/
  causes : List (Nat × Nat × W64) := []
  /-- the bundle is followed by an implicit checkpoint (R300) -/
  post : Bool := false
  /-- cycles for which the next bundle is held (R266, R397) -/
  hold : Nat := 0
  /-- the branch of the bundle: predicted taken, actually taken, predicted target, actual target (R136, R137) -/
  br : Option (Bool × Bool × Nat × Nat) := none
  /-- the return stack as the resolved outcome of the branch leaves it (R136) -/
  brStack : List Nat := []
  /-- the next bundle's address when the S slot sets it (R135, R138, R140) -/
  next : Option Nat := none
  /-- stream elements consumed by the bundle: stream and count (R151) -/
  taken : List (Nat × Nat) := []
  /-- the S operation has itself ended the bundle (TRAP, R322) -/
  fin : Bool := false
  /-- WARN bits set by the slots of the bundle (R47) -/
  warn : Nat := 0
  deriving DecidableEq, Repr

/-- An access from outside: of the host through a virtual BAR4, or of another car (R494, R522). -/
inductive Outside where
  | host (guest : Nat) (write : Bool) (addr : Nat) (data : List Nat)
  /-- With the address, the guest and the key selector that its check has given it (R522, R529). -/
  | car (a : RemAcc) (pa guest sel : Nat)
  /-- A write of CMSk_TAIL behind posted writes of its function (R399, R415). -/
  | tail (guest k v : Nat)
  /-- A record of the trace unit of a cluster for a guest: where it goes and its bytes (R483). -/
  | record (cl guest va : Nat) (b : List Nat)
  deriving DecidableEq, Repr

/-- A cell of memory that is not listed reads as this byte: the manual gives memory no contents at power-on
(DESIGN CHOICE, log entry 4). -/
def memDefault : Byte := 0

/-- The machine. -/
structure State where
  /-- cycles of the core clock since reset -/
  now : Nat := 0
  /-- the package timebase count (R505) -/
  tb : Nat := 0
  /-- fraction of a count already passed, in 1 / ((8 - CSTEP) x 10^6) -/
  tbAcc : Nat := 0
  /-- microseconds of TIME for which the tick of R368 has been taken -/
  ticked : Nat := 0
  /-- the core whose turn it is to issue -/
  focus : Nat := 0
  cores : Tab Core := []
  cls : Tab Cluster := []
  dies : Tab Die := []
  /-- buckets by (32 die + point) x 16 + guest -/
  buckets : Tab Bucket := []
  /-- TBK_WHEEL0-3 by 32 die + point; unlisted: all 0xFF (R371) -/
  wheels : Tab (List W64) := []
  held : List HeldReq := []
  /-- requests that have passed their points, R366 -/
  grants : List Grant := []
  /-- how the accesses of the present step pay (the model's own field; `post` between steps) -/
  pays : Paying := .post
  l2 : List L2Line := []
  /-- L2 ways out of service (R383) -/
  waysOut : Nat := 0
  /-- memory in canonical form: addresses rising, no entry equal to `memDefault` -/
  mem : List Host.Cell := []
  /-- the key under which a line of memory is stored; unlisted: plaintext (R362) -/
  memKey : Tab (List Nat) := []
  /-- lines of memory with an uncorrectable error (R363) -/
  memBad : List Nat := []
  /-- discarded dirty lines whose MEMUE event is still to be written: guest and physical address (R363) -/
  memue : List (Nat × Nat) := []
  /-- physical address and point (32 die + number) of every MEMUE that Bowline has recorded for the host (R363, R382) -/
  memLog : List (Nat × Nat) := []
  /-- invalidations of the host that have not completed (R381) -/
  invals : List Inval := []
  /-- lines that each guest has allocated over others, which the choice of the next such way depends on (R359) -/
  l2Draws : Tab Nat := []
  guests : Tab Guest := []
  frame : Frame := {}
  plat : Plat := {}
  fab : Fab := {}
  /-- external and forced events not yet taken, oldest first -/
  inputs : List Instr := []
  /-- accesses from outside that wait at the regulation points, by their number, oldest first (R364, R367) -/
  parked : List (Nat × Outside) := []
  /-- events sent to the host: code, detail, address -/
  hostEvs : List (Nat × Nat × Nat) := []
  /-- MSI-X messages sent: function (0 physical, g + 1 virtual) and vector -/
  msgs : List (Nat × Nat) := []
  /-- flits sent: port and the 256 bytes of the flit (R516) -/
  flits : List (Nat × List Nat) := []
  /-- the counter of free values (the model's own field) -/
  free : Nat := 0
  cx : BCtx := {}
  deriving DecidableEq, Repr

/-- A fault stops the machine. No meaning of this model ends in one: every error that the manual describes is a trap, an
error status or a status event, which is a next state. -/
inductive Fault where
  /-- raised by nobody: kept because the interface asks for a type of faults; safe -/
  | none
  deriving DecidableEq, Repr

/-- A refusal gives an instruction no meaning. -/
inductive Refusal where
  /-- raised by `exec` for an instruction whose meaning is not written yet; safe -/
  | notModelled (mnemonic : String)
  deriving DecidableEq, Repr

/-- The machine right after reset: every register at the value that the manual gives, and where it gives none at the
value named in log entry 3; memory lists nothing; no core holds a context, no contract is loaded, PLAT_STAT.STAGE is 0
(R502). -/
def State.reset : State := {}

/-- The canonical form of memory: addresses strictly rising and no entry equal to what an unlisted address reads as. -/
def Memory.wf : List Host.Cell → Bool
  | [] => true
  | [(_, v)] => v != memDefault
  | (a, v) :: (b, w) :: t => v != memDefault && decide (a < b) && Memory.wf ((b, w) :: t)

end Sys2Proof.Machine
end

