-- ==== Sys2Proof/Machine/Memory.lean ====
section
/-! DEFINITION. Memory, the L2, the regulation points, translation, and the writes that Bowline makes into a guest's
memory (chapters 13, 17 and 21): the operations every access path shares. -/

namespace Sys2Proof.Machine

/-! ### Parts of the state -/

/-- Core n = 64 d + 8 c + k. -/
def State.coreAt (s : State) (n : Nat) : Core := s.cores.get {} n
/-- The core in focus. -/
def State.core (s : State) : Core := s.coreAt s.focus
/-- Change core n. -/
def State.modCoreAt (s : State) (n : Nat) (f : Core → Core) : State :=
  { s with cores := s.cores.set n (f (s.coreAt n)) }
/-- Change the core in focus. -/
def State.modCore (s : State) (f : Core → Core) : State := s.modCoreAt s.focus f
/-- Cluster 8 d + c. -/
def State.clAt (s : State) (i : Nat) : Cluster := s.cls.get {} i
/-- Change a cluster. -/
def State.modCl (s : State) (i : Nat) (f : Cluster → Cluster) : State := { s with cls := s.cls.set i (f (s.clAt i)) }
/-- Compute die d. -/
def State.dieAt (s : State) (d : Nat) : Die := s.dies.get {} d
/-- Change a die. -/
def State.modDie (s : State) (d : Nat) (f : Die → Die) : State := { s with dies := s.dies.set d (f (s.dieAt d)) }
/-- Guest g. -/
def State.guestAt (s : State) (g : Nat) : Guest := s.guests.get {} g
/-- Change a guest. -/
def State.modGuest (s : State) (g : Nat) (f : Guest → Guest) : State :=
  { s with guests := s.guests.set g (f (s.guestAt g)) }
/-- The cluster of core n. -/
def clOf (n : Nat) : Nat := n / 8
/-- The compute die of core n. -/
def dieOf (n : Nat) : Nat := n / 64
/-- A fresh occasion for a free value. -/
def State.tickFree (s : State) : State := { s with free := s.free + 1 }
/-- The running context's guest of the core in focus. -/
def State.gid (s : State) : Nat := s.core.guest
/-- TIME (R505). -/
def State.time (s : State) : Nat := s.tb / 250
/-- Core cycles in one timebase count at the clock step in force: 8 - k (R505, R509). -/
def State.ccPerCount (s : State) : Nat := 8 - s.plat.cstep
/-- Core cycles in 1 µs. -/
def State.ccPerUs (s : State) : Nat := 250 * s.ccPerCount

/-! ### Cells -/

/-- One byte of memory. -/
def memGet : List Host.Cell → Nat → Byte
  | [], _ => memDefault
  | (a, v) :: t, k => if a = k then v else memGet t k

/-- Write one byte, keeping the canonical form. -/
def memPut : List Host.Cell → Nat → Byte → List Host.Cell
  | [], k, v => if v = memDefault then [] else [(k, v)]
  | (a, w) :: t, k, v =>
    if k < a then (if v = memDefault then (a, w) :: t else (k, v) :: (a, w) :: t)
    else if a = k then (if v = memDefault then t else (k, v) :: t)
    else (a, w) :: memPut t k v

/-- n bytes of memory from address a. -/
def memRead (m : List Host.Cell) (a n : Nat) : List Nat := (List.range n).map (fun i => (memGet m (a + i)).toNat)

/-- Write a list of bytes from address a. -/
def memWrite (m : List Host.Cell) (a : Nat) : List Nat → List Host.Cell
  | [] => m
  | b :: t => memWrite (memPut m a (BitVec.ofNat 8 b)) (a + 1) t

/-- The number of a little-endian byte list (R4). -/
def ofLe : List Nat → Nat
  | [] => 0
  | b :: t => b + 256 * ofLe t

/-- The little-endian bytes of a number (R4). -/
def toLe : Nat → Nat → List Nat
  | 0, _ => []
  | n + 1, w => w % 256 :: toLe n (w / 256)

/-- Replace the bytes of a list from place i. -/
def patch (l : List Nat) (i : Nat) (b : List Nat) : List Nat := l.take i ++ b ++ l.drop (i + b.length)

/-- Split the n bytes at a into pieces that stay within lines of 128 bytes; `fuel` bounds the number of pieces. -/
def pieces : Nat → Nat → Nat → List (Nat × Nat)
  | 0, _, _ => []
  | fuel + 1, a, n =>
    if n = 0 then [] else
      let k := min n (128 - a % 128)
      (a, k) :: pieces fuel (a + k) (n - k)

/-- The pieces of an access. -/
def linePieces (a n : Nat) : List (Nat × Nat) := pieces (n / 128 + 2) a n

/-! ### Places of memory -/

/-- Installed memory ends here (R496, R503). -/
def State.memEnd (s : State) : Nat := (if s.plat.stage = 3 then s.plat.memtop else s.plat.rsz) * 2 ^ 30

/-- The die of the home slice of a line (R356; R503 in reduced service). -/
def State.homeDie (s : State) (pa : Nat) : Nat :=
  if s.plat.stage = 3 then
    bitsOf 8 7 pa ^^^ bitsOf 16 15 pa ^^^ bitsOf 24 23 pa ^^^ bitsOf 32 31 pa ^^^ bitsOf 40 39 pa ^^^ bitsOf 48 47 pa
  else s.plat.reddie

/-- The controller of a line on its die (R361; R503 in reduced service). -/
def State.ctlOf (s : State) (pa : Nat) : Nat :=
  if s.plat.stage = 3 then 4 * (bitsOf 51 11 pa % 3) + bitsOf 10 9 pa else (pa / 128) % 12

/-- The channel address of a line (R497, R503). -/
def State.channelAddr (s : State) (pa : Nat) : Nat :=
  if s.plat.stage = 3 then bitsOf 51 11 pa / 3 * 128 + pa % 128 else pa / 128 / 12 * 128 + pa % 128

/-- The key of a key selector: empty for plaintext, zeros for an erased key slot (R358, R362, R459). -/
def State.keyOf (s : State) (sel : Nat) : List Nat :=
  if sel < 16 then (if (s.guestAt sel).gc.key.isEmpty then List.replicate 64 0 else (s.guestAt sel).gc.key) else []

/-- Lines that every channel holds of its own (R497; R503 in reduced service). -/
def State.ownLines (s : State) : Nat :=
  if s.plat.stage = 3 then ceilDiv (s.plat.memtop * 2 ^ 30) 6144 else ceilDiv (s.plat.rsz * 2 ^ 30) 1536

/-- Channels of a die that a list of retirements leaves, in ascending order (R500). -/
def channelsLeft (gone : List Nat) (die : Nat) : List Nat :=
  ((List.range 12).map (fun c => 12 * die + c)).filter (fun c => !gone.contains c)

/-- Lines relocated into channel ch by the retirements of a list, newest first (R500): line j of a retired channel goes
to position j mod m among the m channels that remain. -/
def relocated (own ch : Nat) : List Nat → Nat
  | [] => 0
  | r :: old =>
    let before := relocated own ch old
    if r / 12 ≠ ch / 12 then before
    else
      let left := channelsLeft (r :: old) (r / 12)
      match left.findIdx? (fun c => c == ch) with
      | none => before
      | some i => before + (own + relocated own r old + left.length - 1 - i) / left.length

/-- Where a line of a channel lies after the retirements of a list, oldest first; `old` holds those already applied,
newest first (R500). -/
def relocate (own : Nat) : List Nat → List Nat → Nat × Nat → Nat × Nat
  | [], _, p => p
  | r :: t, old, p =>
    if p.1 ≠ r then relocate own t (r :: old) p
    else
      let left := channelsLeft (r :: old) (r / 12)
      let j := p.2 / 128
      let ch := left.getD (j % left.length) r
      relocate own t (r :: old) (ch, 128 * (own + relocated own ch old + j / left.length) + p.2 % 128)

/-- The channel 12 d + c and the channel address of a line, with the lines of retired channels relocated (R361, R497,
R500). -/
def State.placeOf (s : State) (pa : Nat) : Nat × Nat :=
  relocate s.ownLines s.plat.chRet [] (12 * s.homeDie pa + s.ctlOf pa, s.channelAddr pa)

/-! ### Regulation -/

/-- The key of a bucket. -/
def bkey (die point g : Nat) : Nat := (32 * die + point) * 16 + g
/-- The bucket of guest g at a point. -/
def State.bucket (s : State) (die point g : Nat) : Bucket := s.buckets.get {} (bkey die point g)
/-- Change a bucket. -/
def State.modBucket (s : State) (die point g : Nat) (f : Bucket → Bucket) : State :=
  { s with buckets := s.buckets.set (bkey die point g) (f (s.bucket die point g)) }

/-- The charge of n bytes in units of 64 bytes (R365). -/
def unitsOf (n : Nat) : Nat := ceilDiv n 64

/-- Whether a bucket admits a charge (R367): always in MODE OFF. -/
def Bucket.admits (b : Bucket) (units : Nat) : Bool := b.mode == 0 || decide ((units : Int) ≤ b.level)

/-- Debit a bucket; LEVEL saturates at -2^31, and MODE OFF debits nothing (R367). -/
def Bucket.debit (b : Bucket) (units : Nat) : Bucket :=
  if b.mode = 0 then b else { b with level := max (-(2 ^ 31 : Int)) (b.level - units) }

/-- Debit the bucket of guest g. -/
def State.debit (s : State) (die point g units : Nat) : State := s.modBucket die point g (fun b => b.debit units)

/-- The tag of a request for which nothing waits. -/
def postTag : Nat := 76
/-- The tag of the walks of a core (R364, R380). -/
def walkTag : Nat := 72
/-- The tag of the released stores of a core. -/
def storeTag : Nat := 68

/-- Runs of equal charges: the charge, and how many follow the first. -/
def chargeRuns : List Nat → List (Nat × Nat)
  | [] => []
  | u :: t => match chargeRuns t with
    | (v, m) :: r => if u = v then (v, m + 1) :: r else (u, 0) :: (v, m) :: r
    | [] => [(u, 0)]

/-- The runs of requests of a source, the first of which comes in a cycle. -/
def Payer.runs (o : Payer) (die point guest : Nat) : List (Nat × Nat) → Nat → List HeldReq
  | [], _ => []
  | (u, m) :: t, c =>
    { die := die, point := point, guest := guest, own := o.guest, core := o.core, units := u, tag := o.tag, more := m, since := c } ::
      o.runs die point guest t (c + m + 1)

/-- Requests of given charges to a guest, which a source brings one in each cycle (DESIGN CHOICE, log entry 35). -/
def Payer.requestsOf (o : Payer) (die point guest now : Nat) (l : List Nat) : List HeldReq :=
  o.runs die point guest (chargeRuns l) now

/-- The requests of a charge: one for each two units, and a last one of 1 (R365, R534). -/
def chargeParts (units : Nat) : List Nat := List.replicate (units / 2) 2 ++ List.replicate (units % 2) 1

/-- Two requests stand in one queue of a point. -/
def HeldReq.beside (h x : HeldReq) : Bool := h.die == x.die && h.point == x.point && h.guest == x.guest

/-- Put a request behind all others; it joins the last of its queue when that is of the same kind. -/
def joinLast (h : HeldReq) : List HeldReq → List HeldReq
  | [] => [h]
  | x :: t =>
    if h.beside x && !t.any h.beside && h.core == x.core && h.tag == x.tag && h.units == x.units
    then { x with more := x.more + h.more + 1 } :: t
    else x :: joinLast h t

/-- Bring requests to a point for which no step waits: the write-back of a line, and every access of a step that does not
wait for its own (R364, R534). -/
def State.post (s : State) (core : Option Nat) (die point g units : Nat) : State :=
  { s with held := (({ core := core, guest := g, tag := postTag } : Payer).requestsOf die point g s.now (chargeParts units)).foldl (fun l h => joinLast h l) s.held }

/-- Charge guest g at a point in the way in which the step pays. -/
def State.charge (s : State) (die point g units : Nat) : State :=
  match s.pays with
  | .post => s.post none die point g units
  | .direct => s.debit die point g units
  | .collect l => { s with pays := .collect (l ++ [(bkey die point g, units)]) }

/-- Run accesses with another way of paying. -/
def State.paying {α : Type} (s : State) (p : Paying) (f : State → State × α) : State × α :=
  let r := f { s with pays := p }
  ({ r.1 with pays := s.pays }, r.2)

/-- Run the write of a read-modify-write, which is charged as its read alone (R365). -/
def State.uncharged {α : Type} (s : State) (f : State → State × α) : State × α := s.paying (.collect []) f

/-- The place of the scratchpad of core k on its cluster's network, in the numbers of `Grant.key`. -/
def netKey (k : Nat) : Nat := 4096 + k

/-- Note units that an access needs under a key that is no regulation point. -/
def State.paysKey (s : State) (key units : Nat) : State :=
  match s.pays with
  | .collect l => { s with pays := .collect (l ++ [(key, units)]) }
  | _ => s

/-- An agent other than the S path accesses the scratchpad of another core over the cluster network (R327). -/
def State.netUse (s : State) (c k : Nat) : State := if c = k then s else s.paysKey (netKey k) 1

/-- Charge a controller access for a line (R364, R534). -/
def State.chargeCtl (s : State) (g pa units : Nat) : State :=
  let c := (s.placeOf pa).1
  s.charge (c / 12) (16 + c % 12) g units

/-- The owner byte of wheel slot i of a point (R371). -/
def State.wheelByte (s : State) (die point i : Nat) : Nat :=
  let w := s.wheels.get [] (32 * die + point)
  match w[i / 8]? with
  | some v => bitsOf (8 * (i % 8) + 7) (8 * (i % 8)) v.toNat
  | none => 0xFF

/-- Whether wheel slot i is SHARED. -/
def State.slotShared (s : State) (die point i : Nat) : Bool := s.wheelByte die point i == 0x80

/-- Whose turn a SHARED slot is in a cycle: the guests whose SHR bit is set take the SHARED slots in rotation (R370; the
rotation in ascending order of guests is a DESIGN CHOICE, log entry 42). -/
def State.sharedTurn (s : State) (die point cyc : Nat) : Option Nat :=
  let shared := (List.range 32).filter (fun i => s.slotShared die point i)
  let gs := (List.range 16).filter (fun g => (s.bucket die point g).shr)
  let k := cyc / 32 * shared.length + (shared.filter (fun i => decide (i < cyc % 32))).length
  gs[k % gs.length]?

/-- Whether the wheel slot of a cycle serves guest g: the guest owns it, or it is SHARED and its turn (R370). -/
def State.slotServes (s : State) (die point g cyc : Nat) : Bool :=
  s.wheelByte die point (cyc % 32) == g ||
    (s.slotShared die point (cyc % 32) && (s.bucket die point g).shr && s.sharedTurn die point cyc == some g)

/-- The wheel cycle of the n-th slot from cycle c on that serves guest g; 512 successive cycles without one tell that none does
(R370). -/
def State.nthSlot (s : State) (die point g : Nat) : Nat → Nat → Option Nat
  | 0, c => some (c - 1)
  | n + 1, c =>
    match (List.range 512).find? (fun i => s.slotServes die point g (c + i)) with
    | none => none
    | some i => s.nthSlot die point g n (c + i + 1)

/-- TIME in steps that divide the core cycle, and how many of them make one count of 4 ns (R505). -/
def State.fineTime (s : State) : Nat × Nat :=
  let n := s.ccPerCount * 1000000
  (s.tb * n + s.tbAcc, n)

/-- The first cycle of the wheel of a point that begins now or later: a cycle of the core clock at a port, the time of one
64-byte transfer at a controller, of which 600 make 1 µs (R370, R499). -/
def State.wheelNow (s : State) (point : Nat) : Nat :=
  if point < 16 then s.now else ceilDiv (600 * s.fineTime.1) (250 * s.fineTime.2)

/-- The core cycle in which a cycle of the wheel of a point begins, at the clock step in force. -/
def State.wheelStart (s : State) (point w : Nat) : Nat :=
  if point < 16 then w
  else s.now + ceilDiv (w * (250 * s.fineTime.2) - 600 * s.fineTime.1) (600 * (1000000 + s.plat.tsPpm).toNat)

/-- The wheel cycle of the last of the next n slots of guest g at a point (R370). -/
def State.slotTime (s : State) (die point g n : Nat) : Option Nat :=
  s.nthSlot die point g n (max (s.wheelNow point) (s.bucket die point g).next)

/-! ### Places at the walker (R380, R383) -/

/-- The die whose walker serves a die (R383). -/
def State.walkerDie (s : State) (d : Nat) : Nat :=
  if !(s.dieAt d).walkerFailed then d
  else if !(s.dieAt ((d + 1) % 4)).walkerFailed then (d + 1) % 4
  else if !(s.dieAt ((d + 2) % 4)).walkerFailed then (d + 2) % 4 else (d + 3) % 4

/-- The walk slots that serve guest g on a die (R380), those of a failed walker's die added (R383). -/
def State.walkSlots (s : State) (g die : Nat) : Nat :=
  let w := s.walkerDie die
  ((List.range 4).filter (fun d => s.walkerDie d == w)).foldl (fun n d => n + ((s.guestAt g).gc.ws).getD d 0) 0

/-- The die of a payer: that of its core, and die 0 for the command processor (DESIGN CHOICE, log entry 43). -/
def Payer.die (o : Payer) : Nat := match o.core with | some n => dieOf n | none => 0

/-- A core still has the agent of a tag: its walk, its stores, a stream, a command of a copy queue. -/
def Core.hasAgent (k : Core) (tag : Nat) : Bool :=
  if tag = walkTag then k.walk.isSome
  else if tag = storeTag then !k.stores.isEmpty
  else if tag % 4 = 3 ∨ tag % 4 = 0 then true
  else (k.cqa ++ k.cqb).any (fun c => c.seqNo == (tag - 1) / 4)

/-- A walk that has been asked for is still wanted: of a core, by its agent; of no core, while its requests stand at the
walker's point. -/
def State.wantsWalk (s : State) (o : Payer) : Bool :=
  match o.core with
  | some n => (s.coreAt n).guest == o.guest && (s.coreAt n).hasAgent o.tag
  | none => s.held.any (fun h => h.point == 9 && h.core.isNone && h.own == o.guest && h.tag == o.tag)

/-- The walks of a list that take a slot: one that joins a walk of its page before it takes none (R380). -/
def leaders : List Nat → List (Payer × Option Nat) → List Payer
  | _, [] => []
  | seen, (o, some p) :: t => if seen.contains p then leaders seen t else o :: leaders (p :: seen) t
  | seen, (o, none) :: t => o :: leaders seen t

/-- The walks of guest g that the walker of a die serves, in order, with their pages. -/
def State.walkQueue (s : State) (g die : Nat) : List (Payer × Option Nat) :=
  (s.guestAt g).walks.filter (fun o => s.walkerDie o.1.die == s.walkerDie die && s.wantsWalk o.1)

/-- A walk has a slot of its guest at the walker (R380). The command processor, whose die may give the guest none, has
always one (log entry 43). -/
def State.walkTurn (s : State) (o : Payer) : Bool :=
  let q := s.walkQueue o.guest o.die
  let n := s.walkSlots o.guest o.die
  match o.core with
  | some _ => ((leaders [] q).take n).contains o
  | none => ((leaders [] (q.filter (fun x => x.1 != o))).take (max n 1)).length < max n 1 || q.any (fun x => x.1 == o)

/-- A walk stands in the queue of its guest. -/
def State.walkAsked (s : State) (o : Payer) : Bool := (s.guestAt o.guest).walks.any (fun x => x.1 == o)
/-- A walk for a page joins the queue of its guest; the command processor's joins no other walk. -/
def State.joinWalker (s : State) (o : Payer) (page : Option Nat) : State :=
  if s.walkAsked o then s
  else s.modGuest o.guest (fun x => { x with
    walks := x.walks.filter (fun y => s.wantsWalk y.1) ++ [(o, if o.core.isSome then page else none)] })
/-- A walk leaves the queue of its guest. -/
def State.leaveWalker (s : State) (o : Payer) : State :=
  if s.walkAsked o then s.modGuest o.guest (fun x => { x with walks := x.walks.filter (fun y => y.1 != o) }) else s

/-! ### Accesses that wait for their requests (R364 to R370) -/

/-- Requests of a payer stand at a point or wait for their slots, or its walk waits for a slot of the walker. -/
def State.waiting (s : State) (o : Payer) : Bool :=
  s.held.any (fun h => h.core == o.core && h.own == o.guest && h.tag == o.tag) ||
  s.grants.any (fun x => x.payer == o && decide (s.now < x.since)) ||
  (s.walkAsked o && !s.walkTurn o)

/-- The key of the lookup of an engine's access that hits the second-level TLB, in the numbers of `Grant.key`. -/
def tlbKey : Nat := 8192

/-- The key that tells the page of a walk, GVA[47:12], in the numbers of `Grant.key`; it is charged nothing. -/
def pageKey (va : Nat) : Nat := 16384 + va / 4096

/-- The page of the first walk of a list of charges. -/
def walkPage (l : List (Nat × Nat)) : Option Nat := (l.find? (fun p => decide (16384 ≤ p.1))).map (fun p => p.1 - 16384)

/-- The units of a list of charges under one key. -/
def unitsAt (l : List (Nat × Nat)) (key : Nat) : Nat := ((l.filter (fun p => p.1 == key)).map (fun p => p.2)).sum

/-- The charges that a number of units does not pay, in order. -/
def unpaid : Nat → List Nat → List Nat
  | _, [] => []
  | p, u :: t => if u ≤ p then unpaid (p - u) t else (u - p) :: t

/-- What a payer has still to bring for a list of charges: key and charges. -/
def State.short (s : State) (o : Payer) (l : List (Nat × Nat)) : List (Nat × List Nat) :=
  let paid := (s.grants.filter (fun x => x.payer == o)).map (fun x => (x.key, x.units))
  (((l.map (fun p => p.1)).eraseDups).map (fun k =>
    (k, unpaid (unitsAt paid k) ((l.filter (fun p => p.1 == k)).map (fun p => p.2))))).filter (fun p => !p.2.isEmpty)

/-- The point of a key is an initiator (R364). -/
def initiator (key : Nat) : Bool := decide (key / 16 % 32 < 16) && decide (key < 4096)

/-- The first cycle from now on in which the scratchpad of core k accepts a remote access (R327). -/
def State.netFree (s : State) (k : Nat) : Nat := max s.now ((s.clAt (clOf k)).netAt.get 0 (k % 8))

/-- The scratchpad of core k has accesses to serve up to a cycle. -/
def State.netTake (s : State) (k last : Nat) : State :=
  s.modCl (clOf k) (fun x => { x with netAt := x.netAt.set (k % 8) (last + 1) })

/-- Bring what a payer lacks under one key: requests to the point, the 10 cc of hits in the second-level TLB (R289), or the
next cycles in which a scratchpad accepts an access over the cluster network (R327). -/
def State.bring (o : Payer) (s : State) (p : Nat × List Nat) : State :=
  if p.1 < 4096 then { s with held := s.held ++ o.requestsOf (p.1 / 512) (p.1 / 16 % 32) (p.1 % 16) s.now (p.2.flatMap chargeParts) }
  else if p.1 = tlbKey then { s with grants := s.grants ++ [{ payer := o, key := p.1, units := p.2.sum, since := s.now + 10 }] }
  else
    let k := p.1 - 4096
    let last := s.netFree k + p.2.sum - 1
    { s.netTake k last with grants := s.grants ++ [{ payer := o, key := p.1, units := p.2.sum, since := last }] }

/-- Make accesses once the regulation points have passed their requests (R364 to R370): after hits in the second-level TLB
(R289) first those of the initiator points, then those of the controllers. `f` makes the accesses and collects what they are charged; while something is lacking its
outcome is dropped, the requests are brought, and it is made again when they have passed. A `wait` of another kind keeps what
has been paid. -/
def State.regulated {α : Type} (s : State) (o : Payer) (wait : α → Bool) (f : State → State × α) : State × Option α :=
  match s.pays with
  | .post =>
    if s.waiting o then (s, none)
    else
      let r := f { s with pays := .collect [] }
      let all := match r.1.pays with | .collect l => l | _ => []
      let short := s.short o all
      let look := short.filter (fun p => p.1 == tlbKey)
      let first := if look.isEmpty then short.filter (fun p => initiator p.1) else look
      let ask := if first.isEmpty then short else first
      if ask.isEmpty then
        (if wait r.2 then { r.1 with pays := .post }
         else { r.1.leaveWalker o with pays := .post, grants := r.1.grants.filter (fun x => x.payer != o) }, some r.2)
      else if ask.any (fun p => p.1 / 16 % 32 == 9 && decide (p.1 < 4096)) && !(s.walkAsked o && s.walkTurn o) then
        (s.joinWalker o (walkPage all), none)
      else (ask.foldl (State.bring o) s, none)
  | _ => let r := f s; (r.1, some r.2)

/-- The command processor for a guest. -/
def cpPayer (g : Nat) : Payer := { guest := g }

/-- The command processor waits for its requests for guest g. -/
def State.cpWaits (s : State) (g : Nat) : Bool := s.waiting (cpPayer g)

/-- A step of the command processor that fetches or writes for guest g: it is taken once point 8 of die 0 and the points
beyond have passed its requests (R364; the die is a DESIGN CHOICE, log entry 43). -/
def State.cpGate (s : State) (g : Nat) (f : State → State) : State :=
  (s.regulated (cpPayer g) (fun _ => false) (fun t => (f t, ()))).1

/-! ### The controller and the L2 -/

/-- The bytes of a line as the controller returns them under a key, none for an uncorrectable error (R362, R363). -/
def State.ctlRead (s : State) (line : Nat) (key : List Nat) : Option (List Nat) :=
  if s.memBad.contains line then none
  else
    let raw := memRead s.mem line 128
    let k := s.memKey.get [] (line / 128)
    if k = key then some raw
    else
      -- what stands in memory is encrypted under k; it is decrypted under the key of the access
      let stored := if k = [] then raw else Cipher.line true k line raw
      some (if key = [] then stored else Cipher.line false key line stored)

/-- Write a whole line at the controller under a key (R362). -/
def State.ctlWrite (s : State) (line : Nat) (key : List Nat) (b : List Nat) : State :=
  { s with
    mem := memWrite s.mem line (b.take 128)
    memKey := if key = [] then s.memKey.del (line / 128) else s.memKey.set (line / 128) key
    memBad := s.memBad.filter (fun x => x != line) }

/-- The L2 line with a PA and a key selector (R358). -/
def State.l2Find (s : State) (line sel : Nat) : Option L2Line := s.l2.find? (fun l => l.pa == line && l.sel == sel)

/-- Drop a line from the L2 without write-back. -/
def State.l2Drop (s : State) (line sel : Nat) : State :=
  { s with l2 := s.l2.filter (fun l => !(l.pa == line && l.sel == sel)) }

/-- Bowline records the physical address and the point of a MEMUE for the host (R363, R382): the point is the controller of
the line. -/
def State.logMemue (s : State) (pa : Nat) : State :=
  let c := (s.placeOf pa).1
  { s with memLog := s.memLog ++ [(pa / 128 * 128, 32 * (c / 12) + 16 + c % 12)] }

/-- Bowline records a MEMUE of an array of core c, its L1 or its scratchpad: the point is the port of its cluster, and the
address of a scratchpad byte is the one that its offset has in the cluster aperture (R382, R324; log entry 116). -/
def State.logArray (s : State) (c pa : Nat) : State :=
  { s with memLog := s.memLog ++ [(pa, 32 * dieOf c + clOf c % 8)] }

/-- The address under which the host learns of a scratchpad byte. -/
def spadPa (c o : Nat) : Nat := 0xFF0100000000 + 2 ^ 21 * (c % 8) + o

/-- Write back a dirty line: 2 units to the guest that allocated it, in a request of its own (R534, R366); a line found
uncorrectable is discarded, and MEMUE is due to its guest (R363). -/
def State.l2WriteBack (s : State) (l : L2Line) : State :=
  if !l.dirty then s
  else if l.bad then { (s.logMemue l.pa) with memue := s.memue ++ [(l.guest, l.pa)] }
  else
    let c := (s.placeOf l.pa).1
    let t := s.ctlWrite l.pa (s.keyOf l.sel) l.data
    match s.pays with
    | .direct => t.debit (c / 12) (16 + c % 12) l.guest 2
    | _ => t.post none (c / 12) (16 + c % 12) l.guest 2

/-- Write a line back and invalidate it. -/
def State.l2Evict (s : State) (l : L2Line) : State := (s.l2WriteBack l).l2Drop l.pa l.sel

/-- Write a line back and keep it clean. -/
def State.l2Clean (s : State) (l : L2Line) : State :=
  let t := s.l2WriteBack l
  if l.bad then t.l2Drop l.pa l.sel
  else { t with l2 := t.l2.map (fun x => if x.pa == l.pa && x.sel == l.sel then { x with dirty := false } else x) }

/-- The ways that guest g may allocate in (R359, R383). -/
def State.wayList (s : State) (g : Nat) : List Nat :=
  (List.range 32).filter (fun w => bitOf w (s.guestAt g).gc.ways && !bitOf w s.waysOut)

/-- The lines of the set of a PA (R357). -/
def State.l2Set (s : State) (line : Nat) : List L2Line :=
  s.l2.filter (fun l => bitsOf 22 9 l.pa == bitsOf 22 9 line && s.homeDie l.pa == s.homeDie line)

/-- Allocate a line for guest g: an empty way of its mask, or else a way of the mask that the manual leaves
unspecified (R359; the preference for an empty way is a DESIGN CHOICE, log entry 9). -/
def State.l2Alloc (s : State) (g line sel : Nat) (dirty : Bool) (data : List Nat) : State :=
  let ways : List Nat := s.wayList g
  let here : List L2Line := s.l2Set line
  match ways.find? (fun w => !here.any (fun (l : L2Line) => l.way == w)) with
  | some w => { s with l2 := s.l2 ++ [{ pa := line, sel := sel, way := w, guest := g, dirty := dirty, data := data }] }
  | none =>
    -- the choice depends on what the guest itself has allocated, and on no access outside its mask (R359, R372)
    let n := s.l2Draws.get 0 g
    match ways[Config.freeNat n (2000 + g) % ways.length]? with
    | none => s
    | some w =>
      let victim : Option L2Line := here.find? (fun l => l.way == w)
      let t : State := match victim with | some l => s.l2Evict l | none => s
      let t := { t with l2Draws := t.l2Draws.set g (n + 1) }
      { t with l2 := t.l2 ++ [{ pa := line, sel := sel, way := w, guest := g, dirty := dirty, data := data }] }

/-- A cached read of n bytes within one line, performed at the home slice (R356, R359, R534); none is MEMUE. -/
def State.homeRead (s : State) (g sel pa n : Nat) : State × Option (List Nat) :=
  let line := pa / 128 * 128
  match s.l2Find line sel with
  | some l => if l.bad then (s.logMemue line, none) else (s, some ((l.data.drop (pa % 128)).take n))
  | none =>
    match s.ctlRead line (s.keyOf sel) with
    | none => ((s.chargeCtl g line (if (s.wayList g).isEmpty then unitsOf n else 2)).logMemue line, none)
    | some b =>
      if (s.wayList g).isEmpty then (s.chargeCtl g line (unitsOf n), some ((b.drop (pa % 128)).take n))
      else ((s.chargeCtl g line 2).l2Alloc g line sel false b, some ((b.drop (pa % 128)).take n))

/-- A write that reaches the controller itself (R534): a whole line is written, less than one is read and written as a whole. -/
def State.ctlPut (s : State) (g line sel off : Nat) (b : List Nat) : State × Bool :=
  if b.length = 128 then ((s.ctlWrite line (s.keyOf sel) b).chargeCtl g line 2, true)
  else match s.ctlRead line (s.keyOf sel) with
    | none => ((s.chargeCtl g line 2).logMemue line, false)
    | some o => ((s.ctlWrite line (s.keyOf sel) (patch o off b)).chargeCtl g line 4, true)

/-- A cached write within one line, performed at the home slice (R356, R534); false is MEMUE of the fill. -/
def State.homeWrite (s : State) (g sel pa : Nat) (b : List Nat) : State × Bool :=
  let line := pa / 128 * 128
  match s.l2Find line sel with
  | some l =>
    if l.bad && b.length < 128 then (s.logMemue line, false)
    else ({ s with l2 := s.l2.map (fun x => if x.pa == line && x.sel == sel
              then { x with data := patch x.data (pa % 128) b, dirty := true, bad := false } else x) }, true)
  | none =>
    if (s.wayList g).isEmpty then s.ctlPut g line sel (pa % 128) b
    else if b.length = 128 then (s.l2Alloc g line sel true b, true)
    else
      match s.ctlRead line (s.keyOf sel) with
      | none => ((s.chargeCtl g line 2).logMemue line, false)
      | some o => ((s.chargeCtl g line 2).l2Alloc g line sel true (patch o (pa % 128) b), true)

/-- Before an uncached access the slice writes the line back and invalidates it (R358). -/
def State.l2Flush (s : State) (line : Nat) : State :=
  (s.l2.filter (fun l => l.pa == line)).foldl (fun t l => t.l2Evict l) s

/-- An uncached read within one line (R358). -/
def State.uncRead (s : State) (g sel pa n : Nat) : State × Option (List Nat) :=
  let line := pa / 128 * 128
  let t := s.l2Flush line
  let t := t.chargeCtl g line (unitsOf n)
  match t.ctlRead line (t.keyOf sel) with
  | none => (t.logMemue line, none)
  | some b => (t, some ((b.drop (pa % 128)).take n))

/-- An uncached write within one line (R358, R534). -/
def State.uncWrite (s : State) (g sel pa : Nat) (b : List Nat) : State × Bool :=
  (s.l2Flush (pa / 128 * 128)).ctlPut g (pa / 128 * 128) sel (pa % 128) b

/-! ### Shadow tables (R373 to R378) -/

/-- Cause codes of R323 that memory accesses raise. -/
def cNOTMAP : Nat := 0x40
/-- PROT. -/
def cPROT : Nat := 0x41
/-- WPGT. -/
def cWPGT : Nat := 0x42
/-- MEMUE. -/
def cMEMUE : Nat := 0x43
/-- FABERR. -/
def cFABERR : Nat := 0x44
/-- MISALIGN. -/
def cMISALIGN : Nat := 0x45
/-- Not a cause: the access waits for an answer from another car. -/
def cWAIT : Nat := 256

/-- The index of a table entry and the size in bits of its page, by level (R373). -/
def levelShift (level : Nat) : Nat := 12 + 9 * level

/-- The size of a span group at a level: entries (R375). -/
def spanCount (level : Nat) : Nat := if level = 2 then 4 else 16

/-- Reserved bits of an entry that are set (R374). -/
def pteReserved (leaf : Bool) (e : Nat) : Bool :=
  bitOf 1 e || bitOf 5 e || bitsOf 63 52 e != 0 || (!leaf && bitsOf 11 3 e != 0)

/-- The page of a leaf: the group of a consistent span, or the entry's own page (R375). `grp` holds the entries of the
group, from its first one. -/
def leafPage (level va e : Nat) (grp : List Nat) : Nat × Nat × Nat :=
  let bits := levelShift level
  let own := (va / 2 ^ bits * 2 ^ bits, bits, bitsOf 51 12 e * 4096)
  let n := spanCount level
  let i := (va / 2 ^ bits) % n
  let pa := bitsOf 51 12 e * 4096
  let gb := bits + (if level = 2 then 2 else 4)
  let gpa := pa - i * 2 ^ bits
  if bitOf 6 e && decide (i * 2 ^ bits ≤ pa) && gpa % 2 ^ gb == 0 && grp.length == n &&
      (List.range n).all (fun j => grp.getD j 0 == gpa + j * 2 ^ bits + e % 4096) then
    (va / 2 ^ gb * 2 ^ gb, gb, gpa)
  else own

/-- One read of the walker at the home slice of a table line with key selector 16: the entry at `pa`, and the n bytes of its
group from `grp`. It is charged at point 9, and where it needs one at its controller, for the entry that its level needs
(R364, R380; log entry 33). -/
def State.walkRead (s : State) (g die pa grp n : Nat) : State × Option (List Nat) :=
  let r := (s.charge die 9 g 1).homeRead g 16 pa 8
  match r.2 with
  | none => (r.1, none)
  | some b => if n ≤ 8 then (r.1, some b) else r.1.uncharged (fun t => t.homeRead g 16 grp n)

/-- Whether a page is a device or remote page, which lies outside installed memory (R376). -/
def pteOther (e : Nat) : Bool := bitsOf 9 8 e == 2 || bitsOf 9 8 e == 3

/-- Walk one level (R373 to R376): `table` is the PA of the table. -/
def State.walkLevel (s : State) (g die gen va kind : Nat) : List Nat → Nat → State × Except Nat TlbEnt
  | [], _ => (s, .error cNOTMAP)
  | level :: rest, table =>
    let idx := (va / 2 ^ levelShift level) % 512
    -- one read of the line brings the entry and the group of its span
    let n := spanCount level
    let r := s.walkRead g die (table + 8 * idx) (table + 8 * (idx / n * n)) (8 * n)
    let s1 := r.1
    match r.2 with
    | none => (s1, .error cMEMUE)
    | some b =>
      let grp := (List.range n).map (fun j => ofLe ((b.drop (8 * j)).take 8))
      let e := grp.getD (idx % n) 0
      let leaf := level == 0 || bitOf 2 e
      if !bitOf 0 e || pteReserved leaf e then (s1, .error cNOTMAP)
      else if leaf then
        let pa := bitsOf 51 12 e * 4096
        if level = 3 || pa % 2 ^ levelShift level != 0 then (s1, .error cNOTMAP)
        else if !pteOther e && decide (s1.memEnd < pa + 2 ^ levelShift level) then (s1, .error cNOTMAP)
        else
          let p := leafPage level va e (if bitOf 6 e then grp else [])
          let c := (s.guestAt g).gc
          -- a write through a leaf with W = 1 and D = 0 sets D first (R377), unless the access fails there (R376)
          let setD := (kind == 2 || kind == 3 || kind == 5 || kind == 6) && bitOf 3 e && !bitOf 7 e &&
            (kind == 2 || bitsOf 9 8 e != 2) && (kind != 6 || decide (bitsOf 9 8 e < 2))
          let r3 := if setD then
              ((s1.charge die 9 g 1).homeWrite g 16 (table + 8 * idx) (toLe 8 (e + 128))) else (s1, true)
          (r3.1, .ok { guest := g, gen := gen, va := if setD then va / 2 ^ levelShift level * 2 ^ levelShift level else p.1,
                       bits := if setD then levelShift level else p.2.1,
                       pa := if setD then pa else p.2.2, mt := bitsOf 9 8 e,
                       enc := bitOf 10 e || (c.cls == 3 && !pteOther e),
                       w := bitOf 3 e, x := bitOf 4 e, d := bitOf 7 e || setD, gt := bitOf 11 e })
      else if level = 0 then (s1, .error cNOTMAP)
      else
        let pa := bitsOf 51 12 e * 4096
        if s1.memEnd < pa + 4096 then (s1, .error cNOTMAP) else
        -- the walker keeps the upper-level entry in the guest's partition (R380)
        let ent : WEnt := { guest := g, gen := gen, va := va / 2 ^ levelShift level * 2 ^ levelShift level, level := level - 1, pa := pa }
        let slots := s1.walkSlots g die
        let keep (d : Die) : Die :=
          if d.wcache.contains ent || slots = 0 then d
          else
            let mine := d.wcache.filter (fun x => x.guest == g)
            let others := d.wcache.filter (fun x => x.guest != g)
            { d with wcache := others ++ (mine ++ [ent]).drop ((mine.length + 1) - slots) }
        (s1.modDie die keep).walkLevel g die gen va kind rest pa

/-- Walk the shadow table of guest g for a GVA, from the walker's cache where it holds an entry (R373, R380). -/
def State.walk (s : State) (g die va kind : Nat) : State × Except Nat TlbEnt :=
  let c := (s.guestAt g).gc
  let wd := s.walkerDie die
  let hit (lv : Nat) := (s.dieAt wd).wcache.find? (fun e => e.guest == g && e.gen == c.gen && e.level == lv &&
    e.va == va / 2 ^ levelShift (lv + 1) * 2 ^ levelShift (lv + 1))
  if s.memEnd < c.root + 4096 then (s, .error cNOTMAP)
  else match hit 0 with
    | some e => s.walkLevel g wd c.gen va kind [0] e.pa
    | none =>
      match hit 1 with
      | some e => s.walkLevel g wd c.gen va kind [1, 0] e.pa
      | none =>
        match hit 2 with
        | some e => s.walkLevel g wd c.gen va kind [2, 1, 0] e.pa
        | none => s.walkLevel g wd c.gen va kind [3, 2, 1, 0] c.root

/-- The failure of an access through a translation, in the order of R376. kind 0 fetch, 1 S load, 2 S store, 3 AMO,
4 engine read, 5 engine write, 6 a write of the command processor, of Bowline or of the host. -/
def TlbEnt.deny (e : TlbEnt) (kind : Nat) : Option Nat :=
  let wr := kind == 2 || kind == 3 || kind == 5 || kind == 6
  if wr && !e.w && e.gt then some cWPGT
  else if wr && !e.w then some cPROT
  else if kind == 0 && !e.x then some cPROT
  else if (kind == 4 || kind == 5 || kind == 3) && e.mt == 2 then some cPROT
  else if kind == 6 && decide (2 ≤ e.mt) then some cPROT
  else none

/-- Whether a TLB entry serves an access: an entry with D = 0 serves no write (R377). -/
def TlbEnt.serves (e : TlbEnt) (g gen va kind : Nat) : Bool :=
  e.guest == g && e.gen == gen && e.va == va / 2 ^ e.bits * 2 ^ e.bits &&
    (e.d || !(kind == 2 || kind == 3 || kind == 5) || !e.w)

/-- The physical address of a GVA through an entry. -/
def TlbEnt.addr (e : TlbEnt) (va : Nat) : Nat := e.pa + va % 2 ^ e.bits

/-- Put an entry into a TLB of n entries, dropping an older entry of the same page and, when it is full, the oldest
entry (the manual leaves the victim open: DESIGN CHOICE, log entry 9). -/
def tlbPut (n : Nat) (t : List TlbEnt) (e : TlbEnt) : List TlbEnt :=
  let t' := t.filter (fun x => !(x.guest == e.guest && x.gen == e.gen && x.va == e.va && x.bits == e.bits))
  (t' ++ [e]).drop ((t'.length + 1) - n)

/-- The set of the second-level TLB that holds an entry: GVA[k+7:k] for a page of 2^k bytes (R379). -/
def TlbEnt.set (e : TlbEnt) : Nat := e.va / 2 ^ e.bits % 256

/-- Put an entry into a second-level TLB of 256 sets of 8 ways (R379): a full set loses its oldest entry (log entry 9). -/
def tlb2Put (t : List TlbEnt) (e : TlbEnt) : List TlbEnt :=
  t.filter (fun x => x.set != e.set) ++ tlbPut 8 (t.filter (fun x => x.set == e.set)) e

/-- The outcome of a translation that is found: an access that it denies fails, and a failed translation is not kept (R288,
R379). -/
def State.translated (s : State) (kind : Nat) (e : TlbEnt) (keep : State → State) : State × Except Nat TlbEnt :=
  match e.deny kind with
  | some x => (s, .error x)
  | none => (keep s, .ok e)

/-- The entry of a core's first-level TLB for an access (R288). -/
def State.tlb1 (s : State) (c va kind : Nat) : Option TlbEnt :=
  let k := s.coreAt c
  k.tlb.find? (fun e => e.serves k.guest (s.guestAt k.guest).gc.gen va kind)

/-- Translate for core c through its TLBs and the walker, filling the TLBs (R288, R289, R379, R380). -/
def State.translate (s : State) (c va kind : Nat) : State × Except Nat TlbEnt :=
  let k := s.coreAt c
  let g := k.guest
  let gen := (s.guestAt g).gc.gen
  match s.tlb1 c va kind with
  | some e => (s, match e.deny kind with | some x => .error x | none => .ok e)
  | none =>
    let cl := s.clAt (clOf c)
    let own := cl.tlbGuest == some g
    match (if own then cl.tlb2.find? (fun e => e.serves g gen va kind) else none) with
    | some e => (s.paysKey tlbKey 1).translated kind e (fun t => t.modCoreAt c (fun k => { k with tlb := tlbPut 64 k.tlb e }))
    | none =>
      let r := (s.paysKey (pageKey va) 0).walk g (dieOf c) va kind
      match r.2 with
      | .error x => (r.1, .error x)
      | .ok e => r.1.translated kind e (fun t =>
          (if own then t.modCl (clOf c) (fun cl => { cl with tlb2 := tlb2Put cl.tlb2 e }) else t).modCoreAt c
            (fun k => { k with tlb := tlbPut 64 k.tlb e }))

/-! ### Targets of accesses -/

/-- Where a byte of the guest virtual address space is performed (R280, R324, R396). -/
inductive Tgt where
  /-- byte o of the scratchpad of core c -/
  | spad (c o : Nat)
  /-- cached memory -/
  | mem (pa sel : Nat)
  /-- uncached memory -/
  | unc (pa sel : Nat)
  /-- a device register -/
  | dev (pa : Nat)
  /-- a remote window (R521) -/
  | rem (pa : Nat)
  deriving DecidableEq, Repr

/-- The key selector of a translation (R358, R362). -/
def TlbEnt.sel (e : TlbEnt) : Nat := if e.enc then e.guest else 16

/-- The target of a GVA through a translation (R374, R396). -/
def TlbEnt.tgt (e : TlbEnt) (va : Nat) : Tgt :=
  match e.mt with
  | 0 => .mem (e.addr va) e.sel
  | 1 => .unc (e.addr va) e.sel
  | 2 => .dev (e.addr va)
  | _ => .rem (e.addr va)

/-- Whether an address lies in the local aperture (R280). -/
def inAperture (va : Nat) : Bool := decide (0xFF0000000000 ≤ va) && decide (va < 2 ^ 48)

/-- The target of an aperture address for core c (R280, R324). -/
def State.aperture (s : State) (c va : Nat) : Option Tgt :=
  let k := s.coreAt c
  let o := va - 0xFF0000000000
  let p := va - 0xFF0100000000
  if o < k.spwlen * 4096 then some (.spad c (k.spwoff * 4096 + o))
  else if 0xFF0100000000 ≤ va ∧ p < 0x1000000 then
    let n := p / 0x200000
    let b := p % 0x200000
    if bitOf n k.cspmemb && decide (b < k.cspwlen * 4096) then some (.spad (8 * clOf c + n) (k.cspwoff * 4096 + b))
    else none
  else none

/-- Resolve one GVA of core c for an access, filling TLBs (R280, R376). -/
def State.resolve (s : State) (c va kind : Nat) : State × Except Nat Tgt :=
  if 2 ^ 48 ≤ va then (s, .error cNOTMAP)
  else if inAperture va then (s, match s.aperture c va with | some t => .ok t | none => .error cNOTMAP)
  else
    let r := s.translate c va kind
    (r.1, match r.2 with | .ok e => .ok (e.tgt va) | .error x => .error x)

/-! ### Remote windows (R521 to R524, R529) -/

/-- A port. -/
def State.portAt (s : State) (p : Nat) : Port := s.fab.ports.get {} p
/-- Change a port. -/
def State.modPort (s : State) (p : Nat) (f : Port → Port) : State :=
  { s with fab := { s.fab with ports := s.fab.ports.set p (f (s.fab.ports.get {} p)) } }

/-- Whether a port is UP. -/
def State.portUp (s : State) (p : Nat) : Bool := (s.portAt p).state == 3

/-- Whether a port is part of a path: UP, or in the ATTEST of a rekey, when what goes toward it is held (R518, R520). -/
def State.portOpen (s : State) (p : Nat) : Bool := (s.portAt p).state == 3 || ((s.portAt p).state == 2 && (s.portAt p).peerv)

/-- The number of cars. -/
def Fab.cars (f : Fab) : Nat := f.ncar + 1

/-- The links on the way from car a to car b through port p of a: link i joins car i to the next one, by port 1 of car i. -/
def Fab.path (f : Fab) (a p b : Nat) : List Nat :=
  if p = 1 then (List.range ((b + f.cars - a) % f.cars)).map (fun i => (a + i) % f.cars)
  else (List.range ((a + f.cars - b) % f.cars)).map (fun i => (a + f.cars - 1 - i) % f.cars)

/-- The link of a port of this car. -/
def Fab.linkOf (f : Fab) (p : Nat) : Nat := if p = 1 then f.car else (f.car + f.cars - 1) % f.cars

/-- A link is UP as far as this car knows: one of its own by its port, another one unless a notice has told of its loss. -/
def State.linkUp (s : State) (i : Nat) : Bool :=
  if i = s.fab.linkOf 1 then s.portOpen 1 else if i = s.fab.linkOf 0 then s.portOpen 0 else !s.fab.lost.contains i

/-- The port of car a toward car b (R514), none when b is not reachable from a. -/
def Fab.route (f : Fab) (up : Nat → Bool) (a b : Nat) : Option Nat :=
  if f.cars ≤ a ∨ f.cars ≤ b ∨ a = b then none
  else
    let via (l : List Nat) : Option Nat := l.find? (fun p => (f.path a p b).all up)
    if f.topo = 1 then via [if a < b then 1 else 0]
    else if f.topo = 2 then via (if (b + f.cars - a) % f.cars ≤ (a + f.cars - b) % f.cars then [1, 0] else [0, 1])
    else none

/-- The port toward a car (R514), none when the car is not reachable. -/
def State.routeTo (s : State) (b : Nat) : Option Nat := s.fab.route s.linkUp s.fab.car b

/-- The cars that are reachable. -/
def State.reachable (s : State) : List Nat := (List.range s.fab.cars).filter (fun c => (s.routeTo c).isSome)

/-- The 256 bytes of a flit with number n in a slot (R516): the first eight, the payload encrypted and the tag under the key
of the direction, whose nonce is its salt and the number. Before the first key the payload stands in the clear, with a tag of
zeros (log entry 115). -/
def Port.bytes (q : Port) (n slot : Nat) (m : FlitMsg) : List Nat :=
  let head := [m.type, slot] ++ toLe 3 n ++ toLe 3 q.rxSeq
  let body := (List.range 232).map (fun i => m.payload.getD i 0)
  let sealed := if q.txKey = [] then (body, List.replicate 16 0) else Cipher.gcm q.txKey (q.txSalt ++ toLe 8 n) head body
  head ++ sealed.1 ++ sealed.2

/-- A flit leaves with the next number of its direction; on a port that is UP it is kept until it is acknowledged (R516). -/
def State.emit (s : State) (p slot : Nat) (m : FlitMsg) : State :=
  let q := s.portAt p
  ({ s with flits := s.flits ++ [(p, q.bytes q.txSeq slot m)] }).modPort p (fun q => { q with
    txSeq := q.txSeq + 1, kept := if q.state = 3 then q.kept ++ [(q.txSeq, m)] else q.kept })

/-- The flits of a message: each says for which car it is, from which one, and for which tenant, and carries at most 229
bytes of it (R516, log entry 115). -/
def flitsOf (type owner dest src : Nat) (b : List Nat) : List FlitMsg :=
  (List.range (max 1 ((b.length + 228) / 229))).map (fun i =>
    { type := type, owner := owner, payload := [dest, src, owner] ++ (b.drop (229 * i)).take 229 })

/-- A message for a car waits at the port toward it for slots of its owner (R514, R517). -/
def State.sendTo (s : State) (car type owner : Nat) (b : List Nat) : State :=
  match s.routeTo car with
  | none => s
  | some p => s.modPort p (fun q => { q with outq := q.outq ++ flitsOf type owner car s.fab.car b })

/-- A control message to some cars. -/
def State.tell (s : State) (cars : List Nat) (b : List Nat) : State := cars.foldl (fun t c => t.sendTo c 4 0xFF b) s

/-- The other participants of a guest's collectives that are reachable (R526). -/
def State.partners (s : State) (g : Nat) : List Nat := s.reachable.filter (fun c => bitOf c (s.fab.grp.get {} g).memb)

/-- The content of a remote access: its number, its place, what it does, its data. -/
def RemReq.payload (r : RemReq) : List Nat := toLe 8 r.id ++ toLe 8 r.pa ++ [r.kind, r.op, r.len] ++ r.data ++ r.cmp

/-- The tenant of the guest of a core. -/
def State.tenantOf (s : State) (c : Nat) : Nat := (s.guestAt (s.coreAt c).guest).gc.tenant

/-- The owner of a slot of a port's wheel (R517). -/
def Port.owner (q : Port) (slot : Nat) : Nat := bitsOf (8 * (slot % 8) + 7) (8 * (slot % 8)) (q.wheel.getD (slot / 8) 0).toNat

/-- Take out the first element that meets a test. -/
def dropFirst {α : Type} (p : α → Bool) : List α → List α
  | [] => []
  | x :: t => if p x then t else x :: dropFirst p t

/-- A remote access that waits for a slot of its tenant at a port (R514, R517). -/
def State.askNext (s : State) (p owner : Nat) : Option RemReq :=
  s.fab.reqs.find? (fun r => !r.sent && r.ans.isNone && s.routeTo r.car == some p && s.tenantOf r.core == owner)

/-- One slot of the wheel of a port that is UP (R517). What has to be sent again goes first and in its order (R516), then what
waits for the owner of the slot, then its requests; an IDLE slot with nothing to send carries an idle flit. While 256 flits are
not acknowledged no new one is sent (log entry 115). -/
def State.slotTurn (s : State) (p slot : Nat) : State :=
  let q := s.portAt p
  let o := q.owner slot
  if q.state ≠ 3 then s
  else match q.again with
    | n :: t =>
      match q.kept.find? (fun x => x.1 == n) with
      | none => s.modPort p (fun q => { q with again := t })
      | some x =>
        if x.2.owner = o then
          ({ s with flits := s.flits ++ [(p, q.bytes n slot x.2)] }).modPort p (fun q => { q with
            again := t, retry := min (q.retry + 1) (2 ^ 32 - 1) })
        else s
    | [] =>
      if 256 ≤ q.kept.length then s
      else match q.outq.find? (fun m => m.owner == o) with
        | some m => (s.modPort p (fun q => { q with outq := dropFirst (fun m => m.owner == o) q.outq })).emit p slot m
        | none =>
          if o = 0xFF then s.emit p slot {}
          else match s.askNext p o with
            | none => s
            | some r =>
              let m := flitsOf 1 o r.car s.fab.car r.payload
              let t := (s.modPort p (fun q => { q with outq := m.tail ++ q.outq })).emit p slot (m.headD {})
              { t with fab := { t.fab with reqs := t.fab.reqs.map (fun x => if x.id == r.id then { x with sent := true, port := p } else x) } }

/-- The flit times that have passed at a port (R516): 17/7 ns each at 56 GBd, 2.56 ns at 53.125 GBd. The wheel of every port
counts from TIME 0 (log entry 115). -/
def State.flitTimes (s : State) (q : Port) : Nat :=
  if q.rate then 28 * s.fineTime.1 / (17 * s.fineTime.2) else 100 * s.fineTime.1 / (64 * s.fineTime.2)

/-- The slots of a port whose times have come. -/
def State.portTurns (s : State) (p : Nat) : State :=
  let q := s.portAt p
  if q.state ≠ 3 then s
  else
    let n := s.flitTimes q
    ((List.range (n - q.flitAt)).foldl (fun t i => t.slotTurn p ((q.flitAt + i) % 32)) s).modPort p (fun q => { q with flitAt := n })

/-- The failing check of an access to window w of this car, or none (R522, R529). -/
def State.winCheck (s : State) (tenant w off len : Nat) (write : Bool) : Option Nat :=
  let f := s.fab.wins.get {} w
  let g := (s.guestAt f.guest).gc
  let valid := f.en && g.en && g.tenant == f.tenant &&
    decide ((f.base + f.size) * 2 ^ 21 ≤ s.memEnd)
  if !valid then some 1
  else if f.size * 2 ^ 21 < off + len then some 2
  else if tenant ≠ f.tenant then some 3
  else if write && !f.w then some 4
  else none

/-- The physical address, guest and key selector of a checked access to a window (R522). -/
def State.winPlace (s : State) (w off : Nat) : Nat × Nat × Nat :=
  let f := s.fab.wins.get {} w
  let enc := f.enc || (s.guestAt f.guest).gc.cls == 3
  (f.base * 2 ^ 21 + off, f.guest, if enc then f.guest else 16)

/-- Log the first remote failure since the last read (R523). -/
def State.fabLogPut (s : State) (why pa : Nat) : State :=
  if s.fab.log = 0 then
    { s with fab := { s.fab with log := BitVec.ofNat 64 (why * 2 ^ 61 + bitsOf 51 49 pa * 2 ^ 52 + pa % 2 ^ 52) } }
  else s

/-- Bring a remote request, once for each different access of a command, to the port toward its car, where it waits for a
slot of its tenant (R514, R517), or find its answer: `cWAIT` while it is unanswered. kind 0 read, 1 write, 2 atomic, 3 compare-and-swap. -/
def State.remote (s : State) (core tag pa len kind op : Nat) (data cmp : List Nat) : State × Except Nat (List Nat) :=
  let car := bitsOf 51 49 pa
  match s.fab.reqs.find? (fun r => r.core == core && r.tag == tag && r.pa == pa && r.len == len && r.kind == kind &&
      r.op == op && r.data == data && r.cmp == cmp) with
  | some r =>
    match r.ans with
    | none => (s, .error cWAIT)
    | some (true, d) => (s, .ok d)
    | some (false, _) => (s, .error cFABERR)
  | none =>
    match s.routeTo car with
    | none => (s.fabLogPut 7 pa, .error cFABERR)
    | some p =>
      let r : RemReq := { id := s.fab.nextId, car := car, pa := pa, port := p, core := core, tag := tag, len := len,
                          kind := kind, op := op, data := data, cmp := cmp }
      ({ s with fab := { s.fab with reqs := s.fab.reqs ++ [r], nextId := s.fab.nextId + 1 } }, .error cWAIT)

/-- Forget the answered remote requests of one command. -/
def State.remDone (s : State) (core tag : Nat) : State :=
  { s with fab := { s.fab with reqs := s.fab.reqs.filter (fun r => !(r.core == core && r.tag == tag)) } }

/-! ### Accesses that Bowline and the command processor make for a guest (R364, R399) -/

/-- Translate a GVA of guest g outside any core. -/
def State.gResolve (s : State) (g va kind : Nat) : State × Except Nat Tgt :=
  if 2 ^ 48 ≤ va then (s, .error cNOTMAP)
  else if inAperture va then (s, .error cNOTMAP)
  else
    let r := s.walk g 0 va kind
    (r.1, match r.2 with
      | .error x => .error x
      | .ok e =>
        match e.deny kind with
        | some x => .error x
        | none => .ok (e.tgt va))

/-- Read pieces for guest g, charged at point 8 of die 0. -/
def State.gReadP (s : State) (g : Nat) : List (Nat × Nat) → State × Except (Nat × Nat) (List Nat)
  | [] => (s, .ok [])
  | (a, n) :: t =>
    let r := s.gResolve g a 1
    match r.2 with
    | .error x => (r.1, .error (x, a))
    | .ok tg =>
      let s1 := r.1.charge 0 8 g (unitsOf n)
      let r2 : State × Option (List Nat) := match tg with
        | .mem pa sel => s1.homeRead g sel pa n
        | .unc pa sel => s1.uncRead g sel pa n
        | _ => (s1, none)
      match r2.2, tg with
      | some b, _ =>
        let r3 := r2.1.gReadP g t
        (r3.1, match r3.2 with | .ok b' => .ok (b ++ b') | .error e => .error e)
      | none, .mem _ _ => (r2.1, .error (cMEMUE, a))
      | none, .unc _ _ => (r2.1, .error (cMEMUE, a))
      | none, _ => (r2.1, .error (cPROT, a))

/-- Read n bytes of guest g's address space for the command processor, Bowline or the host. -/
def State.gRead (s : State) (g va n : Nat) : State × Except (Nat × Nat) (List Nat) := s.gReadP g (linePieces va n)

/-- Write pieces for guest g, charged at an initiator point. -/
def State.gWriteP (s : State) (g die point : Nat) : List (Nat × Nat) → List Nat → State × Except (Nat × Nat) Unit
  | [], _ => (s, .ok ())
  | (a, n) :: t, b =>
    let r := s.gResolve g a 6
    match r.2 with
    | .error x => (r.1, .error (x, a))
    | .ok tg =>
      let s1 := r.1.charge die point g (unitsOf n)
      let r2 : State × Except Nat Unit := match tg with
        | .mem pa sel => let w := s1.homeWrite g sel pa (b.take n); (w.1, if w.2 then .ok () else .error cMEMUE)
        | .unc pa sel => let w := s1.uncWrite g sel pa (b.take n); (w.1, if w.2 then .ok () else .error cMEMUE)
        | _ => (s1, .error cPROT)
      match r2.2 with
      | .error x => (r2.1, .error (x, a))
      | .ok () => r2.1.gWriteP g die point t (b.drop n)

/-- Write bytes of guest g's address space for the command processor, Bowline or the host, charged at point 8 of die 0. -/
def State.gWrite (s : State) (g va : Nat) (b : List Nat) : State × Except (Nat × Nat) Unit :=
  s.gWriteP g 0 8 (linePieces va b.length) b

/-! ### Replay capture (R490) -/

/-- Core c runs a member of a replay. -/
def State.replaying (s : State) (c : Nat) : Bool :=
  let k := s.coreAt c
  let x := s.guestAt k.guest
  x.rpl.busy && x.nodes.any (fun n => n.id == k.rcd && n.replay)

/-- A replay pass of guest g is to end for a reason; the first one stands (R489). -/
def State.replayEnd (s : State) (g reason : Nat) : State :=
  s.modGuest g (fun x => { x with rpl := { x.rpl with reason := if x.rpl.reason = 0 then reason else x.rpl.reason } })

/-- Read a page of memory line by line for guest g. -/
def State.pageRead (s : State) (g sel pa : Nat) : List Nat → State × List Nat
  | [] => (s, [])
  | i :: t =>
    let r := s.homeRead g sel (pa + 128 * i) 128
    let r2 := r.1.pageRead g sel pa t
    (r2.1, r.2.getD (List.replicate 128 0) ++ r2.2)

/-- Before the first write of a member to a page, Bowline copies the page to the snapshot area (R490 step 4). -/
def State.capture (s : State) (c : Nat) (t : Tgt) : State :=
  match t with
  | .mem pa sel =>
    if !s.replaying c then s
    else
      let g := (s.coreAt c).guest
      let r := (s.guestAt g).rpl
      let page := pa / 4096 * 4096
      if r.shots.any (fun x => x.1 == page) then s
      else
        let d := s.pageRead g sel page (List.range 32)
        ((d.1.gWrite g (4096 * (r.snap + r.winPages + r.shots.length)) d.2).1).modGuest g
          (fun x => { x with rpl := { x.rpl with shots := x.rpl.shots ++ [(page, sel)] } })
  | _ => s

/-- The REASON with which an access of core c ends the pass of a replay, 0 for none: 3 for a remote, uncached or device access
of a member, 2 for its first write to a page when the snapshot area is full (R489, R490). -/
def State.replayBar (s : State) (c : Nat) (write : Bool) (t : Tgt) : Nat :=
  let r := (s.guestAt (s.coreAt c).guest).rpl
  if !s.replaying c then 0
  else match t with
  | .spad _ _ => 0
  | .mem pa _ =>
    if write && !(r.shots.any (fun x => x.1 == pa / 4096 * 4096)) && decide (r.pages ≤ r.winPages + r.shots.length) then 2 else 0
  | _ => 3

/-- An access of core c under the guard of a replay (R490): one that ends the pass is not performed (its member is terminated;
the cause is what the engine's command would end with, and dies with it), and a write waits for the copy of its page. -/
def State.guarded {α : Type} (s : State) (c : Nat) (write : Bool) (t : Tgt) (f : State → State × Except Nat α) :
    State × Except Nat α :=
  let r := s.replayBar c write t
  if r = 0 then f (if write then s.capture c t else s)
  else (s.replayEnd (s.coreAt c).guest r, .error cFABERR)

/-! ### Access to a target -/

/-- Read one byte of a scratchpad. -/
def State.spadGet (s : State) (c o : Nat) : Nat := ((s.coreAt c).spad.get 0 o).toNat

/-- Write a list of bytes to a scratchpad. A zero byte is not listed. -/
def spadPut (t : Tab Byte) (o : Nat) : List Nat → Tab Byte
  | [] => t
  | b :: r => spadPut (if b % 256 = 0 then t.del o else t.set o (BitVec.ofNat 8 b)) (o + 1) r

/-- An uncorrectable error stands in n bytes of a scratchpad. -/
def Core.spadBad (k : Core) (o n : Nat) : Bool := k.badWords.any (fun w => decide (8 * w < o + n) && decide (o < 8 * w + 8))

/-- Read n bytes of a target within one line. -/
def State.tgtRead (s : State) (c tag : Nat) (t : Tgt) (n : Nat) : State × Except Nat (List Nat) :=
  let g := (s.coreAt c).guest
  match t with
  | .spad k o =>
    if (s.coreAt k).spadBad o n then (s.logArray k (spadPa k o), .error cMEMUE)
    else (s.netUse c k, .ok ((List.range n).map (fun i => s.spadGet k (o + i))))
  | .mem pa sel => let r := s.homeRead g sel pa n; (r.1, match r.2 with | some b => .ok b | none => .error cMEMUE)
  | .unc pa sel => let r := s.uncRead g sel pa n; (r.1, match r.2 with | some b => .ok b | none => .error cMEMUE)
  -- what a device register returns is not described: a free value (log entry 10)
  | .dev _ => (s.tickFree, .ok ((List.range n).map (fun i => (Config.freeByte s.free (100 + i)).toNat)))
  | .rem pa =>
    if bitsOf 51 49 pa = s.fab.car then
      let w := bitsOf 48 44 pa
      let off := bitsOf 43 0 pa
      match s.winCheck (s.tenantOf c) w off n false with
      | some y => (s.fabLogPut y pa, .error cFABERR)
      | none =>
        let p := s.winPlace w off
        let r := s.homeRead p.2.1 p.2.2 p.1 n
        (r.1, match r.2 with | some b => .ok b | none => .error cFABERR)
    else s.remote c tag pa n 0 0 [] []

/-- Write bytes to a target within one line. -/
def State.tgtWrite (s : State) (c tag : Nat) (t : Tgt) (b : List Nat) : State × Except Nat Unit :=
  let g := (s.coreAt c).guest
  match t with
  | .spad k o => ((s.netUse c k).modCoreAt k (fun x => { x with spad := spadPut x.spad o b }), .ok ())
  | .mem pa sel => let r := s.homeWrite g sel pa b; (r.1, if r.2 then .ok () else .error cMEMUE)
  | .unc pa sel => let r := s.uncWrite g sel pa b; (r.1, if r.2 then .ok () else .error cMEMUE)
  | .dev _ => (s, .ok ())
  | .rem pa =>
    if bitsOf 51 49 pa = s.fab.car then
      let w := bitsOf 48 44 pa
      let off := bitsOf 43 0 pa
      match s.winCheck (s.tenantOf c) w off b.length true with
      | some y => (s.fabLogPut y pa, .error cFABERR)
      | none =>
        let p := s.winPlace w off
        let r := s.homeWrite p.2.1 p.2.2 p.1 b
        (r.1, if r.2 then .ok () else .error cFABERR)
    else
      let r := s.remote c tag pa b.length 1 0 b []
      (r.1, match r.2 with | .ok _ => .ok () | .error x => .error x)

/-- Read the pieces of an access; an error carries the GVA of its first failing byte (R382). -/
def State.vaReadP (s : State) (c tag kind : Nat) : List (Nat × Nat) → State × Except (Nat × Nat) (List Nat)
  | [] => (s, .ok [])
  | (a, n) :: t =>
    let r := s.resolve c a kind
    match r.2 with
    | .error x => (r.1, .error (x, a))
    | .ok tg =>
      let r2 := r.1.guarded c false tg (fun s => s.tgtRead c tag tg n)
      match r2.2 with
      | .error x => (r2.1, .error (x, a))
      | .ok b =>
        let r3 := r2.1.vaReadP c tag kind t
        (r3.1, match r3.2 with | .ok b' => .ok (b ++ b') | .error e => .error e)

/-- Read n bytes of the guest virtual address space on a path of core c (kind 4: an engine path). -/
def State.vaRead (s : State) (c tag kind va n : Nat) : State × Except (Nat × Nat) (List Nat) :=
  s.vaReadP c tag kind (linePieces va n)

/-- Write the pieces of an access in order. -/
def State.vaWriteP (s : State) (c tag kind : Nat) : List (Nat × Nat) → List Nat → State × Except (Nat × Nat) Unit
  | [], _ => (s, .ok ())
  | (a, n) :: t, b =>
    let r := s.resolve c a kind
    match r.2 with
    | .error x => (r.1, .error (x, a))
    | .ok tg =>
      let r2 := r.1.guarded c true tg (fun s => s.tgtWrite c tag tg (b.take n))
      match r2.2 with
      | .error x => (r2.1, .error (x, a))
      | .ok () => r2.1.vaWriteP c tag kind t (b.drop n)

/-- Write bytes of the guest virtual address space on a path of core c. -/
def State.vaWrite (s : State) (c tag kind va : Nat) (b : List Nat) : State × Except (Nat × Nat) Unit :=
  s.vaWriteP c tag kind (linePieces va b.length) b

/-! ### Interrupts and status events (R448, R449) -/

/-- Send the message of vector v of guest g: held with its pending bit while masked (R449). -/
def State.sendMsg (s : State) (g v : Nat) : State :=
  let q := (s.guestAt g).irq.get {} v
  if q.masked then s.modGuest g (fun x => { x with irq := x.irq.set v { q with waiting := true } })
  else
    let t := s.modGuest g (fun x => { x with irq := x.irq.set v { q with pend := 0, waiting := false } })
    { t with msgs := t.msgs ++ [(g + 1, v)] }

/-- One interrupt request on vector v of guest g (R449). -/
def State.irqPost (s : State) (g v : Nat) : State :=
  let q := (s.guestAt g).irq.get {} v
  let q' := { q with pend := min (q.pend + 1) (2 ^ 32 - 1), first := if q.pend = 0 then s.time else q.first }
  let t := s.modGuest g (fun x => { x with irq := x.irq.set v q' })
  if max q.icnt 1 ≤ q'.pend then t.sendMsg g v else t

/-- An event for the host (R436, R448 and the rules that name the host). -/
def State.hostEv (s : State) (code detail addr : Nat) : State := { s with hostEvs := s.hostEvs ++ [(code, detail, addr)] }

/-- An interrupt on vector v of the physical function: a masked vector holds its message and sets its pending bit (R493). -/
def State.hostIrq (s : State) (v : Nat) : State :=
  let q := s.plat.pfIrq.get {} v
  { s with
    plat := if q.masked then { s.plat with pfIrq := s.plat.pfIrq.set v { q with waiting := true } } else s.plat
    msgs := s.msgs ++ if q.masked then [] else [(0, v)] }

/-- Write a status event (R448): dropped without LOST while EN = 0, dropped with LOST when the ring is full or its entry
cannot be written. -/
def State.statusEvent (s : State) (g kind code detail addr : Nat) : State :=
  let q := s.guestAt g
  let n := 2 ^ (q.sevN + 4)
  if !q.sevEn then s
  else if n ≤ (q.sevTail + 2 ^ 32 - q.sevHead) % 2 ^ 32 then s.modGuest g (fun x => { x with sevLost := true })
  else
    let a := q.sevBase * 4096 + 16 * (q.sevTail % n)
    let r := s.gWrite g a ([kind, code] ++ toLe 2 detail ++ toLe 4 s.time ++ toLe 8 addr)
    match r.2 with
    | .error e => (r.1.modGuest g (fun x => { x with sevLost := true })).hostEv e.1 g e.2
    | .ok () => (r.1.modGuest g (fun x => { x with sevTail := (x.sevTail + 1) % 2 ^ 32 })).irqPost g 0

/-- Whether the ring of guest g is full (R450, NOTIFY). -/
def State.sevFull (s : State) (g : Nat) : Bool :=
  let q := s.guestAt g
  decide (2 ^ (q.sevN + 4) ≤ (q.sevTail + 2 ^ 32 - q.sevHead) % 2 ^ 32)

/-- Add to an event counter (R417). -/
def State.evAdd (s : State) (g e v : Nat) : State :=
  s.modGuest g (fun x => { x with ev := x.ev.set e (x.ev.get 0 e + BitVec.ofNat 64 v) })

/-! ### Counters and trace (R482 to R486) -/

/-- Count in one bank: counter i counts when it is enabled and selects e, and the core is outside handler mode or HND
is set (R484). -/
def bankCount (pmc : Tab Pmc) (ctl : Nat) (handler : Bool) (e n : Nat) : Tab Pmc :=
  let one (t : Tab Pmc) (i : Nat) : Tab Pmc :=
    let p := t.get {} i
    if bitOf i ctl && bitsOf 5 0 p.sel.toNat == e && (!handler || bitOf 6 p.sel.toNat)
    then t.set i { p with count := (p.count + n) % 2 ^ 64 } else t
  [0, 1, 2, 3].foldl one pmc

/-- Count n occurrences of event e on core c in the bank of the holder: a guest's bank counts for that guest's contexts
alone, the host's for every context, and a LENT bank leaves the guest's values frozen (R463, R484 to R486). -/
def State.countIn (s : State) (c : Nat) (handler : Bool) (e n : Nat) : State :=
  let k := s.coreAt c
  let h := s.plat.res.get 0 c
  if h = 0 ∨ n = 0 then s
  else if 17 ≤ h then s.modCoreAt c (fun k => { k with hpmc := bankCount k.hpmc k.hpmctl.toNat handler e n })
  else if h = k.guest + 1 then s.modCoreAt c (fun k => { k with pmc := bankCount k.pmc k.pmctl.toNat handler e n })
  else s

/-- Count in the mode in which core c is. -/
def State.countAt (s : State) (c e n : Nat) : State := s.countIn c ((s.coreAt c).mode == .handler) e n

/-- Count on the core in focus. -/
def State.count (s : State) (e n : Nat) : State := s.countAt s.focus e n

/-- The event of a miss of the first-level TLB of core n: a fetch, or an S-path lookup that is not a D-bit update alone
(R485). -/
def State.missEvent (s : State) (n : Nat) (w : AccReq) : Nat :=
  let k := s.coreAt n
  if w.kind = 0 then 12
  else if k.tlb.any (fun e => e.guest == k.guest && e.gen == (s.guestAt k.guest).gc.gen && e.va == w.va / 2 ^ e.bits * 2 ^ e.bits) then 0
  else 11

/-- A miss of the first-level TLB of core n looks into the second level, which answers in 10 cc (R289, R379). -/
def State.askWalk (s : State) (n va kind : Nat) : State :=
  let k := s.coreAt n
  if k.walk = some { va := va, kind := kind } then s
  else
    s.modCoreAt n (fun k => { k with walk := some { va := va, kind := kind }, walkAt := s.now + 10 })

/-- Bring an access from outside to the regulation points. -/
def State.park (s : State) (i : Outside) : State :=
  { s with parked := s.parked ++ [(s.parked.foldl (fun m p => max m (p.1 + 1)) 100, i)] }

/-- An access that the host makes through the function of guest g. -/
def Outside.ofHost (i : Outside) (g : Nat) : Bool :=
  match i with
  | .host h _ _ _ => h == g
  | .tail h _ _ => h == g
  | .car _ _ _ _ => false
  | .record _ _ _ _ => false

/-- The guest that is charged for an access from outside, and the initiator point through which it enters. -/
def State.outsidePlace (s : State) (i : Outside) : Nat × Nat × Nat :=
  match i with
  | .host g _ _ _ => (g, 0, 8)
  | .tail g _ _ => (g, 0, 8)
  | .car _ pa g _ => (g, s.homeDie pa, 8)
  | .record cl g _ _ => (g, cl / 8, cl % 8)

/-- The payer of an access from outside. -/
def outPayer (guest number : Nat) : Payer := { guest := guest, tag := number }

/-- FLAGS of a trace record (R482). -/
def Core.traceFlags (k : Core) : Nat := (if k.mode == .handler then 1 else 0) + (if k.sync.loop.act then 2 else 0)

/-- Produce a trace record of core c if its cluster's unit takes it (R482, R483), with the CYCLE and FLAGS of the moment that
it is about. The records of a cycle are written at its end. -/
def State.traceRecAt (s : State) (c type aux addr data cycle flags : Nat) : State :=
  let u := (s.clAt (clOf c)).trc
  let k := s.coreAt c
  let holder := s.plat.res.get 0 (256 + clOf c)
  let mine := if 17 ≤ holder then bitOf k.guest u.gmask else holder == k.guest + 1
  if !(u.en && bitOf (c % 8) u.cores && bitOf type u.types && mine) then s
  else
    let coreNo := (if s.portUp 0 || s.portUp 1 then s.fab.car else 0) * 256 + c + k.guest * 4096
    let b := [type, flags] ++ toLe 2 coreNo ++ toLe 2 aux ++ [0, 0] ++ toLe 8 addr ++ toLe 8 cycle ++ toLe 8 data
    s.modCl (clOf c) (fun x => { x with trc := { x.trc with recs := x.trc.recs ++ [(c % 8, k.guest, b)] } })

/-- A record of what happens now. -/
def State.traceRec (s : State) (c type aux addr data : Nat) : State :=
  s.traceRecAt c type aux addr data (s.coreAt c).cycle (s.coreAt c).traceFlags

/-- Write one record of cluster cl (R483). A record for a guest passes the port of its cluster on its way to memory; while
one is held there, further records are lost. -/
def State.traceOut (s : State) (cl g : Nat) (b : List Nat) : State :=
  let u := (s.clAt cl).trc
  let host := decide (17 ≤ s.plat.res.get 0 (256 + cl))
  let cap := 128 * max u.pages 1
  let lost (t : State) := t.modCl cl (fun x => { x with trc := { x.trc with lost := min (x.trc.lost + 1) (2 ^ 32 - 1) } })
  -- records on their way to memory take their places after those of TRC_PTR
  let onWay := s.parked.filter (fun p => match p.2 with | .record k _ _ _ => k == cl | _ => false)
  let at_ := u.ptr + onWay.length
  let held := onWay.any (fun p => s.held.any (fun h => h.core.isNone && h.tag == p.1 && !h.adm)) &&
    !(s.bucket (cl / 8) (cl % 8) g).admits (onWay.length + 1)
  if !u.wrap && decide (cap ≤ at_) then lost s
  else if !host && held then lost s
  else
    let a := u.base * 4096 + 32 * (at_ % cap)
    if host then ((s.uncharged (fun t => t.homeWrite g 16 a b)).1).modCl cl (fun x => { x with trc := { x.trc with ptr := (x.trc.ptr + 1) % 2 ^ 32 } })
    else s.park (.record cl g a b)

/-- Write the records that cluster cl has produced in this cycle, in ascending core number (R483). -/
def State.traceFlush (s : State) (cl : Nat) : State :=
  let l := (s.clAt cl).trc.recs
  if l.isEmpty then s
  else
    ((List.range 8).flatMap (fun i => l.filter (fun r => r.1 == i))).foldl (fun t r => t.traceOut cl r.2.1 r.2.2)
      (s.modCl cl (fun x => { x with trc := { x.trc with recs := [] } }))

end Sys2Proof.Machine
end

