-- ==== Sys2Proof/Machine/Operands.lean ====
section
/-! DEFINITION. What the encoding of a slot operation fixes whatever its guard and its values: the guard field, the
write set, the ports, streams and scope that R48 checks, and the implicit checkpoints of R300. -/

namespace Sys2Proof.Machine

/-! ### Register keys: the file times 64 plus the number -/

/-- s register. -/
def kS (i : Nat) : Nat := i
/-- Guard. -/
def kG (i : Nat) : Nat := 64 + i
/-- a register by the number its word holds. -/
def kA (i : Nat) : Nat := 128 + i
/-- b register. -/
def kB (i : Nat) : Nat := 192 + i
/-- Mask register: ka0-ka7 at 0-7, kb0-kb7 at 8-15. -/
def kK (i : Nat) : Nat := 256 + i
/-- Pattern register of the X slot. -/
def kX (i : Nat) : Nat := 320 + i
/-- Routing pattern of the N slot. -/
def kW (i : Nat) : Nat := 384 + i
/-- y register. -/
def kY (i : Nat) : Nat := 448 + i
/-- h register. -/
def kH (i : Nat) : Nat := 512 + i
/-- j register. -/
def kJ (i : Nat) : Nat := 576 + i
/-- Stream register written by BIND and UNBD. -/
def kQ (i : Nat) : Nat := 640 + i
/-- Output stream appended to. -/
def kQo (i : Nat) : Nat := 704 + i
/-- Register of the handler bank. -/
def kHB (i : Nat) : Nat := 768 + i
/-- A register of the file of VA (false) or VB (true). -/
def vKey (b : Bool) (i : Nat) : Nat := if b then kB i else kA i
/-- A register of the file of CA (false) or CB (true). -/
def hKey (b : Bool) (i : Nat) : Nat := if b then kJ i else kH i

/-- The guard field of a slot operation and its inversion (R26, R31, R33 to R37, R45). -/
def guardField (i : Instr) : Nat × Bool :=
  let w := i.encode
  match i.slot with
  | 0 | 6 | 7 => (bitsOf 23 20 w, bitOf 19 w)
  | 1 | 2 => (bitsOf 23 20 w, false)
  | 3 | 4 | 5 => (bitsOf 55 52 w, bitOf 51 w)
  | _ => (0, false)

/-- The write set of a slot operation, s0 and g0 included here and removed by the check (R48 condition 1). DESIGN CHOICE (log
entry 118): that of PFLIP is sD alone, without the registers that its plane loads, and an element appended to a stream is under
a key of its own, so that VSQ beside a BIND, an UNBD or a MOVCW of its stream shares no register with it. -/
def writeSet : Instr → List Nat
  | .add o => [kS o.d.toNat]
  | .sub o => [kS o.d.toNat]
  | .mul o => [kS o.d.toNat]
  | .mulh o => [kS o.d.toNat]
  | .mulhu o => [kS o.d.toNat]
  | .div o => [kS o.d.toNat]
  | .divu o => [kS o.d.toNat]
  | .rem o => [kS o.d.toNat]
  | .remu o => [kS o.d.toNat]
  | .and o => [kS o.d.toNat]
  | .or o => [kS o.d.toNat]
  | .xor o => [kS o.d.toNat]
  | .shl o => [kS o.d.toNat]
  | .shr o => [kS o.d.toNat]
  | .sra o => [kS o.d.toNat]
  | .min o => [kS o.d.toNat]
  | .max o => [kS o.d.toNat]
  | .minu o => [kS o.d.toNat]
  | .maxu o => [kS o.d.toNat]
  | .addw o => [kS o.d.toNat]
  | .sel o => [kS o.d.toNat]
  | .lea o => [kS o.d.toNat]
  | .addi o => [kS o.d.toNat]
  | .andi o => [kS o.d.toNat]
  | .ori o => [kS o.d.toNat]
  | .xori o => [kS o.d.toNat]
  | .muli o => [kS o.d.toNat]
  | .ldB o => [kS o.d.toNat]
  | .ldH o => [kS o.d.toNat]
  | .ldW o => [kS o.d.toNat]
  | .ldD o => [kS o.d.toNat]
  | .ldsB o => [kS o.d.toNat]
  | .ldsH o => [kS o.d.toNat]
  | .ldsW o => [kS o.d.toNat]
  | .shli o => [kS o.d.toNat]
  | .shri o => [kS o.d.toNat]
  | .srai o => [kS o.d.toNat]
  | .movi o => [kS o.d.toNat]
  | .movhi o => [kS o.d.toNat]
  | .addil o => [kS o.d.toNat]
  | .fadd o => [kS o.d.toNat]
  | .fsub o => [kS o.d.toNat]
  | .fmul o => [kS o.d.toNat]
  | .fma o => [kS o.d.toNat]
  | .fmin o => [kS o.d.toNat]
  | .fmax o => [kS o.d.toNat]
  | .fcvt o => [kS o.d.toNat]
  | .clz o => [kS o.d.toNat]
  | .popc o => [kS o.d.toNat]
  | .mov o => [kS o.d.toNat]
  | .claim o => [kS o.d.toNat]
  | .release o => [kS o.d.toNat]
  | .gstat o => [kS o.d.toNat]
  | .notify o => [kS o.d.toNat]
  | .sysord o => [kS o.d.toNat]
  | .evadd o => [kS o.d.toNat]
  | .kend o => [kS o.d.toNat]
  | .lnch o => [kS o.d.toNat]
  | .sysc o => [kS o.d.toNat]
  | .lda o => [kS o.d.toNat]
  | .amoadd o => [kS o.d.toNat]
  | .amoswp o => [kS o.d.toNat]
  | .amocas o => [kS o.d.toNat]
  | .amomin o => [kS o.d.toNat]
  | .amomax o => [kS o.d.toNat]
  | .amoand o => [kS o.d.toNat]
  | .amoor o => [kS o.d.toNat]
  | .amoxor o => [kS o.d.toNat]
  | .scld o => [kS o.d.toNat]
  | .scamo o => [kS o.d.toNat]
  | .movc o => [kS o.d.toNat]
  | .bar o => [kS o.d.toNat]
  | .bara o => [kS o.d.toNat]
  | .barw o => [kS o.d.toNat]
  | .bari o => [kS o.d.toNat]
  | .garm o => [kS o.d.toNat]
  | .pflip o => [kS o.d.toNat]
  | .ceq o => [kG o.e.toNat]
  | .cne o => [kG o.e.toNat]
  | .clt o => [kG o.e.toNat]
  | .cge o => [kG o.e.toNat]
  | .cltu o => [kG o.e.toNat]
  | .cgeu o => [kG o.e.toNat]
  | .ceqi o => [kG o.e.toNat]
  | .cnei o => [kG o.e.toNat]
  | .clti o => [kG o.e.toNat]
  | .cgei o => [kG o.e.toNat]
  | .gand o => [kG o.e.toNat]
  | .gor o => [kG o.e.toNat]
  | .gxor o => [kG o.e.toNat]
  | .gset o => [kG o.e.toNat]
  | .fceq o => [kG o.e.toNat]
  | .fclt o => [kG o.e.toNat]
  | .fcle o => [kG o.e.toNat]
  | .ychk o => [kG o.e.toNat]
  | .jal _ => [kS 30]
  | .jalr o => [kS o.d.toNat]
  | .xsa o => [kA o.d.toNat]
  | .xsb o => [kB o.d.toNat]
  | .xsh o => [kH o.d.toNat]
  | .xsj o => [kJ o.d.toNat]
  | .xsy o => [kY o.d.toNat]
  | .vadd o => [vKey o.sl o.d.toNat]
  | .vsub o => [vKey o.sl o.d.toNat]
  | .vmul o => [vKey o.sl o.d.toNat]
  | .vfma o => [vKey o.sl o.d.toNat]
  | .vfms o => [vKey o.sl o.d.toNat]
  | .vmin o => [vKey o.sl o.d.toNat]
  | .vmax o => [vKey o.sl o.d.toNat]
  | .vsqd o => [vKey o.sl o.d.toNat]
  | .vmulh o => [vKey o.sl o.d.toNat]
  | .vdot4 o => [vKey o.sl o.d.toNat]
  | .vand o => [vKey o.sl o.d.toNat]
  | .vor o => [vKey o.sl o.d.toNat]
  | .vxor o => [vKey o.sl o.d.toNat]
  | .vshl o => [vKey o.sl o.d.toNat]
  | .vshr o => [vKey o.sl o.d.toNat]
  | .vsra o => [vKey o.sl o.d.toNat]
  | .vsel o => [vKey o.sl o.d.toNat]
  | .vabs o => [vKey o.sl o.d.toNat]
  | .vneg o => [vKey o.sl o.d.toNat]
  | .vexp2 o => [vKey o.sl o.d.toNat]
  | .vlog2 o => [vKey o.sl o.d.toNat]
  | .vrcp o => [vKey o.sl o.d.toNat]
  | .vrsq o => [vKey o.sl o.d.toNat]
  | .vsigm o => [vKey o.sl o.d.toNat]
  | .vtanh o => [vKey o.sl o.d.toNat]
  | .vrsum o => [vKey o.sl o.d.toNat]
  | .vrmax o => [vKey o.sl o.d.toNat]
  | .vrmin o => [vKey o.sl o.d.toNat]
  | .vscan o => [vKey o.sl o.d.toNat]
  | .vamax o => [vKey o.sl o.d.toNat]
  | .vmov o => [vKey o.sl o.d.toNat]
  | .vcvt o => [vKey o.sl o.d.toNat]
  | .vdqblk o => [vKey o.sl o.d.toNat]
  | .vrnd o => [vKey o.sl o.d.toNat]
  | .vspl o => [vKey o.sl o.d.toNat]
  | .viota o => [vKey o.sl o.d.toNat]
  | .vtag o => [vKey o.sl o.d.toNat]
  | .vqblk o => [vKey o.sl o.d.toNat, vKey o.sl (o.d.toNat + 1)]
  | .vceq o => [kK ((if o.sl then 8 else 0) + o.k.toNat)]
  | .vcne o => [kK ((if o.sl then 8 else 0) + o.k.toNat)]
  | .vclt o => [kK ((if o.sl then 8 else 0) + o.k.toNat)]
  | .vcle o => [kK ((if o.sl then 8 else 0) + o.k.toNat)]
  | .kand o => [kK ((if o.sl then 8 else 0) + o.k.toNat)]
  | .kor o => [kK ((if o.sl then 8 else 0) + o.k.toNat)]
  | .kxor o => [kK ((if o.sl then 8 else 0) + o.k.toNat)]
  | .knot o => [kK ((if o.sl then 8 else 0) + o.k.toNat)]
  | .vxs o => [kS o.d.toNat]
  | .kpop o => [vKey o.sl o.d.toNat]
  | .mtag o => [1024 + 0x43 + 4 * o.ra.toNat]
  | .vxab o => [vKey (!o.sl) o.d.toNat]
  | .vsq o => [kQo o.q.toNat]
  | .xprm o => [vKey o.f o.d.toNat]
  | .xzip o => [vKey o.f o.d.toNat]
  | .xuzp o => [vKey o.f o.d.toNat]
  | .xcmp o => [vKey o.f o.d.toNat]
  | .xexp o => [vKey o.f o.d.toNat]
  | .xpldA o => [kX o.p.toNat]
  | .xpldB o => [kX o.p.toNat]
  | .nmap o => [kY o.d.toNat]
  | .nmapx o => [kY o.d.toNat]
  | .nmov o => [kY o.d.toNat]
  | .nli o => [kY o.d.toNat]
  | .npld o => [kW o.p.toNat]
  | .nxs o => [kS o.d.toNat]
  | .hadd o => [hKey o.cb o.a.toNat]
  | .hmov o => [hKey o.cb o.a.toNat]
  | .hli o => [hKey o.cb o.a.toNat]
  | .hxs o => [kS o.d.toNat]
  | .bind o => [kQ o.q.toNat]
  | .unbd o => [kQ o.q.toNat]
  | .cflag o => [kG o.f.toNat]
  | .movcw o => [1024 + o.i.toNat, if 0x80 ≤ o.i.toNat ∧ o.i.toNat < 0xC0 then kQ ((o.i.toNat - 0x80) / 4) else 1024 + o.i.toNat]
  | _ => []

/-- Reads through an outport: 0 the s file, 1 a, 2 b, 3 y, 4 h, 5 j (R48 condition 3). -/
def portReads : Instr → List Nat
  | .xsa _ => [0]
  | .xsb _ => [0]
  | .xsh _ => [0]
  | .xsj _ => [0]
  | .xsy _ => [0]
  | .vxs o => [if o.sl then 2 else 1]
  | .vxab o => [if o.sl then 2 else 1]
  | .xprm _ => [1, 2]
  | .xzip _ => [1, 2]
  | .xuzp _ => [1, 2]
  | .xcmp _ => [1, 2]
  | .xexp _ => [1, 2]
  | .xpldA _ => [1]
  | .xpldB _ => [2]
  | .nxs _ => [3]
  | .hxs o => [if o.cb then 5 else 4]
  | _ => []

/-- The stream that operand B of a vector word names (R31). -/
def bStream (b : Nat) : List Nat := if 32 ≤ b ∧ b < 48 then [b - 32] else []

/-- Input streams read as an operand (R48 condition 2, R151). -/
def streamReads : Instr → List Nat
  | .vadd o => bStream o.b.toNat
  | .vsub o => bStream o.b.toNat
  | .vmul o => bStream o.b.toNat
  | .vfma o => bStream o.b.toNat
  | .vfms o => bStream o.b.toNat
  | .vmin o => bStream o.b.toNat
  | .vmax o => bStream o.b.toNat
  | .vsqd o => bStream o.b.toNat
  | .vmulh o => bStream o.b.toNat
  | .vdot4 o => bStream o.b.toNat
  | .vand o => bStream o.b.toNat
  | .vor o => bStream o.b.toNat
  | .vxor o => bStream o.b.toNat
  | .vshl o => bStream o.b.toNat
  | .vshr o => bStream o.b.toNat
  | .vsra o => bStream o.b.toNat
  | .vsel o => bStream o.b.toNat
  | .vceq o => bStream o.b.toNat
  | .vcne o => bStream o.b.toNat
  | .vclt o => bStream o.b.toNat
  | .vcle o => bStream o.b.toNat
  | .vspl o => bStream o.b.toNat
  | .viota o => bStream o.b.toNat
  | .vsq o => bStream o.b.toNat
  | .tlnc o => if o.src then [o.ra.toNat] else []
  | _ => []

/-- The W field of a vector word; VNOP counts as no lanes (R48 conditions 4 and 5). -/
def widthField : Instr → Nat
  | .vadd o => o.w.toNat
  | .vsub o => o.w.toNat
  | .vmul o => o.w.toNat
  | .vfma o => o.w.toNat
  | .vfms o => o.w.toNat
  | .vmin o => o.w.toNat
  | .vmax o => o.w.toNat
  | .vsqd o => o.w.toNat
  | .vmulh o => o.w.toNat
  | .vdot4 o => o.w.toNat
  | .vand o => o.w.toNat
  | .vor o => o.w.toNat
  | .vxor o => o.w.toNat
  | .vshl o => o.w.toNat
  | .vshr o => o.w.toNat
  | .vsra o => o.w.toNat
  | .vsel o => o.w.toNat
  | .vabs o => o.w.toNat
  | .vneg o => o.w.toNat
  | .vexp2 o => o.w.toNat
  | .vlog2 o => o.w.toNat
  | .vrcp o => o.w.toNat
  | .vrsq o => o.w.toNat
  | .vsigm o => o.w.toNat
  | .vtanh o => o.w.toNat
  | .vrsum o => o.w.toNat
  | .vrmax o => o.w.toNat
  | .vrmin o => o.w.toNat
  | .vscan o => o.w.toNat
  | .vamax o => o.w.toNat
  | .vmov o => o.w.toNat
  | .vxs o => o.w.toNat
  | .vxab o => o.w.toNat
  | .vceq o => o.w.toNat
  | .vcne o => o.w.toNat
  | .vclt o => o.w.toNat
  | .vcle o => o.w.toNat
  | .kand o => o.w.toNat
  | .kor o => o.w.toNat
  | .kxor o => o.w.toNat
  | .knot o => o.w.toNat
  | .kpop o => o.w.toNat
  | .vcvt o => o.w.toNat
  | .vqblk o => o.w.toNat
  | .vdqblk o => o.w.toNat
  | .vrnd o => o.w.toNat
  | .vsq o => o.w.toNat
  | .vspl o => o.w.toNat
  | .viota o => o.w.toNat
  | .vtag o => o.w.toNat
  | _ => 0

/-- Whether the word is a vector word whose lanes count. -/
def isVector (i : Instr) : Bool := (i.slot == 1 || i.slot == 2) && (match i with | .vnop _ => false | _ => true)

/-- The lane bits of a vector operation (R48 condition 4); the reserved width W = 11 counts as 2,048 (log entry 100). -/
def laneBits (i : Instr) : Nat := if isVector i then 256 * 2 ^ widthField i else 0

/-- The scope code of an SX or copy word (R48 condition 7). -/
def scopeField : Instr → Option Nat
  | .lda o => some o.scope.toNat
  | .stl o => some o.scope.toNat
  | .amoadd o => some o.scope.toNat
  | .amoswp o => some o.scope.toNat
  | .amocas o => some o.scope.toNat
  | .amomin o => some o.scope.toNat
  | .amomax o => some o.scope.toNat
  | .amoand o => some o.scope.toNat
  | .amoor o => some o.scope.toNat
  | .amoxor o => some o.scope.toNat
  | .scld o => some o.scope.toNat
  | .scst o => some o.scope.toNat
  | .scamo o => some o.scope.toNat
  | .fence o => some o.scope.toNat
  | .drain o => some o.scope.toNat
  | .pfence o => some o.scope.toNat
  | .cpy o => some o.scope.toNat
  | .cpys o => some o.scope.toNat
  | .cpyt o => some o.scope.toNat
  | .cpyw o => some o.scope.toNat
  | .ldblk o => some o.scope.toNat
  | .unbd o => some o.scope.toNat
  | .gthr o => some o.scope.toNat
  | .sctr o => some o.scope.toNat
  | .csig o => some o.scope.toNat
  | .coll o => some o.scope.toNat
  | _ => none

/-- SCLD, SCST and SCAMO (R408). -/
def isSC : Instr → Bool
  | .scld _ => true
  | .scst _ => true
  | .scamo _ => true
  | _ => false

/-- The engine commands (R303). -/
def isEngine : Instr → Bool
  | .mma _ => true
  | .mmaz _ => true
  | .mconv _ => true
  | .mzero _ => true
  | .mldz _ => true
  | .mstz _ => true
  | .mskp _ => true
  | .tacq _ => true
  | .trel _ => true
  | .tldw _ => true
  | .tlnc _ => true
  | .tcap _ => true
  | .trst _ => true
  | .cpy _ => true
  | .cpys _ => true
  | .cpyt _ => true
  | .cpyw _ => true
  | .ldblk _ => true
  | .evblk _ => true
  | .unbd _ => true
  | .gthr _ => true
  | .sctr _ => true
  | .csig _ => true
  | .coll _ => true
  | _ => false

/-- Operations that bring an implicit checkpoint ahead of the bundle and one after it by their opcode (R300). -/
def ckptBoth : Instr → Bool
  | .amoadd _ => true
  | .amoswp _ => true
  | .amocas _ => true
  | .amomin _ => true
  | .amomax _ => true
  | .amoand _ => true
  | .amoor _ => true
  | .amoxor _ => true
  | .scld _ => true
  | .scst _ => true
  | .scamo _ => true
  | .trap _ => true
  | .kend _ => true
  | .sysord _ => true
  | .evadd _ => true
  | .claim _ => true
  | .release _ => true
  | .gstat _ => true
  | .notify _ => true
  | .sysc _ => true
  | .wfe _ => true
  | .evsig _ => true
  | _ => false

/-- Operations that bring both checkpoints only when their guard is true (R336, R441). -/
def ckptGuarded : Instr → Bool
  | .bar _ => true
  | .bara _ => true
  | .barw _ => true
  | .bari _ => true
  | .lnch _ => true
  | .garm _ => true
  | .hirq _ => true
  | .pflip _ => true
  | _ => false

/-- Operations that bring an implicit checkpoint ahead of the bundle alone (R300, R402). -/
def ckptAhead : Instr → Bool
  | .mwait _ => true
  | .cwait _ => true
  | .eret _ => true
  | .drain _ => true
  | .pfence o => bitOf 0 o.fromc.toNat
  | _ => false

/-- Both checkpoints stand around a bundle whose S operation is this (R300). -/
def ckptAround (i : Instr) (guard : Bool) : Bool := ckptBoth i || (ckptGuarded i && guard)

end Sys2Proof.Machine
end

