-- ==== Sys2Proof/Machine/Flags.lean ====
section
/-! DEFINITION. The flags: the bits of WARN (R46, R47), and the guard test of every slot operation (R45). -/

namespace Sys2Proof.Machine

/-! ### Bits of WARN (R47) -/

/-- TAGMIX. -/
def wTAGMIX : Nat := 0
/-- FSCOPE. -/
def wFSCOPE : Nat := 1
/-- SCOPEPOL. -/
def wSCOPEPOL : Nat := 2
/-- ORDFIT. -/
def wORDFIT : Nat := 3
/-- RNDNA. -/
def wRNDNA : Nat := 4
/-- STOCH. -/
def wSTOCH : Nat := 5
/-- FMTRSV. -/
def wFMTRSV : Nat := 6
/-- LPIGN. -/
def wLPIGN : Nat := 7
/-- MSKIGN. -/
def wMSKIGN : Nat := 8
/-- KZERO. -/
def wKZERO : Nat := 9
/-- DIVZ. -/
def wDIVZ : Nat := 10
/-- FMTOP. -/
def wFMTOP : Nat := 11

/-- Set bit i of a number. -/
def setBit (i x : Nat) : Nat := x ||| 2 ^ i

/-- Change the synchronous state of the core in focus. -/
def State.modSync (s : State) (f : Sync → Sync) : State := s.modCore (fun k => { k with sync := f k.sync })

/-- Set a bit of WARN when the condition holds; the bits that the slots of a bundle set are also kept apart from a
MOVCW to WARN of the same bundle (R47). -/
def State.warn (s : State) (bit : Nat) (c : Bool) : State :=
  if c then
    let t := s.modSync (fun y => { y with warn := setBit bit y.warn })
    { t with cx := { t.cx with warn := setBit bit t.cx.warn } }
  else s

/-- Set a list of WARN bits. -/
def State.warns (s : State) (l : List Nat) : State := l.foldl (fun t b => t.warn b true) s

/-- The state that slot operations read: the state before the bundle (R49), or the present one when no bundle runs. -/
def State.pre (s : State) : Sync := if s.cx.on then s.cx.pre else s.core.sync

/-- Whether a register is read before its latency bound has passed (R25). -/
def State.early (s : State) (k : Nat) : Bool := decide (s.now < s.pre.landing.get 0 k)

/-- Guard register i; g0 is true (R110), and an early read is a free value (R25). -/
def State.readG (s : State) (i : Nat) : Bool :=
  if i = 0 then true
  else if s.early (kG i) then Config.freeBool s.free (kG i)
  else s.pre.g.get false i

/-- Whether the guard of a slot operation holds (R26, R45). -/
def State.guardOn (s : State) (g : BitVec 4) (n : Bool) : Bool := s.readG g.toNat != n

end Sys2Proof.Machine
end

