-- ==== Sys2Proof/Machine/Ops.lean ====
section
/-! DEFINITION. The operations that every family shares: reading and writing registers (R25, R109 to R111, R270 to
R272), raising causes, checkpoints (R297 to R300), rollback, taking a trap and ending a kernel (R307 to R312, R436),
the beginning and the end of a bundle (R137, R266, R276, R277), and the exception return (R322). -/

namespace Sys2Proof.Machine

/-! ### Registers -/

/-- The register will be read as written from cycle now + lat on (R25). -/
def Sync.landSet (y : Sync) (now k lat : Nat) : Sync :=
  { y with landing := if lat ≤ 1 then y.landing.del k else y.landing.set k (now + lat) }

/-- The cycle in which the present bundle issues: of a load that missed, the one in which its access left (R128). -/
def State.issueAt (s : State) : Nat := if s.core.missed then s.core.missAt else s.now

/-- An older result of the same register lands after this one: the manual fixes no winner (R25; log entry 11). -/
def State.overtaken (s : State) (k lat : Nat) : Bool := decide (s.issueAt + max lat 1 < s.core.sync.landing.get 0 k)

/-- The core is in handler mode. -/
def State.inHandler (s : State) : Bool := s.core.mode == .handler

/-- The key of s register i: s28 to s31 name the handler bank in handler mode (R311). -/
def State.sKey (s : State) (i : Nat) : Nat := if s.inHandler && decide (28 ≤ i) then kHB i else kS i

/-- Read s register i; s0 is zero (R109). -/
def State.readS (s : State) (i : Nat) : W64 :=
  if i = 0 then 0
  else if s.early (s.sKey i) then Config.freeW64 s.free (s.sKey i)
  else if s.sKey i = kS i then s.pre.s.get 0 i
  else s.pre.hb.get 0 i

/-- Write s register i with latency bound lat; a write to s0 is discarded (R109). -/
def State.writeS (s : State) (i : Nat) (v : W64) (lat : Nat) : State :=
  if i = 0 then s
  else
    let k := s.sKey i
    let v' := if s.overtaken k lat then Config.freeW64 s.free k else v
    s.modSync (fun y => (if k = kS i then { y with s := y.s.set i v' } else { y with hb := y.hb.set i v' }).landSet s.issueAt k lat)

/-- Write s register i with the data of a load: latency bound 6 for a hit; a load that missed has its data written before the
next bundle issues, which reads it whatever landed meanwhile (R128). -/
def State.writeLoaded (s : State) (i : Nat) (v : W64) : State :=
  if s.core.missed then
    (if i = 0 then s
    else
      let k := s.sKey i
      s.modSync (fun y => { (if k = kS i then { y with s := y.s.set i v } else { y with hb := y.hb.set i v }) with landing := y.landing.del k }))
  else s.writeS i v 6

/-- Write guard i; a write to g0 is discarded (R110). -/
def State.writeG (s : State) (i : Nat) (v : Bool) (lat : Nat) : State :=
  if i = 0 then s
  else
    let v' := if s.overtaken (kG i) lat then Config.freeBool s.free (kG i) else v
    s.modSync (fun y => { y with g := y.g.set i v' }.landSet s.issueAt (kG i) lat)

/-- The physical register of number r of the a or b file (R270). -/
def phys (rrb r : Nat) : Nat := if r < 16 then r else 16 + (r - 16 + rrb) % 16

/-- Whether physical register p of a file is dead (R272). -/
def Sync.dead (y : Sync) (b : Bool) (p : Nat) : Bool :=
  decide (16 ≤ p) && decide (y.ldepth < y.ages.get 0 (if b then 32 + p else p))

/-- A physical register of a vector file. -/
def Sync.vreg (y : Sync) (b : Bool) (p : Nat) : VReg := (if b then y.b else y.a).get {} p

/-- Read register r of the a file (false) or the b file (true): a dead register and an early read give an unspecified
value under the tag that the register's last writer gave it (R25, R272; the tag before the bound: log entry 102). -/
def State.readV (s : State) (b : Bool) (r : Nat) : VReg :=
  let p := phys s.pre.rrb r
  if s.early (vKey b p) || s.pre.dead b p then { s.pre.vreg b p with bits := Config.freeLine s.free (vKey b p) }
  else s.pre.vreg b p

/-- Write register r of a vector file; its AGE becomes 0 (R272). Where an older result lands later, what program order gives
the register is kept for merges (R149). -/
def State.writeV (s : State) (b : Bool) (r : Nat) (v : VReg) (lat : Nat) : State :=
  let p := phys s.pre.rrb r
  let late := s.overtaken (vKey b p) lat
  let v' := if late then { v with bits := Config.freeLine s.free (vKey b p) } else v
  s.modSync (fun y =>
    let y := { y with covered := if late then y.covered.set (vKey b p) v else y.covered.del (vKey b p) }
    (if b then { y with b := y.b.set p v', ages := y.ages.del (32 + p) }
     else { y with a := y.a.set p v', ages := y.ages.del p }).landSet s.issueAt (vKey b p) lat)

/-- Mask register: ka0-ka7 at 0-7, kb0-kb7 at 8-15. -/
def State.readK (s : State) (i : Nat) : BitVec 256 :=
  if s.early (kK i) then BitVec.ofNat 256 (Config.freeLine s.free (kK i)).toNat else s.pre.k.get (BitVec.allOnes 256) i
/-- Write a mask register. -/
def State.writeK (s : State) (i : Nat) (v : BitVec 256) (lat : Nat) : State :=
  let v' := if s.overtaken (kK i) lat then BitVec.ofNat 256 (Config.freeLine s.free (kK i)).toNat else v
  s.modSync (fun y => { y with k := y.k.set i v' }.landSet s.issueAt (kK i) lat)
/-- Pattern register of the X slot; the interlock of R187 keeps it from being read early. -/
def State.readX (s : State) (i : Nat) : Line := s.pre.x.get 0 i
/-- Write a pattern register of the X slot. -/
def State.writeX (s : State) (i : Nat) (v : Line) (lat : Nat) : State :=
  s.modSync (fun y => { y with x := y.x.set i v }.landSet s.issueAt (kX i) lat)
/-- Routing pattern of the N slot; the interlock of R192 keeps it from being read early. -/
def State.readW (s : State) (i : Nat) : BitVec 512 := s.pre.w.get 0 i
/-- Write a routing pattern of the N slot. -/
def State.writeW (s : State) (i : Nat) (v : BitVec 512) (lat : Nat) : State :=
  s.modSync (fun y => { y with w := y.w.set i v }.landSet s.issueAt (kW i) lat)
/-- y register. -/
def State.readY (s : State) (i : Nat) : W64 :=
  if s.early (kY i) then Config.freeW64 s.free (kY i) else s.pre.y.get 0 i
/-- Write a y register. -/
def State.writeY (s : State) (i : Nat) (v : W64) (lat : Nat) : State :=
  let v' := if s.overtaken (kY i) lat then Config.freeW64 s.free (kY i) else v
  s.modSync (fun y => { y with y := y.y.set i v' }.landSet s.issueAt (kY i) lat)
/-- h (false) or j (true) register (R237). -/
def State.readH (s : State) (b : Bool) (i : Nat) : W64 :=
  if s.early (hKey b i) then Config.freeW64 s.free (hKey b i) else (if b then s.pre.j else s.pre.h).get 0 i
/-- Write an h or j register. -/
def State.writeH (s : State) (b : Bool) (i : Nat) (v : W64) (lat : Nat) : State :=
  let v' := if s.overtaken (hKey b i) lat then Config.freeW64 s.free (hKey b i) else v
  s.modSync (fun y => (if b then { y with j := y.j.set i v' } else { y with h := y.h.set i v' }).landSet s.issueAt (hKey b i) lat)

/-- Change a stream. -/
def State.modStream (s : State) (q : Nat) (f : Stream → Stream) : State :=
  s.modSync (fun y => { y with streams := y.streams.set q (f (y.streams.get {} q)) })
/-- Change a ring. -/
def State.modRing (s : State) (n : Nat) (f : Ring → Ring) : State :=
  s.modSync (fun y => { y with rings := y.rings.set n (f (y.rings.get {} n)) })

/-- Apply a change to every copy of the synchronous state of core n: what an engine publishes is not moved back by a
rollback to an older snapshot (R204, R298). -/
def State.mapSync (s : State) (n : Nat) (f : Sync → Sync) : State :=
  s.modCoreAt n (fun k => { k with
    sync := f k.sync, shadow := f k.shadow, trapShadow := f k.trapShadow,
    ckpts := k.ckpts.map (fun c => { c with snap := f c.snap }),
    branches := k.branches.map (fun b => { b with snap := f b.snap }) })

/-! ### Causes and stalls -/

/-- A slot raises a cause (R307, R308). Slots are numbered as in MASK. -/
def State.raise (s : State) (slot cause : Nat) (info : W64) : State :=
  { s with cx := { s.cx with causes := s.cx.causes ++ [(slot, cause, info)] } }

/-- The row of the stall table by which a slot operation asks for an implicit checkpoint ahead of its bundle that is
known only at issue: uncached S accesses, busy tiles, a full store buffer (R199, R300, R302). -/
def rowCkpt : Nat := 100

/-- The row of a wait for branch resolution, for an operation that must not be undone (log entry 12). -/
def rowBranch : Nat := 101

/-- The bundle stalls by a row of R267, numbered from 0 (fetch) to 15 (BARW, WFE). -/
def State.stallOn (s : State) (row : Nat) : State :=
  { s with cx := { s.cx with stall := (match s.cx.stall with | some r => some r | none => some row), stalls := s.cx.stalls ||| 2 ^ row } }

/-- Nothing in the bundle keeps an irreversible operation from performing (R300). -/
def State.clear (s : State) : Bool := s.cx.stall.isNone && s.cx.causes.isEmpty

/-- An operation that a replay refuses ends the pass with REASON 3 once its bundle is sure to run (R490). -/
def State.replayRefuse (s : State) : State :=
  if s.core.branches.isEmpty && s.clear then
    let t := s.replayEnd s.gid 3
    { t with cx := { t.cx with fin := true } }
  else s.stallOn rowBranch

/-- Hold the next bundle for n cycles at least (R287, R397, R401). -/
def State.holdNext (s : State) (n : Nat) : State := { s with cx := { s.cx with hold := max n s.cx.hold } }

/-! ### Counting for bundles that may be squashed (R485) -/

/-- Count an event of the present bundle once its branches have resolved. -/
def State.countB (s : State) (e n : Nat) : State :=
  if s.core.branches.isEmpty then s.count e n
  else s.modCore (fun k => { k with pendCnt := k.pendCnt ++ [(k.seqNo, e, n)] })

/-- Produce a trace record of the present bundle once its branches have resolved (R482). -/
def State.traceB (s : State) (type aux addr data : Nat) : State :=
  if s.core.branches.isEmpty then s.traceRec s.focus type aux addr data
  else s.modCore (fun k => { k with pendTrc := k.pendTrc ++
    [{ seqNo := k.seqNo, type := type, aux := aux, addr := addr, data := data, cycle := k.cycle, flags := k.traceFlags }] })

/-- Add to the path signature of a replay once the bundle is committed (R491). -/
def State.sigB (s : State) (b : List Nat) : State :=
  if s.replaying s.focus then s.modCore (fun k => { k with pendSig := k.pendSig ++ [(k.seqNo, b)] }) else s

/-- One step of the CRC-64 of R491, most significant bit first. -/
def crc64Byte (c b : Nat) : Nat :=
  (List.range 8).foldl (fun c i =>
    let top := bitOf 63 c != bitOf (7 - i) b
    let c' := c * 2 % 2 ^ 64
    if top then c' ^^^ 0x42F0E1EBA9EA3693 else c') c

/-- Fold the committed contributions of a core into its member's signature (R491). -/
def State.foldSig (s : State) (n seqNo : Nat) : State :=
  let k := s.coreAt n
  let now := (k.pendSig.filter (fun p => decide (p.1 < seqNo))).flatMap (fun p => p.2)
  if now.isEmpty then s
  else
    let t := s.modCoreAt n (fun k => { k with pendSig := k.pendSig.filter (fun p => !decide (p.1 < seqNo)) })
    t.modGuest k.guest (fun g => { g with rpl := { g.rpl with sigs := g.rpl.sigs.set k.mem (now.foldl crc64Byte (g.rpl.sigs.get 0 k.mem)) } })

/-- Give out the counts and trace records of core n that no unresolved branch can undo any more. -/
def State.settle (s : State) (n : Nat) : State :=
  let k := s.coreAt n
  let safe (q : Nat) : Bool := k.branches.all (fun b => decide (q ≤ b.seqNo))
  let t := s.modCoreAt n (fun k => { k with pendCnt := k.pendCnt.filter (fun p => !safe p.1),
                                            pendTrc := k.pendTrc.filter (fun p => !safe p.seqNo) })
  let t := (k.pendCnt.filter (fun p => safe p.1)).foldl (fun t p => t.countAt n p.2.1 p.2.2) t
  (k.pendTrc.filter (fun p => safe p.seqNo)).foldl (fun t p => t.traceRecAt n p.type p.aux p.addr p.data p.cycle p.flags) t

/-! ### Elements of scatter streams (R258) -/

/-- A stream in gather or scatter mode. -/
def Stream.gmode (q : Stream) : Bool := bitOf 62 q.cbase.toNat

/-- The description under which the elements of an epoch of a stream were appended. -/
def Stream.descOf (q : Stream) (epoch : Nat) : Option Stream :=
  if q.epoch = epoch then some q
  else (q.olds.find? (fun o => o.1 == epoch)).map (fun o => { q with cbase := o.2.1, cdim := o.2.2.1, cstr := o.2.2.2.1, cblk := o.2.2.2.2 })

/-- The appended elements that no write can place any more: those of scatter streams without a command. -/
def Core.scatterLeft (k : Core) (e : Nat × Nat × Nat × Nat × Nat) : Bool :=
  match (k.sync.streams.get {} e.1).descOf e.2.1 with
  | some q => q.gmode
  | none => true

/-! ### Checkpoints and rollback -/

/-- The synchronous state without its dead registers, whose bits are unspecified when it is restored (R272). -/
def Sync.dropDead (y : Sync) (free : Nat) : Sync :=
  let gone (b : Bool) (t : Tab VReg) (p : Nat) : Tab VReg :=
    if y.dead b p then t.set p { t.get {} p with bits := Config.freeLine free (2000 + vKey b p) } else t
  { y with a := (List.range 32).foldl (gone false) y.a, b := (List.range 32).foldl (gone true) y.b }

/-- The synchronous state as a shadow holds it: with every result of earlier bundles landed, and without dead registers
(R297, R272). -/
def Sync.landed (y : Sync) (free : Nat) : Sync := { y.dropDead free with landing := [] }

/-- Take a checkpoint of core n at a bundle (R298): the shadow, the release of withheld stores, the commitment. -/
def State.ckptBase (s : State) (n addr seqNo : Nat) (snap : Sync) : State :=
  let t := s.modCoreAt n (fun k => { k with
    shadow := snap.landed s.free
    ckptAddr := addr
    stores := k.stores.map (fun x => if !x.released && decide (x.seqNo < seqNo)
      then { x with released := true, ckpt := addr, relAt := s.now } else x)
    mq := k.mq.map (fun x => if x.seqNo < seqNo then { x with committed := true } else x)
    cqa := k.cqa.map (fun x => if x.seqNo < seqNo then { x with committed := true } else x)
    cqb := k.cqb.map (fun x => if x.seqNo < seqNo then { x with committed := true } else x)
    tq := k.tq.map (fun x => if x.seqNo < seqNo then { x with committed := true } else x)
    ckptSeq := seqNo })
  t.foldSig n seqNo

/-- A checkpoint, counted as CKPT (R485). -/
def State.takeCkpt (s : State) (n addr seqNo : Nat) (snap : Sync) : State :=
  (s.countAt n 15 1).ckptBase n addr seqNo snap

/-- Drop what bundles from sequence number q on have started: uncommitted engine commands, withheld stores, standing
checkpoints, branches and undecided counts (R137, R301, R305). -/
def Core.cancelFrom (k : Core) (q : Nat) : Core :=
  { k with
    stores := k.stores.filter (fun x => x.released || decide (x.seqNo < q))
    mq := k.mq.filter (fun x => x.committed || decide (x.seqNo < q))
    cqa := k.cqa.filter (fun x => x.committed || decide (x.seqNo < q))
    cqb := k.cqb.filter (fun x => x.committed || decide (x.seqNo < q))
    tq := k.tq.filter (fun x => x.committed || decide (x.seqNo < q))
    outq := k.outq.filter (fun x => decide (x.2.2.2.2 < q))
    pend := k.pend.filter (fun x => decide (x.2.writer < q))
    ckpts := k.ckpts.filter (fun c => decide (c.seqNo < q))
    branches := k.branches.filter (fun b => decide (b.seqNo < q))
    pendCnt := k.pendCnt.filter (fun p => decide (p.1 < q))
    pendTrc := k.pendTrc.filter (fun p => decide (p.seqNo < q))
    pendSig := k.pendSig.filter (fun p => decide (p.1 < q))
    yieldPend := match k.yieldPend with | some p => if p < q then some p else none | none => none
    dbg := { k.dbg with bk := match k.dbg.bk with | some p => if p.1 < q then some p else none | none => none }
    adm := k.adm.filter (fun p => p.1 != 72)
    held := none, walk := none, walkFault := none, req := none, got := [], capGo := none
    missed := false, missedFar := false, missView := none, stallWhy := 0 }

/-- Withdraw the temporal request of a core of cluster c, and release a grant (R344): the array may be granted again
2 cc later (R342). -/
def State.dropArray (s : State) (n : Nat) : State :=
  s.modCl (clOf n) (fun c =>
    let a := c.arr
    let q := a.queue.filter (fun x => x != n % 8)
    if a.holder == some (n % 8) then
      { c with arr := { a with holder := none, queue := q, freeAt := s.now + 2, lastGuest := some (s.coreAt n).guest } }
    else { c with arr := { a with queue := q } })

/-- An uncommitted TACQ from sequence number q on has entered the grant queue. -/
def Core.acquiring (k : Core) (q : Nat) : Bool :=
  k.tq.any (fun x => x.op == 0x10 && !x.committed && x.begun && !x.noop && decide (q ≤ x.seqNo))

/-- The requests of the S path and of the walks of core n are dropped, with what has been granted to them. -/
def State.dropRequests (s : State) (n : Nat) : State :=
  { s with held := s.held.filter (fun h => h.core != some n || (h.tag != 0 && h.tag != walkTag))
           grants := s.grants.filter (fun x => x.payer.core != some n || (x.payer.tag != 0 && x.payer.tag != walkTag)) }

/-- The requests of the S path and of the walks of core n stay at their points although nothing waits for them any more
(R369). -/
def State.keepHeld (s : State) (n : Nat) : State :=
  { s with held := s.held.map (fun h => if h.core == some n && (h.tag == 0 || h.tag == walkTag) then { h with tag := postTag } else h) }

/-- Roll core n back to its last checkpoint (R309 steps 1 and 2): everything uncommitted is cancelled, the shadow is
restored, and the fetch buffer and the return stack are emptied (R136, R269). -/
def State.rollback (s : State) (n why : Nat) : State :=
  let k := s.coreAt n
  -- a TACQ that is cancelled withdraws its request (R344)
  let s := if k.acquiring 0 then s.dropArray n else s
  let s := s.modCl (clOf n) (fun c => { c with breqs := c.breqs.filter (fun b => b.core != n % 8) })
  let t := s.modCoreAt n (fun k =>
    let k := { k with
      stores := k.stores.filter (fun x => x.released)
      mq := k.mq.filter (fun x => x.committed)
      cqa := k.cqa.filter (fun x => x.committed)
      cqb := k.cqb.filter (fun x => x.committed)
      tq := k.tq.filter (fun x => x.committed) }
    { k with
      sync := k.shadow, branches := [], ckpts := [], held := none, rstack := [], ckptHere := false, missed := false, missedFar := false, missView := none, stallWhy := 0
      outq := k.outq.filter (fun x => decide (x.2.2.2.2 < k.ckptSeq))
      pend := k.pend.filter (fun x => decide (x.2.writer < k.ckptSeq)), yieldPend := none
      dbg := { k.dbg with bk := none, ck := false, step := false }
      walk := none, walkFault := none, req := none, got := [], capGo := none, fbBytes := [], fbFault := none, pendSig := [] })
  (((t.dropRequests n).countAt n 16 1).settle n).traceRec n 3 why k.ckptAddr 0

/-! ### Failures of records and the end of a kernel (R310, R436) -/

/-- Write the status of a failed node into its stream and tell the guest (R436); FADDR holds 48 bits (R414). -/
def State.haltStream (s : State) (g stream errk cause a : Nat) : State :=
  let addr := a % 2 ^ 48
  let t := s.modGuest g (fun x =>
    let q := x.cms.get {} stream
    { x with cms := x.cms.set stream { q with halt := true, errk := errk, cause := cause, faddr := addr } })
  t.statusEvent g (if errk = 3 then 5 else 1) cause (errk + 16 * stream) addr

/-- Change a node instance of a guest. -/
def State.modNode (s : State) (g id : Nat) (f : Node → Node) : State :=
  s.modGuest g (fun x => { x with nodes := x.nodes.map (fun n => if n.id == id then f n else n) })

/-- Change the group of a record. -/
def State.modGrp (s : State) (g id index : Nat) (f : Grp → Grp) : State :=
  s.modGuest g (fun x => { x with grps := x.grps.map (fun r => if r.node == id && r.index == index then f r else r) })

/-- A record or node fails (R436): groups not yet placed are dropped, and its stream halts. -/
def State.failNode (s : State) (g id errk cause : Nat) : State :=
  match (s.guestAt g).nodes.find? (fun n => n.id == id) with
  | none => s
  | some n =>
    if n.st == 4 || n.st == 3 then s
    else if n.replay then
      -- the record of a replay pass stands in no stream: its member's end is REASON 4 (R489)
      (s.modNode g id (fun n => { n with st := 4, dropped := true })).modGuest g
        (fun x => { x with rpl := { x.rpl with reason := if x.rpl.reason = 0 then 4 else x.rpl.reason } })
    else (s.modNode g id (fun n => { n with st := 4, dropped := true })).haltStream g n.stream errk cause n.addr

/-- The dirty runs of an L1 line: offset and bytes. -/
def dirtyRuns (d : List Nat) (m : List Bool) : List (Nat × List Nat) :=
  let step (acc : List (Nat × List Nat)) (i : Nat) : List (Nat × List Nat) :=
    if m.getD i false then
      match acc with
      | (o, b) :: t => if o + b.length = i then (o, b ++ [d.getD i 0]) :: t else (i, [d.getD i 0]) :: (o, b) :: t
      | [] => [(i, [d.getD i 0])]
    else acc
  (List.range 128).foldl step []

/-- Bytes of the L1 of core n cannot be written to their home slice: its stores fail after their release (R363, R382, R307;
which checkpoint had released them is not kept, and the newest one stands for it: log entry 116). -/
def State.l1Lost (s : State) (n va : Nat) : State :=
  s.modCoreAt n (fun k => if k.mode != .run && k.mode != .handler then k else { k with asyncs := k.asyncs ++
    [{ cause := cMEMUE, slots := 1, info := BitVec.ofNat 64 va, flt := k.ckptAddr, async := true }] })

/-- Write the dirty bytes of one L1 line to its home slice (R396, R282), in requests of its own at the port (R364). -/
def State.l1WriteBack (s : State) (n : Nat) (l : L1Line) : State :=
  let g := (s.coreAt n).guest
  let pay (t : State) (units : Nat) : State :=
    if t.pays = .direct then t.charge (dieOf n) (clOf n % 8) g units else t.post (some n) (dieOf n) (clOf n % 8) g units
  (dirtyRuns l.data l.dirty).foldl (fun t r =>
    let w := (pay t (unitsOf r.2.length)).homeWrite g l.sel (l.pa + r.1) r.2
    if w.2 then w.1 else w.1.l1Lost n (l.va + r.1)) s

/-- Write back every dirty line of the L1 and keep the lines, clean. -/
def State.l1Clean (s : State) (n : Nat) : State :=
  ((s.coreAt n).l1.foldl (fun t l => t.l1WriteBack n l) s).modCoreAt n
    (fun k => { k with l1 := k.l1.map (fun l => { l with dirty := [] }) })

/-- Write back and invalidate the whole L1 (R282). -/
def State.l1Flush (s : State) (n : Nat) : State :=
  ((s.coreAt n).l1.foldl (fun t l => t.l1WriteBack n l) s).modCoreAt n (fun k => { k with l1 := [] })

/-- The write-back of a world switch (R282): its writes are admitted at once and debited, 128 bytes per cc. -/
def State.l1Switch (s : State) (n : Nat) : State :=
  let d := ((s.coreAt n).l1.filter (fun l => l.dirty.any id)).length
  (s.paying .direct (fun t => (t.l1Flush n, ()))).1.modCoreAt n (fun k => { k with flushAt := s.now + d })

/-- The write-back of a world switch, and whether it has ended. -/
def State.l1Switched (s : State) (n : Nat) : State × Bool :=
  let t := if (s.coreAt n).l1.isEmpty then s else s.l1Switch n
  (t, decide ((t.coreAt n).flushAt ≤ s.now))

/-- A line that holds dirty bytes keeps them, and takes the bytes it did not write from its home again. -/
def State.l1Refresh (s : State) (n : Nat) (l : L1Line) : State :=
  let r := (s.post (some n) (dieOf n) (clOf n % 8) (s.coreAt n).guest 2).homeRead (s.coreAt n).guest l.sel l.pa 128
  match r.2 with
  | none => r.1
  | some b => r.1.modCoreAt n (fun k => { k with l1 := k.l1.map (fun x => if x.pa == l.pa && x.sel == l.sel
      then { x with data := (List.range 128).map (fun i => if x.dirty.getD i false then x.data.getD i 0 else b.getD i 0) } else x) })

/-- Invalidate the clean unpinned lines of the L1 (R397). A line that stays because it is dirty shows later reads the
home's value of every byte the core did not write, as the coherence axioms of R391 and R286 ask. DEDUCED (log entry 58). -/
def State.l1DropClean (s : State) (n : Nat) : State :=
  let t := s.modCoreAt n (fun k => { k with l1 := k.l1.filter (fun l => l.dirty.any id || !l.pins.isEmpty) })
  (t.coreAt n).l1.foldl (fun t l => if l.pins.isEmpty && !((List.range 128).all (fun i => l.dirty.getD i false))
    then t.l1Refresh n l else t) t

/-- The bytes of a plane image (R437). -/
def planeSize : Nat := 4736
/-- A list of bytes as a sparse table; a zero byte is not listed. -/
def bytesTab (b : List Nat) : Tab Nat := ((List.range b.length).zip b).filter (fun p => p.2 != 0)
/-- The bytes of a plane. -/
def Plane.image (p : Plane) : List Nat := (List.range planeSize).map (fun i => p.bytes.get 0 i)
/-- The active plane with the lane patterns as they stand: a MOVCW to one writes the active plane's copy (R155). -/
def Core.actPlane (k : Core) : Plane :=
  { k.planeAct with bytes := bytesTab ((List.range 6).foldl (fun b i =>
      patch b (0x1200 + 8 * i) (toLe 8 (k.sync.lp.get 0 i).toNat)) k.planeAct.image) }

/-- A bit as a number. -/
def b2n (b : Bool) : Nat := if b then 1 else 0
/-- CFGPLANE.ISEQ. -/
def Core.iseq (k : Core) : Nat := bitsOf 31 24 k.cfgWord.toNat
/-- CFGPLANE.ASEQ. -/
def Core.aseq (k : Core) : Nat := bitsOf 23 16 k.cfgWord.toNat
/-- CFGPLANE.READY. -/
def Core.planeReady (k : Core) : Bool := bitOf 2 k.cfgWord.toNat
/-- The fields of CFGPLANE put together, BUSY 0 (R440). -/
def cfgOf (iseq aseq : Nat) (bad ready : Bool) (act : Nat) : W64 :=
  BitVec.ofNat 64 (iseq % 256 * 2 ^ 24 + aseq % 256 * 2 ^ 16 + b2n bad * 16 + b2n ready * 4 + act % 2)

/-- The Splice in progress on a core ends (R438, steps 4 and 5): the new inactive plane stands with READY, or the old one
with BAD and READY as it was. -/
def Core.spliceEnd (k : Core) : Core :=
  match k.splicing with
  | none => k
  | some p =>
    let k := { k with splicing := none }
    if p.ok then { k with planeInact := p.inact, cfgWord := cfgOf p.seqNo k.aseq (bitOf 4 k.cfgWord.toNat) true k.cfgPlane }
    else { k with cfgWord := cfgOf k.iseq k.aseq true p.ready k.cfgPlane }

/-- The command of core n that runs on the array of its cluster stops there with what it has done (R345). -/
def State.cutArray (s : State) (n : Nat) : State :=
  match (s.coreAt n).tq.head? with
  | some c =>
    if c.begun && c.committed && (c.op == 0x12 || c.op == 0x13) && (s.clAt (clOf n)).arr.holder == some (n % 8) then
      let time := if c.op = 0x12 then 520 else 4 + ceilDiv c.twin 2 + 12
      s.modCl (clOf n) (fun x => { x with arr := { x.arr with cut := some (n, c, s.now + time - c.doneAt) } })
    else s
  | none => s

/-- Stop a core without a save: its engine commands are cancelled, its temporal request is withdrawn, and it holds no
context (R345, R436, R457). `keep` leaves the dirty L1 lines to be written back (R282). -/
def State.stopCore (s : State) (n : Nat) (keep : Bool) : State :=
  let t := if keep then s.l1Switch n else s.modCoreAt n (fun k => { k with l1 := [] })
  let t := (t.cutArray n).dropArray n
  let t := (t.modCoreAt n Core.spliceEnd).modCoreAt n (fun k => { k with
    mode := .stopped, branches := [], ckpts := [], stores := k.stores.filter (fun x => x.released && keep)
    mq := [], cqa := [], cqb := [], tq := [], outq := [], pend := [], req := none, walk := none, walkFault := none, wpgt := none
    oerrs := [], outHeld := [], adm := [], arriving := []
    dbg := k.dbg.idle
    held := none, planeAct := k.actPlane, asyncs := [], yreq := false, ydl := 0, frames := [], fbBytes := [], fbFault := none, yieldPend := none,
    pendCnt := [], pendTrc := [], pendSig := [], blocks := [], bflags := 0 })
  let t := t.modCl (clOf n) (fun c => { c with breqs := c.breqs.filter (fun b => b.core != n % 8) })
  { t with held := t.held.filter (fun h => h.core != some n), grants := t.grants.filter (fun x => x.payer.core != some n) }

/-- The cores of a group. -/
def Grp.cores (r : Grp) : List Nat := r.members.map (fun m => 8 * r.cl + m.core)

/-- Return popped frames to the guest's list in reverse order (R318): the list lies at GC_SFL, in physical memory. -/
def State.returnFrames (s : State) (g : Nat) (frames : List Nat) : State :=
  frames.reverse.foldl (fun t f =>
    let c := (t.guestAt g).gc
    (t.homeWrite g 16 (c.sfl * 8 + 8 * c.sfln) (toLe 8 f)).1.modGuest g
      (fun x => { x with gc := { x.gc with sfln := (x.gc.sfln + 1) % 2 ^ 16 } })) s

/-- The contexts of a group that have been saved leave the machine, and their frames go back to the list. -/
def State.dropSaved (s : State) (g node index : Nat) : State :=
  let mine (v : SavedCtx) : Bool := v.node == node && v.index == index
  let t := ((s.guestAt g).saved.filter mine).foldl (fun (t : State) (v : SavedCtx) => t.returnFrames g v.frames) s
  t.modGuest g (fun x => { x with saved := x.saved.filter (fun v => !mine v) })

/-- A kernel is terminated: the other members of its group stop without a save, those saved already do not come back, and its
record fails with ERRK 3 (R310, R436). -/
def State.terminate (s : State) (n cause : Nat) : State :=
  let k := s.coreAt n
  let g := k.guest
  match (s.guestAt g).grps.find? (fun r => r.node == k.rcd && r.index == k.grp) with
  | none => s.stopCore n true
  | some r =>
    let t := r.cores.foldl (fun t c => if (t.coreAt c).guest == g && (t.coreAt c).rcd == k.rcd && (t.coreAt c).grp == k.grp
      then t.stopCore c true else t) s
    let t := (t.dropSaved g k.rcd k.grp).modGuest g (fun x => { x with grps := x.grps.filter (fun q => !(q.node == k.rcd && q.index == k.grp)) })
    let t := t.modCl r.cl (fun c => { c with bars := c.bars.map (fun b =>
      if b.2.owner != 0 && r.members.any (fun m => bitOf m.core b.2.owner) then (b.1, {}) else b) })
    t.failNode g k.rcd 3 cause

/-! ### Taking a trap (R307 to R313) -/

/-- HNEST (R312). -/
def cHNEST : Nat := 0x08

/-- Take a trap on core n: the one operation that every exception uses (R309, R310, R312). -/
def State.takeTrap (s : State) (n : Nat) (r : TrapReq) : State :=
  let k := s.coreAt n
  let t := s.rollback n r.cause
  let regs : TrapRegs := { k.trap with
    cause := r.cause, async := r.async, addr := k.ckptAddr % 2 ^ 48, flt := r.flt % 2 ^ 48, slots := if r.async then 0 else r.slots, info := r.info }
  if r.cause = 0x42 && !r.async then
    -- a WPGT is Bowline's: the core waits for the host's answer, and the kernel does not see it (R378)
    (t.modCoreAt n (fun k => { k with wpgt := some (r.info.toNat, r.flt) })).hostEv r.cause k.guest r.info.toNat
  else if k.mode == .handler && !r.async then
    -- a nested trap terminates the kernel, and Bowline receives HNEST
    let t := t.modCoreAt n (fun k => { k with trap := { k.trap with cause := cHNEST, info := BitVec.ofNat 64 r.cause } })
    (t.hostEv cHNEST k.guest r.cause).terminate n cHNEST
  else if !k.trap.en then
    (t.modCoreAt n (fun k => { k with trap := regs })).terminate n r.cause
  else
    let t := t.modCoreAt n (fun k => { k with
      trap := regs, mode := .handler, trapShadow := k.shadow, trapSeq := k.ckptSeq
      sync := { k.sync with pc := k.trap.haddr }, readyAt := s.now + 8 })
    (t.countIn n (k.mode == .handler) 17 1).traceRec n 2 r.cause r.flt regs.addr

/-- The return from a trap: leave handler mode and go on at TRAPADDR, 8 cc later; the fetch buffer is discarded
(R322, R269). -/
def State.leaveHandler (s : State) : State :=
  let s := s.modCore (fun k => { k with mode := .run, fbBytes := [], fbFault := none })
  { s with cx := { s.cx with next := some s.core.trap.addr, hold := max 7 s.cx.hold } }

/-! ### Loop records (R275 to R277) -/

/-- A record runs and is not suspended by a handler (R311). -/
def Core.looping (k : Core) : Bool := k.sync.loop.act && k.mode != .handler

/-- First address and end of the part that runs. -/
def LoopSt.part (l : LoopSt) : Nat × Nat :=
  let w := if l.phase = 0 then l.w0.toNat else if l.phase = 1 then l.w1.toNat else l.w2.toNat
  (bitsOf 47 0 w, bitsOf 47 0 w + 4 * bitsOf 63 48 w)

/-- Rotate (R271): RRB decreases and the AGE of each register of the two regions increases, to 15 at most. -/
def Sync.rotate (y : Sync) : Sync :=
  { y with
    rrb := (y.rrb + 15) % 16
    ages := ((List.range 16).map (fun i => 16 + i) ++ (List.range 16).map (fun i => 48 + i)).map
      (fun i => (i, min 15 (y.ages.get 0 i + 1))) }

/-- End the record and go on after the LOOP. PHASE and LITER keep their last values (DESIGN CHOICE, log entry 127). -/
def Sync.loopEnd (y : Sync) : Sync := { y with loop := { y.loop with act := false, exit := false }, pc := y.loop.ret }

/-- Run the epilogue, or end the record when it has none. -/
def Sync.toEpilogue (y : Sync) : Sync :=
  if bitsOf 63 48 y.loop.w2.toNat = 0 then y.loopEnd
  else { y with loop := { y.loop with phase := 2, exit := false }, pc := bitsOf 47 0 y.loop.w2.toNat }

/-- Go to the first bundle of the kernel. -/
def Sync.toKernel (y : Sync) : Sync :=
  { y with loop := { y.loop with phase := 1, exit := false }, pc := bitsOf 47 0 y.loop.w1.toNat }

/-- An iteration boundary without its yield (R277 steps 1 and 2). -/
def Sync.boundary (y : Sync) : Sync :=
  let y := if y.loop.rot then y.rotate else y
  let it := if y.loop.exit then 0 else y.loop.iter - 1
  let y := { y with loop := { y.loop with iter := it } }
  if it = 0 then y.toEpilogue else y.toKernel

/-- The state after a bundle that goes on at the following address `next` (R276): a part that ends there is followed by
the next part; the flag says that an iteration boundary was passed. -/
def Sync.advance (y : Sync) (next : Nat) (looping : Bool) : Sync × Bool :=
  let y := { y with pc := next }
  if looping && next == y.loop.part.2 then
    (if y.loop.phase = 0 then (let y := y.toKernel; ({ y with loop := { y.loop with iter := y.loop.trip } }, false))
     else if y.loop.phase = 1 then (y.boundary, true)
     else (y.loopEnd, false))
  else (y, false)

/-! ### The beginning and the end of a bundle -/

/-- Begin the bundle at the program counter: its slots read the state before it (R49). -/
def State.beginBundle (s : State) (len mask : Nat) : State :=
  let k := s.core
  { s with cx := { on := true, pre := k.sync, addr := k.sync.pc, len := len, seqNo := k.seqNo, mask := mask } }

/-- The slots of the causes of a bundle, as TRAPSLOTS holds them (R308). -/
def causeSlots (l : List (Nat × Nat × W64)) : Nat := l.foldl (fun m c => m ||| 2 ^ c.1) 0

/-- The cause of the lowest slot (R308). -/
def lowestCause : List (Nat × Nat × W64) → Option (Nat × Nat × W64)
  | [] => none
  | c :: t => match lowestCause t with
    | some d => if d.1 < c.1 then some d else some c
    | none => some c

/-- A synchronous trap of the bundle at the program counter: taken at once, or held until the branches before it have
resolved (R307). -/
def State.syncTrap (s : State) (cause slots : Nat) (info : W64) (flt : Nat) : State :=
  let r : TrapReq := { cause := cause, slots := slots, info := info, flt := flt, async := false }
  if s.core.branches.isEmpty then s.takeTrap s.focus r
  else s.modCore (fun k => { k with held := some r })

/-- End the bundle whose slots have written the state (R22, R137, R266, R276, R277, R300). A stalled bundle leaves the
state `s0` before it but for the requests it has made; a bundle that raised a cause traps. -/
def State.endBundle (s0 s : State) (idle : Nat) : State :=
  if s.cx.fin then ({ s with cx := {} }).tickFree else
  match s.cx.stall with
  | some _ =>
    let k := s.core
    let t := { s0 with held := s.held, fab := s.fab, flits := s.flits, cls := s.cls }
    -- a temporal request enters the grant queue only with the bundle that issues (R342), and so does a trace record
    let t := t.modCl (clOf t.focus) (fun c => { c with arr := (s0.clAt (clOf t.focus)).arr, trc := (s0.clAt (clOf t.focus)).trc })
    -- its walks keep their places at the walker
    let t := t.modGuest s.gid (fun x => { x with walks := (s.guestAt s.gid).walks })
    -- a first-level miss is counted when it is found (R485)
    let t := match k.walk with
      | some w => if s0.core.walk = some w then t else t.count (s0.missEvent t.focus w) 1
      | none => t
    t.modCore (fun x => { x with walk := k.walk, walkAt := k.walkAt, req := k.req, missAt := k.missAt, missView := k.missView, capLast := k.capLast, stallWhy := s.cx.stalls, walkFault := x.walkFault })
  | none =>
    match lowestCause s.cx.causes with
    | some c => s0.syncTrap c.2.1 (causeSlots s.cx.causes) c.2.2 s.cx.addr
    | none =>
      let k := s.core
      let fall := s.cx.next.getD (s.cx.addr + s.cx.len)
      let looping := k.looping
      let go (taken : Bool) (target : Nat) : Sync × Bool :=
        if taken then ({ k.sync with pc := target, loop := if looping then { k.sync.loop with act := false, exit := false } else k.sync.loop }, false)
        else if s.cx.next.isSome then ({ k.sync with pc := fall }, false)
        else k.sync.advance fall looping
      let q := k.seqNo
      let cyc := s.issueAt + 1 + max idle s.cx.hold
      let t := match s.cx.br with
        | none =>
          let a := go false 0
          s.modCore (fun k => { k with
            sync := a.1, seqNo := q + 1, readyAt := cyc, ckptHere := false, missed := false, missedFar := false, missView := none, got := [], capGo := none, stallWhy := 0
            yieldPend := if a.2 && k.yreq then some q else k.yieldPend })
        | some (pTaken, aTaken, pTarget, aTarget) =>
          let a := go pTaken pTarget
          let r := go aTaken aTarget
          let wrong := pTaken != aTaken || (aTaken && pTarget != aTarget)
          let b : Branch := { resolveAt := s.now + 2, seqNo := q, wrong := wrong, yields := r.2 && k.yreq
                              snap := r.1, rstack := s.cx.brStack, frm := s.cx.addr, target := aTarget, taken := aTaken, after := cyc }
          s.modCore (fun k => { k with
            sync := a.1, seqNo := q + 1, readyAt := cyc, ckptHere := false, missed := false, missedFar := false, missView := none, got := [], capGo := none, stallWhy := 0
            branches := k.branches ++ [b]
            -- a boundary counts on the right arm only (R277): on a wrong prediction `squash` sees to it
            yieldPend := if !wrong && a.2 && k.yreq then some q else k.yieldPend })
      let t := if s.cx.post then
          (t.takeCkpt t.focus t.core.sync.pc (q + 1) t.core.sync).modCore (fun k => { k with ckptHere := true })
        else t
      ({ t with cx := {} }).tickFree

end Sys2Proof.Machine
end

