-- ==== Sys2Proof/Machine/Scalar.lean ====
section
/-! DEFINITION. The scalar slot: integer operations, compares, guard logic, long immediates, scalar floats and the
cross-file copies (R113 to R122, R144). -/

namespace Sys2Proof.Machine

/-- An S operation takes effect when its guard holds and has none otherwise (R45, R112). -/
def sOp (s : State) (g : BitVec 4) (n : Bool) (f : State → State) : Host.Outcome State Fault Refusal :=
  .next (if s.guardOn g n then f s else s)

/-- The s register that a field names. -/
def State.rs (s : State) (r : BitVec 5) : W64 := s.readS r.toNat
/-- Write the s register that a field names. -/
def State.ws (s : State) (r : BitVec 5) (v : W64) (lat : Nat) : State := s.writeS r.toNat v lat

/-- IMM9 sign-extended to 64 bits (R27). -/
def imm9 (i : BitVec 9) : W64 := i.signExtend 64
/-- The shift amount B[5:0] (R114). -/
def shAmt (b : W64) : Nat := b.toNat % 64
/-- The high half of a signed product (R114). -/
def mulHigh (a b : W64) : W64 := BitVec.ofInt 64 (a.toInt * b.toInt / 2 ^ 64)
/-- The high half of an unsigned product (R114). -/
def mulHighU (a b : W64) : W64 := BitVec.ofNat 64 (a.toNat * b.toNat / 2 ^ 64)
/-- The signed quotient (R114, R115): all ones for a zero divisor. -/
def divS (a b : W64) : W64 := if b = 0 then BitVec.allOnes 64 else a.sdiv b
/-- The unsigned quotient (R114, R115). -/
def divU (a b : W64) : W64 := if b = 0 then BitVec.allOnes 64 else a / b
/-- The signed remainder (R114, R115): the dividend for a zero divisor. -/
def remS (a b : W64) : W64 := if b = 0 then a else a.srem b
/-- The unsigned remainder (R114, R115). -/
def remU (a b : W64) : W64 := if b = 0 then a else a % b
/-- Leading zero bits (R114). -/
def clz64 (a : W64) : W64 := BitVec.ofNat 64 (64 - bitLen a.toNat)
/-- One bits (R114). -/
def popc64 (a : W64) : W64 := BitVec.ofNat 64 ((List.range 64).filter (fun i => bitOf i a.toNat)).length
/-- 32-bit sum, sign-extended (R114). -/
def addW (a b : W64) : W64 := (a.setWidth 32 + b.setWidth 32).signExtend 64
/-- Signed minimum (R114). -/
def minS (a b : W64) : W64 := if a.slt b then a else b
/-- Signed maximum (R114). -/
def maxS (a b : W64) : W64 := if a.slt b then b else a
/-- Unsigned minimum (R114). -/
def minU (a b : W64) : W64 := if a.ult b then a else b
/-- Unsigned maximum (R114). -/
def maxU (a b : W64) : W64 := if a.ult b then b else a

/-- SNOP has no effect (R113). -/
def execSnop (o : OpSN) (s : State) : Host.Outcome State Fault Refusal := sOp s o.g o.n (fun s => s)

/-- ADD (R114). -/
def execAdd (o : OpSR) (s : State) : Host.Outcome State Fault Refusal :=
  sOp s o.g o.n (fun s => s.ws o.d (s.rs o.a + s.rs o.b) 1)

/-- SUB (R114). -/
def execSub (o : OpSR) (s : State) : Host.Outcome State Fault Refusal :=
  sOp s o.g o.n (fun s => s.ws o.d (s.rs o.a - s.rs o.b) 1)

/-- MUL (R114). -/
def execMul (o : OpSR) (s : State) : Host.Outcome State Fault Refusal :=
  sOp s o.g o.n (fun s => s.ws o.d (s.rs o.a * s.rs o.b) 3)

/-- MULH (R114). -/
def execMulh (o : OpSR) (s : State) : Host.Outcome State Fault Refusal :=
  sOp s o.g o.n (fun s => s.ws o.d (mulHigh (s.rs o.a) (s.rs o.b)) 3)

/-- MULHU (R114). -/
def execMulhu (o : OpSR) (s : State) : Host.Outcome State Fault Refusal :=
  sOp s o.g o.n (fun s => s.ws o.d (mulHighU (s.rs o.a) (s.rs o.b)) 3)

/-- AND (R114). -/
def execAnd (o : OpSR) (s : State) : Host.Outcome State Fault Refusal :=
  sOp s o.g o.n (fun s => s.ws o.d (s.rs o.a &&& s.rs o.b) 1)

/-- OR (R114). -/
def execOr (o : OpSR) (s : State) : Host.Outcome State Fault Refusal :=
  sOp s o.g o.n (fun s => s.ws o.d (s.rs o.a ||| s.rs o.b) 1)

/-- XOR (R114). -/
def execXor (o : OpSR) (s : State) : Host.Outcome State Fault Refusal :=
  sOp s o.g o.n (fun s => s.ws o.d (s.rs o.a ^^^ s.rs o.b) 1)

/-- SHL (R114). -/
def execShl (o : OpSR) (s : State) : Host.Outcome State Fault Refusal :=
  sOp s o.g o.n (fun s => s.ws o.d (s.rs o.a <<< shAmt (s.rs o.b)) 1)

/-- SHR (R114). -/
def execShr (o : OpSR) (s : State) : Host.Outcome State Fault Refusal :=
  sOp s o.g o.n (fun s => s.ws o.d (s.rs o.a >>> shAmt (s.rs o.b)) 1)

/-- SRA (R114). -/
def execSra (o : OpSR) (s : State) : Host.Outcome State Fault Refusal :=
  sOp s o.g o.n (fun s => s.ws o.d ((s.rs o.a).sshiftRight (shAmt (s.rs o.b))) 1)

/-- MIN (R114). -/
def execMin (o : OpSR) (s : State) : Host.Outcome State Fault Refusal :=
  sOp s o.g o.n (fun s => s.ws o.d (minS (s.rs o.a) (s.rs o.b)) 1)

/-- MAX (R114). -/
def execMax (o : OpSR) (s : State) : Host.Outcome State Fault Refusal :=
  sOp s o.g o.n (fun s => s.ws o.d (maxS (s.rs o.a) (s.rs o.b)) 1)

/-- MINU (R114). -/
def execMinu (o : OpSR) (s : State) : Host.Outcome State Fault Refusal :=
  sOp s o.g o.n (fun s => s.ws o.d (minU (s.rs o.a) (s.rs o.b)) 1)

/-- MAXU (R114). -/
def execMaxu (o : OpSR) (s : State) : Host.Outcome State Fault Refusal :=
  sOp s o.g o.n (fun s => s.ws o.d (maxU (s.rs o.a) (s.rs o.b)) 1)

/-- ADDW (R114). -/
def execAddw (o : OpSR) (s : State) : Host.Outcome State Fault Refusal :=
  sOp s o.g o.n (fun s => s.ws o.d (addW (s.rs o.a) (s.rs o.b)) 1)

/-- DIV (R114, R115): a zero divisor sets WARN.DIVZ. -/
def execDiv (o : OpSR) (s : State) : Host.Outcome State Fault Refusal :=
  sOp s o.g o.n (fun s => (s.ws o.d (divS (s.rs o.a) (s.rs o.b)) 18).warn wDIVZ (s.rs o.b == 0))

/-- DIVU (R114, R115): a zero divisor sets WARN.DIVZ. -/
def execDivu (o : OpSR) (s : State) : Host.Outcome State Fault Refusal :=
  sOp s o.g o.n (fun s => (s.ws o.d (divU (s.rs o.a) (s.rs o.b)) 18).warn wDIVZ (s.rs o.b == 0))

/-- REM (R114, R115): a zero divisor sets WARN.DIVZ. -/
def execRem (o : OpSR) (s : State) : Host.Outcome State Fault Refusal :=
  sOp s o.g o.n (fun s => (s.ws o.d (remS (s.rs o.a) (s.rs o.b)) 18).warn wDIVZ (s.rs o.b == 0))

/-- REMU (R114, R115): a zero divisor sets WARN.DIVZ. -/
def execRemu (o : OpSR) (s : State) : Host.Outcome State Fault Refusal :=
  sOp s o.g o.n (fun s => (s.ws o.d (remU (s.rs o.a) (s.rs o.b)) 18).warn wDIVZ (s.rs o.b == 0))

/-- CLZ (R114). -/
def execClz (o : OpSR2) (s : State) : Host.Outcome State Fault Refusal :=
  sOp s o.g o.n (fun s => s.ws o.d (clz64 (s.rs o.a)) 1)

/-- POPC (R114). -/
def execPopc (o : OpSR2) (s : State) : Host.Outcome State Fault Refusal :=
  sOp s o.g o.n (fun s => s.ws o.d (popc64 (s.rs o.a)) 1)

/-- MOV (R114). -/
def execMov (o : OpSR2) (s : State) : Host.Outcome State Fault Refusal :=
  sOp s o.g o.n (fun s => s.ws o.d (s.rs o.a) 1)

/-- SEL (R114): the selecting guard is read like any guard. -/
def execSel (o : OpSSel) (s : State) : Host.Outcome State Fault Refusal :=
  sOp s o.g o.n (fun s => s.ws o.d (if s.readG o.x.toNat then s.rs o.a else s.rs o.b) 1)

/-- LEA (R114). -/
def execLea (o : OpSLea) (s : State) : Host.Outcome State Fault Refusal :=
  sOp s o.g o.n (fun s => s.ws o.d (s.rs o.a + s.rs o.b <<< o.sh.toNat) 1)

/-- ADDI (R116). -/
def execAddi (o : OpSI) (s : State) : Host.Outcome State Fault Refusal :=
  sOp s o.g o.n (fun s => s.ws o.d (s.rs o.a + imm9 o.i) 1)

/-- ANDI (R116). -/
def execAndi (o : OpSI) (s : State) : Host.Outcome State Fault Refusal :=
  sOp s o.g o.n (fun s => s.ws o.d (s.rs o.a &&& imm9 o.i) 1)

/-- ORI (R116). -/
def execOri (o : OpSI) (s : State) : Host.Outcome State Fault Refusal :=
  sOp s o.g o.n (fun s => s.ws o.d (s.rs o.a ||| imm9 o.i) 1)

/-- XORI (R116). -/
def execXori (o : OpSI) (s : State) : Host.Outcome State Fault Refusal :=
  sOp s o.g o.n (fun s => s.ws o.d (s.rs o.a ^^^ imm9 o.i) 1)

/-- MULI (R116). -/
def execMuli (o : OpSI) (s : State) : Host.Outcome State Fault Refusal :=
  sOp s o.g o.n (fun s => s.ws o.d (s.rs o.a * imm9 o.i) 3)

/-- SHLI (R116). -/
def execShli (o : OpSSh) (s : State) : Host.Outcome State Fault Refusal :=
  sOp s o.g o.n (fun s => s.ws o.d (s.rs o.a <<< o.i.toNat) 1)

/-- SHRI (R116). -/
def execShri (o : OpSSh) (s : State) : Host.Outcome State Fault Refusal :=
  sOp s o.g o.n (fun s => s.ws o.d (s.rs o.a >>> o.i.toNat) 1)

/-- SRAI (R116). -/
def execSrai (o : OpSSh) (s : State) : Host.Outcome State Fault Refusal :=
  sOp s o.g o.n (fun s => s.ws o.d ((s.rs o.a).sshiftRight o.i.toNat) 1)

/-- CEQ (R117). -/
def execCeq (o : OpSC) (s : State) : Host.Outcome State Fault Refusal :=
  sOp s o.g o.n (fun s => s.writeG o.e.toNat ((s.rs o.a) == (s.rs o.b)) 1)

/-- CEQI (R117). -/
def execCeqi (o : OpSCI) (s : State) : Host.Outcome State Fault Refusal :=
  sOp s o.g o.n (fun s => s.writeG o.e.toNat ((s.rs o.a) == (imm9 o.i)) 1)

/-- CNE (R117). -/
def execCne (o : OpSC) (s : State) : Host.Outcome State Fault Refusal :=
  sOp s o.g o.n (fun s => s.writeG o.e.toNat ((s.rs o.a) != (s.rs o.b)) 1)

/-- CNEI (R117). -/
def execCnei (o : OpSCI) (s : State) : Host.Outcome State Fault Refusal :=
  sOp s o.g o.n (fun s => s.writeG o.e.toNat ((s.rs o.a) != (imm9 o.i)) 1)

/-- CLT (R117). -/
def execClt (o : OpSC) (s : State) : Host.Outcome State Fault Refusal :=
  sOp s o.g o.n (fun s => s.writeG o.e.toNat (BitVec.slt (s.rs o.a) (s.rs o.b)) 1)

/-- CLTI (R117). -/
def execClti (o : OpSCI) (s : State) : Host.Outcome State Fault Refusal :=
  sOp s o.g o.n (fun s => s.writeG o.e.toNat (BitVec.slt (s.rs o.a) (imm9 o.i)) 1)

/-- CGE (R117). -/
def execCge (o : OpSC) (s : State) : Host.Outcome State Fault Refusal :=
  sOp s o.g o.n (fun s => s.writeG o.e.toNat (!BitVec.slt (s.rs o.a) (s.rs o.b)) 1)

/-- CGEI (R117). -/
def execCgei (o : OpSCI) (s : State) : Host.Outcome State Fault Refusal :=
  sOp s o.g o.n (fun s => s.writeG o.e.toNat (!BitVec.slt (s.rs o.a) (imm9 o.i)) 1)

/-- CLTU (R117). -/
def execCltu (o : OpSC) (s : State) : Host.Outcome State Fault Refusal :=
  sOp s o.g o.n (fun s => s.writeG o.e.toNat (BitVec.ult (s.rs o.a) (s.rs o.b)) 1)

/-- CGEU (R117). -/
def execCgeu (o : OpSC) (s : State) : Host.Outcome State Fault Refusal :=
  sOp s o.g o.n (fun s => s.writeG o.e.toNat (!BitVec.ult (s.rs o.a) (s.rs o.b)) 1)

/-- GAND (R118). -/
def execGand (o : OpSGl) (s : State) : Host.Outcome State Fault Refusal :=
  sOp s o.g o.n (fun s => s.writeG o.e.toNat ((s.readG o.f.toNat != o.p) && (s.readG o.h.toNat != o.q)) 1)

/-- GOR (R118). -/
def execGor (o : OpSGl) (s : State) : Host.Outcome State Fault Refusal :=
  sOp s o.g o.n (fun s => s.writeG o.e.toNat ((s.readG o.f.toNat != o.p) || (s.readG o.h.toNat != o.q)) 1)

/-- GXOR (R118). -/
def execGxor (o : OpSGl) (s : State) : Host.Outcome State Fault Refusal :=
  sOp s o.g o.n (fun s => s.writeG o.e.toNat ((s.readG o.f.toNat != o.p) != (s.readG o.h.toNat != o.q)) 1)

/-- GSET (R118). -/
def execGset (o : OpSGs) (s : State) : Host.Outcome State Fault Refusal :=
  sOp s o.g o.n (fun s => s.writeG o.e.toNat o.v 1)

/-- MOVI (R119). -/
def execMovi (o : OpSL) (s : State) : Host.Outcome State Fault Refusal :=
  sOp s o.g o.n (fun s => s.ws o.d (o.imm.signExtend 64) 1)

/-- MOVHI (R119): sD is read as well as written. -/
def execMovhi (o : OpSL) (s : State) : Host.Outcome State Fault Refusal :=
  sOp s o.g o.n (fun s => s.ws o.d (o.imm ++ (s.rs o.d).setWidth 32) 1)

/-- ADDIL (R119). -/
def execAddil (o : OpSL) (s : State) : Host.Outcome State Fault Refusal :=
  sOp s o.g o.n (fun s => s.ws o.d (s.rs o.a + o.imm.signExtend 64) 1)

/-- The format of a scalar float class: 0 f32, 1 f16, 2 bf16; 11 executes as f32 (R30, R120). -/
def sfFmt (f : BitVec 2) : FFmt := if f = 1 then f16 else if f = 2 then bf16 else f32

/-- The float value in the low bits of an s register (R77). -/
def sfVal (f : BitVec 2) (x : W64) : Num := (sfFmt f).decode (x.toNat % 2 ^ (sfFmt f).width)

/-- A float result in the low bits of an s register (R77). -/
def sfRes (f : BitVec 2) (m : RMode) (v : Num) : W64 := BitVec.ofNat 64 ((sfFmt f).round m v)

/-- A scalar float operation of two operands, rounded once (R120). -/
def sfOp (s : State) (o : OpSF) (fn : RMode → Num → Num → Num) : Host.Outcome State Fault Refusal :=
  sOp s o.g o.n (fun s =>
    let m := RMode.ofCode o.r.toNat
    (s.ws o.d (sfRes o.f m (fn m (sfVal o.f (s.rs o.a)) (sfVal o.f (s.rs o.b)))) 4).warn wFMTRSV (o.f == 3))

/-- FADD (R120). -/
def execFadd (o : OpSF) (s : State) : Host.Outcome State Fault Refusal :=
  sfOp s o (fun m a b => a.add m b)

/-- FSUB (R120). -/
def execFsub (o : OpSF) (s : State) : Host.Outcome State Fault Refusal :=
  sfOp s o (fun m a b => a.add m b.neg)

/-- FMUL (R120). -/
def execFmul (o : OpSF) (s : State) : Host.Outcome State Fault Refusal :=
  sfOp s o (fun _ a b => a.mul b)

/-- FMA (R120): A × B + D with a single rounding. -/
def execFma (o : OpSF) (s : State) : Host.Outcome State Fault Refusal :=
  sfOp s o (fun m a b => (a.mul b).add m (sfVal o.f (s.rs o.d)))

/-- FMIN and FMAX: a mode other than RNE has no effect and sets WARN.RNDNA (R120). -/
def sfMinMax (s : State) (o : OpSF) (fn : Num → Num → Num) : Host.Outcome State Fault Refusal :=
  sOp s o.g o.n (fun s =>
    ((s.ws o.d (sfRes o.f .rne (fn (sfVal o.f (s.rs o.a)) (sfVal o.f (s.rs o.b)))) 4).warn wFMTRSV (o.f == 3)).warn wRNDNA (o.r != 0))

/-- FMIN (R74, R120). -/
def execFmin (o : OpSF) (s : State) : Host.Outcome State Fault Refusal :=
  sfMinMax s o Num.min

/-- FMAX (R74, R120). -/
def execFmax (o : OpSF) (s : State) : Host.Outcome State Fault Refusal :=
  sfMinMax s o Num.max

/-- The result of FCVT (R104, R121): classes 0 f32, 1 f16, 2 bf16, 3 i64. -/
def fcvt (src dst : BitVec 2) (m : RMode) (x : W64) : W64 :=
  if src = 3 then (if dst = 3 then x else sfRes dst m (Num.ofInt x.toInt))
  else if dst = 3 then BitVec.ofNat 64 (toIntTag m 6 (sfVal src x))
  else sfRes dst m (sfVal src x)

/-- FCVT (R121): i64 to i64 with a mode other than RNE sets WARN.RNDNA. -/
def execFcvt (o : OpSFcvt) (s : State) : Host.Outcome State Fault Refusal :=
  sOp s o.g o.n (fun s =>
    (s.ws o.d (fcvt o.s o.c (RMode.ofCode o.r.toNat) (s.rs o.a)) 4).warn wRNDNA (o.s == 3 && o.c == 3 && o.r != 0))

/-- FCEQ (R74, R122). -/
def execFceq (o : OpSFc) (s : State) : Host.Outcome State Fault Refusal :=
  sOp s o.g o.n (fun s =>
    let a := sfVal o.f (s.rs o.a)
    let b := sfVal o.f (s.rs o.b)
    (s.writeG o.e.toNat (a.eq b) 4).warn wFMTRSV (o.f == 3))

/-- FCLT (R74, R122). -/
def execFclt (o : OpSFc) (s : State) : Host.Outcome State Fault Refusal :=
  sOp s o.g o.n (fun s =>
    let a := sfVal o.f (s.rs o.a)
    let b := sfVal o.f (s.rs o.b)
    (s.writeG o.e.toNat (a.lt b) 4).warn wFMTRSV (o.f == 3))

/-- FCLE (R74, R122). -/
def execFcle (o : OpSFc) (s : State) : Host.Outcome State Fault Refusal :=
  sOp s o.g o.n (fun s =>
    let a := sfVal o.f (s.rs o.a)
    let b := sfVal o.f (s.rs o.b)
    (s.writeG o.e.toNat (a.lt b || a.eq b) 4).warn wFMTRSV (o.f == 3))

/-- The low w bits of a value in every w-bit element of a vector register (R144). -/
def splat (bits v : Nat) : Line := BitVec.ofNat 1024 ((List.range (1024 / bits)).foldl (fun acc i => acc + (v % 2 ^ bits) * 2 ^ (bits * i)) 0)

/-- XSA and XSB (R144). -/
def xsv (s : State) (o : OpSXv) (b : Bool) : Host.Outcome State Fault Refusal :=
  sOp s o.g o.n (fun s => s.writeV b o.d.toNat { bits := splat (tagBits o.t.toNat) (s.rs o.a).toNat, tag := o.t.toNat } 3)

/-- XSA (R144). -/
def execXsa (o : OpSXv) (s : State) : Host.Outcome State Fault Refusal :=
  xsv s o false

/-- XSB (R144). -/
def execXsb (o : OpSXv) (s : State) : Host.Outcome State Fault Refusal :=
  xsv s o true

/-- XSH (R144). -/
def execXsh (o : OpSXh) (s : State) : Host.Outcome State Fault Refusal :=
  sOp s o.g o.n (fun s => s.writeH false o.d.toNat (s.rs o.a) 1)

/-- XSJ (R144). -/
def execXsj (o : OpSXh) (s : State) : Host.Outcome State Fault Refusal :=
  sOp s o.g o.n (fun s => s.writeH true o.d.toNat (s.rs o.a) 1)

/-- XSY (R144). -/
def execXsy (o : OpSXh) (s : State) : Host.Outcome State Fault Refusal :=
  sOp s o.g o.n (fun s => s.writeY o.d.toNat (s.rs o.a) 1)

end Sys2Proof.Machine
end

