-- ==== Sys2Proof/Machine/MemAcc.lean ====
section
/-! DEFINITION. The S path: loads, stores, LDA, STL, the AMOs and the SC operations (R123 to R134, R404 to R409), the
L1 (R281, R396, R397), the withholding buffer (R301, R302), and the stages of a request that leaves the core (R364 to
R370). -/

namespace Sys2Proof.Machine

/-! ### Translation on the S path -/

/-- The outcome of a part of an S access: bytes, a stall whose request has been made, or a cause with the address of the
first failing byte (R382). -/
inductive SRes where
  | ok (b : List Nat)
  | stall
  | fault (cause va : Nat)
  deriving DecidableEq, Repr

/-- The target of an S access without leaving the core (R124, R288): a first-level miss asks for a walk, or gives the
cause that an earlier walk found. -/
def State.sResolve (s : State) (va kind : Nat) : State × Except Nat (Option Tgt) :=
  if 2 ^ 48 ≤ va then (s, .error cNOTMAP)
  else if inAperture va then
    (s, match s.aperture s.focus va with | some t => .ok (some t) | none => .error cNOTMAP)
  else
    match s.tlb1 s.focus va kind with
    | some e => (s, match e.deny kind with | some x => .error x | none => .ok (some (e.tgt va)))
    | none =>
      match s.core.walkFault with
      | some (r, c) => if r.va = va ∧ r.kind = kind then (s, .error c)
          else (s.askWalk s.focus va kind, .ok none)
      | none => (s.askWalk s.focus va kind, .ok none)

/-- The place of a target as the withholding buffer and the requests number it: kind, address, selector. kind 0
scratchpad, 1 cached, 2 uncached, 3 device, 4 remote. -/
def Tgt.place : Tgt → Nat × Nat × Nat
  | .spad c o => (0, c * 2 ^ 21 + o, 0)
  | .mem pa sel => (1, pa, sel)
  | .unc pa sel => (2, pa, sel)
  | .dev pa => (3, pa, 16)
  | .rem pa => (4, pa, 16)

/-- The target of a place. -/
def placeTgt (kind pa sel : Nat) : Tgt :=
  match kind with
  | 0 => .spad (pa / 2 ^ 21) (pa % 2 ^ 21)
  | 1 => .mem pa sel
  | 2 => .unc pa sel
  | 3 => .dev pa
  | _ => .rem pa

/-! ### The withholding buffer -/

/-- The youngest buffered store to a byte of a place (R126, R284). -/
def forwardByte (st : List Store) (p : Nat × Nat × Nat) : Option Nat :=
  st.foldl (fun acc x => if x.kind == p.1 && x.sel == p.2.2 && decide (x.pa ≤ p.2.1) && decide (p.2.1 < x.pa + x.bytes.length)
    then some (x.bytes.getD (p.2.1 - x.pa) 0) else acc) none

/-- Bytes with those of the buffered stores put over them (R126). -/
def State.forward (s : State) (t : Tgt) (b : List Nat) : List Nat :=
  let p := t.place
  (List.range b.length).map (fun i => (forwardByte s.core.stores (p.1, p.2.1 + i, p.2.2)).getD (b.getD i 0))

/-- The bytes of n bytes at a target that buffered stores cover (R126). -/
def State.covered (s : State) (t : Tgt) (n : Nat) : List (Option Nat) :=
  let p := t.place
  (List.range n).map (fun i => forwardByte s.core.stores (p.1, p.2.1 + i, p.2.2))

/-- The lines of 128 bytes that the buffer holds (R301). -/
def storeLines (st : List Store) : List (Nat × Nat) :=
  (st.filter (fun x => x.kind != 9)).map (fun x => (x.kind, x.pa / 128)) |>.eraseDups

/-! ### The L1 -/

/-- Sets of the L1: its size over 16 ways of 128 bytes (R278, R281). -/
def Core.l1Sets (k : Core) : Nat := 128 * 2 ^ k.l1sz

/-- An atomic at a place waits for the older stores of its core: those that have not performed (R133), a remote write to its
own line, and, as a release at TENANT scope or wider, every remote write (R400). -/
def Core.behindStores (k : Core) (p : Nat × Nat × Nat) (scope : Nat) : Bool :=
  storesPending k.stores scope || k.stores.any (fun x => x.kind == 4 && p.1 == 4 && x.pa / 128 == p.2.1 / 128)

/-- The core scratchpad of an L1 split, in pages (R278, R295). -/
def spPages (l1sz : Nat) : Nat := 512 - 64 * 2 ^ l1sz

/-- A line of the L1 lies in a row of the array: which rows of those beside the scratchpad hold it the manual does not say, and
the places are free (log entry 86). -/
def Core.lineIn (k : Core) (row : Nat) (l : L1Line) : Bool := decide (4 * spPages k.l1sz ≤ row) && Config.freeBool 0 (row * 2 ^ 52 + l.pa)

/-- A line of the L1 gives an uncorrectable error when it is read (R283). -/
def Core.lineBad (k : Core) (l : L1Line) : Bool := k.badWords.any (fun w => k.lineIn (w / 128) l)

/-- The L1 line that holds a physical address. -/
def Core.l1Find (k : Core) (pa sel : Nat) : Option L1Line := k.l1.find? (fun l => l.pa == pa / 128 * 128 && l.sel == sel)

/-- The line as it enters an L1 that already holds it: the bytes that stores have made dirty since the fill left stay, and so
does its pin (R387, R398). -/
def L1Line.onto (l : L1Line) (old : Option L1Line) : L1Line :=
  match old with
  | none => l
  | some x => { x with data := (List.range 128).map (fun i => if x.dirty.getD i false then x.data.getD i 0 else l.data.getD i 0)
                       pins := (l.pins ++ x.pins).eraseDups, va := if l.pins.isEmpty && !x.pins.isEmpty then x.va else l.va }

/-- Put a line into the L1 of core n: the oldest unpinned line of a full set leaves, written back (the manual leaves the
victim open: DESIGN CHOICE, log entry 9). -/
def State.l1Put (s : State) (n : Nat) (l : L1Line) : State :=
  let k := s.coreAt n
  let idx (pa : Nat) : Nat := pa / 128 % k.l1Sets
  let same := k.l1.filter (fun x => idx x.pa == idx l.pa)
  let old := k.l1.find? (fun x => x.pa == l.pa && x.sel == l.sel)
  let add (t : State) : State := t.modCoreAt n (fun k => { k with l1 := k.l1.filter (fun x => !(x.pa == l.pa && x.sel == l.sel)) ++ [l.onto old] })
  if old.isSome || same.length < 16 then add s
  else match same.find? (fun x => x.pins.isEmpty) with
    | none => s
    | some v => add ((s.l1WriteBack n v).modCoreAt n (fun k => { k with l1 := k.l1.filter (fun x => !(x.pa == v.pa && x.sel == v.sel)) }))

/-- The L1 can take the line of a physical address: its set is not full of pinned lines. -/
def Core.l1Room (k : Core) (pa : Nat) : Bool :=
  let same := k.l1.filter (fun x => x.pa / 128 % k.l1Sets == pa / 128 % k.l1Sets)
  decide (same.length < 16) || same.any (fun x => x.pins.isEmpty)

/-- Write bytes into an L1 line and mark them dirty (R396). -/
def State.l1Patch (s : State) (n pa sel : Nat) (b : List Nat) : State :=
  s.modCoreAt n (fun k => { k with l1 := k.l1.map (fun l =>
    if l.pa == pa / 128 * 128 && l.sel == sel then
      { l with data := patch l.data (pa % 128) b,
               dirty := (List.range 128).map (fun i => l.dirty.getD i false || (decide (pa % 128 ≤ i) && decide (i < pa % 128 + b.length))) }
    else l) })

/-- Write back and invalidate the core's copy of a line (R396). -/
def State.l1Expel (s : State) (n pa sel : Nat) : State :=
  match (s.coreAt n).l1Find pa sel with
  | none => s
  | some l => (s.l1WriteBack n l).modCoreAt n (fun k => { k with l1 := k.l1.filter (fun x => !(x.pa == l.pa && x.sel == l.sel)) })

/-! ### Requests that leave the core -/

/-- Ask for an access outside the core; the bundle stalls until it is answered (R128). -/
def State.ask (s : State) (r : SReq) : State :=
  match s.core.req with
  | some _ => s
  | none =>
    let units := unitsOf r.len
    let s := s.modCore (fun k => if k.missed then k else { k with missAt := s.now, missView := some (k.qa, k.qb, k.bflags) })
    if r.tgt = 0 then
      -- a scratchpad of the cluster, 12 cc away (R327)
      s.modCore (fun k => { k with req := some { r with stage := 3, dueAt := s.now + 12 } })
    else
      { s.modCore (fun k => { k with req := some { r with stage := 0, dueAt := s.now } }) with
        held := s.held ++ [{ die := dieOf s.focus, point := clOf s.focus % 8, guest := s.gid, own := s.gid, core := some s.focus, units := units, since := s.now }] }

/-- A load misses: it asks and stalls the bundle (R128). Where another slot has raised a cause a load of memory or of a
scratchpad is performed all the same, since one trap names every slot that faulted (R145), and an irreversible one is not
(R300); where another slot stalls, the load waits with it. -/
def State.miss (s : State) (r : SReq) : State × SRes :=
  if s.cx.stall.isSome then (s.stallOn 2, .stall)
  else if s.cx.causes.isEmpty || r.tgt = 0 || r.tgt = 1 then ((s.ask r).stallOn 2, .stall)
  else (s, .stall)

/-- The answer to a request of the present bundle. -/
def State.answer (s : State) (va : Nat) : Option (List Nat × Nat) :=
  (s.core.got.find? (fun p => p.1 == va)).map (fun p => p.2)

/-- The place needs the implicit checkpoints of an uncached or device access (R127, R300). -/
def needsBracket (t : Tgt) : Bool := match t with | .unc _ _ => true | .dev _ => true | _ => false

/-- Mark the bundle as one with a checkpoint after it. -/
def State.bracket (s : State) : State := { s with cx := { s.cx with post := true } }

/-- One piece of a load of n bytes at va on the S path; `home` names a load that is performed at its home (R396). -/
def State.sLoadPiece (s : State) (va n : Nat) (home : Bool) : State × SRes :=
  let r := s.sResolve va 1
  match r.2 with
  | .error c => (r.1, .fault c va)
  | .ok none => (r.1.stallOn 1, .stall)
  | .ok (some t) =>
    let s := r.1
    let p := t.place
    let ask (op : Nat) (a len : Nat) : State × SRes :=
      s.miss { va := va, tgt := p.1, pa := a, sel := p.2.2, len := len, op := op, fop := 0, opnd := 0, cmp := 0, stage := 0, scope := 0
               fwd := if op = 4 then [] else s.covered t n }
    let fin (t' : State) (b : List Nat) : State × SRes := (t', .ok (t'.forward t b))
    match t with
    | .spad c o =>
      if (s.covered t n).all Option.isSome then fin s (List.replicate n 0)
      else if c = s.focus then
        (if (s.coreAt c).spadBad o n then (s.logArray c (spadPa c o), .fault cMEMUE va)
         else fin s ((List.range n).map (fun i => s.spadGet c (o + i))))
      else match s.answer va with
        | some (b, 0) => fin s b
        | some (_, c) => (s, .fault c va)
        | none => ask 0 p.2.1 n
    | .mem pa sel =>
      if (s.covered t n).all Option.isSome then fin s (List.replicate n 0)
      else if !home && ((s.core.l1Find pa sel).isSome || s.core.l1Room pa) then
        match s.core.l1Find pa sel with
        | some l => if s.core.lineBad l then (s.logArray s.focus l.pa, .fault cMEMUE va) else fin s ((l.data.drop (pa % 128)).take n)
        | none =>
          match s.answer va with
          | some (b, 0) => fin s b
          | some (_, c) => (s, .fault c va)
          | none => ask 4 (pa / 128 * 128) 128
      else
        match s.answer va with
        | some (b, 0) => fin s b
        | some (_, c) => (s, .fault c va)
        | none => ask 0 pa n
    | _ =>
      if s.replaying s.focus then (s.replayRefuse, .stall)
      else if needsBracket t && !s.core.ckptHere then (s.stallOn rowCkpt, .stall)
      else if !needsBracket t && (s.covered t n).all Option.isSome then fin s (List.replicate n 0)
      else match s.answer va with
        | some (b, 0) => fin (if needsBracket t then s.bracket else s) b
        | some (_, c) => (s, .fault c va)
        | none => ask 0 p.2.1 n

/-- The pieces of a load. -/
def State.sLoadP (s : State) (home : Bool) : List (Nat × Nat) → State × SRes
  | [] => (s, .ok [])
  | (a, n) :: t =>
    let r := s.sLoadPiece a n home
    match r.2 with
    | .ok b =>
      let r2 := r.1.sLoadP home t
      (r2.1, match r2.2 with | .ok b' => .ok (b ++ b') | x => x)
    | x => (r.1, x)

/-- The pieces of an S access of n bytes: the access itself when it is aligned to its size, its bytes when it is not (R125). -/
def accessPieces (a n : Nat) : List (Nat × Nat) :=
  if a % n = 0 then linePieces a n else (List.range n).map (fun i => (a + i, 1))

/-- Read n bytes at an effective address on the S path (R123 to R128, R284). -/
def State.sLoad (s : State) (ea n : Nat) (home : Bool) : State × SRes :=
  if 2 ^ 48 ≤ ea then (s, .fault cNOTMAP ea) else s.sLoadP home (accessPieces ea n)

/-- A load writes its sD (R128). -/
def State.wLoad (s : State) (r : BitVec 5) (v : W64) : State := s.writeLoaded r.toNat v

/-- An S access of the bundle fails at an address (R129, R382): a WPGT is Bowline's (R378), everything else is the
kernel's. -/
def State.sFault (s : State) (c va : Nat) : State := s.raise 0 c (BitVec.ofNat 64 va)

/-- The effective address of an SM word (R123). -/
def effAddr (a : W64) (d : BitVec 9) (size : Nat) : W64 := a + d.signExtend 64 * BitVec.ofNat 64 size

/-- A plain load of n bytes (R123). -/
def ldOp (s : State) (o : OpSI) (n : Nat) (signed : Bool) : Host.Outcome State Fault Refusal :=
  sOp s o.g o.n (fun s =>
    let ea := effAddr (s.rs o.a) o.i n
    let r := s.sLoad ea.toNat n false
    match r.2 with
    | .ok b => r.1.wLoad o.d (if signed then BitVec.ofInt 64 (signedOf (8 * n) (ofLe b)) else BitVec.ofNat 64 (ofLe b))
    | .stall => r.1
    | .fault c va => r.1.sFault c va)

/-- LD.B (R123). -/
def execLdB (o : OpSI) (s : State) : Host.Outcome State Fault Refusal := ldOp s o 1 false
/-- LD.H (R123). -/
def execLdH (o : OpSI) (s : State) : Host.Outcome State Fault Refusal := ldOp s o 2 false
/-- LD.W (R123). -/
def execLdW (o : OpSI) (s : State) : Host.Outcome State Fault Refusal := ldOp s o 4 false
/-- LD.D (R123). -/
def execLdD (o : OpSI) (s : State) : Host.Outcome State Fault Refusal := ldOp s o 8 false
/-- LDS.B (R123). -/
def execLdsB (o : OpSI) (s : State) : Host.Outcome State Fault Refusal := ldOp s o 1 true
/-- LDS.H (R123). -/
def execLdsH (o : OpSI) (s : State) : Host.Outcome State Fault Refusal := ldOp s o 2 true
/-- LDS.W (R123). -/
def execLdsW (o : OpSI) (s : State) : Host.Outcome State Fault Refusal := ldOp s o 4 true

/-! ### Stores -/

/-- Put one piece of a store into the buffer (R301, R302): none when it must wait. -/
def State.sStorePiece (s : State) (va : Nat) (b : List Nat) (scope : Nat) (rel : Bool) : State × SRes :=
  let r := s.sResolve va 2
  match r.2 with
  | .error c => (r.1, .fault c va)
  | .ok none => (r.1.stallOn 1, .stall)
  | .ok (some t) =>
    let s := r.1
    let p := t.place
    let e : Store := { va := va, kind := p.1, pa := p.2.1, sel := p.2.2, bytes := b, seqNo := s.core.seqNo, scope := scope, rel := rel }
    let st := s.core.stores ++ [e]
    if 2 ≤ p.1 && s.replaying s.focus then (s.replayRefuse, .stall)
    else if 64 < (storeLines st).length then
      (s.stallOn (if s.core.ckptHere then 12 else rowCkpt), .stall)
    else if needsBracket t && !s.core.ckptHere then (s.stallOn rowCkpt, .stall)
    else ((if needsBracket t then s.bracket else s).modCore (fun k => { k with stores := st }), .ok [])

/-- The pieces of a store. -/
def State.sStoreP (s : State) (scope : Nat) (rel : Bool) : List (Nat × Nat) → List Nat → State × SRes
  | [], _ => (s, .ok [])
  | (a, n) :: t, b =>
    let r := s.sStorePiece a (b.take n) scope rel
    match r.2 with
    | .ok _ => r.1.sStoreP scope rel t (b.drop n)
    | x => (r.1, x)

/-- Store bytes at an effective address: they are withheld until a checkpoint (R126). -/
def State.sStore (s : State) (ea : Nat) (b : List Nat) (scope : Nat) (rel : Bool) : State × SRes :=
  if 2 ^ 48 ≤ ea then (s, .fault cNOTMAP ea) else s.sStoreP scope rel (accessPieces ea b.length) b

/-- A plain store of n bytes (R123, R126): sD is only read. -/
def stOp (s : State) (o : OpSI) (n : Nat) : Host.Outcome State Fault Refusal :=
  sOp s o.g o.n (fun s =>
    let ea := effAddr (s.rs o.a) o.i n
    let r := s.sStore ea.toNat (toLe n (s.rs o.d).toNat) 0 false
    match r.2 with
    | .fault c va => s.sFault c va
    | _ => r.1)

/-- ST.B (R123). -/
def execStB (o : OpSI) (s : State) : Host.Outcome State Fault Refusal := stOp s o 1
/-- ST.H (R123). -/
def execStH (o : OpSI) (s : State) : Host.Outcome State Fault Refusal := stOp s o 2
/-- ST.W (R123). -/
def execStW (o : OpSI) (s : State) : Host.Outcome State Fault Refusal := stOp s o 4
/-- ST.D (R123). -/
def execStD (o : OpSI) (s : State) : Host.Outcome State Fault Refusal := stOp s o 8

/-! ### Scopes and orderings (R10 to R12, R46) -/

/-- A scope narrowed to the guest's policy, and the WARN bit that this sets (R11, R46). -/
def State.effScope (s : State) (sc : Nat) : Nat × Option Nat :=
  let m := (s.guestAt s.gid).gc.maxscope
  if sc ≤ m then (sc, none)
  else if sc = 5 ∧ m = 4 then (4, some wFSCOPE)
  else (m, some wSCOPEPOL)

/-- Set the WARN bit of a narrowed scope. -/
def State.warnScope (s : State) (sc : Nat) : State :=
  match (s.effScope sc).2 with | some b => s.warn b true | none => s

/-- The number of bytes of a WIDTH field. -/
def widthBytes (w : Bool) : Nat := if w then 8 else 4

/-- A value of n bytes extended into an s register (R130). -/
def extend (n v : Nat) : W64 := if n = 4 then BitVec.ofInt 64 (signedOf 32 v) else BitVec.ofNat 64 v

/-- What an acquire does to the L1 at a scope of CLUSTER or wider (R397): its clean unpinned lines are invalidated,
and the next bundle is held for 16 cc when there were any. -/
def State.acquireL1 (s : State) (scope : Nat) : State :=
  if scope = 0 then s
  else
    let t := s.l1DropClean s.focus
    if s.core.l1.any (fun l => (!l.dirty.any id && l.pins.isEmpty)) then t.holdNext 16 else t

/-- The scope of an event at a GVA (R385): the scope that its instruction names, narrowed by policy, and on a scratchpad
byte at least CLUSTER (R326). -/
def State.eventScope (s : State) (sc va : Nat) : Nat :=
  if inAperture va then max 1 (s.effScope sc).1 else (s.effScope sc).1

/-- LDA (R130): REL is performed as RLX and AR as ACQ, with WARN.ORDFIT. -/
def execLda (o : OpSX) (s : State) : Host.Outcome State Fault Refusal :=
  sOp s o.g o.n (fun s =>
    let n := widthBytes o.width
    let a := s.rs o.a
    let sc := s.eventScope o.scope.toNat (s.rs o.a).toNat
    if a.toNat % n ≠ 0 then s.sFault cMISALIGN a.toNat
    else
      let r := s.sLoad a.toNat n (sc != 0)
      match r.2 with
      | .fault c va => r.1.sFault c va
      | .stall => r.1
      | .ok b =>
        let t := ((r.1.wLoad o.d (extend n (ofLe b))).warnScope o.scope.toNat).warn wORDFIT (2 ≤ o.order.toNat)
        (if o.order.toNat % 2 = 1 then t.acquireL1 sc else t).sigB (toLe 8 (extend n (ofLe b)).toNat))

/-- STL (R131): ACQ is performed as RLX and AR as REL, with WARN.ORDFIT. -/
def execStl (o : OpSX) (s : State) : Host.Outcome State Fault Refusal :=
  sOp s o.g o.n (fun s =>
    let n := widthBytes o.width
    let a := s.rs o.a
    let sc := s.eventScope o.scope.toNat (s.rs o.a).toNat
    if a.toNat % n ≠ 0 then s.sFault cMISALIGN a.toNat
    else
      let r := s.sStore a.toNat (toLe n (s.rs o.d).toNat) sc (2 ≤ o.order.toNat)
      match r.2 with
      | .fault c va => s.sFault c va
      | .stall => r.1
      | .ok _ => (r.1.warnScope o.scope.toNat).warn wORDFIT (o.order.toNat % 2 == 1))

/-! ### Atomics (R132 to R134) -/

/-- The new value of an AMO on n bytes (R132): 0 ADD, 1 SWP, 2 CAS, 3 MIN, 4 MAX, 5 AND, 6 OR, 7 XOR; none writes
nothing. `b` is B and `c` is C. -/
def amoNew (f n old b c : Nat) : Option Nat :=
  let m := 2 ^ (8 * n)
  let lt := decide (signedOf (8 * n) old < signedOf (8 * n) b)
  match f with
  | 0 => some ((old + b) % m)
  | 1 => some (b % m)
  | 2 => if old = b % m then some (c % m) else none
  | 3 => some (if lt then old else b % m)
  | 4 => some (if lt then b % m else old)
  | 5 => some (old &&& b % m)
  | 6 => some (old ||| b % m)
  | _ => some (old ^^^ b % m)

/-- Perform a read-modify-write at a target, in one piece (R132, R134): the old bytes. -/
def State.atomicAt (s : State) (c : Nat) (t : Tgt) (n f b cc : Nat) : State × Except Nat (List Nat) :=
  match t with
  | .dev _ => (s, .error cPROT)
  | .rem pa =>
    if bitsOf 51 49 pa = s.fab.car then
      match s.winCheck (s.tenantOf c) (bitsOf 48 44 pa) (bitsOf 43 0 pa) n true with
      | some y => (s.fabLogPut y pa, .error cFABERR)
      | none =>
      let r := s.tgtRead c 0 t n
      match r.2 with
      | .error x => (r.1, .error x)
      | .ok old =>
        match amoNew f n (ofLe old) b cc with
        | none => (r.1, .ok old)
        | some v => let w := r.1.uncharged (fun s => s.tgtWrite c 0 t (toLe n v))
                    (w.1, match w.2 with | .ok _ => .ok old | .error x => .error x)
    else s.remote c 0 pa n (if f = 2 then 3 else 2) f (toLe n (if f = 2 then cc else b)) (if f = 2 then toLe n b else [])
  | _ =>
    let r := s.tgtRead c 0 t n
    match r.2 with
    | .error x => (r.1, .error x)
    | .ok old =>
      match amoNew f n (ofLe old) b cc with
      | none => (r.1, .ok old)
      | some v => let w := r.1.guarded c true t (fun s => s.uncharged (fun s => s.tgtWrite c 0 t (toLe n v)))
                  (w.1, match w.2 with | .ok _ => .ok old | .error x => .error x)

/-- A read-modify-write of the S slot at GVA `a` (R132, R133): it waits for the core's released stores, performs once,
in the L1 at CORE scope on cached memory and at its home otherwise, and gives the old bytes. -/
def State.sAtomic (s : State) (a n scope f b c : Nat) (rel : Bool) : State × SRes :=
  if 2 ^ 48 ≤ a then (s, .fault cNOTMAP a)
  else
    let r := s.sResolve a 3
    match r.2 with
    | .error x => (r.1, .fault x a)
    | .ok none => (r.1.stallOn 1, .stall)
    | .ok (some t) =>
      let s := r.1
      let p := t.place
      match s.answer a with
      | some (old, 0) => (s, .ok old)
      | some (_, x) => (s, .fault x a)
      | none =>
        if !s.clear then (s, .stall)
        else if 2 ≤ p.1 && s.replaying s.focus then (s.replayRefuse, .stall)
        else if s.core.behindStores p (if rel then scope else 0) then (s.stallOn 2, .stall)
        else
          match t with
          | .dev _ => (s, .fault cPROT a)
          | .spad k _ =>
            if k = s.focus then
              let w := (if rel then s.l1Clean s.focus else s).atomicAt s.focus t n f b c
              (w.1, match w.2 with | .ok o => .ok o | .error x => .fault x a)
            else ((s.ask { va := a, tgt := 0, pa := p.2.1, sel := 0, len := n, op := 2, fop := f, opnd := b, cmp := c, stage := 0, scope := scope, rel := rel }).stallOn 2, .stall)
          | .mem pa sel =>
            if scope = 0 && ((s.core.l1Find pa sel).isSome || s.core.l1Room pa) then
              match s.core.l1Find pa sel with
              | some l =>
                if s.core.lineBad l then (s.logArray s.focus l.pa, .fault cMEMUE a) else
                let old := (l.data.drop (pa % 128)).take n
                (match amoNew f n (ofLe old) b c with
                 | some v => (s.guarded s.focus true t (fun s => (s.l1Patch s.focus pa sel (toLe n v), .ok ()))).1
                 | none => s, .ok old)
              | none => ((s.ask { va := a, tgt := 1, pa := pa / 128 * 128, sel := sel, len := 128, op := 4, fop := 0, opnd := 0, cmp := 0, stage := 0, scope := 0 }).stallOn 2, .stall)
            else
              ((s.ask { va := a, tgt := 1, pa := pa, sel := sel, len := n, op := 2, fop := f, opnd := b, cmp := c, stage := 0, scope := scope, rel := rel }).stallOn 2, .stall)
          | _ =>
            ((s.ask { va := a, tgt := p.1, pa := p.2.1, sel := p.2.2, len := n, op := 2, fop := f, opnd := b, cmp := c, stage := 0, scope := scope, rel := rel }).stallOn 2, .stall)

/-- An AMO (R132): sD receives the old value; an acquire acts on the L1 (R397). -/
def amoOp (s : State) (o : OpSX) (f : Nat) : Host.Outcome State Fault Refusal :=
  sOp s o.g o.n (fun s =>
    let n := widthBytes o.width
    let a := s.rs o.a
    let sc := s.eventScope o.scope.toNat (s.rs o.a).toNat
    if a.toNat % n ≠ 0 then s.sFault cMISALIGN a.toNat
    else
      let r := s.sAtomic a.toNat n sc f (s.rs o.b).toNat (s.rs o.c).toNat (2 ≤ o.order.toNat && sc != 0)
      match r.2 with
      | .fault c va => r.1.sFault c va
      | .stall => r.1
      | .ok b =>
        let t := (r.1.wLoad o.d (extend n (ofLe b))).warnScope o.scope.toNat
        (if o.order.toNat % 2 = 1 then t.acquireL1 sc else t).sigB (toLe 8 (extend n (ofLe b)).toNat))

/-- AMOADD (R132). -/
def execAmoadd (o : OpSX) (s : State) : Host.Outcome State Fault Refusal := amoOp s o 0
/-- AMOSWP (R132). -/
def execAmoswp (o : OpSX) (s : State) : Host.Outcome State Fault Refusal := amoOp s o 1
/-- AMOCAS (R132). -/
def execAmocas (o : OpSX) (s : State) : Host.Outcome State Fault Refusal := amoOp s o 2
/-- AMOMIN (R132). -/
def execAmomin (o : OpSX) (s : State) : Host.Outcome State Fault Refusal := amoOp s o 3
/-- AMOMAX (R132). -/
def execAmomax (o : OpSX) (s : State) : Host.Outcome State Fault Refusal := amoOp s o 4
/-- AMOAND (R132). -/
def execAmoand (o : OpSX) (s : State) : Host.Outcome State Fault Refusal := amoOp s o 5
/-- AMOOR (R132). -/
def execAmoor (o : OpSX) (s : State) : Host.Outcome State Fault Refusal := amoOp s o 6
/-- AMOXOR (R132). -/
def execAmoxor (o : OpSX) (s : State) : Host.Outcome State Fault Refusal := amoOp s o 7

/-! ### The SC operations (R406 to R409) -/

/-- The Capstan's position (R404). -/
def State.capPos (s : State) : Nat := s.tb % 256
/-- Whether core n owns a position (R405). -/
def Core.ownsPos (k : Core) (p : Nat) : Bool := bitOf (p % 64) (k.capmap.getD (p / 64) 0).toNat
/-- Whether core n owns no position. -/
def Core.noPos (k : Core) : Bool := k.capmap.all (fun w => w == 0)

/-- The causes and the wait that every SC operation begins with (R406, R408, R409). -/
def scOp (s : State) (o : OpSX) (f : State → Nat → State) : Host.Outcome State Fault Refusal :=
  sOp s o.g o.n (fun s =>
    let n := widthBytes o.width
    let a := s.rs o.a
    if a.toNat % n ≠ 0 then s.sFault cMISALIGN a.toNat
    else if s.core.noPos then s.raise 0 0x85 0
    else (((f s n).warnScope o.scope.toNat).warn wORDFIT (o.order != 0)))

/-- The request of an SC operation to the home of its place (R396, R408), with its place in the Capstan's order (R407). -/
def scReq (p : Nat × Nat × Nat) (va n op f b c scope : Nat) (rel : Bool) (tb : Nat) : SReq :=
  { va := va, tgt := p.1, pa := p.2.1, sel := p.2.2, len := n, op := op, fop := f, opnd := b, cmp := c, stage := 0, scope := scope
    rel := rel, sc := 1 + tb }

/-- What every SC operation does once it may issue (R406): at once on the core's own scratchpad, and else by one request to
the home of the line; `f` 8 reads, 1 writes (R408). -/
def State.scAccess (s : State) (a : W64) (n scope f b c : Nat) : State × SRes :=
  if 2 ^ 48 ≤ a.toNat then (s, .fault cNOTMAP a.toNat)
  else
    let r := s.sResolve a.toNat (if f = 8 then 1 else if f = 1 then 2 else 3)
    match r.2 with
    | .error x => (r.1, .fault x a.toNat)
    | .ok none => (r.1.stallOn 1, .stall)
    | .ok (some t) =>
      let s := r.1
      let p := t.place
      match s.answer a.toNat with
      | some (b, 0) => (s, .ok b)
      | some (_, x) => (s, .fault x a.toNat)
      | none =>
        if !s.clear then (s, .stall)
        else if 2 ≤ p.1 && s.replaying s.focus then (s.replayRefuse, .stall)
        else if s.core.behindStores p (if f != 8 then scope else 0) then (s.stallOn 2, .stall)
        else if s.core.req.isSome then (s.stallOn 2, .stall)
        else if s.core.capGo != some s.tb then (s.stallOn 13, .stall)
        else
          let op := if f = 8 then 0 else if f = 1 then 1 else 2
          let rel := f != 8 && scope != 0
          let s := s.modCore (fun k => { k with capLast := some s.tb })
          match t with
          | .spad k o =>
            if k = s.focus then
              let u := if rel then s.l1Clean s.focus else s
              if (s.coreAt k).spadBad o n then (u.logArray k (spadPa k o), .fault cMEMUE a.toNat)
              else if f = 8 then (u, .ok ((List.range n).map (fun i => u.spadGet k (o + i))))
              else
                let w := u.atomicAt s.focus t n f b c
                (w.1, match w.2 with | .ok old => .ok old | .error x => .fault x a.toNat)
            else ((s.ask (scReq p a.toNat n op f b c scope rel s.tb)).stallOn 2, .stall)
          | _ => ((s.ask (scReq p a.toNat n op f b c scope rel s.tb)).stallOn 2, .stall)

/-- SCLD (R408). -/
def execScld (o : OpSX) (s : State) : Host.Outcome State Fault Refusal :=
  scOp s o (fun s n =>
    let sc := s.eventScope o.scope.toNat (s.rs o.a).toNat
    let r := s.scAccess (s.rs o.a) n sc 8 0 0
    match r.2 with
    | .ok b => ((r.1.wLoad o.d (extend n (ofLe b))).acquireL1 sc).sigB (toLe 8 (extend n (ofLe b)).toNat)
    | .stall => r.1
    | .fault c va => r.1.sFault c va)

/-- SCST (R408): sD is only read. -/
def execScst (o : OpSX) (s : State) : Host.Outcome State Fault Refusal :=
  scOp s o (fun s n =>
    let r := s.scAccess (s.rs o.a) n (s.eventScope o.scope.toNat (s.rs o.a).toNat) 1 ((s.rs o.d).toNat % 2 ^ (8 * n)) 0
    match r.2 with
    | .ok _ => r.1
    | .stall => r.1
    | .fault c va => r.1.sFault c va)

/-- SCAMO (R408): a compare-and-swap. -/
def execScamo (o : OpSX) (s : State) : Host.Outcome State Fault Refusal :=
  scOp s o (fun s n =>
    let sc := s.eventScope o.scope.toNat (s.rs o.a).toNat
    let r := s.scAccess (s.rs o.a) n sc 2 (s.rs o.b).toNat (s.rs o.c).toNat
    match r.2 with
    | .ok b => ((r.1.wLoad o.d (extend n (ofLe b))).acquireL1 sc).sigB (toLe 8 (extend n (ofLe b)).toNat)
    | .stall => r.1
    | .fault c va => r.1.sFault c va)

end Sys2Proof.Machine
end

