-- ==== Sys2Proof/Machine/CtrlRegs.lean ====
section
/-! DEFINITION. The control registers that MOVC and MOVCW reach: the table of R290 and the layouts of R47, R155, R200,
R201, R219, R240, R252, R260, R291 to R296, R313, R314, R325, R341, R405, R440, R484 and R487. -/

namespace Sys2Proof.Machine

/-- Whether the guest of a core may use its counter bank: it holds it, or it is LENT (R463). -/
def State.bankMine (s : State) (c : Nat) : Bool :=
  let h := s.plat.res.get 0 c
  h == (s.coreAt c).guest + 1 || h == (s.coreAt c).guest + 18

/-- The flags of a version of a tile that no clear has taken away (R200): the clears of bundles older than a place in issue
order, or all of them. -/
def Sync.flagsLeft (y : Sync) (t version : Nat) (before : Option Nat) (flags : Nat) : Nat :=
  (y.zclr.filter (fun e => e.1 == t && e.2.1 == version && (match before with | some q => decide (e.2.2.1 < q) | none => true))).foldl
    (fun f e => f &&& (7 - e.2.2.2)) flags

/-- The newest version of a tile: mode in [1:0], ZINF, ZSAT, ZNAN in [4:2] (R200). -/
def Core.tileStat (k : Core) (y : Sync) (t : Nat) : Nat :=
  match (k.pend.filter (fun p => p.1 == t)).getLast? with
  | some p => p.2.tile.mode + 4 * y.flagsLeft t (1 + p.2.writer) none p.2.tile.flags
  | none => y.zst.get 0 t % 4 + 4 * y.flagsLeft t 0 none (y.zst.get 0 t / 4)

/-- A command that writes tile t. -/
def MCmd.writes (c : MCmd) (t : Nat) : Bool :=
  (c.op == 0x01 || c.op == 0x02 || c.op == 0x03 || c.op == 0x04 || c.op == 0x05) && c.zd == t

/-- Whether tile t is busy for the present bundle: a command of an older one that writes it has not completed (R198). -/
def Core.tileBusy (k : Core) (t : Nat) : Bool := k.mq.any (fun c => !c.done && c.writes t && decide (c.seqNo < k.seqNo))

/-- The dead registers (R294). -/
def Sync.deadMap (y : Sync) : Nat :=
  ((List.range 16).foldl (fun m i => m + b2n (y.dead false (16 + i)) * 2 ^ i) 0) +
  ((List.range 16).foldl (fun m i => m + b2n (y.dead true (16 + i)) * 2 ^ (16 + i)) 0)

/-- LSTAT (R294). -/
def LoopSt.stat (l : LoopSt) : Nat :=
  l.stages * 64 + b2n l.rot * 32 + b2n l.exit * 16 + b2n l.skip * 8 + l.phase * 2 + b2n l.act

/-- A byte of the active plane. -/
def Core.planeByte (k : Core) (o : Nat) : Nat := k.planeAct.bytes.get 0 o
/-- n bytes of the active plane. -/
def Core.planeBytes (k : Core) (o n : Nat) : List Nat := (List.range n).map (fun i => k.planeByte (o + i))
/-- The entries of the active method table with VALID = 1 (R219). -/
def Core.nvalid (k : Core) : Nat := ((List.range 64).filter (fun e => bitOf 0 (k.planeByte (16 * e + 9)))).length

/-- The value of a control register on core c, read from the synchronous state y (R290). -/
def State.crValue (s : State) (c : Nat) (y : Sync) (cr : Nat) : Nat :=
  let k := s.coreAt c
  let ring := y.rings.get {} ((cr - 0x40) / 4)
  let str := y.streams.get {} ((cr - 0x80) / 4)
  let fabricUp := s.portUp 0 || s.portUp 1
  let trained := decide (2 ≤ (s.fab.ports.get {} 0).state) || decide (2 ≤ (s.fab.ports.get {} 1).state)
  if cr = 0x000 then k.guest * 2 ^ 16 + (if fabricUp then s.fab.car else 0) * 2 ^ 8 + c % 256
  else if cr = 0x002 then 0x010A38
  else if cr = 0x003 then b2n trained * 2 + b2n (s.plat.stage != 3)
  else if cr = 0x008 then k.cycle
  else if cr = 0x009 then s.time
  else if cr = 0x010 then b2n (k.mode == .handler || k.inHandler) * 2 ^ 31 + b2n ((k.mode == .handler || k.inHandler) && !k.asyncs.isEmpty) * 2 ^ 17 +
      b2n k.trap.async * 2 ^ 16 + k.trap.cause
  else if cr = 0x011 then k.trap.addr
  else if cr = 0x012 then k.trap.flt
  else if cr = 0x013 then k.trap.slots
  else if cr = 0x014 then k.trap.info.toNat
  else if cr = 0x015 then k.trap.haddr + b2n k.trap.en
  else if cr = 0x016 then y.warn
  else if cr = 0x020 then k.ywhy * 4 + b2n k.yreq
  else if cr = 0x021 then k.ydl
  else if cr = 0x022 then y.ldepth
  else if cr = 0x023 then y.rrb
  else if 0x024 ≤ cr ∧ cr ≤ 0x027 then (k.capmap.getD (cr - 0x24) 0).toNat
  else if cr = 0x028 then y.loop.stat
  else if cr = 0x029 then y.loop.iter
  else if cr = 0x02A then y.loop.recAddr
  else if cr = 0x02B then y.deadMap
  else if cr = 0x02C then y.loop.w0.toNat
  else if cr = 0x02D then y.loop.w1.toNat
  else if cr = 0x02E then y.loop.w2.toNat
  else if cr = 0x02F then y.loop.w3.toNat
  else if cr = 0x030 then k.l1sz * 2 ^ 48 + k.spwoff * 2 ^ 32 + k.spwlen * 2 ^ 16 + (512 - 64 * 2 ^ k.l1sz)
  else if cr = 0x031 then k.cspmemb * 2 ^ 32 + k.cspwlen * 2 ^ 16 + k.cspwoff
  else if 0x040 ≤ cr ∧ cr ≤ 0x07F then
    match cr % 4 with
    | 0 => ring.base
    | 1 => ring.slotb * 2 ^ 16 + ring.slots
    | 2 => ring.count * 2 ^ 16 + ring.tail * 2 ^ 8 + ring.head
    | _ => ring.dtag * 2 ^ 16 + ring.tag
  else if 0x080 ≤ cr ∧ cr ≤ 0x0BF then
    match cr % 4 with
    | 0 => str.qbase.toNat + str.bnd * 2 ^ 60
    | 1 => str.qdim.toNat
    | 2 => str.qstr.toNat
    | _ => str.qblk.toNat + str.pos % 2 ^ 32
  else if 0x0C0 ≤ cr ∧ cr ≤ 0x0C5 then (y.lp.get 0 (cr - 0xC0)).toNat
  else if cr = 0x0C8 then k.qa.ccnt * 2 ^ 32 + k.qa.ecause * 2 ^ 24 + b2n k.qa.multi * 2 + b2n k.qa.err
  else if cr = 0x0C9 then k.qb.ccnt * 2 ^ 32 + k.qb.ecause * 2 ^ 24 + b2n k.qb.multi * 2 + b2n k.qb.err
  else if cr = 0x0CA then k.qa.eaddr
  else if cr = 0x0CB then k.qb.eaddr
  else if cr = 0x0CC then k.bflags
  else if cr = 0x0D0 then y.twin
  else if cr = 0x0D8 then y.rng
  else if cr = 0x0E0 then bitsOf 47 12 k.planeAct.tbase * 2 ^ 12 + k.cfgPlane * 2 ^ 9 + k.nvalid * 4 + b2n k.mcen
  else if cr = 0x0E4 then (List.range 8).foldl (fun v t => v + k.tileStat y t * 2 ^ (8 * t)) 0
  else if 0x100 ≤ cr ∧ cr ≤ 0x107 then
    (if !s.bankMine c then 0
     else if cr % 2 = 0 then (k.pmc.get {} ((cr - 0x100) / 2)).count % 2 ^ 32 else (k.pmc.get {} ((cr - 0x100) / 2)).latch)
  else if 0x108 ≤ cr ∧ cr ≤ 0x10B then (if s.bankMine c then (k.pmc.get {} (cr - 0x108)).sel.toNat else 0)
  else if cr = 0x10C then (if s.bankMine c then k.pmctl.toNat % 16 + b2n (decide (18 ≤ s.plat.res.get 0 c)) * 2 ^ 63 else 0)
  else if 0x110 ≤ cr ∧ cr ≤ 0x114 then (if s.bankMine c then k.mcyc.get 0 (cr - 0x110) else 0)
  else if cr = 0x120 then k.cfgWord.toNat
  else 0

/-- Registers outside the synchronous state: a read or write of them waits for older branches, so that a squashed
bundle leaves no trace (R137; the wait is a DESIGN CHOICE, log entry 12). -/
def crOutside (cr : Nat) : Bool :=
  (decide (0x010 ≤ cr) && decide (cr ≤ 0x015)) || (decide (0x0C8 ≤ cr) && decide (cr ≤ 0x0C9)) || cr == 0x0E0 ||
  (decide (0x100 ≤ cr) && decide (cr ≤ 0x10C)) || cr == 0x120

/-- Reading the low half of a counter latches its high half (R484). -/
def State.latchPmc (s : State) (cr : Nat) : State :=
  if 0x100 ≤ cr ∧ cr ≤ 0x107 ∧ cr % 2 = 0 ∧ s.bankMine s.focus then
    let i := (cr - 0x100) / 2
    s.modCore (fun k => { k with pmc := k.pmc.set i { k.pmc.get {} i with latch := (k.pmc.get {} i).count / 2 ^ 32 } })
  else s

/-- A consistent value for NPTR (R202). -/
def nptrOk (slots v : Nat) : Bool :=
  let h := bitsOf 5 0 v
  let t := bitsOf 13 8 v
  let n := bitsOf 22 16 v
  decide (h < slots) && decide (t < slots) && decide (n ≤ slots) &&
    (n == (t + slots - h) % slots || (n == slots && t == h))

/-- An uncompleted command of a bundle older than the present one names ring n (R202). -/
def Core.ringBusy (k : Core) (n : Nat) : Bool :=
  k.mq.any (fun c => decide (c.seqNo < k.seqNo) && !c.done && ((c.op != 0x04 && c.ra == n) || ((c.op == 0x01 || c.op == 0x02 || c.op == 0x03) && c.rb == n) || (c.conv != 0 && c.cring == n))) ||
  k.cqa.any (fun c => decide (c.seqNo < k.seqNo) && (c.op == 0x03 || c.op == 0x04) && c.f == n) ||
  k.cqb.any (fun c => decide (c.seqNo < k.seqNo) && (c.op == 0x03 || c.op == 0x04) && c.f == n) ||
  k.tq.any (fun c => decide (c.seqNo < k.seqNo) && (c.op == 0x12 || (c.op == 0x13 && !c.src) || c.op == 0x14) && c.ra == n)

/-- The value of a tag field after a write (R202): code 15 leaves it, and its reserved bits [15:12] stay 0 (R6, R207). -/
def tagWrite (old new : Nat) : Nat := if new % 16 = 15 then old else new % 2 ^ 12

/-- After a write to NPTR of ring n the commands of the same bundle act on the positions that it wrote: they begin a cycle
later at the earliest (R222; log entry 105). -/
def Core.ringRenew (k : Core) (n : Nat) : Core :=
  let ep := (k.sync.rings.get {} n).ep
  let re (on : Bool) (r : Ring) : Ring := if on then { r with ep := ep } else r
  { k with
    mq := k.mq.map (fun c => if c.seqNo == k.seqNo then
      { c with ringA := re (c.ra == n) c.ringA, ringB := re (c.rb == n) c.ringB, ringC := re (c.cring == n) c.ringC } else c)
    cqa := k.cqa.map (fun c => if c.seqNo == k.seqNo then { c with ring := re (c.f == n) c.ring } else c)
    cqb := k.cqb.map (fun c => if c.seqNo == k.seqNo then { c with ring := re (c.f == n) c.ring } else c)
    tq := k.tq.map (fun c => if c.seqNo == k.seqNo then { c with ring := re (c.ra == n) c.ring } else c) }

/-- Clear the W1C bits of a queue status (R252). -/
def CqStat.clear (q : CqStat) (v : Nat) : CqStat :=
  let q := if bitOf 1 v then { q with multi := false } else q
  if bitOf 0 v then { q with err := false, ecause := 0, eaddr := 0 } else q

/-- Clear the counters, their latches and MCYC (R484, CLR). -/
def Core.clearCounters (k : Core) : Core :=
  { k with pmc := k.pmc.map (fun p => (p.1, { p.2 with count := 0, latch := 0 })), mcyc := [] }

/-- The newest version of a tile (R196, R200), numbered as in `Sync.zclr`: that of the command that has begun to write it,
else of the youngest that has written it, else the committed one. -/
def Core.newestVersion (k : Core) (t : Nat) : Nat :=
  match k.mq.find? (fun c => c.begun && !c.done && c.writes t) with
  | some c => 1 + c.seqNo
  | none => match (k.pend.filter (fun p => p.1 == t)).getLast? with
    | some p => 1 + p.2.writer
    | none => 0

/-- W1C on ZSTAT: the clear stands on the newest version of each tile (R200) in the synchronous state, so that it is undone
with its bundle. On the version of a running command it acts on the flags that this inherits: what the command itself
raises lands when it completes (log entry 104). -/
def Core.zstatClear (k : Core) (v : Nat) : Core :=
  let new := ((List.range 8).map (fun t => (t, k.newestVersion t, k.seqNo, bitsOf 4 2 (v / 2 ^ (8 * t))))).filter (fun e => e.2.2.2 != 0)
  { k with sync := { k.sync with zclr := k.sync.zclr ++ new } }

/-- Write a control register of the core in focus (R142, R290): reserved and RO fields ignore the write (R6). -/
def State.crWrite (s : State) (cr : Nat) (v : W64) : State :=
  let n := v.toNat
  let ring := (cr - 0x40) / 4
  let str := (cr - 0x80) / 4
  if 0x010 ≤ cr ∧ cr ≤ 0x015 then
    if !s.inHandler then s
    else s.modCore (fun k => { k with trap :=
      if cr = 0x010 then { k.trap with cause := bitsOf 7 0 n, async := bitOf 16 n }
      else if cr = 0x011 then { k.trap with addr := bitsOf 47 0 n }
      else if cr = 0x012 then { k.trap with flt := bitsOf 47 0 n }
      else if cr = 0x013 then { k.trap with slots := bitsOf 7 0 n }
      else if cr = 0x014 then { k.trap with info := v }
      else { k.trap with haddr := bitsOf 47 2 n * 4, en := bitOf 0 n } })
  else if cr = 0x016 then
    -- the write-1-to-clear acts first; bits set by the same bundle remain (R47)
    s.modSync (fun y => { y with warn := (y.warn &&& (4095 - n % 4096)) ||| s.cx.warn })
  else if cr = 0x022 then s.modSync (fun y => { y with ldepth := n % 16 })
  else if cr = 0x023 then s.modSync (fun y => { y with rrb := n % 16 })
  else if 0x040 ≤ cr ∧ cr ≤ 0x07F then
    match cr % 4 with
    | 0 => s.modRing ring (fun r => { r with base := bitsOf 47 7 n * 128 })
    | 1 => s.modRing ring (fun r => { r with slotb := bitsOf 31 16 n, slots := bitsOf 6 0 n })
    | 2 =>
      if nptrOk (s.core.sync.rings.get {} ring).slots n then
        (s.modRing ring (fun r => { r with head := bitsOf 5 0 n, tail := bitsOf 13 8 n, count := bitsOf 22 16 n, tag := r.dtag, ep := r.ep + 1 })).modCore
          (fun k => k.ringRenew ring)
      else s
    | _ => s.modRing ring (fun r => { r with tag := tagWrite r.tag (bitsOf 15 0 n), dtag := tagWrite r.dtag (bitsOf 31 16 n) })
  else if 0x080 ≤ cr ∧ cr ≤ 0x0BF then
    match cr % 4 with
    | 0 => s.modStream str (fun q => { q with qbase := v &&& 0xCFF0FFFFFFFFFFFF })
    | 1 => s.modStream str (fun q => { q with qdim := v })
    | 2 => s.modStream str (fun q => { q with qstr := v })
    | _ => s.modStream str (fun q => { q with qblk := v &&& 0xFFFFFFFF00000000 })
  else if 0x0C0 ≤ cr ∧ cr ≤ 0x0C5 then s.modSync (fun y => { y with lp := y.lp.set (cr - 0xC0) (v &&& 0xFFFFFF7F) })
  else if cr = 0x0C8 then s.modCore (fun k => { k with qa := k.qa.clear n })
  else if cr = 0x0C9 then s.modCore (fun k => { k with qb := k.qb.clear n })
  else if cr = 0x0D0 then s.modSync (fun y => { y with twin := max 1 (n % 256) })
  else if cr = 0x0D8 then s.modSync (fun y => { y with rng := if n % 2 ^ 32 = 0 then 1 else n % 2 ^ 32 })
  else if cr = 0x0E0 then s.modCore (fun k => { k with mcen := bitOf 0 n, mcache := if bitOf 1 n then [] else k.mcache })
  else if cr = 0x0E4 then s.modCore (fun k => k.zstatClear n)
  else if 0x108 ≤ cr ∧ cr ≤ 0x10B then
    (if s.plat.res.get 0 s.focus = s.gid + 1 then
      s.modCore (fun k => { k with pmc := k.pmc.set (cr - 0x108) { k.pmc.get {} (cr - 0x108) with sel := v &&& 0x7F } }) else s)
  else if cr = 0x10C then
    (if s.plat.res.get 0 s.focus = s.gid + 1 then
      s.modCore (fun k => { (if bitOf 4 n then k.clearCounters else k) with pmctl := v &&& 0xF }) else s)
  else if cr = 0x120 then s.modCore (fun k => { k with cfgWord := if bitOf 4 n then k.cfgWord &&& (~~~ 0x10) else k.cfgWord })
  else s

/-- MOVC (R142): the value at issue; the low half of a counter latches its high half. -/
def execMovc (o : OpSMovc) (s : State) : Host.Outcome State Fault Refusal :=
  sOp s o.g o.n (fun s =>
    if crOutside o.c.toNat && !s.core.branches.isEmpty then s.stallOn rowBranch
    -- a bundle that reads ZSTAT waits for busy tiles, behind an implicit checkpoint (R198, R199)
    else if o.c.toNat = 0x0E4 ∧ (List.range 8).any s.core.tileBusy then s.stallOn (if s.core.ckptHere then 6 else rowCkpt)
    else (s.ws o.d (BitVec.ofNat 64 (s.crValue s.focus s.pre o.c.toNat)) 2).latchPmc o.c.toNat)

/-- MOVCW (R142): the write acts for every later bundle; a write to NPTR waits until no uncompleted command names the
ring (R202). -/
def execMovcw (o : OpSLoop) (s : State) : Host.Outcome State Fault Refusal :=
  sOp s o.g o.n (fun s =>
    let cr := o.i.toNat
    if crOutside cr && !s.core.branches.isEmpty then s.stallOn rowBranch
    else if 0x040 ≤ cr ∧ cr ≤ 0x07F ∧ cr % 4 = 2 ∧ s.core.ringBusy ((cr - 0x40) / 4) then s.stallOn 9
    else s.crWrite cr (s.rs o.a))

end Sys2Proof.Machine
end

