-- ==== Sys2Proof/Machine/Control.lean ====
section
/-! DEFINITION. Control transfer (R135 to R141), the traps and the services of the S slot (R322, R450), pre-emption
(R314, R315), and the event latch (R321). -/

namespace Sys2Proof.Machine

/-! ### Branches and jumps (R135 to R137) -/

/-- A branch or jump is conditional when G is not 0 or GN = 1 (R136). -/
def conditional (g : BitVec 4) (n : Bool) : Bool := g != 0 || n

/-- pc + DISP19 x 4 (R135). -/
def State.dispTarget (s : State) (i : BitVec 19) : Nat :=
  (BitVec.ofNat 64 s.cx.addr + i.signExtend 64 * 4).toNat

/-- The address of the bundle after this one. -/
def State.nextAddr (s : State) : Nat := s.cx.addr + s.cx.len

/-- Push onto the return stack of 8 entries; a full stack loses its oldest (R136). -/
def pushRet (a : Nat) (t : List Nat) : List Nat := (a :: t).take 8

/-- Record a branch: its prediction, its outcome and the return stack after each (R136). `upd` is what a taken
transfer does to the return stack. -/
def State.branchTo (s : State) (pTaken aTaken : Bool) (pTarget aTarget : Nat) (upd : List Nat → List Nat) : State :=
  let old := s.core.rstack
  let s := { s with cx := { s.cx with br := some (pTaken, aTaken, pTarget, aTarget), brStack := if aTaken then upd old else old } }
  s.modCore (fun k => { k with rstack := if pTaken then upd old else old })

/-- BR (R135): predicted taken when it is not conditional or its displacement is negative. -/
def execBr (o : OpSB) (s : State) : Host.Outcome State Fault Refusal :=
  let t := s.dispTarget o.i
  .next (s.branchTo (!conditional o.g o.n || o.i.msb) (s.guardOn o.g o.n) t t id)

/-- JAL (R135). -/
def execJal (o : OpSB) (s : State) : Host.Outcome State Fault Refusal :=
  let t := s.dispTarget o.i
  let on := s.guardOn o.g o.n
  let nx := s.nextAddr
  let s := s.branchTo (!conditional o.g o.n || o.i.msb) on t t (pushRet nx)
  .next (if on then s.writeS 30 (BitVec.ofNat 64 nx) 1 else s)

/-- JR (R135): JR s30 is predicted to the top of the return stack, every other JR to fall through (R136). -/
def execJr (o : OpSJr) (s : State) : Host.Outcome State Fault Refusal :=
  let t := (s.rs o.a).toNat
  let on := s.guardOn o.g o.n
  if o.a = 30 then
    .next (s.branchTo (!s.core.rstack.isEmpty) on (s.core.rstack.headD 0) t (fun l => l.drop 1))
  else .next (s.branchTo false on 0 t id)

/-- JALR (R135): predicted to fall through; D = s30 pushes when it is taken. -/
def execJalr (o : OpSR2) (s : State) : Host.Outcome State Fault Refusal :=
  let t := (s.rs o.a).toNat
  let on := s.guardOn o.g o.n
  let nx := s.nextAddr
  let s := s.branchTo false on 0 t (if o.d = 30 then pushRet nx else id)
  .next (if on then s.ws o.d (BitVec.ofNat 64 nx) 1 else s)

/-! ### Loop records (R138, R139, R141, R273 to R275) -/

/-- A record breaks R273 (R274). -/
def badRecord (w0 w1 w2 w3 : Nat) : Bool :=
  bitsOf 63 47 w3 != 0 || bitsOf 63 48 w1 == 0 || bitsOf 41 38 w3 == 0 ||
  bitsOf 1 0 w0 != 0 || bitsOf 1 0 w1 != 0 || bitsOf 1 0 w2 != 0 ||
  (if bitOf 37 w3 then bitsOf 31 0 w3 != 0 else bitsOf 36 32 w3 != 0)

/-- Start a record that was read (R275): skip it when T is less than STAGES, else go to its first part. -/
def State.startRecord (s : State) (a w0 w1 w2 w3 : Nat) : State :=
  let t := if bitOf 37 w3 then (s.readS (bitsOf 36 32 w3)).toNat else bitsOf 31 0 w3
  let stages := bitsOf 41 38 w3
  let skip := decide (t < stages)
  let pro := bitsOf 63 48 w0 != 0
  let trip := t - (stages - 1)
  let s1 := s.modSync (fun y => { y with
    ldepth := bitsOf 46 43 w3
    loop := { y.loop with
      act := !skip, skip := skip, exit := false, rot := bitOf 42 w3, stages := stages
      phase := if skip then y.loop.phase else if pro then 0 else 1
      trip := trip, iter := if skip || pro then y.loop.iter else trip
      recAddr := a % 2 ^ 48, w0 := BitVec.ofNat 64 w0, w1 := BitVec.ofNat 64 w1, w2 := BitVec.ofNat 64 w2, w3 := BitVec.ofNat 64 w3
      ret := s.nextAddr } })
  if skip then s1
  else
    let s2 := ({ s1 with cx := { s1.cx with next := some (bitsOf 47 0 (if pro then w0 else w1)) } }).holdNext 2
    s2.traceB 9 stages s.cx.addr (a % 2 ^ 48)

/-- LOOP (R138): LOOPNEST first, also in handler mode (R139, R311), then the alignment, the record, LOOPREC. -/
def execLoop (o : OpSLoop) (s : State) : Host.Outcome State Fault Refusal :=
  sOp s o.g o.n (fun s =>
    let a := s.rs o.a + imm9 o.i * 32
    if s.pre.loop.act || s.inHandler then s.raise 0 0x06 a
    else if a.toNat % 32 ≠ 0 then s.sFault cMISALIGN a.toNat
    else
      let r := s.sLoad a.toNat 32 false
      match r.2 with
      | .fault c va => r.1.sFault c va
      | .stall => { r.1 with cx := { r.1.cx with
          stall := (if r.1.cx.stall = some 2 then some 3 else r.1.cx.stall)
          stalls := (if bitOf 2 r.1.cx.stalls then r.1.cx.stalls + 4 else r.1.cx.stalls) } }
      | .ok b =>
        let w (i : Nat) : Nat := ofLe ((b.drop (8 * i)).take 8)
        if badRecord (w 0) (w 1) (w 2) (w 3) then r.1.raise 0 0x07 a
        else r.1.startRecord a.toNat (w 0) (w 1) (w 2) (w 3))

/-- LEXIT (R141): acts in the kernel part of a record that is not suspended. -/
def execLexit (o : OpSN) (s : State) : Host.Outcome State Fault Refusal :=
  sOp s o.g o.n (fun s =>
    if s.pre.loop.act && s.pre.loop.phase == 1 && !s.inHandler then
      s.modSync (fun y => { y with loop := { y.loop with exit := true } })
    else s)

/-! ### TRAP, ERET and pre-emption (R322) -/

/-- The state after the bundle in focus when it falls through, as its checkpoint holds it. -/
def State.fallSync (s : State) : Sync := (s.core.sync.advance s.nextAddr s.core.looping).1

/-- TRAP (R322): the checkpoint at the next bundle is taken, then the trap with cause 0xE0 + n. -/
def execTrap (o : OpSTrap) (s : State) : Host.Outcome State Fault Refusal :=
  sOp s o.g o.n (fun s =>
    if !s.clear then s
    else
      let y := s.fallSync
      let q := s.core.seqNo + 1
      let t := (s.takeCkpt s.focus y.pc q y).modCore (fun k => { k with sync := y, seqNo := q })
      let t := t.takeTrap s.focus
        { cause := 0xE0 + o.c.toNat, slots := 1, info := s.rs o.a, flt := s.cx.addr, async := false }
      { t with cx := { t.cx with fin := true } })

/-- ERET (R322): leaves handler mode; PRIV outside it. -/
def execEret (o : OpSN) (s : State) : Host.Outcome State Fault Refusal :=
  sOp s o.g o.n (fun s => if s.inHandler then s.leaveHandler else s.raise 0 0x09 (Config.freeW64 s.free 700))

/-- YCHK (R322). -/
def execYchk (o : OpSYc) (s : State) : Host.Outcome State Fault Refusal :=
  sOp s o.g o.n (fun s => s.writeG o.e.toNat s.core.yreq 1)

/-- YIELD (R322): with REQ = 1 and outside handler mode a cooperative save at the next bundle. -/
def execYield (o : OpSN) (s : State) : Host.Outcome State Fault Refusal :=
  sOp s o.g o.n (fun s =>
    if s.core.yreq && !s.inHandler then s.modCore (fun k => { k with yieldPend := some k.seqNo }) else s)

/-- WFE (R322): waits for the event latch or a yield request, and consumes the latch. -/
def execWfe (o : OpSN) (s : State) : Host.Outcome State Fault Refusal :=
  sOp s o.g o.n (fun s =>
    if s.core.latch then s.modCore (fun k => { k with latch := false })
    else if s.core.yreq then s
    else s.stallOn 15)

/-- The row of a wait that R267 does not list: a service of Bowline. -/
def rowService : Nat := 102

/-- Every store that the core released is performed at a scope, CLUSTER or wider, with the L1 written back (R396, R397);
none while one is still on its way. -/
def State.settled (s : State) (scope : Nat) : Option State :=
  if storesPending s.core.stores scope then none else some (s.l1Clean s.focus)

/-- EVSIG (R322): after the released stores have performed at CLUSTER scope, the latches are set 12 cc later. -/
def execEvsig (o : OpSEv) (s : State) : Host.Outcome State Fault Refusal :=
  sOp s o.g o.n (fun s =>
    if !s.clear then s
    else match s.settled 1 with
      | none => s.stallOn rowService
      | some t =>
        let m := (s.rs o.a).toNat % 256 ||| o.m.toNat
        t.modCl (clOf s.focus) (fun c => { c with evs := c.evs ++ [(s.now + 12, m + 256 * s.gid)] }))

/-! ### Services of Bowline (R450) -/

/-- GSTATE (R447). CLASS reads 0, its reset value, while no contract is loaded. -/
def State.gstate (s : State) (g : Nat) : Nat :=
  let c := (s.guestAt g).gc
  c.tenant * 2 ^ 16 + (if c.en then c.cls else 0) * 2 ^ 10 + g * 2 ^ 4 + c.gstate

/-- The key of a resource identifier in `Plat.res` and its cluster, none when there is no such resource (R463). -/
def resKey (id : Nat) : Option (Nat × Nat) :=
  if id / 256 = 0 then some (id, id / 8)
  else if id / 256 = 1 ∧ id % 256 < 32 then some (id, id % 256)
  else none

/-- A resource that was FREE as its new holder finds it: the bank of a core, or the trace unit of a cluster and the debug
settings of its cores, at their reset values, since no guest observes another's data or counter values (R15; log entry
109). -/
def State.freshResource (s : State) (k : Nat) : State :=
  if k < 256 then s.modCoreAt k (fun x => { x with pmc := [], pmctl := 0, mcyc := [] })
  else (List.range 8).foldl (fun t i => t.modCoreAt (8 * (k - 256) + i) (fun x => { x with dbg :=
      { x.dbg with ctl := 0, sel := 0, why := if x.dbg.stopped then x.dbg.why else 0, code := if x.dbg.stopped then x.dbg.code else 0
                   addr := if x.dbg.stopped then x.dbg.addr else 0 } }))
    (s.modCl (k - 256) (fun c => { c with trc := {}, lent := none }))

/-- A guest claims a resource (R463): the status and the state. A claim of a resource that it already holds is granted
(DESIGN CHOICE, log entry 13). -/
def State.guestClaim (s : State) (g id : Nat) : State × Nat :=
  match resKey id with
  | none => (s, 2)
  | some (k, cl) =>
    if !bitOf cl (s.guestAt g).gc.part then (s, 2)
    else
      let h := s.plat.res.get 0 k
      if h = 0 then (let t := (s.freshResource k).modGuest g (fun x => { x with banks := x.banks.del k }); ({ t with plat := { t.plat with res := t.plat.res.set k (g + 1) } }, 0))
      else if h = g + 1 then (s, 0)
      else (s, 1)

/-- A guest releases a resource (R463). -/
def State.guestRelease (s : State) (g id : Nat) : State × Nat :=
  match resKey id with
  | none => (s, 2)
  | some (k, _) =>
    let h := s.plat.res.get 0 k
    if h = g + 1 then ({ s with plat := { s.plat with res := s.plat.res.del k } }, 0)
    else if h = g + 18 then ({ s with plat := { s.plat with res := s.plat.res.set k 17 } }, 0)
    else (s, 2)

/-- A service: none of its effect while another slot keeps the bundle from completing. A replay refuses every service
but 0 and 5 (R490). -/
def service (s : State) (o : OpSR2) (refused : Bool) (f : State → State) : Host.Outcome State Fault Refusal :=
  sOp s o.g o.n (fun s =>
    if !s.clear then s
    else if refused && s.replaying s.focus then s.replayRefuse
    else f s)

/-- SYSC 0, KEND: the kernel ends; Bowline settles what it holds (R430) and no bundle follows. -/
def execKend (o : OpSR2) (s : State) : Host.Outcome State Fault Refusal :=
  service s o false (fun s => s.modCore (fun k => { k with mode := .saving, saveKind := 3 }))

/-- SYSC 1, SYSORD: at SYSTEM scope, whatever MAXSCOPE. -/
def execSysord (o : OpSR2) (s : State) : Host.Outcome State Fault Refusal :=
  service s o true (fun s => match s.settled 5 with
    | none => s.stallOn rowService
    | some t => t.ws o.d 0 1)

/-- SYSC 2, EVADD: a release write at DEVICE scope. -/
def execEvadd (o : OpSR2) (s : State) : Host.Outcome State Fault Refusal :=
  service s o true (fun s => match s.settled 3 with
    | none => s.stallOn rowService
    | some t =>
      let a := (s.rs o.a).toNat
      (t.evAdd s.gid (bitsOf 63 56 a) (bitsOf 31 0 a)).ws o.d 0 1)

/-- SYSC 3, CLAIM. -/
def execClaim (o : OpSR2) (s : State) : Host.Outcome State Fault Refusal :=
  service s o true (fun s =>
    let r := s.guestClaim s.gid ((s.rs o.a).toNat % 2 ^ 16)
    r.1.ws o.d (BitVec.ofNat 64 r.2) 1)

/-- SYSC 4, RELEASE. -/
def execRelease (o : OpSR2) (s : State) : Host.Outcome State Fault Refusal :=
  service s o true (fun s =>
    let r := s.guestRelease s.gid ((s.rs o.a).toNat % 2 ^ 16)
    r.1.ws o.d (BitVec.ofNat 64 r.2) 1)

/-- SYSC 5, GSTAT. -/
def execGstat (o : OpSR2) (s : State) : Host.Outcome State Fault Refusal :=
  service s o false (fun s => s.ws o.d (BitVec.ofNat 64 (s.gstate s.gid)) 1)

/-- SYSC 6, NOTIFY: a status event of KIND 7. -/
def execNotify (o : OpSR2) (s : State) : Host.Outcome State Fault Refusal :=
  service s o true (fun s =>
    let full := (s.guestAt s.gid).sevEn && s.sevFull s.gid
    (s.statusEvent s.gid 7 0 0 (s.rs o.a).toNat).ws o.d (if full then 1 else 0) 1)

/-- SYSC with an unknown service: all ones. -/
def execSysc (o : OpSSvc) (s : State) : Host.Outcome State Fault Refusal :=
  service s { g := o.g, n := o.n, d := o.d, a := o.a } true (fun s => s.ws o.d (BitVec.allOnes 64) 1)

end Sys2Proof.Machine
end

