-- ==== Sys2Proof/Machine/Order.lean ====
section
/-! DEFINITION. FENCE, PFENCE and DRAIN (R286, R287, R401, R402). -/

namespace Sys2Proof.Machine

/-- FENCE (R401): RLX has no effect and sets WARN.ORDFIT. An acquire acts on the L1; a release puts a mark into the
store buffer, which writes the L1 back in its turn and so keeps later stores behind earlier ones. -/
def execFence (o : OpSFence) (s : State) : Host.Outcome State Fault Refusal :=
  sOp s o.g o.n (fun s =>
    let sc := (s.effScope o.scope.toNat).1
    let ord := o.order.toNat
    let t := s.warnScope o.scope.toNat
    if ord = 0 then t.warn wORDFIT true
    else
      let t := if ord % 2 = 1 then (t.acquireL1 sc).holdNext 0 else t
      if 2 ≤ ord && sc != 0 then
        t.modCore (fun k => { k with stores := k.stores ++
          [{ va := 0, kind := 9, pa := 0, sel := 0, bytes := [], seqNo := k.seqNo, scope := sc, rel := true }] })
      else t)

/-- Refill the clean bytes of the pinned lines of core n from their homes (R287). -/
def State.refillPinned (s : State) (n : Nat) : State :=
  (s.coreAt n).l1.foldl (fun t l =>
    if l.pins.isEmpty then t else t.l1Refresh n l) s

/-- PFENCE (R286, R287): with S among the from-classes it waits for the released stores; it writes the L1 back for a
reader on another path, and drops its clean lines for an S reader of another path's writes. -/
def execPfence (o : OpSPf) (s : State) : Host.Outcome State Fault Refusal :=
  sOp s o.g o.n (fun s =>
    let f := o.fromc.toNat
    let t := o.toc.toNat
    let w := (s.warnScope o.scope.toNat).warn wORDFIT (o.order != 0)
    if f = 0 ∨ t = 0 then w
    else if bitOf 0 f && storesPending s.core.stores (s.effScope o.scope.toNat).1 then s.stallOn 10
    else
      -- the base of 2 cc, and the costs that add to it (R287)
      let clean := bitOf 0 f && t / 2 != 0
      let drop := bitOf 0 t && f / 2 != 0
      let n := if clean then (s.core.l1.filter (fun l => l.dirty.any id)).length else 0
      let w := if clean then w.l1Clean s.focus else w
      let w := if drop then (w.l1DropClean s.focus).refillPinned s.focus else w
      w.holdNext (1 + n + (if drop then 16 else 0)))

/-- A store is not performed at the scope, an engine command of the core that was committed before has not completed, or an
element appended before has not been written (R402). -/
def Core.draining (k : Core) (scope : Nat) : Bool :=
  storesPending k.stores scope || k.mq.any (fun c => c.committed) || k.cqa.any (fun c => c.committed) || k.cqb.any (fun c => c.committed) ||
  k.tq.any (fun c => c.committed) || k.outq.any (fun e => decide (e.2.2.2.2 < k.seqNo) && !k.scatterLeft e)

/-- DRAIN (R402). -/
def execDrain (o : OpSFence) (s : State) : Host.Outcome State Fault Refusal :=
  sOp s o.g o.n (fun s =>
    let sc := (s.effScope o.scope.toNat).1
    let w := (s.warnScope o.scope.toNat).warn wORDFIT (o.order != 0)
    if s.core.draining sc then s.stallOn 10
    else if sc = 0 then w
    else (w.l1Clean s.focus).acquireL1 sc)

end Sys2Proof.Machine
end

