-- ==== Sys2Proof/Machine/Vector.lean ====
section
/-! DEFINITION. The vector slots VA and VB (R146 to R182): operands, lane patterns, working formats and fallbacks, and
every vector operation. `sl` is false for VA and true for VB. -/

namespace Sys2Proof.Machine

/-! ### Elements -/

/-- The n elements of w bits of a bit pattern, element 0 lowest (R68). -/
def elemsOf (w n bits : Nat) : List Nat := (List.range n).map (fun i => bits / 2 ^ (w * i) % 2 ^ w)

/-- The bit pattern of a list of elements of w bits. -/
def packElems (w : Nat) : List Nat → Nat
  | [] => 0
  | e :: t => e % 2 ^ w + 2 ^ w * packElems w t

/-- The width in bits of a W field (R31). -/
def vWidth (w : BitVec 2) : Nat := 256 * 2 ^ w.toNat

/-- The latency bound of an operation with two bounds (R41). -/
def vLat (tag : Nat) : Nat := if 7 ≤ tag ∧ tag ≤ 13 then 4 else 3

/-! ### Lane patterns (R155, R156) -/

/-- The source of element i of a patterned operand of n elements under lane-pattern register lp. -/
def laneSource (lp n i : Nat) : Nat :=
  let m := min 32 n
  let p := i % m
  let amt := bitsOf 6 2 lp
  let q := match lp % 4 with
    | 0 => (p + amt) % m
    | 1 => m - 1 - p
    | 2 => 8 * (p / 8) + bitsOf (8 + 3 * (p % 8) + 2) (8 + 3 * (p % 8)) lp % min 8 m
    | _ => amt % m
  i / m * m + q

/-- The lane-pattern register that LPM names, none for 00. -/
def State.lanePat (s : State) (sl : Bool) (l : BitVec 2) : Option Nat :=
  if l = 0 then none else some (s.pre.lp.get 0 (l.toNat - 1 + (if sl then 3 else 0))).toNat

/-- Apply a lane pattern to a list of elements. -/
def patterned (lp : Option Nat) (e : List Nat) : List Nat :=
  match lp with
  | none => e
  | some p => (List.range e.length).map (fun i => e.getD (laneSource p e.length i) 0)

/-! ### Operands (R150 to R153) -/

/-- An operand: its bits, its tag, and the register that holds it. -/
structure VOpd where
  bits : Nat
  tag : Nat
  reg : Option Nat
  deriving DecidableEq, Repr

/-- Register r of the slot's own file as an operand. -/
def State.vReg (s : State) (sl : Bool) (r : Nat) : VOpd :=
  let v := s.readV sl r
  { bits := v.bits.toNat, tag := v.tag, reg := some r }

/-- The elements of operand A after its lane pattern, and its tag. -/
def State.vA (s : State) (sl : Bool) (a : BitVec 5) (l : BitVec 2) (W : Nat) : List Nat × Nat :=
  let v := s.readV sl a.toNat
  (patterned (s.lanePat sl l) (elemsOf (tagBits v.tag) (W / tagBits v.tag) v.bits.toNat), v.tag)

/-- The number of elements that a stream describes (R241). -/
def Stream.size (q : Stream) : Nat :=
  bitsOf 63 40 q.cdim.toNat * bitsOf 39 16 q.cdim.toNat * bitsOf 15 0 q.cdim.toNat
/-- The delivery format of a bound stream. -/
def Stream.dfmt (q : Stream) : Nat := bitsOf 59 56 q.cbase.toNat
/-- The stored format of a bound stream. -/
def Stream.sfmt (q : Stream) : Nat := bitsOf 55 52 q.cbase.toNat
/-- A bound output stream. -/
def Stream.isOut (q : Stream) : Bool := q.bnd != 0 && bitOf 63 q.cbase.toNat
/-- A bound input stream. -/
def Stream.isIn (q : Stream) : Bool := q.bnd != 0 && !bitOf 63 q.cbase.toNat

/-- The next n elements of an input stream, zeros beyond its last (R244): none when they have not arrived. -/
def Stream.take (q : Stream) (n : Nat) : Option (List SElem) :=
  if n ≤ q.buf.length then some (q.buf.take n)
  else if q.size ≤ q.pos + q.buf.length then some (q.buf ++ List.replicate (n - q.buf.length) { v := 0 })
  else none

/-- Read n elements of stream k for a slot (R151, R153): the elements with the state after the pop; otherwise a stall or
STREAMFLT. -/
def State.readStream (s : State) (slot k n : Nat) : State × Option (List Nat) :=
  let q := s.pre.streams.get {} k
  if !q.isIn then (s.raise slot 0x60 (BitVec.ofNat 64 k), none)
  else match q.take n with
    | none => (s.stallOn 4, none)
    | some l =>
      match l.find? (fun e => e.err.isSome) with
      | some e => (s.raise slot 0x60 (BitVec.ofNat 64 (e.err.getD 0)), none)
      | none =>
        (s.modStream k (fun x => { x with buf := x.buf.drop n, pos := x.pos + n }), some (l.map (fun e => e.v)))

/-- Operand B (R151, R152): a register, a stream group or a constant. -/
def State.vB (s : State) (sl : Bool) (b : BitVec 6) (W : Nat) : State × Option VOpd :=
  let n := b.toNat
  if n < 32 then (s, some (s.vReg sl n))
  else if n < 48 then
    let f := (s.pre.streams.get {} (n - 32)).dfmt
    let r := s.readStream (if sl then 2 else 1) (n - 32) (W / tagBits f)
    (r.1, r.2.map (fun l => { bits := packElems (tagBits f) l, tag := f, reg := none }))
  else
    let o := 0x1000 + (if sl then 256 else 0) + 16 * (n - 48)
    let pat := ofLe (s.core.planeBytes o 8)
    let tag := s.core.planeByte (o + 8) % 16
    let w := tagBits tag
    (s, some { bits := packElems w (List.replicate (W / w) (pat % 2 ^ w)), tag := tag, reg := none })

/-! ### Conversion of an operand (R159, R160) -/

/-- A value in the format of a tag, by RNE. -/
def encNum (dst : Nat) (x : Num) : Nat :=
  if isFloatTag dst then (floatFmt dst).round .rne x
  else if dst = 14 then toT8 .rne x else toIntTag .rne dst x

/-- The value of element k of a pair of e2m1 registers (R85, R86). -/
def e2Elem (codes md k : Nat) : Num :=
  e2m1Value (md / 2 ^ (16 * (k / 32)) % 2 ^ 16) (codes / 2 ^ (4 * k) % 16)

/-- The elements of an operand in another format, and whether TAGMIX and FMTOP are set (R159). Tags 12 and 13 of operand A leave
the bits of B as they stand, and TAGMIX is set all the same, VSEL included (log entry 101). -/
def State.vConv (s : State) (sl : Bool) (o : VOpd) (dst W : Nat) : List Nat × List Nat :=
  let w := tagBits dst
  let n := W / w
  if o.tag = dst then (elemsOf w n o.bits, [])
  else if dst = 12 ∨ dst = 13 then (elemsOf w n o.bits, [wTAGMIX])
  else
    let m := W / tagBits o.tag
    let src := elemsOf (tagBits o.tag) m o.bits
    if o.tag = 12 then
      match o.reg with
      | some r =>
        if r % 2 = 0 then
          let md := (s.readV sl (r + 1)).bits.toNat
          ((List.range n).map (fun i => if i < m then encNum dst (e2Elem o.bits md i) else 0), [wTAGMIX])
        else (List.replicate n 0, [wTAGMIX, wFMTOP])
      | none => (List.replicate n 0, [wTAGMIX, wFMTOP])
    else
      let t := if o.tag = 13 then 3 else o.tag
      ((List.range n).map (fun i => if i < m then convElem .rne t dst (src.getD i 0) else 0), [wTAGMIX])

/-! ### Results (R148, R149, R158) -/

/-- Write a register whose value merges earlier results: no earlier one lands over it (R149). -/
def State.writeVMerged (s : State) (sl : Bool) (r : Nat) (v : VReg) (lat : Nat) : State :=
  let p := phys s.pre.rrb r
  let k := vKey sl p
  s.modSync (fun y =>
    let y := { y with covered := y.covered.del k }
    (if sl then { y with b := y.b.set p v, ages := y.ages.del (32 + p) }
     else { y with a := y.a.set p v, ages := y.ages.del p }).landSet s.issueAt k lat)

/-- The old bits that a merge keeps: those of the earlier writes in program order; of a dead register, free (R149, R272). -/
def State.oldBits (s : State) (sl : Bool) (r : Nat) : Nat :=
  let p := phys s.pre.rrb r
  if s.pre.dead sl p then (Config.freeLine s.free (vKey sl p)).toNat
  else (s.pre.covered.get (s.pre.vreg sl p) (vKey sl p)).bits.toNat

/-- The merge mask of the slot: ka0 or kb0. -/
def State.mask0 (s : State) (sl : Bool) : BitVec 256 := s.readK (if sl then 8 else 0)

/-- Write n elements of w bits to register d with a tag: zeros above, merging under the mask when MSK = 1. -/
def State.vput (s : State) (sl msk : Bool) (d w n tag : Nat) (e : List Nat) (lat : Nat) : State :=
  if msk then
    let old := elemsOf w n (s.oldBits sl d)
    let m := s.mask0 sl
    let l := (List.range n).map (fun i => if m.getLsbD i then e.getD i 0 else old.getD i 0)
    s.writeVMerged sl d { bits := BitVec.ofNat 1024 (packElems w l), tag := tag } lat
  else s.writeV sl d { bits := BitVec.ofNat 1024 (packElems w (e.take n)), tag := tag } lat

/-- The FMTOP fallback on a vector destination (R158). -/
def State.fmtop (s : State) (sl msk : Bool) (d w n tag lat : Nat) : State :=
  (s.vput sl msk d w n tag (List.replicate n 0) lat).warn wFMTOP true

/-- A vector operation takes effect when its guard holds. -/
def vOp (s : State) (g : BitVec 4) (f : State → State) : Host.Outcome State Fault Refusal :=
  .next (if s.guardOn g false then f s else s)

/-! ### Working formats (R157) -/

/-- VADD, VSUB, VMIN, VMAX and the compares. -/
def okAdd (t : Nat) : Bool := decide (t ≤ 11) || t == 14
/-- VMUL, VFMA, VFMS, VABS, VNEG, VSQD, VRND and the reductions. -/
def okMul (t : Nat) : Bool := decide (t ≤ 11)
/-- VMULH, the shifts and VIOTA. -/
def okInt (t : Nat) : Bool := decide (t ≤ 6)
/-- The special functions. -/
def okSpecial (t : Nat) : Bool := t == 7 || t == 8 || t == 9
/-- Every format. -/
def okAll (_ : Nat) : Bool := true

/-! ### Arithmetic (R161 to R164) -/

/-- An element-wise function of integers of a tag, modulo its width. -/
def onInt (t : Nat) (f : Int → Int → Int → Int) (a b d : Nat) : Nat := patOf (tagBits t) (f (intOf t a) (intOf t b) (intOf t d))
/-- An element-wise function of floats of a tag, rounded once by RNE. -/
def onFloat (t : Nat) (f : Num → Num → Num → Num) (a b d : Nat) : Nat :=
  (floatFmt t).round .rne (f (numOf t a) (numOf t b) (numOf t d))
/-- One of the two, by tag. -/
def onTag (t : Nat) (fi : Int → Int → Int → Int) (ff : Num → Num → Num → Num) (a b d : Nat) : Nat :=
  if isFloatTag t then onFloat t ff a b d else onInt t fi a b d

/-- VADD (R161; t8 by R92). -/
def eAdd (t a b d : Nat) : Nat := if t = 14 then min (a + b) 255 else onTag t (fun x y _ => x + y) (fun x y _ => Num.add .rne x y) a b d
/-- VSUB (R161; t8 by R92). -/
def eSub (t a b d : Nat) : Nat :=
  if t = 14 then (if a = 255 then 255 else if b = 255 then 0 else a - b)
  else onTag t (fun x y _ => x - y) (fun x y _ => Num.add .rne x y.neg) a b d
/-- VMUL (R161). -/
def eMul (t a b d : Nat) : Nat := onTag t (fun x y _ => x * y) (fun x y _ => x.mul y) a b d
/-- VFMA (R161). -/
def eFma (t a b d : Nat) : Nat := onTag t (fun x y z => x * y + z) (fun x y z => Num.add .rne (x.mul y) z) a b d
/-- VFMS (R161). -/
def eFms (t a b d : Nat) : Nat := onTag t (fun x y z => x * y - z) (fun x y z => Num.add .rne (x.mul y) z.neg) a b d
/-- VMIN (R161, R74, R92). -/
def eMin (t a b d : Nat) : Nat := if t = 14 then min a b else onTag t (fun x y _ => min x y) (fun x y _ => Num.min x y) a b d
/-- VMAX (R161, R74, R92). -/
def eMax (t a b d : Nat) : Nat := if t = 14 then max a b else onTag t (fun x y _ => max x y) (fun x y _ => Num.max x y) a b d
/-- VABS (R161). -/
def eAbs (t a b d : Nat) : Nat := onTag t (fun x _ _ => if x < 0 then -x else x) (fun x _ _ => x.abs) a b d
/-- VNEG (R161). -/
def eNeg (t a b d : Nat) : Nat := onTag t (fun x _ _ => -x) (fun x _ _ => x.neg) a b d
/-- VSQD (R161). -/
def eSqd (t a b d : Nat) : Nat :=
  onTag t (fun x y _ => (x - y) * (x - y)) (fun x y _ => (Num.add .rne x y.neg).mul (Num.add .rne x y.neg)) a b d
/-- VMULH (R162): bits [2w-1:w] of the product. -/
def eMulh (t a b _d : Nat) : Nat := patOf (tagBits t) (intOf t a * intOf t b / (2 ^ tagBits t : Nat))
/-- VSHL (R164). -/
def eShl (t a b _d : Nat) : Nat := a * 2 ^ (b % tagBits t) % 2 ^ tagBits t
/-- VSHR (R164). -/
def eShr (t a b _d : Nat) : Nat := a / 2 ^ (b % tagBits t)
/-- VSRA (R164). -/
def eSra (t a b _d : Nat) : Nat := patOf (tagBits t) (intOf t a / (2 ^ (b % tagBits t) : Nat))

/-- The sources of a word with two or three of them: A, B, and D when `useD`. -/
def vArith (s : State) (o : OpV3) (ok : Nat → Bool) (useD : Bool) (lat : Nat → Nat) (f : Nat → Nat → Nat → Nat → Nat) :
    Host.Outcome State Fault Refusal :=
  vOp s o.g (fun s =>
    let W := vWidth o.w
    let a := s.vA o.sl o.a o.l W
    let r := s.vB o.sl o.b W
    match r.2 with
    | none => r.1
    | some ob =>
      let w := tagBits a.2
      let n := W / w
      if !ok a.2 then r.1.fmtop o.sl o.m o.d.toNat w n a.2 (lat a.2)
      else
        let b := s.vConv o.sl ob a.2 W
        let d := if useD then s.vConv o.sl (s.vReg o.sl o.d.toNat) a.2 W else ([], [])
        ((r.1.vput o.sl o.m o.d.toNat w n a.2
          ((List.range n).map (fun i => f a.2 (a.1.getD i 0) (b.1.getD i 0) (d.1.getD i 0))) (lat a.2)).warns b.2).warns d.2)

/-- A word with one source. -/
def vUnary (s : State) (o : OpV2) (ok : Nat → Bool) (lat : Nat → Nat) (f : Nat → Nat → Nat → Nat → Nat) :
    Host.Outcome State Fault Refusal :=
  vOp s o.g (fun s =>
    let W := vWidth o.w
    let a := s.vA o.sl o.a o.l W
    let w := tagBits a.2
    let n := W / w
    if !ok a.2 then s.fmtop o.sl o.m o.d.toNat w n a.2 (lat a.2)
    else s.vput o.sl o.m o.d.toNat w n a.2 (a.1.map (fun x => f a.2 x 0 0)) (lat a.2))

/-- A latency bound that does not depend on the format. -/
def lat3 (_ : Nat) : Nat := 3
/-- The bound of the special functions. -/
def lat8 (_ : Nat) : Nat := 8

/-- VNOP (R41, R46). -/
def execVnop (o : OpV0) (s : State) : Host.Outcome State Fault Refusal :=
  vOp s o.g (fun s => (s.warn wMSKIGN o.m).warn wLPIGN (o.l != 0))
/-- VADD. -/
def execVadd (o : OpV3) (s : State) : Host.Outcome State Fault Refusal := vArith s o okAdd false vLat eAdd
/-- VSUB. -/
def execVsub (o : OpV3) (s : State) : Host.Outcome State Fault Refusal := vArith s o okAdd false vLat eSub
/-- VMUL. -/
def execVmul (o : OpV3) (s : State) : Host.Outcome State Fault Refusal := vArith s o okMul false vLat eMul
/-- VFMA. -/
def execVfma (o : OpV3) (s : State) : Host.Outcome State Fault Refusal := vArith s o okMul true vLat eFma
/-- VFMS. -/
def execVfms (o : OpV3) (s : State) : Host.Outcome State Fault Refusal := vArith s o okMul true vLat eFms
/-- VMIN. -/
def execVmin (o : OpV3) (s : State) : Host.Outcome State Fault Refusal := vArith s o okAdd false vLat eMin
/-- VMAX. -/
def execVmax (o : OpV3) (s : State) : Host.Outcome State Fault Refusal := vArith s o okAdd false vLat eMax
/-- VABS. -/
def execVabs (o : OpV2) (s : State) : Host.Outcome State Fault Refusal := vUnary s o okMul vLat eAbs
/-- VNEG. -/
def execVneg (o : OpV2) (s : State) : Host.Outcome State Fault Refusal := vUnary s o okMul vLat eNeg
/-- VSQD. -/
def execVsqd (o : OpV3) (s : State) : Host.Outcome State Fault Refusal := vArith s o okMul false vLat eSqd
/-- VMULH. -/
def execVmulh (o : OpV3) (s : State) : Host.Outcome State Fault Refusal := vArith s o okInt false lat3 eMulh

/-- VDOT4 (R163): D is read as i32 or ui32 whatever its tag. -/
def execVdot4 (o : OpV3) (s : State) : Host.Outcome State Fault Refusal :=
  vOp s o.g (fun s =>
    let W := vWidth o.w
    let a := s.vA o.sl o.a o.l W
    let r := s.vB o.sl o.b W
    match r.2 with
    | none => r.1
    | some ob =>
      let n := W / 32
      if a.2 ≠ 0 ∧ a.2 ≠ 1 then r.1.fmtop o.sl o.m o.d.toNat 32 n 4 4
      else
        let t := if a.2 = 0 then 4 else 5
        let b := s.vConv o.sl ob a.2 W
        let d := elemsOf 32 n (s.readV o.sl o.d.toNat).bits.toNat
        let dot (j : Nat) : Int := ([0, 1, 2, 3].map (fun k => intOf a.2 (a.1.getD (4 * j + k) 0) * intOf a.2 (b.1.getD (4 * j + k) 0))).sum
        (r.1.vput o.sl o.m o.d.toNat 32 n t
          ((List.range n).map (fun j => patOf 32 (satInt t (intOf t (d.getD j 0) + dot j)))) 4).warns b.2)

/-- A bitwise operation (R164): operand B is converted except where either tag is 12 or 13. Where it is not, TAGMIX is not set
(log entry 101). -/
def vBitwise (s : State) (o : OpV3) (f : Nat → Nat → Nat) : Host.Outcome State Fault Refusal :=
  vOp s o.g (fun s =>
    let W := vWidth o.w
    let a := s.vA o.sl o.a o.l W
    let r := s.vB o.sl o.b W
    match r.2 with
    | none => r.1
    | some ob =>
      let w := tagBits a.2
      let n := W / w
      let raw := a.2 == 12 || a.2 == 13 || ob.tag == 12 || ob.tag == 13
      let b := if raw then (elemsOf w n ob.bits, []) else s.vConv o.sl ob a.2 W
      (r.1.vput o.sl o.m o.d.toNat w n a.2 ((List.range n).map (fun i => f (a.1.getD i 0) (b.1.getD i 0))) 3).warns b.2)

/-- VAND. -/
def execVand (o : OpV3) (s : State) : Host.Outcome State Fault Refusal := vBitwise s o (fun a b => a &&& b)
/-- VOR. -/
def execVor (o : OpV3) (s : State) : Host.Outcome State Fault Refusal := vBitwise s o (fun a b => a ||| b)
/-- VXOR. -/
def execVxor (o : OpV3) (s : State) : Host.Outcome State Fault Refusal := vBitwise s o (fun a b => a ^^^ b)
/-- VSHL. -/
def execVshl (o : OpV3) (s : State) : Host.Outcome State Fault Refusal := vArith s o okInt false lat3 eShl
/-- VSHR. -/
def execVshr (o : OpV3) (s : State) : Host.Outcome State Fault Refusal := vArith s o okInt false lat3 eShr
/-- VSRA. -/
def execVsra (o : OpV3) (s : State) : Host.Outcome State Fault Refusal := vArith s o okInt false lat3 eSra

/-! ### Compares, select and masks (R165 to R168) -/

/-- The order of two elements of a tag: whether they are equal and whether the first is less. -/
def cmpElem (t a b : Nat) : Bool × Bool :=
  if isFloatTag t then ((numOf t a).eq (numOf t b), (numOf t a).lt (numOf t b))
  else if t = 14 then (a == b, decide (a < b))
  else (intOf t a == intOf t b, decide (intOf t a < intOf t b))

/-- A mask from the truth of its first elements. -/
def maskOf (l : List Bool) : BitVec 256 := BitVec.ofNat 256 (packElems 1 (l.map (fun b => if b then 1 else 0)))

/-- A vector compare. -/
def vCompare (s : State) (o : OpVC) (f : Bool × Bool → Bool) : Host.Outcome State Fault Refusal :=
  vOp s o.g (fun s =>
    let W := vWidth o.w
    let a := s.vA o.sl o.a o.l W
    let r := s.vB o.sl o.b W
    match r.2 with
    | none => r.1
    | some ob =>
      let k := (if o.sl then 8 else 0) + o.k.toNat
      let t := r.1.warn wMSKIGN o.m
      if !okAdd a.2 then (t.writeK k 0 (vLat a.2)).warn wFMTOP true
      else
        let b := s.vConv o.sl ob a.2 W
        (t.writeK k (maskOf ((List.range (W / tagBits a.2)).map (fun i => f (cmpElem a.2 (a.1.getD i 0) (b.1.getD i 0))))) (vLat a.2)).warns b.2)

/-- VCEQ. -/
def execVceq (o : OpVC) (s : State) : Host.Outcome State Fault Refusal := vCompare s o (fun c => c.1)
/-- VCNE: true with a NaN. -/
def execVcne (o : OpVC) (s : State) : Host.Outcome State Fault Refusal := vCompare s o (fun c => !c.1)
/-- VCLT. -/
def execVclt (o : OpVC) (s : State) : Host.Outcome State Fault Refusal := vCompare s o (fun c => c.2)
/-- VCLE. -/
def execVcle (o : OpVC) (s : State) : Host.Outcome State Fault Refusal := vCompare s o (fun c => c.1 || c.2)

/-- VSEL (R166). -/
def execVsel (o : OpV3) (s : State) : Host.Outcome State Fault Refusal :=
  vOp s o.g (fun s =>
    let W := vWidth o.w
    let a := s.vA o.sl o.a o.l W
    let r := s.vB o.sl o.b W
    match r.2 with
    | none => r.1
    | some ob =>
      let w := tagBits a.2
      let n := W / w
      let m := s.readK ((if o.sl then 8 else 0) + 1)
      let b := s.vConv o.sl ob a.2 W
      (r.1.vput o.sl o.m o.d.toNat w n a.2
        ((List.range n).map (fun i => if m.getLsbD i then a.1.getD i 0 else b.1.getD i 0)) 3).warns b.2)

/-- A mask operation on all 256 bits (R167). -/
def vMask (s : State) (sl msk : Bool) (g : BitVec 4) (k j h : BitVec 3) (l : BitVec 2)
    (f : BitVec 256 → BitVec 256 → BitVec 256) : Host.Outcome State Fault Refusal :=
  vOp s g (fun s =>
    let b := if sl then 8 else 0
    (((s.writeK (b + k.toNat) (f (s.readK (b + j.toNat)) (s.readK (b + h.toNat))) 1).warn wMSKIGN msk).warn wLPIGN (l != 0)))

/-- KAND. -/
def execKand (o : OpVK) (s : State) : Host.Outcome State Fault Refusal := vMask s o.sl o.m o.g o.k o.j o.h o.l (fun a b => a &&& b)
/-- KOR. -/
def execKor (o : OpVK) (s : State) : Host.Outcome State Fault Refusal := vMask s o.sl o.m o.g o.k o.j o.h o.l (fun a b => a ||| b)
/-- KXOR. -/
def execKxor (o : OpVK) (s : State) : Host.Outcome State Fault Refusal := vMask s o.sl o.m o.g o.k o.j o.h o.l (fun a b => a ^^^ b)
/-- KNOT. -/
def execKnot (o : OpVK1) (s : State) : Host.Outcome State Fault Refusal := vMask s o.sl o.m o.g o.k o.j o.j o.l (fun a _ => ~~~ a)

/-- KPOP (R168). -/
def execKpop (o : OpVKp) (s : State) : Host.Outcome State Fault Refusal :=
  vOp s o.g (fun s =>
    let m := s.readK ((if o.sl then 8 else 0) + o.j.toNat)
    let n := vWidth o.w / 32
    (s.vput o.sl o.m o.d.toNat 32 n 4
      (((List.range 256).filter (fun i => m.getLsbD i)).length :: List.replicate (n - 1) 0) 3).warn wLPIGN (o.l != 0))

/-! ### Conversion and block quantisation (R169 to R173) -/

/-- The warnings of a rounding mode where no rounding can occur. -/
def intLike (t : Nat) : Bool := decide (t ≤ 6) || t == 14

/-- VCVT (R169): stochastic rounding takes one step for each result element (R101, R102). -/
def execVcvt (o : OpVCv) (s : State) : Host.Outcome State Fault Refusal :=
  vOp s o.g (fun s =>
    let W := vWidth o.w
    let v := s.readV o.sl o.a.toNat
    let t := o.t.toNat
    let wt := tagBits t
    let ws := tagBits v.tag
    let n := W / max ws wt
    let src := elemsOf ws n v.bits.toNat
    let mode := o.r.toNat
    if t = 12 ∨ t = 13 ∨ v.tag = 12 ∨ v.tag = 13 then s.fmtop o.sl o.m o.d.toNat wt n t 4
    else if intLike v.tag && intLike t then
      (s.vput o.sl o.m o.d.toNat wt n t (src.map (convElem .rne v.tag t)) 4).warn wRNDNA (mode != 0)
    else if mode = 4 then
      let st := s.core.sync.rng
      (s.vput o.sl o.m o.d.toNat wt n t ((List.range n).map (fun i => convElem (rsMode st i) v.tag t (src.getD i 0))) 4).modSync
        (fun y => { y with rng := rngSteps n st })
    else s.vput o.sl o.m o.d.toNat wt n t (src.map (convElem (RMode.ofCode mode) v.tag t)) 4)

/-- VRND (R170). On an integer tag a stochastic mode meets two rows of R46, and both WARN bits are set. -/
def execVrnd (o : OpVRn) (s : State) : Host.Outcome State Fault Refusal :=
  vOp s o.g (fun s =>
    let W := vWidth o.w
    let v := s.readV o.sl o.a.toNat
    let w := tagBits v.tag
    let n := W / w
    let src := elemsOf w n v.bits.toNat
    let mode := o.r.toNat
    -- stochastic rounding is replaced by RNE, on every tag (R46; log entry 114)
    let s := s.warn wSTOCH (mode == 4)
    if !okMul v.tag then s.fmtop o.sl o.m o.d.toNat w n v.tag 4
    else if isFloatTag v.tag then
      let rnd (b : Nat) : Nat :=
        match numOf v.tag b with
        | .fin neg m e => (floatFmt v.tag).round .rne (.fin neg (roundMul (RMode.ofCode (if mode = 4 then 0 else mode)) neg m e 0) 0)
        | x => (floatFmt v.tag).round .rne x
      s.vput o.sl o.m o.d.toNat w n v.tag (src.map rnd) 4
    else (s.vput o.sl o.m o.d.toNat w n v.tag src 4).warn wRNDNA (mode != 0))

/-- VQBLK (R171): the blocks it does not write keep their bits. -/
def execVqblk (o : OpVQb) (s : State) : Host.Outcome State Fault Refusal :=
  vOp s o.g (fun s =>
    let W := vWidth o.w
    let a := s.vA o.sl o.a o.l W
    let n := W / tagBits a.2
    let nb := max 1 (n / 32)
    let m := s.mask0 o.sl
    let ok := isFloatTag a.2
    let d := o.d.toNat
    let bo := o.o.toNat
    let block (b : Nat) : List Nat × Nat :=
      if ok then quantBlock ((List.range 32).map (fun i => if 32 * b + i < n then numOf a.2 (a.1.getD (32 * b + i) 0) else .fin false 0 0))
      else (List.replicate 32 0, 0)
    let blocks := (List.range nb).filter (fun b => decide (bo + b ≤ 7) && (!o.m || m.getLsbD (bo + b)))
    let out := blocks.map (fun b => (bo + b, block b))
    let codes := elemsOf 128 8 (s.oldBits o.sl d)
    let metas := elemsOf 16 64 (s.oldBits o.sl (d + 1))
    let codes' := (List.range 8).map (fun k => match out.find? (fun p => p.1 == k) with
      | some p => packElems 4 p.2.1 | none => codes.getD k 0)
    let metas' := (List.range 64).map (fun k => match out.find? (fun p => p.1 == k) with
      | some p => p.2.2 | none => metas.getD k 0)
    (((s.writeVMerged o.sl d { bits := BitVec.ofNat 1024 (packElems 128 codes'), tag := 12 } 4).writeVMerged o.sl (d + 1)
      { bits := BitVec.ofNat 1024 (packElems 16 metas'), tag := 13 } 4)).warn wFMTOP (!ok || decide (8 < bo + nb)))

/-- The target tag of VDQBLK. -/
def dqTag (t : BitVec 2) : Nat := if t = 0 then 9 else if t = 1 then 8 else 7

/-- VDQBLK (R172): it reads the pair in full; an odd A reads its metadata as zero (R87). -/
def execVdqblk (o : OpVDq) (s : State) : Host.Outcome State Fault Refusal :=
  vOp s o.g (fun s =>
    let t := dqTag o.t
    let w := tagBits t
    let n := vWidth o.w / w
    let v := s.readV o.sl o.a.toNat
    if v.tag ≠ 12 then s.fmtop o.sl o.m o.d.toNat w n t 4
    else
      let odd := o.a.toNat % 2 == 1
      let codes := patterned (s.lanePat o.sl o.l) (elemsOf 4 256 v.bits.toNat)
      let md := (s.readV o.sl (o.a.toNat + 1)).bits.toNat
      let el (i : Nat) : Nat :=
        let k := 32 * o.o.toNat + i
        if 255 < k || odd then 0
        else encNum t (e2m1Value (md / 2 ^ (16 * (k / 32)) % 2 ^ 16) (codes.getD k 0))
      (s.vput o.sl o.m o.d.toNat w n t ((List.range n).map el) 4).warn wFMTOP (odd || decide (256 < 32 * o.o.toNat + n)))

/-- VTAG (R173). -/
def execVtag (o : OpVTg) (s : State) : Host.Outcome State Fault Refusal :=
  vOp s o.g (fun s =>
    let W := vWidth o.w
    let a := s.vA o.sl o.a o.l W
    s.vput o.sl o.m o.d.toNat (tagBits a.2) (W / tagBits a.2) o.t.toNat a.1 1)

/-! ### Special functions (R174, R175) -/

/-- A special function. -/
def vSpecial (s : State) (o : OpV2) (fn : SpFn) : Host.Outcome State Fault Refusal :=
  vUnary s o okSpecial lat8 (fun t a _ _ => fn.elem t a)

/-- VEXP2. -/
def execVexp2 (o : OpV2) (s : State) : Host.Outcome State Fault Refusal := vSpecial s o .exp2
/-- VLOG2. -/
def execVlog2 (o : OpV2) (s : State) : Host.Outcome State Fault Refusal := vSpecial s o .log2
/-- VRCP. -/
def execVrcp (o : OpV2) (s : State) : Host.Outcome State Fault Refusal := vSpecial s o .rcp
/-- VRSQ. -/
def execVrsq (o : OpV2) (s : State) : Host.Outcome State Fault Refusal := vSpecial s o .rsq
/-- VSIGM. -/
def execVsigm (o : OpV2) (s : State) : Host.Outcome State Fault Refusal := vSpecial s o .sigm
/-- VTANH. -/
def execVtanh (o : OpV2) (s : State) : Host.Outcome State Fault Refusal := vSpecial s o .tanh

/-! ### Reductions (R176, R177) -/

/-- One level of the pairwise tree. -/
def treeLevel (f : Num → Num → Num) : List Num → List Num
  | a :: b :: t => f a b :: treeLevel f t
  | t => t

/-- The pairwise tree over at most 2^fuel values. -/
def tree (f : Num → Num → Num) : Nat → List Num → Num
  | 0, l => l.headD .nan
  | k + 1, l => match l with
    | [] => .nan
    | [x] => x
    | _ => tree f k (treeLevel f l)

/-- A reduction into element 0: the mask selects the contributing elements. An infinite identity of e4m3, which has none, is
rounded to its greatest magnitude when nothing contributes (DESIGN CHOICE, log entry 120). -/
def vReduce (s : State) (o : OpV2) (ff : Nat → Num → Num → Num) (pre : Num → Num) (idF : Num)
    (fi : Nat → List Int → Int) (idI : Nat → Int) : Host.Outcome State Fault Refusal :=
  vOp s o.g (fun s =>
    let W := vWidth o.w
    let a := s.vA o.sl o.a o.l W
    let t := a.2
    let w := tagBits t
    let n := W / w
    if !okMul t then s.fmtop o.sl o.m o.d.toNat w n t 6
    else
      let m := s.mask0 o.sl
      let on (i : Nat) : Bool := !o.m || m.getLsbD i
      let v := if isFloatTag t then
          (floatFmt t).round .rne (tree (ff t) 10 ((List.range n).map (fun i => if on i then pre (numOf t (a.1.getD i 0)) else idF)))
        else patOf w (satInt t (fi t ((List.range n).map (fun i => if on i then intOf t (a.1.getD i 0) else idI t))))
      s.vput o.sl false o.d.toNat w n t (v :: List.replicate (n - 1) 0) 6)

/-- VRSUM: each node of the tree is rounded. -/
def execVrsum (o : OpV2) (s : State) : Host.Outcome State Fault Refusal :=
  vReduce s o (fun t x y => (floatFmt t).decode ((floatFmt t).round .rne (Num.add .rne x y))) (fun x => x) (.fin true 0 0)
    (fun _ l => l.sum) (fun _ => 0)
/-- VRMAX. -/
def execVrmax (o : OpV2) (s : State) : Host.Outcome State Fault Refusal :=
  vReduce s o (fun _ x y => Num.max x y) (fun x => x) (.inf true) (fun t l => l.foldl max (tagMin t)) tagMin
/-- VRMIN. -/
def execVrmin (o : OpV2) (s : State) : Host.Outcome State Fault Refusal :=
  vReduce s o (fun _ x y => Num.min x y) (fun x => x) (.inf false) (fun t l => l.foldl min (tagMax t)) tagMax
/-- VAMAX. -/
def execVamax (o : OpV2) (s : State) : Host.Outcome State Fault Refusal :=
  vReduce s o (fun _ x y => Num.max x y) Num.abs (.fin false 0 0)
    (fun _ l => l.foldl (fun m x => max m (x.natAbs : Int)) 0) (fun _ => 0)

/-- Inclusive float prefix sums after the first (R177). -/
def scanF (t : Nat) (p : Num) : List Num → List Num
  | [] => []
  | x :: r =>
    let q := (floatFmt t).decode ((floatFmt t).round .rne (Num.add .rne p x))
    q :: scanF t q r

/-- Inclusive exact integer prefix sums. -/
def scanI (p : Int) : List Int → List Int
  | [] => []
  | x :: r => (p + x) :: scanI (p + x) r

/-- VSCAN (R177): p0 is A[0] without rounding. -/
def execVscan (o : OpV2) (s : State) : Host.Outcome State Fault Refusal :=
  vOp s o.g (fun s =>
    let W := vWidth o.w
    let a := s.vA o.sl o.a o.l W
    let t := a.2
    let w := tagBits t
    let n := W / w
    if !okMul t then s.fmtop o.sl o.m o.d.toNat w n t 6
    else
      let m := s.mask0 o.sl
      let on (i : Nat) : Bool := !o.m || m.getLsbD i
      let l := if isFloatTag t then
          (match (List.range n).map (fun i => if on i then numOf t (a.1.getD i 0) else .fin false 0 0) with
           | [] => []
           | x :: r => (x :: scanF t x r).map ((floatFmt t).round .rne))
        else (scanI 0 ((List.range n).map (fun i => if on i then intOf t (a.1.getD i 0) else 0))).map (fun x => patOf w (satInt t x))
      s.vput o.sl false o.d.toNat w n t l 6)

/-! ### Moves, copies and stream writes (R178 to R181) -/

/-- VMOV. DESIGN CHOICE (log entry 119): this and the other operations that take the bits of an odd register with tag 12 as they
stand set no WARN.FMTOP. -/
def execVmov (o : OpV2) (s : State) : Host.Outcome State Fault Refusal := vUnary s o okAll lat3 (fun _ a _ _ => a)

/-- The most elements that an output stream's buffer holds: eight groups of 1,024 bits (R244). -/
def streamCap (f : Nat) : Nat := 8192 / tagBits f

/-- VSQ (R181): elements beyond the last are discarded (R244); POS counts every appended element. -/
def execVsq (o : OpVSq) (s : State) : Host.Outcome State Fault Refusal :=
  vOp s o.g (fun s =>
    let W := vWidth o.w
    let k := o.q.toNat
    let q := s.pre.streams.get {} k
    let slot := if o.sl then 2 else 1
    if !q.isOut then s.raise slot 0x60 (BitVec.ofNat 64 k)
    else
      let f := q.dfmt
      let n := W / tagBits f
      let wait := (s.core.outq.filter (fun e => e.1 == k && e.2.1 == q.epoch)).length
      if streamCap f < wait + n then s.stallOn 5
      else
        let src : VOpd := if 48 ≤ o.b.toNat then ((s.vB o.sl o.b W).2.getD { bits := 0, tag := 0, reg := none })
          else
            let a := s.vA o.sl o.a o.l W
            { bits := packElems (tagBits a.2) a.1, tag := a.2, reg := some o.a.toNat }
        let c := s.vConv o.sl src f W
        let new := ((List.range n).filter (fun i => decide (q.pos + i < q.size))).map
          (fun i => (k, q.epoch, q.pos + i, c.1.getD i 0, s.core.seqNo))
        let t := (s.modStream k (fun x => { x with pos := x.pos + n })).modCore (fun x => { x with outq := x.outq ++ new })
        (t.warns c.2).warn wMSKIGN o.m)

/-- VXS (R179). -/
def execVxs (o : OpV2) (s : State) : Host.Outcome State Fault Refusal :=
  vOp s o.g (fun s =>
    let a := s.vA o.sl o.a o.l (vWidth o.w)
    let e := a.1.headD 0
    (s.writeS o.d.toNat (if isSignedTag a.2 then BitVec.ofInt 64 (intOf a.2 e) else BitVec.ofNat 64 e) 4).warn wMSKIGN o.m)

/-- VXAB (R180): to the other file, merging under the issuing slot's mask. -/
def execVxab (o : OpV2) (s : State) : Host.Outcome State Fault Refusal :=
  vOp s o.g (fun s =>
    let W := vWidth o.w
    let a := s.vA o.sl o.a o.l W
    let w := tagBits a.2
    let n := W / w
    let m := s.mask0 o.sl
    let d := o.d.toNat
    if o.m then
      let old := elemsOf w n (s.oldBits (!o.sl) d)
      s.writeVMerged (!o.sl) d { bits := BitVec.ofNat 1024 (packElems w ((List.range n).map (fun i =>
        if m.getLsbD i then a.1.getD i 0 else old.getD i 0))), tag := a.2 } 2
    else s.writeV (!o.sl) d { bits := BitVec.ofNat 1024 (packElems w a.1), tag := a.2 } 2)

/-- VSPL and VIOTA: element i from element 0 of operand B (R178). -/
def vSplat (s : State) (o : OpVB1) (ok : Nat → Bool) (f : Nat → Nat → Nat → Nat) : Host.Outcome State Fault Refusal :=
  vOp s o.g (fun s =>
    let W := vWidth o.w
    let r := s.vB o.sl o.b W
    match r.2 with
    | none => r.1
    | some ob =>
      let w := tagBits ob.tag
      let n := W / w
      let t := r.1.warn wLPIGN (o.l != 0)
      if !ok ob.tag then t.fmtop o.sl o.m o.d.toNat w n ob.tag 3
      else t.vput o.sl o.m o.d.toNat w n ob.tag ((List.range n).map (f w (ob.bits % 2 ^ w))) 3)

/-- VSPL. -/
def execVspl (o : OpVB1) (s : State) : Host.Outcome State Fault Refusal := vSplat s o okAll (fun _ b _ => b)
/-- VIOTA. -/
def execViota (o : OpVB1) (s : State) : Host.Outcome State Fault Refusal := vSplat s o okInt (fun w b i => (b + i) % 2 ^ w)

end Sys2Proof.Machine
end

