-- ==== Sys2Proof/Machine/XN.lean ====
section
/-! DEFINITION. The lane crossbar (X slot, R183 to R189) and the bit network (N slot, R190 to R194). -/

namespace Sys2Proof.Machine

/-! ### The X slot -/

/-- The source entries of a pattern register: byte s (R185). -/
def xEntries (p : Line) : List Nat := elemsOf 8 128 p.toNat

/-- Two enabled entries name one destination lane (R186). -/
def collides : List Nat → Bool
  | [] => false
  | e :: t => (decide (128 ≤ e) && t.any (fun f => decide (128 ≤ f) && f % 64 == e % 64)) || collides t

/-- The window of a source: byte lanes 0 to 63 (R183). -/
def State.xWindow (s : State) (b : Bool) (r : BitVec 5) : List Nat := elemsOf 8 64 (s.readV b r.toNat).bits.toNat

/-- Write a window to register D of file DF, with the tag of that file's source (R183). -/
def State.xWrite (s : State) (f : Bool) (d a b : BitVec 5) (lanes : List Nat) : State :=
  let tag := (if f then s.readV true b.toNat else s.readV false a.toNat).tag
  s.writeV f d.toNat { bits := BitVec.ofNat 1024 (packElems 8 (lanes.take 64)), tag := tag } 3

/-- An X or N operation takes effect when its guard holds. -/
def xnOp (s : State) (g : BitVec 4) (n : Bool) (f : State → State) : Host.Outcome State Fault Refusal :=
  .next (if s.guardOn g n then f s else s)

/-- Elements of e bytes as lists of lanes. -/
def chunks (e : Nat) (l : List Nat) (i : Nat) : List Nat := (l.drop (e * i)).take e

/-- XPRM (R188): a true guard waits until the pattern has landed (R187); a collision is then illegal, and with a false
guard at once (R186, R189). -/
def execXprm (o : OpXP) (s : State) : Host.Outcome State Fault Refusal :=
  let en := xEntries (s.readX o.p.toNat)
  if s.guardOn o.g o.n && s.early (kX o.p.toNat) then .next (s.stallOn 8)
  else if collides en then .next (s.raise 6 0x05 (Config.freeW64 s.free 700))
  else
    xnOp s o.g o.n (fun s =>
      let src := s.xWindow false o.a ++ s.xWindow true o.b
      let lane (d : Nat) : Nat :=
        match (List.range 128).find? (fun i => en.getD i 0 == 128 + d || en.getD i 0 == 192 + d) with
        | some i => src.getD i 0
        | none => 0
      s.xWrite o.f o.d o.a o.b ((List.range 64).map lane))

/-- The pattern that XPLD loads: every byte with bit 6 cleared. -/
def xClean (v : Line) : Line := BitVec.ofNat 1024 (packElems 8 ((elemsOf 8 128 v.toNat).map (fun e => e &&& 0xBF)))

/-- XPLD from an a register (R188). -/
def execXpldA (o : OpXL) (s : State) : Host.Outcome State Fault Refusal :=
  xnOp s o.g o.n (fun s => s.writeX o.p.toNat (xClean (s.readV false o.a.toNat).bits) 3)
/-- XPLD from a b register. -/
def execXpldB (o : OpXL) (s : State) : Host.Outcome State Fault Refusal :=
  xnOp s o.g o.n (fun s => s.writeX o.p.toNat (xClean (s.readV true o.a.toNat).bits) 3)

/-- XZIP. -/
def execXzip (o : OpXZ) (s : State) : Host.Outcome State Fault Refusal :=
  xnOp s o.g o.n (fun s =>
    let e := 2 ^ o.e.toNat
    let h := if o.h then 32 / e else 0
    let a := s.xWindow false o.a
    let b := s.xWindow true o.b
    s.xWrite o.f o.d o.a o.b ((List.range (32 / e)).flatMap (fun i => chunks e a (h + i) ++ chunks e b (h + i))))

/-- XUZP. -/
def execXuzp (o : OpXZ) (s : State) : Host.Outcome State Fault Refusal :=
  xnOp s o.g o.n (fun s =>
    let e := 2 ^ o.e.toNat
    let c := s.xWindow false o.a ++ s.xWindow true o.b
    s.xWrite o.f o.d o.a o.b ((List.range (64 / e)).flatMap (fun j => chunks e c (2 * j + (if o.h then 1 else 0)))))

/-- Bit j of the selector b(SB) (R4, R188), from its bytes. -/
def selBit (b : List Nat) (j : Nat) : Bool := bitOf (j % 8) (b.getD (j / 8) 0)

/-- XCMP: the selected elements packed from element 0. -/
def execXcmp (o : OpXC) (s : State) : Host.Outcome State Fault Refusal :=
  xnOp s o.g o.n (fun s =>
    let e := 2 ^ o.e.toNat
    let a := s.xWindow false o.a
    let b := s.xWindow true o.b
    s.xWrite o.f o.d o.a o.b (((List.range (64 / e)).filter (selBit b)).flatMap (chunks e a)))

/-- XEXP: packed elements spread to the selected places. -/
def execXexp (o : OpXC) (s : State) : Host.Outcome State Fault Refusal :=
  xnOp s o.g o.n (fun s =>
    let e := 2 ^ o.e.toNat
    let a := s.xWindow false o.a
    let b := s.xWindow true o.b
    s.xWrite o.f o.d o.a o.b ((List.range (64 / e)).flatMap (fun j =>
      if selBit b j then chunks e a ((List.range j).filter (selBit b)).length else List.replicate e 0)))

/-! ### The N slot -/

/-- The 128-bit pair k (R190). -/
def State.nPair (s : State) (k : BitVec 3) : Nat :=
  (s.readY (2 * k.toNat)).toNat + 2 ^ 64 * (s.readY (2 * k.toNat + 1)).toNat

/-- The routed bits of a pair (R191, R193). -/
def route (pair pat : Nat) : List Bool :=
  (elemsOf 8 64 pat).map (fun e => decide (128 ≤ e) && bitOf (e % 128) pair)

/-- The 64-bit word of a list of bits. -/
def wordOf (l : List Bool) : W64 := BitVec.ofNat 64 (packElems 1 (l.map (fun b => if b then 1 else 0)))

/-- The XOR of group i of 2^g bits. -/
def foldGroup (t : List Bool) (g i : Nat) : Bool := ((t.drop (i * 2 ^ g)).take (2 ^ g)).foldl (fun a b => a != b) false

/-- Wait for a routing pattern that is still being written (R192). -/
def State.withW (s : State) (p : BitVec 3) (f : State → State) : State := if s.early (kW p.toNat) then s.stallOn 8 else f s

/-- NMAP. -/
def execNmap (o : OpNM) (s : State) : Host.Outcome State Fault Refusal :=
  xnOp s o.g o.n (fun s => s.withW o.p (fun s =>
    s.writeY o.d.toNat (wordOf (route (s.nPair o.k) (s.readW o.p.toNat).toNat)) 2))

/-- NMAPX. -/
def execNmapx (o : OpNMx) (s : State) : Host.Outcome State Fault Refusal :=
  xnOp s o.g o.n (fun s => s.withW o.p (fun s =>
    let t := route (s.nPair o.k) (s.readW o.p.toNat).toNat
    s.writeY o.d.toNat (wordOf ((List.range (64 / 2 ^ o.c.toNat)).map (foldGroup t o.c.toNat))) 2))

/-- NPLD. -/
def execNpld (o : OpNP) (s : State) : Host.Outcome State Fault Refusal :=
  xnOp s o.g o.n (fun s =>
    let b := if o.s then 8 else 0
    s.writeW o.p.toNat (BitVec.ofNat 512 (packElems 64 ((List.range 8).map (fun i => (s.readY (b + i)).toNat)))) 2)

/-- The y register that PB and AUX[0] name. -/
def ySrc (k : BitVec 3) (b : Bool) : Nat := 2 * k.toNat + (if b then 1 else 0)

/-- NMOV. -/
def execNmov (o : OpNV) (s : State) : Host.Outcome State Fault Refusal :=
  xnOp s o.g o.n (fun s => s.writeY o.d.toNat (s.readY (ySrc o.k o.s)) 2)

/-- NXS. -/
def execNxs (o : OpNX) (s : State) : Host.Outcome State Fault Refusal :=
  xnOp s o.g o.n (fun s => s.writeS o.d.toNat (s.readY (ySrc o.k o.s)) 1)

/-- NLI. -/
def execNli (o : OpNL) (s : State) : Host.Outcome State Fault Refusal :=
  xnOp s o.g o.n (fun s => s.writeY o.d.toNat (BitVec.ofNat 64 (o.i.toNat * 2 ^ (8 * o.b.toNat))) 2)

end Sys2Proof.Machine
end

