-- ==== Sys2Proof/Machine/Tiles.lean ====
section
/-! DEFINITION. Tiles in ring slots: headers, layouts, sparsity, e2m1 blocks (R206 to R211), the accumulator modes (R96,
R105 to R107), implicit convolution (R227), and rings (R203, R204, R535). -/

namespace Sys2Proof.Machine

/-! ### Tile headers and layouts -/

/-- One step of CRC-16 with polynomial 0x1021, most significant bit first (R206). -/
def crc16Byte (c b : Nat) : Nat :=
  (List.range 8).foldl (fun c i =>
    let top := bitOf 15 c != bitOf (7 - i) b
    let c' := c * 2 % 2 ^ 16
    if top then c' ^^^ 0x1021 else c') c

/-- The CHECK of a tile header over its bytes 0 to 11. -/
def tileCheck (b : List Nat) : Nat := (b.take 12).foldl crc16Byte 0xFFFF

/-- The 16 bytes of a tile header. -/
def tileHeader (tag rows cols sstr aux : Nat) : List Nat :=
  let b := toLe 2 tag ++ toLe 2 rows ++ toLe 2 cols ++ toLe 2 sstr ++ toLe 4 aux
  b ++ toLe 2 (tileCheck b) ++ [0, 0]

/-- FMT of a tag (R207). -/
def tagFmt (t : Nat) : Nat := t % 16
/-- SPARSE of a tag. -/
def tagSparse (t : Nat) : Nat := bitsOf 5 4 t
/-- LAYOUT of a tag. -/
def tagLayout (t : Nat) : Nat := bitsOf 7 6 t

/-- The index of element (r, c) of a dense tile (R209). -/
def layoutIndex (lay rows cols r c : Nat) : Nat :=
  match lay with
  | 1 => c * rows + r
  | 2 => (r / 32 * ceilDiv cols 32 + c / 32) * 1024 + r % 32 * 32 + c % 32
  | _ => r * cols + c

/-- The elements that a tile of a tag stores (R209, R211). -/
def storedElems (tag rows cols : Nat) : Nat :=
  let cols' := match tagSparse tag with | 1 => cols / 2 | 2 => cols / 4 | _ => cols
  if tagLayout tag = 2 then ceilDiv rows 32 * ceilDiv cols' 32 * 1024 else rows * cols'

/-- The size in bytes of a tile's data. -/
def tileDataBytes (tag rows cols : Nat) : Nat := ceilDiv (storedElems tag rows cols * tagBits (tagFmt tag)) 8

/-- A tile as an engine sees it: the bytes of its slot, the slot's size, the tag in force, and its header. -/
structure TileV where
  rd : Nat → Nat
  size : Nat
  tag : Nat
  rows : Nat
  cols : Nat
  sstr : Nat
  aux : Nat

/-- The view of slot bytes under a tag. -/
def TileV.ofBytes (rd : Nat → Nat) (size tag : Nat) : TileV :=
  { rd := rd, size := size, tag := tag, rows := rd 2 + 256 * rd 3, cols := rd 4 + 256 * rd 5, sstr := rd 6 + 256 * rd 7,
    aux := rd 8 + 256 * rd 9 + 65536 * rd 10 + 16777216 * rd 11 }

/-- A byte of the slot; beyond its end zero, which R209 states for data, and which the model takes for scale and index bytes
too (log entry 106). -/
def TileV.byte (t : TileV) (o : Nat) : Nat := if o < t.size then t.rd o else 0

/-- Element e of the data area: none beyond the end of the slot (R209). -/
def TileV.raw (t : TileV) (e : Nat) : Option Nat :=
  let w := tagBits (tagFmt t.tag)
  if 8 * t.size < 1024 + w * (e + 1) then none
  else if w = 4 then some (t.byte (128 + e / 2) / 16 ^ (e % 2) % 16)
  else some (ofLe ((List.range (w / 8)).map (fun i => t.byte (128 + e * (w / 8) + i))))

/-- A bit of the sparsity index area, which begins 128 x AUX bytes after the data. -/
def TileV.indexBits (t : TileV) (byteNo lo n : Nat) : Nat := t.byte (128 + 128 * t.aux + byteNo) / 2 ^ lo % 2 ^ n

/-- The metadata halfword of an e2m1 block (R210). -/
def TileV.halfword (t : TileV) (i : Nat) : Nat :=
  t.byte (128 + 128 * t.sstr + 2 * i) + 256 * t.byte (128 + 128 * t.sstr + 2 * i + 1)

/-- The place of logical element (i, k) among the stored elements of a sparse tile: its row and stored column, none when
it is +0 (R211). -/
def TileV.keptCol (t : TileV) (i k : Nat) : Option Nat :=
  match tagSparse t.tag with
  | 1 =>
    let g := k / 4
    let nib := t.indexBits (i * (t.cols / 8) + g / 2) (4 * (g % 2)) 4
    let p0 := nib % 4
    let p1 := nib / 4
    if p1 ≤ p0 then none else if k % 4 = p0 then some (2 * g) else if k % 4 = p1 then some (2 * g + 1) else none
  | 2 =>
    let g := k / 4
    let p := t.indexBits (i * (t.cols / 16) + g / 4) (2 * (g % 4)) 2
    if k % 4 = p then some g else none
  | 3 => if t.indexBits (8 * (i * (t.cols / 64)) + k / 8) (k % 8) 1 = 1 then some k else none
  | _ => some k

/-- The stored column count. -/
def TileV.storedCols (t : TileV) : Nat := match tagSparse t.tag with | 1 => t.cols / 2 | 2 => t.cols / 4 | _ => t.cols

/-- The value of element (r, c), decoded exactly; `b` reads it as operand B, whose blocks run down its columns (R210,
R211). -/
def TileV.num (t : TileV) (b : Bool) (r c : Nat) : Num :=
  match (if tagSparse t.tag = 0 then some c else t.keptCol r c) with
  | none => .fin false 0 0
  | some c' =>
    match t.raw (layoutIndex (tagLayout t.tag) t.rows t.storedCols r c') with
    | none => .fin false 0 0
    | some v =>
      let f := tagFmt t.tag
      if f = 12 then
        e2m1Value (t.halfword (if b then c * ceilDiv t.rows 32 + r / 32 else r * ceilDiv t.cols 32 + c / 32)) v
      else numOf f v

/-- A decoded value in another format: t8 gives e4m3 its canonical NaN for NEV (R93, R104). -/
def encFrom (src dst : Nat) (mode : RMode) (x : Num) : Nat :=
  if src = 14 ∧ dst = 10 ∧ x = .inf false then e4m3.cnan
  else if isFloatTag dst then (floatFmt dst).round mode x
  else if dst = 14 then toT8 mode x else toIntTag mode dst x

/-- Put an element of w bits at index e of a data area held as bytes. -/
def putElem (d : List Nat) (w e v : Nat) : List Nat :=
  if w = 4 then
    let o := d.getD (e / 2) 0
    patch d (e / 2) [if e % 2 = 0 then o / 16 * 16 + v % 16 else o % 16 + v % 16 * 16]
  else patch d (e * (w / 8)) (toLe (w / 8) v)

/-- Build the bytes of a dense tile from its values, in ascending row and column: header, 112 unused bytes as they stand
(`keep`), data, and the scale area of an e2m1 tile, whose blocks run along the columns of a row or down a column
(R206, R209, R210, R220, R232). Each element has a rounding mode. -/
def buildTile (tag rows cols : Nat) (src : Nat) (keep : List Nat) (down : Bool) (mode : Nat → RMode) (val : Nat → Nat → Num) : List Nat :=
  let f := tagFmt tag
  let w := tagBits f
  let n := tileDataBytes tag rows cols
  let sstr := if f = 12 then ceilDiv n 128 else 0
  let zero := List.replicate n 0
  let idx (r c : Nat) : Nat := layoutIndex (tagLayout tag) rows cols r c
  let cells := (List.range rows).flatMap (fun r => (List.range cols).map (fun c => (r, c)))
  if f = 12 then
    let blocks : List (Nat × Nat) := if down then
        (List.range cols).flatMap (fun c => (List.range (ceilDiv rows 32)).map (fun b => (b, c)))
      else (List.range rows).flatMap (fun r => (List.range (ceilDiv cols 32)).map (fun b => (r, b)))
    let at32 (p : Nat × Nat) (i : Nat) : Nat × Nat := if down then (32 * p.1 + i, p.2) else (p.1, 32 * p.2 + i)
    let q (p : Nat × Nat) : List Nat × Nat := quantBlock ((List.range 32).map (fun i =>
      let rc := at32 p i
      if rc.1 < rows ∧ rc.2 < cols then val rc.1 rc.2 else .fin false 0 0))
    let step (acc : List Nat × List Nat) (p : Nat × Nat) : List Nat × List Nat :=
      let b := q p
      ((List.range 32).foldl (fun d i =>
          let rc := at32 p i
          if rc.1 < rows ∧ rc.2 < cols then putElem d 4 (idx rc.1 rc.2) (b.1.getD i 0) else d) acc.1,
        acc.2 ++ toLe 2 b.2)
    let r := blocks.foldl step (zero, [])
    tileHeader tag rows cols sstr 0 ++ keep ++ (r.1 ++ List.replicate (128 * sstr - n) 0) ++ r.2
  else
    let d := (cells.foldl (fun (acc : List Nat × Nat) p =>
      (putElem acc.1 w (idx p.1 p.2) (encFrom src f (mode acc.2) (val p.1 p.2)), acc.2 + 1)) (zero, 0)).1
    tileHeader tag rows cols sstr 0 ++ keep ++ d

/-! ### Accumulator cells (R96, R105 to R107) -/

/-- The value of a cell in a mode: 0 F32, 1 X48, 2 I48, 3 N16. -/
def cellNum (mode c : Nat) : Num :=
  match mode with
  | 0 => f32.decode (c % 2 ^ 32)
  | 1 => x48.decode (c % 2 ^ 48)
  | 2 => Num.ofInt (signedOf 48 c)
  | _ => bf16.decode (c % 2 ^ 16)

/-- A magnitude of a float is infinite. -/
def Num.isInf : Num → Bool
  | .inf _ => true
  | _ => false

/-- Round a value to a cell, with the flags that it sets: bit 0 ZINF, bit 1 ZSAT, bit 2 ZNAN (R105, R106). An infinity that an I48
cell takes as its extreme value counts as saturated (DESIGN CHOICE, log entry 123). -/
def roundCell (mode : Nat) (x : Num) : Nat × Nat :=
  match mode with
  | 2 =>
    match x with
    | .nan => (0, 4)
    | .inf s => (patOf 48 (if s then -(2 ^ 47 : Int) else 2 ^ 47 - 1), 2)
    | .fin s m e =>
      let v := roundInt .rne s m e
      let c := if v < -(2 ^ 47 : Int) then -(2 ^ 47 : Int) else if 2 ^ 47 - 1 < v then 2 ^ 47 - 1 else v
      (patOf 48 c, if c = v then 0 else 2)
  | 3 =>
    let b := bf16.round .rne x
    if x.isNan then (b, 4)
    else if b % 2 ^ 15 = bf16.infMag then (bf16.signBit x.sign + bf16.maxMag, 2) else (b, 0)
  | m =>
    let f := if m = 1 then x48 else f32
    let b := f.round .rne x
    (b, if x.isNan then 4 else if b % 2 ^ (f.width - 1) = f.infMag && !x.isInf then 1 else 0)

/-- A value is an exact zero. -/
def Num.isZero : Num → Bool
  | .fin _ m _ => m == 0
  | _ => false

/-- The state of a cell within one command: its bits (none before the first block of an overwrite), whether everything
so far was -0, and the flags set. -/
structure CellAcc where
  bits : Option Nat
  neg : Bool
  flags : Nat
  deriving DecidableEq, Repr

/-- Add one block of products to a cell (R105 to R107). -/
def addBlock (mode : Nat) (a : CellAcc) (prods : List Num) : CellAcc :=
  let sum := match prods with
    | [] => Num.fin false 0 0
    | x :: r => r.foldl (Num.add .rne) x
  let neg := a.neg && prods.all (fun p => p.isZero && p.sign)
  let exact := match a.bits with
    | none => sum
    | some b => Num.add .rne (cellNum mode b) sum
  let exact := if exact.isZero then .fin neg 0 0 else exact
  let r := roundCell mode exact
  let was := match a.bits with | some b => mode != 2 && (cellNum mode b).isNan | none => false
  { bits := some r.1, neg := neg, flags := a.flags ||| (if was then r.2 &&& 3 else r.2) }

/-- One cell over the blocks lo to hi - 1 of a row of A and a column of B; `neg` says that everything summed so far was −0
(R107). -/
def cellResult (mode lo hi : Nat) (start : Option Nat) (neg : Bool) (row col : Nat → Num) : CellAcc :=
  ((List.range hi).drop lo).foldl (fun a blk =>
    addBlock mode a ((List.range 32).map (fun t => (row (32 * blk + t)).mul (col (32 * blk + t)))))
    { bits := start, neg := neg, flags := 0 }

/-! ### Implicit convolution (R226, R227) -/

/-- A field of a shape record. -/
def shp (r : List Nat) (o n : Nat) : Nat := ofLe ((r.drop o).take n)

/-- A record keeps the limits of R226. -/
def shapeOk (r : List Nat) : Bool :=
  shp r 0 2 != 0 && shp r 2 2 != 0 && shp r 4 2 != 0 && shp r 6 1 != 0 && shp r 7 1 != 0 && shp r 8 1 != 0 && shp r 9 1 != 0 &&
  shp r 10 1 != 0 && shp r 11 1 != 0 && (r.drop 18).all (fun b => b == 0)

/-- An output dimension: size in, pads, dilation, kernel, stride. -/
def outDim (n p q d k st : Nat) : Nat := if d * (k - 1) + 1 ≤ n + p + q then (n + p + q - d * (k - 1) - 1) / st + 1 else 0

/-- Where MCONV finds element (i, k) of operand A: outside the output (none), in the padding (some none), or at a row and
column of the source tile, whose rows are H and whose columns W x C. -/
def convPlace (aux : Nat) (r : List Nat) (i k : Nat) : Option (Option (Nat × Nat)) :=
  let H := shp r 0 2
  let W := shp r 2 2
  let C := shp r 4 2
  let KH := shp r 6 1
  let KW := shp r 7 1
  let SH := shp r 8 1
  let SW := shp r 9 1
  let DH := shp r 10 1
  let DW := shp r 11 1
  let PT := shp r 12 1
  let PB := shp r 13 1
  let PL := shp r 14 1
  let PR := shp r 15 1
  let oh := outDim H PT PB DH KH SH
  let ow := outDim W PL PR DW KW SW
  let m := aux + i
  if oh * ow ≤ m ∨ KH * KW * C ≤ k then none
  else
    let iy := m / ow * SH + k / (KW * C) * DH
    let ix := m % ow * SW + k / C % KW * DW
    some (if PT ≤ iy ∧ iy < H + PT ∧ PL ≤ ix ∧ ix < W + PL then some (iy - PT, (ix - PL) * C + k % C) else none)

/-- The source tile of MCONV as its shape record lays it out. -/
def convView (t : TileV) (r : List Nat) : TileV := { t with rows := shp r 0 2, cols := shp r 2 2 * shp r 4 2 }

/-- Element (i, k) of operand A as MCONV builds it. -/
def convA (t : TileV) (r : List Nat) (i k : Nat) : Num :=
  match convPlace t.aux r i k with
  | none => .fin false 0 0
  | some none => numOf (tagFmt t.tag) (shp r 16 2 % 2 ^ tagBits (tagFmt t.tag))
  | some (some p) => (convView t r).num false p.1 p.2

/-! ### Rings (R203, R204, R535) -/

/-- The bytes of a ring lie in one scratchpad window (R203). -/
def State.ringValid (s : State) (n : Nat) (r : Ring) : Bool :=
  let len := r.slots * r.slotb * 128
  decide (2 ≤ r.slots) && decide (r.slots ≤ 64) && decide (1 ≤ r.slotb) && inAperture r.base && inAperture (r.base + len - 1) &&
  match s.aperture n r.base, s.aperture n (r.base + len - 1) with
  | some (.spad c o), some (.spad c' o') => c == c' && o' == o + len - 1 &&
      (decide (r.base < 0xFF0100000000) == decide (r.base + len - 1 < 0xFF0100000000))
  | _, _ => false

/-- The address of a slot. -/
def Ring.slotAddr (r : Ring) (i : Nat) : Nat := r.base + i * r.slotb * 128

/-- The place of a command in issue order: its bundle, then its slot (R303). -/
def orderKey (seqNo slot : Nat) : Nat := 8 * seqNo + slot

/-- The unpublished pops (or pushes) of ring n: order key and number (R204). Those of a command that was issued before the
last write to NPTR move no position any more, and do not count (R202); nor do those of a command that has moved the ring
already, or that an error keeps from moving it. -/
def Core.ringOps (k : Core) (n : Nat) (push : Bool) : List (Nat × Nat) :=
  let ep := (k.sync.rings.get {} n).ep
  let m := (k.mq.filter (fun c => c.err.isNone)).flatMap (fun c =>
    let q := orderKey c.seqNo 3
    let two := c.op == 0x01 || c.op == 0x02 || c.op == 0x03
    let onA := c.ra == n && c.ringA.ep == ep
    let onC := two && c.conv != 0 && c.cring == n && c.ringC.ep == ep
    if push then (if (c.op == 0x06 && onA) || onC then [(q, 1)] else [])
    else
      (if two && onA then [(q, 1)] else []) ++ (if two && c.rb == n && c.ringB.ep == ep then [(q, 1)] else []) ++
      (if onC then [(q, 1)] else []) ++
      (if c.op == 0x05 && onA then [(q, 1)] else []) ++ (if c.op == 0x08 && onA then [(q, c.kb)] else []))
  let cp (slot : Nat) (l : List CCmd) : List (Nat × Nat) :=
    (l.filter (fun c => c.res.isNone && c.f == n && c.ring.ep == ep && c.op == (if push then 0x03 else 0x04))).map (fun c => (orderKey c.seqNo slot, 1))
  let t := (k.tq.filter (fun c => c.ra == n && c.ring.ep == ep && (if push then c.op == 0x14 else c.op == 0x12 || (c.op == 0x13 && !c.src)))).map
    (fun c => (orderKey c.seqNo 3, 1))
  m ++ cp 4 k.cqa ++ cp 5 k.cqb ++ t

/-- Unpublished pops (or pushes) of ring n that are older than a place in issue order. -/
def Core.olderOps (k : Core) (n : Nat) (push : Bool) (q : Nat) : Nat :=
  ((k.ringOps n push).filter (fun p => decide (p.1 < q))).foldl (fun a p => a + p.2) 0

/-- The slot that a command's pop takes, `skip` pops after its first: none while the tile has not been published (R204,
R535). -/
def Core.popSlot (k : Core) (n q skip : Nat) : Option Nat :=
  let r := k.sync.rings.get {} n
  let o := k.olderOps n false q + skip
  if o < r.count then some ((r.head + o) % r.slots) else none

/-- The slot that a command's push fills: none while the ring is full of tiles whose pops are not published. -/
def Core.pushSlot (k : Core) (n q : Nat) : Option Nat :=
  let r := k.sync.rings.get {} n
  let o := k.olderOps n true q
  if r.count + o < r.slots then some ((r.tail + o) % r.slots) else none

/-- Publish pops or pushes of ring n: only positions that no later write to NPTR has replaced move. -/
def State.ringMove (s : State) (core n ep pops pushes : Nat) : State :=
  s.mapSync core (fun y =>
    let r := y.rings.get {} n
    if r.ep ≠ ep then y
    else { y with rings := y.rings.set n { r with
      head := (r.head + pops) % max 1 r.slots, tail := (r.tail + pushes) % max 1 r.slots, count := r.count + pushes - pops } })

/-- The tile in a slot of a ring as an engine reads it, under a tag. -/
def State.tileAt (s : State) (core : Nat) (r : Ring) (slot tag : Nat) : TileV :=
  match s.aperture core (r.slotAddr slot) with
  | some (.spad c o) => TileV.ofBytes (fun i => s.spadGet c (o + i)) (r.slotb * 128) tag
  | _ => TileV.ofBytes (fun _ => 0) (r.slotb * 128) tag

/-- The offsets in the slot of the bytes that give element (r, c): its sparsity index, its code, its scale (R209 to R211). -/
def TileV.elemOffs (t : TileV) (b : Bool) (r c : Nat) : List Nat :=
  let w := tagBits (tagFmt t.tag)
  let index : List Nat := match tagSparse t.tag with
    | 1 => [r * (t.cols / 8) + c / 8]
    | 2 => [r * (t.cols / 16) + c / 16]
    | 3 => [8 * (r * (t.cols / 64)) + c / 8]
    | _ => []
  let data : List Nat := match (if tagSparse t.tag = 0 then some c else t.keptCol r c) with
    | none => []
    | some c' =>
      let e := layoutIndex (tagLayout t.tag) t.rows t.storedCols r c'
      if w = 4 then
        let h := 128 + 128 * t.sstr + 2 * (if b then c * ceilDiv t.rows 32 + r / 32 else r * ceilDiv t.cols 32 + c / 32)
        [128 + e / 2, h, h + 1]
      else (List.range (w / 8)).map (fun i => 128 + e * (w / 8) + i)
  index.map (fun i => 128 + 128 * t.aux + i) ++ data

/-- The offsets of the bytes that give some elements. -/
def TileV.offs (t : TileV) (b : Bool) (cells : List (Nat × Nat)) : List Nat := cells.flatMap (fun p => t.elemOffs b p.1 p.2)

/-- The first byte with an uncorrectable error among those that an engine reads of a tile: its header, and the bytes at some
offsets in the slot (R224, R283). -/
def State.tileBad (s : State) (core : Nat) (r : Ring) (slot : Nat) (t : TileV) (reads : List Nat) : Option Nat :=
  match s.aperture core (r.slotAddr slot) with
  | some (.spad c o) =>
    let bad := (s.coreAt c).badWords
    if bad.isEmpty then none
    else
      ((List.range 16 ++ reads).filter (fun i => decide (i < t.size) && bad.contains ((o + i) / 8))).foldl
        (fun m i => some (match m with | some x => min x i | none => i)) none
  | _ => none

end Sys2Proof.Machine
end

