-- ==== Sys2Proof/Machine/Matrix.lean ====
section
/-! DEFINITION. The M slot at issue: method dispatch (R212 to R219), the matrix commands (R228 to R236). -/

namespace Sys2Proof.Machine

/-! ### Routines (R216) -/

/-- The formats that a routine takes on each operand. -/
def routFmts (rout : Nat) : List Nat :=
  match rout with
  | 0 => [12] | 1 => [10, 11] | 2 => [0, 1] | 3 => [7, 8] | 4 => [9] | 5 => [12] | 6 => [10, 11] | 7 => [0, 1] | 8 => [7, 8] | _ => []

/-- The sparsities that a routine takes on operand A. -/
def routSparse (rout : Nat) : List Nat := if rout < 4 then [0, 3] else if rout = 4 then [0] else [1, 2]

/-- The layouts that a routine takes on operand A, for MCONV or not. -/
def routLayouts (rout : Nat) (conv : Bool) : List Nat :=
  if rout = 0 ∨ rout = 5 then (if conv then [] else [0, 2])
  else if conv then (if 1 ≤ rout ∧ rout ≤ 3 then [3] else [])
  else [0, 1, 2]

/-- The modes of ZD that a routine takes: 0 F32, 1 X48, 2 I48, 3 N16. -/
def routModes (rout : Nat) : List Nat := if rout = 2 ∨ rout = 7 then [2] else if rout = 4 then [0, 1] else [0, 1, 3]

/-- The time of one block in cycles, by the sparsity of A. -/
def routCycles (rout sparse : Nat) : Nat :=
  let two := sparse == 1
  match rout with
  | 0 => 32 | 1 => 64 | 2 => 64 | 3 => 128 | 4 => 512
  | 5 => if two then 16 else 8
  | 8 => if two then 64 else 32
  | _ => if two then 32 else 16

/-- Why a routine refuses an operation: subcodes 3, 4, 5 of R217. In reduced service DE2, DI8, DF32, SE2 and SI8 refuse every
one (R503). -/
def routRefuses (reduced : Bool) (rout : Nat) (conv : Bool) (ta tb mode : Nat) : Option Nat :=
  if reduced && [0, 2, 4, 5, 7].contains rout then some 3
  else if !(routFmts rout).contains (tagFmt ta) || !(routFmts rout).contains (tagFmt tb) then some 3
  else if !(routSparse rout).contains (tagSparse ta) || tagSparse tb != 0 || !(routLayouts rout conv).contains (tagLayout ta) ||
      tagLayout tb == 3 || ((rout == 0 || rout == 5) && tagLayout tb != 1) then some 4
  else if !(routModes rout).contains mode then some 5
  else none

/-! ### The method table (R213, R214) -/

/-- The two words of entry e of the active plane's table. -/
def Core.method (k : Core) (e : Nat) : Nat × Nat := (ofLe (k.planeBytes (16 * e) 8), ofLe (k.planeBytes (16 * e + 8) 8))

/-- An entry matches a key. -/
def methodMatches (w : Nat × Nat) (kind ta tb mode : Nat) : Bool :=
  bitOf 8 w.2 && (ta &&& bitsOf 31 16 w.1) == bitsOf 15 0 w.1 && (tb &&& bitsOf 63 48 w.1) == bitsOf 47 32 w.1 &&
  bitOf kind w.2 && bitOf (4 + mode) w.2

/-- The result of dispatch: routine, conversion (0 none, 1 A, 2 B), target tag and ring, or the subcode and entry of
NOMETHOD. -/
def Core.dispatch (k : Core) (reduced : Bool) (kind ta tb mode ra rb : Nat) : Except (Nat × Nat) (Nat × Nat × Nat × Nat × Nat) :=
  match (List.range 64).find? (fun e => methodMatches (k.method e) kind ta tb mode) with
  | none => .error (0, 64)
  | some e =>
    let w := (k.method e).2
    let act := bitsOf 10 9 w
    let rout := bitsOf 15 12 w
    let ring := bitsOf 19 16 w
    let ctag := bitsOf 31 20 w
    let conv := act - 1
    let src := if conv = 1 then ta else tb
    if act = 0 then .error (1, e)
    else if 9 ≤ rout then .error (2, e)
    else if conv ≠ 0 ∧ (ring = ra ∨ ring = rb ∨ tagSparse ctag ≠ 0 ∨ tagLayout ctag = 3) then .error (6, e)
    else if conv ≠ 0 ∧ (tagFmt ctag = 13 ∨ tagFmt ctag = 14 ∨ tagLayout src = 3) then .error (7, e)
    else match routRefuses reduced rout (kind == 2) (if conv = 1 then ctag else ta) (if conv = 2 then ctag else tb) mode with
      | some sub => .error (sub, e)
      | none => .ok (e, rout, conv, ctag, ring)

/-! ### Issue -/

/-- Wait for a busy tile, behind an implicit checkpoint (R198, R199). -/
def State.whenFree (s : State) (t : Nat) (f : State → State) : State :=
  if s.core.tileBusy t then s.stallOn (if s.core.ckptHere then 6 else rowCkpt) else f s

/-- A named ring is valid, or RINGDESC is raised by a slot with the ring's number (R203). -/
def State.ringCheck (s : State) (slot n : Nat) (f : State → State) : State :=
  if s.ringValid s.focus (s.pre.rings.get {} n) then f s else s.raise slot 0x61 (BitVec.ofNat 64 n)

/-- An empty command of the matrix engine issued by the present bundle. -/
def State.mBase (s : State) (op : Nat) : MCmd :=
  { op := op, zd := 0, ra := 0, rb := 0, kb := 0, acc := false, shp := 0, rm := 0, zmode := 0, tagA := 0, tagB := 0, rout := 0, conv := 0,
    ctag := 0, cring := 0, rng := 0, seqNo := s.core.seqNo, issued := s.cx.addr, ready := s.now + 1 }

/-- Queue a command on the matrix engine (R222, R303). -/
def State.mIssue (s : State) (c : MCmd) : State := s.modCore (fun k => { k with mq := k.mq ++ [c] })

/-- A lookup of the method cache (R218): whether it hits, and the cache after it. -/
def cacheLookup (c : List (Nat × Nat × Nat × Nat × Nat)) (key : Nat × Nat × Nat × Nat) (e : Nat) :
    Bool × List (Nat × Nat × Nat × Nat × Nat) :=
  let new := (key.1, key.2.1, key.2.2.1, key.2.2.2, e)
  let rest := c.filter (fun x => !(x.1 == key.1 && x.2.1 == key.2.1 && x.2.2.1 == key.2.2.1 && x.2.2.2.1 == key.2.2.2))
  (decide (rest.length < c.length), (rest ++ [new]).drop (rest.length + 1 - 16))

/-- The M word of a tile instruction (R33). -/
def mmWord (o : OpMM) (op : Nat) : Nat :=
  op * 2 ^ 56 + o.g.toNat * 2 ^ 52 + b2n o.n * 2 ^ 51 + o.zd.toNat * 2 ^ 48 + o.ra.toNat * 2 ^ 41 + o.rb.toNat * 2 ^ 37 +
    o.shp.toNat * 2 ^ 32 + o.kb.toNat * 2 ^ 24 + b2n o.acc * 2 ^ 23

/-- MMA, MMAZ and MCONV (R229): dispatch and queue. Of several causes RINGDESC comes first, RA before RB, then SHAPEFLT, then
NOMETHOD, then RINGDESC of CRING (log entry 107). -/
def mmaOp (s : State) (o : OpMM) (op kind : Nat) : Host.Outcome State Fault Refusal :=
  xnOp s o.g o.n (fun s => s.whenFree o.zd.toNat (fun s =>
    s.ringCheck 3 o.ra.toNat (fun s => s.ringCheck 3 o.rb.toNat (fun s =>
      let k := s.core
      let ringA := s.pre.rings.get {} o.ra.toNat
      let ringB := s.pre.rings.get {} o.rb.toNat
      let mode := k.tileStat s.pre o.zd.toNat % 4
      let rec_ := k.planeBytes (0x400 + 32 * o.shp.toNat) 32
      if kind = 2 && !shapeOk rec_ then s.raise 3 0x62 (BitVec.ofNat 64 o.shp.toNat)
      else match k.dispatch (s.plat.stage == 2) kind ringA.tag ringB.tag mode o.ra.toNat o.rb.toNat with
        | .error (sub, e) => s.raise 3 0x20 (BitVec.ofNat 64 (sub + 256 * e))
        | .ok (e, rout, conv, ctag, cring) =>
          let go (s : State) : State :=
            let l := cacheLookup k.mcache (kind, ringA.tag, ringB.tag, mode) e
            let hit := k.mcen && l.1
            let t := (if hit then s else s.count 38 1).modCore (fun k => { k with mcache := if k.mcen then l.2 else k.mcache })
            (t.mIssue { s.mBase op with
              zd := o.zd.toNat, ra := o.ra.toNat, rb := o.rb.toNat, kb := max 1 o.kb.toNat, acc := o.acc, shp := o.shp.toNat, zmode := mode
              tagA := ringA.tag, tagB := ringB.tag, rout := rout, conv := conv, ctag := ctag, cring := cring
              ready := s.now + 1 + (if hit then 0 else 4)
              ringA := ringA, ringB := ringB, ringC := s.pre.rings.get {} cring, shape := rec_, word := mmWord o op }).warn wKZERO (o.kb == 0)
          if conv = 0 then go s else s.ringCheck 3 cring go))))

/-- MMA. -/
def execMma (o : OpMM) (s : State) : Host.Outcome State Fault Refusal := mmaOp s o 0x01 0
/-- MMAZ. -/
def execMmaz (o : OpMM) (s : State) : Host.Outcome State Fault Refusal := mmaOp s o 0x02 1
/-- MCONV. -/
def execMconv (o : OpMM) (s : State) : Host.Outcome State Fault Refusal := mmaOp s o 0x03 2

/-- MZERO (R230). -/
def execMzero (o : OpMZ) (s : State) : Host.Outcome State Fault Refusal :=
  xnOp s o.g o.n (fun s => s.whenFree o.zd.toNat (fun s =>
    s.mIssue { s.mBase 0x04 with zd := o.zd.toNat, zmode := o.zm.toNat }))

/-- A tag that MLDZ loads as zero bits and MSTZ writes as zero bytes (R231, R232). -/
def tagVoid (t : Nat) (sparse : Bool) : Bool := tagFmt t == 13 || tagLayout t == 3 || (sparse && tagSparse t != 0)

/-- MLDZ (R231). -/
def execMldz (o : OpML) (s : State) : Host.Outcome State Fault Refusal :=
  xnOp s o.g o.n (fun s => s.whenFree o.zd.toNat (fun s => s.ringCheck 3 o.ra.toNat (fun s =>
    let r := s.pre.rings.get {} o.ra.toNat
    (s.mIssue { s.mBase 0x05 with
      zd := o.zd.toNat, ra := o.ra.toNat, tagA := r.tag, ringA := r, zmode := s.core.tileStat s.pre o.zd.toNat % 4 }).warn
      wFMTOP (tagVoid r.tag false))))

/-- MSTZ (R232): stochastic rounding takes its 4,096 steps at issue (R102), from an I48 tile too, where R46 names no fallback
(log entry 103). -/
def execMstz (o : OpMS) (s : State) : Host.Outcome State Fault Refusal :=
  xnOp s o.g o.n (fun s => s.whenFree o.zs.toNat (fun s => s.ringCheck 3 o.ra.toNat (fun s =>
    let r := s.pre.rings.get {} o.ra.toNat
    let rm := o.rm.toNat
    let void := tagVoid r.tag true
    let quant := !void && tagFmt r.tag == 12
    let st := s.core.sync.rng
    let t := s.mIssue { s.mBase 0x06 with zd := o.zs.toNat, ra := o.ra.toNat, tagA := r.tag, ringA := r, rm := if quant then 0 else rm, rng := st }
    let t := if rm = 4 && !void && !quant then t.modSync (fun y => { y with rng := rngSteps 4096 st }) else t
    (t.warn wFMTOP void).warn wRNDNA (quant && rm != 0))))

/-- MTAG (R233): the ring's tag changes at issue. -/
def execMtag (o : OpMT) (s : State) : Host.Outcome State Fault Refusal :=
  xnOp s o.g o.n (fun s => s.modRing o.ra.toNat (fun r => { r with tag := o.tag.toNat }))

/-- MSKP (R234). -/
def execMskp (o : OpMK) (s : State) : Host.Outcome State Fault Refusal :=
  xnOp s o.g o.n (fun s => s.ringCheck 3 o.ra.toNat (fun s =>
    s.mIssue { s.mBase 0x08 with ra := o.ra.toNat, kb := o.kb.toNat, ringA := s.pre.rings.get {} o.ra.toNat }))

/-- MWAIT (R235). -/
def execMwait (o : OpMW) (s : State) : Host.Outcome State Fault Refusal :=
  xnOp s o.g o.n (fun s =>
    if (List.range 8).any (fun t => bitOf t o.kb.toNat && s.core.tileBusy t) then s.stallOn 7 else s)

end Sys2Proof.Machine
end

