-- ==== Sys2Proof/Machine/Engine.lean ====
section
/-! DEFINITION. The matrix engine (R196, R197, R204, R220 to R227, R487): the beginning, the completion and the
publication of its commands. -/

namespace Sys2Proof.Machine

/-! ### Versions of tiles (R196) -/

/-- The newest version of a tile that commands older than a place in issue order have written, with the flags that older
clears have left. The mode and flags of the committed version stand in the synchronous state. -/
def Core.tileBefore (k : Core) (t seqNo : Nat) : Tile :=
  match (k.pend.filter (fun p => p.1 == t && decide (p.2.writer < seqNo))).getLast? with
  | some p => { p.2.tile with flags := k.sync.flagsLeft t (1 + p.2.writer) (some seqNo) p.2.tile.flags }
  | none =>
    let z := k.sync.zst.get 0 t
    { k.tiles.get {} t with mode := z % 4, flags := k.sync.flagsLeft t 0 (some seqNo) (z / 4 % 8) }

/-- Cell (i, j) of a tile. -/
def Tile.cell (t : Tile) (i j : Nat) : Nat := t.cells.getD (64 * i + j) 0

/-! ### Operands -/

/-- The command that the engine runs or will run next: the oldest that has not completed. -/
def Core.mFront (k : Core) : Option MCmd := k.mq.find? (fun c => !c.done)

/-- Replace a command of the matrix queue. -/
def Core.modM (k : Core) (seqNo : Nat) (f : MCmd → MCmd) : Core :=
  { k with mq := k.mq.map (fun c => if c.seqNo == seqNo then f c else c) }

/-- A tile instruction with operands A and B. -/
def MCmd.isMma (c : MCmd) : Bool := c.op == 0x01 || c.op == 0x02 || c.op == 0x03

/-- The slots a command reads and fills, none while it must wait (R204): operand A, operand B, the slot it pushes. -/
def Core.mSlots (k : Core) (c : MCmd) : Option (Nat × Nat × Nat) :=
  let q := orderKey c.seqNo 3
  if c.isMma then
    match k.popSlot c.ra q 0, k.popSlot c.rb q (if c.ra = c.rb then 1 else 0), (if c.conv = 0 then some 0 else k.pushSlot c.cring q) with
    | some a, some b, some p => some (a, b, p)
    | _, _, _ => none
  else if c.op = 0x05 then (k.popSlot c.ra q 0).map (fun a => (a, 0, 0))
  else if c.op = 0x06 then (k.pushSlot c.ra q).map (fun p => (0, 0, p))
  else some (0, 0, 0)

/-- The bytes that the conversion task writes into CRING's slot (R220). -/
def convTile (t : TileV) (ctag : Nat) (b : Bool) : List Nat :=
  buildTile ctag t.rows t.cols (tagFmt t.tag) (List.replicate 112 0) b (fun _ => .rne) (t.num b)

/-- The operand tiles of a command as its routine reads them, and the converted tile's bytes. The routine reads the tile that its
own conversion makes (R535), whatever tile software has left at the head of CRING (DESIGN CHOICE, log entry 122). -/
def State.mOperands (s : State) (n : Nat) (c : MCmd) (sl : Nat × Nat × Nat) : TileV × TileV × List Nat :=
  let a := s.tileAt n c.ringA sl.1 c.tagA
  let b := s.tileAt n c.ringB sl.2.1 c.tagB
  let view (l : List Nat) : TileV := TileV.ofBytes (fun i => l.getD i 0) (c.ringC.slotb * 128) c.ctag
  if c.conv = 1 then (let l := convTile a c.ctag false; (view l, b, l))
  else if c.conv = 2 then (let l := convTile b c.ctag true; (a, view l, l))
  else (a, b, [])

/-- Element (i, k) of operand A and element (k, j) of operand B, +0 beyond the logical sizes (R227, R229). -/
def mElemA (c : MCmd) (t : TileV) (i k : Nat) : Num :=
  if c.op = 0x03 then convA t c.shape i k
  else if t.rows ≤ i ∨ t.cols ≤ k then .fin false 0 0 else t.num false i k
/-- See `mElemA`. -/
def mElemB (t : TileV) (k j : Nat) : Num := if t.cols ≤ j ∨ t.rows ≤ k then .fin false 0 0 else t.num true k j

/-- The cycles of block b (R216, R225): MMAZ takes 2 for a block whose A is all zero and whose B is finite. -/
def blockCycles (c : MCmd) (ta tb : TileV) (b : Nat) : Nat :=
  let full := routCycles c.rout (tagSparse ta.tag)
  let ks := (List.range 32).map (fun t => 32 * b + t)
  if c.op = 0x02 && ks.all (fun k => (List.range 64).all (fun i => (mElemA c ta i k).isZero)) &&
      ks.all (fun k => (List.range 64).all (fun j => match mElemB tb k j with | .fin .. => true | _ => false)) then 2
  else full

/-- The time of a conversion task (R221). -/
def convCycles (c : MCmd) (src : TileV) : Nat :=
  if c.conv = 0 then 0
  else ceilDiv (max (tileDataBytes src.tag src.rows src.cols) (tileDataBytes c.ctag src.rows src.cols)) 128

/-! ### Beginning (R197, R222) -/

/-- The slot of the tile that the conversion task of a command reads, once that tile and a slot of CRING are there: the
task does not wait for the other operand (R220, R222). -/
def Core.convSlot (k : Core) (c : MCmd) : Option Nat :=
  let q := orderKey c.seqNo 3
  if (k.pushSlot c.cring q).isNone then none
  else if c.conv = 1 then k.popSlot c.ra q 0
  else k.popSlot c.rb q (if c.ra = c.rb then 1 else 0)

/-- The conversion task of the front command is still to begin. -/
def MCmd.toConvert (c : MCmd) : Bool := c.isMma && c.conv != 0 && c.convAt == 0

/-- The conversion task of the front command begins. -/
def State.convStart (s : State) (n : Nat) (c : MCmd) : State :=
  match (s.coreAt n).convSlot c with
  | none => s
  | some i =>
    let src := if c.conv = 1 then s.tileAt n c.ringA i c.tagA else s.tileAt n c.ringB i c.tagB
    s.modCoreAt n (fun k => k.modM c.seqNo (fun c => { c with convAt := s.now + convCycles c src }))

/-- Operand phase of the front command once its tiles and slots are there: when its steps begin and when it completes. The
fetch begins when the conversion task has ended (R222). -/
def State.mStart (s : State) (n : Nat) (c : MCmd) : State :=
  match (s.coreAt n).mSlots c with
  | none => s
  | some sl =>
    let o := s.mOperands n c sl
    let stepAt := max s.now c.convAt + 8
    let dur := if c.isMma then ((List.range c.kb).drop c.block).foldl (fun t b => t + blockCycles c o.1 o.2.1 b) 0 else 64
    let doneAt := if c.op = 0x04 then s.now + 5 else stepAt + dur + 6
    s.modCoreAt n (fun k => k.modM c.seqNo (fun c => { c with stepAt := stepAt, doneAt := doneAt }))

/-- Pops that MSKP may make: it sees the speculative count (R204, R234), which no push takes beyond the slots of the ring. -/
def Core.skipAvail (k : Core) (c : MCmd) : Nat :=
  let q := orderKey c.seqNo 3
  let r := k.sync.rings.get {} c.ra
  min r.slots (r.count + k.olderOps c.ra true q - k.olderOps c.ra false q)

/-- The waiting MSKP at the front takes what it can: all its tiles, or, once committed, the published ones. -/
def State.skipStart (s : State) (n : Nat) (c : MCmd) : State :=
  let k := s.coreAt n
  if c.kb ≤ k.skipAvail c then s.modCoreAt n (fun k => k.modM c.seqNo (fun c => { c with doneAt := s.now + 2 }))
  else
    let have_ := (k.sync.rings.get {} c.ra).count
    if c.committed && k.olderOps c.ra false (orderKey c.seqNo 3) == 0 && have_ != 0 then
      (s.ringMove n c.ra c.ringA.ep have_ 0).modCoreAt n (fun k => k.modM c.seqNo (fun c => { c with kb := c.kb - have_ }))
    else s

/-- The governing branches of a command have resolved. -/
def Core.governed (k : Core) (seqNo : Nat) : Bool := k.branches.all (fun b => decide (seqNo ≤ b.seqNo))

/-- Whether the front command may begin (R197, R222); once a save has stopped the engine none does (R315, R319). -/
def Core.mCanBegin (k : Core) (now : Nat) (c : MCmd) : Bool :=
  !c.begun && decide (c.ready ≤ now) && !k.mHalt &&
  (c.op == 0x06 || c.op == 0x08 || !k.pend.any (fun p => p.1 == c.zd) || k.governed c.seqNo)

/-- Whether MATRIX_COMMAND_BEGIN is due: the front command begins, or its operands have come. -/
def Core.mBeginDue (k : Core) (now : Nat) : Bool :=
  match k.mFront with
  | none => false
  | some c => k.mCanBegin now c ||
      (c.begun && c.doneAt == 0 &&
        (if c.op = 0x08 then decide (c.kb ≤ k.skipAvail c) ||
            (c.committed && k.olderOps c.ra false (orderKey c.seqNo 3) == 0 && (k.sync.rings.get {} c.ra).count != 0)
         else if c.toConvert then (k.convSlot c).isSome
         else (k.mSlots c).isSome))

/-- The engine begins its front command, or starts the phases of one whose operands have come. -/
def State.mBegin (s : State) (n : Nat) : State :=
  match (s.coreAt n).mFront with
  | none => s
  | some c =>
    let t := if (s.coreAt n).mCanBegin s.now c then
        (s.modCoreAt n (fun k => k.modM c.seqNo (fun c => { c with begun := true, stopped := false }))).countAt n 36 1 else s
    if c.begun || (s.coreAt n).mCanBegin s.now c then
      (if c.doneAt ≠ 0 then t else if c.op = 0x08 then t.skipStart n c
       else if c.toConvert then t.convStart n c else t.mStart n c)
    else s

/-- MATRIX_COMMAND_BEGIN (R222). -/
def execMatrixCommandBegin (core : Nat) (s : State) : Host.Outcome State Fault Refusal := .next (s.mBegin core)

/-! ### Completion (R222, R224) -/

/-- The states of the random source after each of n steps, in order. -/
def rngList : Nat → Nat → List Nat
  | 0, _ => []
  | n + 1, st => let t := rngStep st; t :: rngList n t

/-- The cells of a tile instruction up to block hi (R229), in row order. A resumed command goes on from the version that its
save left, and knows of each zero cell whether everything summed so far was −0 (R107, R223). -/
def mmaCells (c : MCmd) (old : Tile) (ta tb : TileV) (hi : Nat) : List CellAcc :=
  let res (i j : Nat) : CellAcc :=
    let b := old.cell i j
    let neg := if c.block != 0 then bitOf (64 * i + j) c.negs else !c.acc || (cellNum old.mode b).isZero && (cellNum old.mode b).sign
    cellResult old.mode c.block hi (if c.acc || c.block != 0 then some b else none) neg (mElemA c ta i) (fun k => mElemB tb k j)
  (List.range 64).flatMap (fun i => (List.range 64).map (fun j => res i j))

/-- The tile of the cells, with the flags that they raise. -/
def cellsTile (mode : Nat) (l : List CellAcc) : Tile :=
  { mode := mode, flags := l.foldl (fun f a => f ||| a.flags) 0, cells := l.map (fun a => a.bits.getD 0), written := true }

/-- The result of a tile instruction up to block hi (R229). -/
def mmaTile (c : MCmd) (old : Tile) (ta tb : TileV) (hi : Nat) : Tile := cellsTile old.mode (mmaCells c old ta tb hi)

/-- The cells all of whose products and accumulators were −0, as a mask. -/
def negMask (l : List CellAcc) : Nat := (l.foldr (fun a m => 2 * m + (if a.neg then 1 else 0)) 0)

/-- The version that a command's steps begin from: that of older commands, or what its own save left (R223). -/
def Core.tileFrom (k : Core) (c : MCmd) : Tile :=
  match k.pend.find? (fun p => p.1 == c.zd && p.2.writer == c.seqNo) with
  | some p => p.2.tile
  | none => k.tileBefore c.zd c.seqNo

/-- The version of a tile that a command accumulates on, numbered as in `Sync.zclr`; none once its own version is pending. -/
def Core.sourceVersion (k : Core) (c : MCmd) : Option Nat :=
  if k.pend.any (fun p => p.1 == c.zd && p.2.writer == c.seqNo) then none
  else match (k.pend.filter (fun p => p.1 == c.zd && decide (p.2.writer < c.seqNo))).getLast? with
    | some p => some (1 + p.2.writer)
    | none => some 0

/-- A command's version becomes the newest one of its tile: the flags that it inherits and those that it raises itself. A
clear that was made while it ran takes none of the latter (log entry 104); a younger clear that was made before it began
stands on the version that it copies, and so on its own too (R196). -/
def State.mVersion (s : State) (n : Nat) (c : MCmd) (inherited : Nat) (t : Tile) : State :=
  let src := (s.coreAt n).sourceVersion c
  let u := s.mapSync n (fun y => { y with zclr := y.zclr.flatMap (fun e =>
    if e.1 == c.zd && e.2.1 == 1 + c.seqNo then [(e.1, e.2.1, e.2.2.1, e.2.2.2 &&& (7 - t.flags))]
    else if e.1 == c.zd && some e.2.1 == src && decide (c.seqNo ≤ e.2.2.1) then [e, (e.1, 1 + c.seqNo, e.2.2.1, e.2.2.2 &&& (7 - t.flags))]
    else [e]) })
  u.modCoreAt n (fun k => { k with
    pend := k.pend.filter (fun p => !(p.1 == c.zd && p.2.writer == c.seqNo)) ++
      [(c.zd, { tile := { t with flags := inherited ||| t.flags }, writer := c.seqNo })] })

/-- The flags that the version of a tile instruction inherits: those of the version it accumulates on (R106). -/
def MCmd.inherits (c : MCmd) (old : Tile) : Nat := if c.isMma && (c.acc || c.block != 0) then old.flags else 0

/-- The elements of operand A that a command reads: for a conversion task all, otherwise those of its blocks (R224). -/
def MCmd.readsA (c : MCmd) (t : TileV) : List (Nat × Nat) :=
  let grid (rows lo cols : Nat) : List (Nat × Nat) := (List.range rows).flatMap (fun i => ((List.range cols).drop lo).map (fun j => (i, j)))
  if c.op = 0x05 then grid (min 64 t.rows) 0 (min 64 t.cols)
  else if c.conv = 1 then grid t.rows 0 t.cols
  else if c.op = 0x03 then (grid 64 (32 * c.block) (32 * c.kb)).filterMap (fun p => (convPlace t.aux c.shape p.1 p.2).join)
  else grid (min 64 t.rows) (32 * c.block) (min t.cols (32 * c.kb))

/-- The elements of operand B that a command reads. -/
def MCmd.readsB (c : MCmd) (t : TileV) : List (Nat × Nat) :=
  if c.conv = 2 then (List.range t.rows).flatMap (fun i => (List.range t.cols).map (fun j => (i, j)))
  else ((List.range (min t.rows (32 * c.kb))).drop (32 * c.block)).flatMap (fun k => (List.range (min 64 t.cols)).map (fun j => (k, j)))

/-- The result of MLDZ (R231): the scales of a column-major e2m1 tile run down its columns (R210). -/
def loadTile (mode : Nat) (t : TileV) : Tile :=
  if tagVoid t.tag false then { mode := mode, flags := 0, cells := [], written := true }
  else
    let all := (List.range 64).flatMap (fun i => (List.range 64).map (fun j =>
      if i < t.rows ∧ j < t.cols then roundCell mode (t.num (tagLayout t.tag == 1) i j) else (0, 0)))
    { mode := mode, flags := all.foldl (fun f a => f ||| a.2) 0, cells := all.map (fun a => a.1), written := true }

/-- The bytes that MSTZ writes into its slot (R232): header and data. -/
def storeTile (c : MCmd) (z : Tile) : List (Nat × List Nat) :=
  let tag := c.tagA
  let room := c.ringA.slotb * 128
  if tagVoid tag true then
    [(0, tileHeader tag 64 64 (if tagFmt tag = 12 then 16 else 0) 0), (128, List.replicate (room - 128) 0)]
  else
    let sts := if c.rm = 4 then rngList 4096 c.rng else []
    let mode (e : Nat) : RMode := if c.rm = 4 then .rs (sts.getD e 0 % 2 ^ 16) else RMode.ofCode c.rm
    let b := buildTile tag 64 64 (if z.mode = 2 then 6 else 9) [] (tagLayout tag == 1) mode (fun i j => cellNum z.mode (z.cell i j))
    [(0, (b.take 16)), (128, (b.drop 16).take (room - 128))]

/-- Unspecified cells of a mode (R224). -/
def freeCells (free mode : Nat) : List Nat :=
  (List.range 4096).map (fun i => Config.freeNat free (4096 + i) % 2 ^ (if mode = 0 then 32 else if mode = 3 then 16 else 48))

/-- The address of the first uncorrectable error among the bytes that a tile instruction or MLDZ reads of its operands, from
its first block on (R224). -/
def State.mBad (s : State) (n : Nat) (c : MCmd) (sl : Nat × Nat × Nat) : Option Nat :=
  let a := s.tileAt n c.ringA sl.1 c.tagA
  let view := if c.op = 0x03 && c.conv != 1 then convView a c.shape else a
  match s.tileBad n c.ringA sl.1 a (view.offs (c.op == 0x05 && tagLayout a.tag == 1) (c.readsA a)) with
  | some o => some (c.ringA.slotAddr sl.1 + o)
  | none =>
    if c.op = 0x05 then none
    else
      let b := s.tileAt n c.ringB sl.2.1 c.tagB
      (s.tileBad n c.ringB sl.2.1 b (b.offs true (c.readsB b))).map (fun o => c.ringB.slotAddr sl.2.1 + o)

/-- The front command completes: its version, its bytes to write, or the address of an uncorrectable error. -/
def State.mFinish (s : State) (n : Nat) (c : MCmd) : State :=
  let k := s.coreAt n
  let done (s : State) (out : List (Nat × List Nat)) : State :=
    s.modCoreAt n (fun k => k.modM c.seqNo (fun c => { c with done := true, out := out }))
  let old := k.tileFrom c
  let version (s : State) (t : Tile) : State := s.mVersion n c (c.inherits old) t
  let fail (a : Nat) : State :=
    let s := s.logArray n a
    if c.committed then
      let t := (s.mVersion n c old.flags { old with flags := 0, cells := freeCells s.free old.mode, written := true }).tickFree
      t.modCoreAt n (fun k =>
        { k.modM c.seqNo (fun c => { c with done := true, err := some a }) with
          asyncs := k.asyncs ++ [{ cause := cMEMUE, slots := 0, info := BitVec.ofNat 64 a, flt := 0, async := true }] })
    else if k.governed c.seqNo then
      s.takeTrap n { cause := cMEMUE, slots := 8, info := BitVec.ofNat 64 a, flt := c.issued, async := false }
    else s.modCoreAt n (fun k => k.modM c.seqNo (fun c => { c with doneAt := s.now + 1 }))
  match k.mSlots c with
  | none => s.modCoreAt n (fun k => k.modM c.seqNo (fun c => { c with doneAt := 0 }))
  | some sl =>
    if c.op = 0x04 then done (version s { mode := c.zmode, flags := 0, cells := [], written := false }) []
    else if c.op = 0x08 then done s []
    else if c.op = 0x06 then
      done s ((storeTile c old).map (fun p => (c.ringA.slotAddr sl.2.2 + p.1, p.2)))
    else
      match c.bad.orElse (fun _ => s.mBad n c sl) with
      | some x => fail x
      | none =>
        if c.op = 0x05 then done (version s (loadTile old.mode (s.tileAt n c.ringA sl.1 c.tagA))) []
        else
          let o := s.mOperands n c sl
          let room := c.ringC.slotb * 128
          let base := c.ringC.slotAddr sl.2.2
          done (version s (mmaTile c old o.1 o.2.1 c.kb))
            (if c.conv = 0 then [] else [(base, o.2.2.take 16), (base + 128, (o.2.2.drop 128).take (room - 128))])

/-! ### Publication (R196, R204) -/

/-- Ring positions that a command publishes: ring, epoch, pops, pushes. -/
def MCmd.moves (c : MCmd) : List (Nat × Nat × Nat × Nat) :=
  if c.err.isSome then []
  else if c.isMma then
    [(c.ra, c.ringA.ep, 1, 0), (c.rb, c.ringB.ep, 1, 0)] ++ (if c.conv = 0 then [] else [(c.cring, c.ringC.ep, 1, 1)])
  else if c.op = 0x05 then [(c.ra, c.ringA.ep, 1, 0)]
  else if c.op = 0x06 then [(c.ra, c.ringA.ep, 0, 1)]
  else if c.op = 0x08 then [(c.ra, c.ringA.ep, c.kb, 0)]
  else []

/-- Older pushes and pops of the same rings have been published: every push and pop is applied in issue order (R204). Those
on positions that a write to NPTR has replaced wait for nothing (R202). -/
def Core.inTurn (k : Core) (q : Nat) (moves : List (Nat × Nat × Nat × Nat)) : Bool :=
  moves.all (fun m => (k.sync.rings.get {} m.1).ep != m.2.1 ||
    ((m.2.2.1 == 0 || k.olderOps m.1 false q == 0) && (m.2.2.2 == 0 || k.olderOps m.1 true q == 0) &&
      decide (m.2.2.1 ≤ (k.sync.rings.get {} m.1).count + m.2.2.2)))

/-- The oldest complete and committed command that may publish. -/
def Core.mPublishable (k : Core) : Option MCmd :=
  match k.mq.head? with
  | some c => if c.done && c.committed && k.mode != .savewait && k.inTurn (orderKey c.seqNo 3) c.moves then some c else none
  | none => none

/-- Publish: bytes, ring positions and the tile version become final. -/
def State.mPublish (s : State) (n : Nat) (c : MCmd) : State :=
  let t := c.out.foldl (fun t p => (t.vaWrite n 0 5 p.1 p.2).1) s
  let t := c.moves.foldl (fun t m => t.ringMove n m.1 m.2.1 m.2.2.1 m.2.2.2) t
  let t := match (t.coreAt n).pend.find? (fun p => p.2.writer == c.seqNo) with
    | none => t
    | some p =>
      let u := t.modCoreAt n (fun k => { k with
        tiles := k.tiles.set p.1 p.2.tile, pend := k.pend.filter (fun x => x.2.writer != c.seqNo) })
      u.mapSync n (fun y => { y with
        zst := y.zst.set p.1 (p.2.tile.mode + 4 * y.flagsLeft p.1 (1 + c.seqNo) none p.2.tile.flags)
        zclr := y.zclr.filter (fun e => !(e.1 == p.1 && (e.2.1 == 0 || e.2.1 == 1 + c.seqNo))) })
  t.modCoreAt n (fun k => { k with mq := k.mq.filter (fun x => x.seqNo != c.seqNo) })

/-- Whether MATRIX_COMMAND_COMPLETE is due: a completion or a publication. -/
def Core.mCompleteDue (k : Core) (now : Nat) : Bool :=
  k.mPublishable.isSome ||
  match k.mFront with
  | some c => c.begun && c.doneAt != 0 && decide (c.doneAt ≤ now)
  | none => false

/-- A publication, or else the completion of the front command. -/
def State.mComplete (s : State) (n : Nat) : State :=
  match (s.coreAt n).mPublishable with
  | some c => s.mPublish n c
  | none =>
    match (s.coreAt n).mFront with
    | some c => if c.begun && c.doneAt != 0 && decide (c.doneAt ≤ s.now) then s.mFinish n c else s
    | none => s

/-- MATRIX_COMMAND_COMPLETE (R222, R196). -/
def execMatrixCommandComplete (core : Nat) (s : State) : Host.Outcome State Fault Refusal := .next (s.mComplete core)

/-! ### Suspension (R223) and cycle classes (R487) -/

/-- At a block boundary now: the block from which the front command would continue, none when it stands between two
boundaries, or past the last one. -/
def State.mBoundary (s : State) (n : Nat) (c : MCmd) : Option Nat :=
  if !c.isMma || s.now < c.stepAt then none
  else
    match (s.coreAt n).mSlots c with
    | none => some c.block
    | some sl =>
      let o := s.mOperands n c sl
      let ends := ((List.range c.kb).drop c.block).foldl (fun (a : Nat × List (Nat × Nat)) b =>
        (a.1 + blockCycles c o.1 o.2.1 b, a.2 ++ [(a.1, b)])) (c.stepAt, [])
      (ends.2.find? (fun p => p.1 == s.now)).map (fun p => p.2)

/-- A command is suspended before block b (R223): the version that it leaves pending, and what its last steps have to know
of the blocks before. -/
def State.mPartial (s : State) (n : Nat) (c : MCmd) (b : Nat) : State :=
  if b ≤ c.block then s
  else match (s.coreAt n).mSlots c with
    | none => s
    | some sl =>
      let old := (s.coreAt n).tileFrom c
      let o := s.mOperands n c sl
      let l := mmaCells c old o.1 o.2.1 b
      (s.mVersion n c (c.inherits old) (cellsTile old.mode l)).modCoreAt n (fun k => k.modM c.seqNo (fun x => { x with
        negs := negMask l, bad := c.bad.orElse (fun _ => s.mBad n { c with kb := b } sl) }))

/-- Stop the engine for a save when it may stop: nothing runs, its command waits for operands, or it stands at a block
boundary; a conversion task goes on to its end first (R223, R315). The flag says that it has stopped. -/
def State.mSuspend (s : State) (n : Nat) : State × Bool :=
  match (s.coreAt n).mFront with
  | none => (s, true)
  | some c =>
    if !c.begun then (s, true)
    else if c.doneAt = 0 then
      (if s.now < c.convAt then (s, false)
       else (s.modCoreAt n (fun k => k.modM c.seqNo (fun c => { c with begun := false, convAt := 0, stopped := c.isMma })), true))
    else match s.mBoundary n c with
      | some b => ((s.mPartial n c b).modCoreAt n (fun k =>
          k.modM c.seqNo (fun c => { c with begun := false, doneAt := 0, convAt := 0, block := b, stopped := true })), true)
      | none => (s, false)

/-- The class of the engine's cycle (R487): 0 computing, 1 loading weights, 2 awaiting activations, 3 blocked on result
drain, 4 without a command. -/
def Core.mClass (k : Core) (now : Nat) : Nat :=
  match k.mFront with
  | none => 4
  | some c =>
    let q := orderKey c.seqNo 3
    if !c.begun then 0
    else if c.doneAt = 0 then
      (if now < c.convAt then 0 else if c.op = 0x08 || (k.popSlot c.ra q 0).isNone && c.op != 0x06 then 1
       else if c.isMma && (k.popSlot c.rb q (if c.ra = c.rb then 1 else 0)).isNone then 2 else 3)
    else if c.op = 0x04 || c.op = 0x08 then 0
    else if now < c.stepAt then (if now + 8 < c.stepAt then 0 else 1)
    else if c.doneAt ≤ now + 6 then 3 else 0

end Sys2Proof.Machine
end

