-- ==== Sys2Proof/Machine/Copy.lean ====
section
/-! DEFINITION. The copy slots (R237 to R239, R246, R254 to R264): the address registers, BIND and UNBD, the issue of
queue commands, CWAIT, CFLAG and HXS; and the description of a stream (R240 to R243). -/

namespace Sys2Proof.Machine

/-! ### Queues -/

/-- The slot number of a copy slot: CA 4, CB 5. -/
def cSlot (cb : Bool) : Nat := if cb then 5 else 4
/-- The commands of a queue. -/
def Core.cq (k : Core) (cb : Bool) : List CCmd := if cb then k.cqb else k.cqa
/-- Replace the commands of a queue. -/
def Core.setCq (k : Core) (cb : Bool) (l : List CCmd) : Core := if cb then { k with cqb := l } else { k with cqa := l }
/-- The status of a queue (R252). -/
def Core.cstat (k : Core) (cb : Bool) : CqStat := if cb then k.qb else k.qa
/-- Replace the status of a queue. -/
def Core.setCstat (k : Core) (cb : Bool) (q : CqStat) : Core := if cb then { k with qb := q } else { k with qa := q }
/-- Change a command of a queue. -/
def Core.modC (k : Core) (cb : Bool) (seqNo : Nat) (f : CCmd → CCmd) : Core :=
  k.setCq cb ((k.cq cb).map (fun c => if c.seqNo == seqNo then f c else c))

/-- An empty queue command of the present bundle. -/
def State.cBase (s : State) (op : Nat) : CCmd :=
  { op := op, a := 0, b := 0, q := 0, f := 0, scope := 0, order := 0, len := 0, di := 0, seqNo := s.core.seqNo, issued := s.cx.addr }

/-- Queue a command (R248, R303). -/
def State.cIssue (s : State) (cb : Bool) (c : CCmd) : State := s.modCore (fun k => k.setCq cb (k.cq cb ++ [c]))

/-- The address register that a field names, h for CA and j for CB (R237). -/
def State.rh (s : State) (cb : Bool) (a : BitVec 4) : Nat := (s.readH cb a.toNat).toNat

/-- Issue a command with a scope: narrowed to the guest's policy (R11). -/
def State.cScoped (s : State) (cb : Bool) (sc : BitVec 3) (c : CCmd) : State :=
  (s.cIssue cb { c with scope := (s.effScope sc.toNat).1 }).warnScope sc.toNat

/-! ### Register operations (R239) -/

/-- HADD. -/
def execHadd (o : OpCH) (s : State) : Host.Outcome State Fault Refusal :=
  xnOp s o.g o.n (fun s => s.writeH o.cb o.a.toNat (s.readH o.cb o.b.toNat + o.imm.signExtend 64) 1)
/-- HMOV. -/
def execHmov (o : OpCM) (s : State) : Host.Outcome State Fault Refusal :=
  xnOp s o.g o.n (fun s => s.writeH o.cb o.a.toNat (s.readH o.cb o.b.toNat) 1)
/-- HLI. -/
def execHli (o : OpCI) (s : State) : Host.Outcome State Fault Refusal :=
  xnOp s o.g o.n (fun s => s.writeH o.cb o.a.toNat (o.imm.signExtend 64) 1)
/-- HXS. -/
def execHxs (o : OpCX) (s : State) : Host.Outcome State Fault Refusal :=
  xnOp s o.g o.n (fun s => s.writeS o.d.toNat (s.readH o.cb o.b.toNat) 2)

/-! ### Data movement at issue (R254 to R260, R263, R264) -/

/-- CPY (R254). -/
def execCpy (o : OpCC) (s : State) : Host.Outcome State Fault Refusal :=
  xnOp s o.g o.n (fun s => s.cScoped o.cb o.scope
    { s.cBase 0x01 with a := s.rh o.cb o.a, b := s.rh o.cb o.b, len := o.len.toNat })

/-- CPYS (R255): with descriptor DI of the active plane. -/
def execCpys (o : OpCS) (s : State) : Host.Outcome State Fault Refusal :=
  xnOp s o.g o.n (fun s => s.cScoped o.cb o.scope
    { s.cBase 0x02 with a := s.rh o.cb o.a, b := s.rh o.cb o.b, di := o.di.toNat,
                        desc := s.core.planeBytes (0x800 + 32 * o.di.toNat) 32 })

/-- CPYT (R257). -/
def execCpyt (o : OpCT) (s : State) : Host.Outcome State Fault Refusal :=
  xnOp s o.g o.n (fun s => s.ringCheck (cSlot o.cb) o.f.toNat (fun s => s.cScoped o.cb o.scope
    { s.cBase 0x03 with a := s.rh o.cb o.a, f := o.f.toNat, len := o.len.toNat, ring := s.pre.rings.get {} o.f.toNat }))

/-- CPYW (R257). -/
def execCpyw (o : OpCT) (s : State) : Host.Outcome State Fault Refusal :=
  xnOp s o.g o.n (fun s => s.ringCheck (cSlot o.cb) o.f.toNat (fun s => s.cScoped o.cb o.scope
    { s.cBase 0x04 with a := s.rh o.cb o.a, f := o.f.toNat, len := o.len.toNat, ring := s.pre.rings.get {} o.f.toNat }))

/-- LDBLK (R259). -/
def execLdblk (o : OpCT) (s : State) : Host.Outcome State Fault Refusal :=
  xnOp s o.g o.n (fun s => s.cScoped o.cb o.scope
    { s.cBase 0x05 with a := s.rh o.cb o.a, f := o.f.toNat, len := o.len.toNat })

/-- EVBLK (R260). -/
def execEvblk (o : OpCE) (s : State) : Host.Outcome State Fault Refusal :=
  xnOp s o.g o.n (fun s => s.cIssue o.cb { s.cBase 0x06 with f := o.f.toNat })

/-- CSIG (R263): an order other than REL or RLX takes the fallback of R46. -/
def execCsig (o : OpCSg) (s : State) : Host.Outcome State Fault Refusal :=
  xnOp s o.g o.n (fun s => (s.cScoped o.cb o.scope
    { s.cBase 0x0D with a := s.rh o.cb o.a, b := s.rh o.cb o.b, order := o.order.toNat, len := if o.w32 then 4 else 8 }).warn
    wORDFIT (o.order.toNat % 2 == 1))

/-- COLL (R264); a replay refuses it (R490). -/
def execColl (o : OpCL) (s : State) : Host.Outcome State Fault Refusal :=
  xnOp s o.g o.n (fun s =>
    if s.replaying s.focus then s.replayRefuse
    else s.cScoped o.cb o.scope
      { s.cBase 0x0E with a := s.rh o.cb o.a, b := s.rh o.cb o.b, f := o.f.toNat, di := o.di.toNat, len := o.len.toNat })

/-! ### Streams (R240 to R246) -/

/-- The size of the buffer group of a format, in elements (R244). -/
def groupElems (f : Nat) : Nat := 1024 / tagBits f
/-- Elements per row. -/
def Stream.n0 (q : Stream) : Nat := bitsOf 63 40 q.cdim.toNat
/-- Rows per plane. -/
def Stream.n1 (q : Stream) : Nat := bitsOf 39 16 q.cdim.toNat
/-- Planes. -/
def Stream.n2 (q : Stream) : Nat := bitsOf 15 0 q.cdim.toNat
/-- Element stride within a row. -/
def Stream.es (q : Stream) : Nat := bitsOf 63 48 q.cstr.toNat
/-- Bytes between the halfword rows of an e2m1 stream. -/
def Stream.sstr (q : Stream) : Nat := bitsOf 43 32 q.cblk.toNat

/-- A number modulo 2^64. -/
def wrap64 (x : Int) : Nat := (BitVec.ofInt 64 x).toNat

/-- The three indices of element e (R241). -/
def Stream.index (q : Stream) (e : Nat) : Nat × Nat × Nat :=
  (e % max 1 q.n0, e / max 1 q.n0 % max 1 q.n1, e / max 1 (q.n0 * q.n1))

/-- The byte address of element e in geometry mode, and whether it is the high nibble of its byte (R241, R88). -/
def Stream.place (q : Stream) (e : Nat) : Nat × Bool :=
  let i := q.index e
  let w := tagBits q.sfmt
  let b : Int := bitsOf 47 0 q.cbase.toNat
  let a := b + i.2.2 * signedOf 24 (bitsOf 23 0 q.cstr.toNat) + i.2.1 * signedOf 24 (bitsOf 47 24 q.cstr.toNat) + (i.1 * q.es * w / 8 : Nat)
  (wrap64 a, decide (w = 4) && i.1 % 2 == 1)

/-- The address of the halfword of the block of element e (R241). -/
def Stream.half (q : Stream) (e : Nat) : Nat :=
  let i := q.index e
  wrap64 ((bitsOf 47 0 q.cbase.toNat : Int) + signedOf 20 (bitsOf 63 44 q.cblk.toNat) + ((i.2.2 * q.n1 + i.2.1) * q.sstr : Nat) + (2 * (i.1 / 32) : Nat))

/-- The description breaks R243. -/
def Stream.badDesc (q : Stream) : Bool :=
  let f := q.sfmt
  let d := q.dfmt
  q.n0 == 0 || q.n1 == 0 || q.n2 == 0 || decide (2 ^ 32 - 1 < q.n0 * q.n1 * q.n2) || f == 15 || d == 15 ||
  (f != 12 && q.es * tagBits f % 8 != 0) ||
  (f == 12 && (q.es != 1 || q.n0 % 32 != 0 || q.sstr % 2 != 0 || q.gmode || !(d == 7 || d == 8 || d == 9 || d == 12))) ||
  (f == 13 && d != 13) || ((d == 12 || d == 13) && f != d)

/-- BIND (R246): captures and checks the description, ends an earlier binding, and binds the stream to the queue. -/
def execBind (o : OpCBd) (s : State) : Host.Outcome State Fault Refusal :=
  xnOp s o.g o.n (fun s =>
    let k := o.q.toNat
    let q := s.pre.streams.get {} k
    let base : W64 := if o.useA then (q.qbase &&& 0xFFFF000000000000) ||| BitVec.ofNat 64 (s.rh o.cb o.a % 2 ^ 48) else q.qbase
    let q' : Stream := { q with cbase := base, cdim := q.qdim, cstr := q.qstr, cblk := q.qblk }
    if q'.badDesc then s.raise (cSlot o.cb) 0x64 (BitVec.ofNat 64 k)
    else
      let waits (e : Nat) : Bool := s.core.outq.any (fun x => x.1 == k && x.2.1 == e)
      s.modStream k (fun x => { x with
        qbase := base, cbase := base, cdim := q.qdim, cstr := q.qstr, cblk := q.qblk
        olds := (x.olds ++ [(x.epoch, x.cbase, x.cdim, x.cstr, x.cblk)]).filter (fun p => waits p.1)
        bnd := if o.cb then 2 else 1, pos := 0, buf := [], fetched := 0, epoch := x.epoch + 1 }))

/-- Whether a stream is bound to the queue of a slot. -/
def Stream.boundTo (q : Stream) (cb : Bool) : Bool := q.bnd == (if cb then 2 else 1)

/-- STREAMFLT as an error status. -/
def cSTREAMFLT : Nat := 0x60
/-- COPYERR. -/
def cCOPYERR : Nat := 0x63
/-- TAGHDR. -/
def cTAGHDR : Nat := 0x21

/-- UNBD (R246): a command that names a stream bound to the other queue moves nothing. -/
def execUnbd (o : OpCU) (s : State) : Host.Outcome State Fault Refusal :=
  xnOp s o.g o.n (fun s =>
    let k := o.q.toNat
    let q := s.pre.streams.get {} k
    let other := q.bnd != 0 && !q.boundTo o.cb
    let t := s.cScoped o.cb o.scope { s.cBase 0x08 with q := k, epoch := q.epoch, res := if other then some (cSTREAMFLT, 0) else none }
    if other then t else t.modStream k (fun x => { x with bnd := 0, buf := [] }))

/-- GTHR and SCTR at issue (R258): the stream is bound to the queue in gather or scatter mode. -/
def gatherOp (s : State) (o : OpCG) (op : Nat) (out : Bool) : State :=
  let k := o.q.toNat
  let q := s.pre.streams.get {} k
  let good := q.boundTo o.cb && q.gmode && q.isOut == out
  s.cScoped o.cb o.scope { s.cBase op with
    q := k, a := s.rh o.cb o.a, f := o.ix.toNat, len := o.len.toNat, epoch := q.epoch
    desc := toLe 8 q.cbase.toNat ++ toLe 8 q.cdim.toNat ++ toLe 8 q.cstr.toNat ++ toLe 8 q.cblk.toNat
    res := if good then none else some (cSTREAMFLT, 0) }

/-- GTHR. -/
def execGthr (o : OpCG) (s : State) : Host.Outcome State Fault Refusal := xnOp s o.g o.n (fun s => gatherOp s o 0x09 false)
/-- SCTR. -/
def execSctr (o : OpCG) (s : State) : Host.Outcome State Fault Refusal := xnOp s o.g o.n (fun s => gatherOp s o 0x0A true)

/-! ### Waiting and flags (R253, R261, R262) -/

/-- CCNT - n as a signed 32-bit value is 0 or more (R261). -/
def cntReached (ccnt n : Nat) : Bool := decide ((ccnt + 2 ^ 32 - n % 2 ^ 32) % 2 ^ 32 < 2 ^ 31)

/-- The status of a queue and the block flags that a CWAIT or CFLAG reads: those of the cycle of issue, which for the bundle
of a load that missed is the one in which the access left (R128, R253, R262). -/
def Core.seen (k : Core) (cb : Bool) : CqStat × Nat :=
  match k.missView with
  | some v => (if cb then v.2.1 else v.1, v.2.2)
  | none => (k.cstat cb, k.bflags)

/-- COPYERR of a queue whose ERR is set (R253). -/
def State.copyErr (s : State) (cb : Bool) (f : State → State) : State :=
  let q := (s.core.seen cb).1
  if q.err then s.raise (cSlot cb) cCOPYERR (BitVec.ofNat 64 ((if cb then 1 else 0) + 256 * q.ecause)) else f s

/-- CWAIT (R261). -/
def execCwait (o : OpCW) (s : State) : Host.Outcome State Fault Refusal :=
  xnOp s o.g o.n (fun s =>
    if cntReached (s.core.seen o.cb).1.ccnt o.len.toNat then s.copyErr o.cb id else s.stallOn 7)

/-- CFLAG (R262). -/
def execCflag (o : OpCF) (s : State) : Host.Outcome State Fault Refusal :=
  xnOp s o.g o.n (fun s => s.copyErr o.cb (fun s =>
    s.writeG o.f.toNat (if o.di.toNat < 16 then cntReached (s.core.seen o.cb).1.ccnt o.len.toNat
      else bitOf (o.di.toNat % 16) (s.core.seen o.cb).2) 1))

end Sys2Proof.Machine
end

