-- ==== Sys2Proof/Machine/CopyEngine.lean ====
section
/-! DEFINITION. The copy queues at work (R244, R245, R248 to R264): how the regulators admit their requests (R364,
R367), the completion and the publication of commands, the fetches and the writes of streams. -/

namespace Sys2Proof.Machine

/-! ### Admission of engine requests (R364, R367) -/

/-- The tag of the requests of a queue command. -/
def cTag (seqNo : Nat) (cb : Bool) : Nat := 1 + 4 * seqNo + (if cb then 1 else 0)
/-- The payer of an engine of core n. -/
def engPayer (s : State) (n tag : Nat) : Payer := { core := some n, guest := (s.coreAt n).guest, tag := tag }
/-- The charges of the requests of some runs of bytes, line by line; what stays in the cluster is not charged (R364, R365). -/
def runReqs (l : List (Nat × Nat)) : List Nat :=
  (l.filter (fun p => !inAperture p.1)).flatMap (fun p => (linePieces p.1 p.2).map (fun x => unitsOf x.2))
/-- The charges of the reads of a copy queue: a request of 2 units for each line (R469). -/
def readReqs (l : List (Nat × Nat)) : List Nat := (runReqs l).map (fun _ => 2)
/-- Requests of an engine that have been admitted and are served by now. -/
def Core.admNow (k : Core) (tag now : Nat) : Nat := (k.adm.filter (fun p => p.1 == tag && decide (p.2 ≤ now))).length
/-- A request of an engine stands at its point or waits for its slot. -/
def State.asked (s : State) (n tag : Nat) : Bool :=
  (s.coreAt n).adm.any (fun p => p.1 == tag) || s.held.any (fun h => h.core == some n && h.tag == tag)
/-- All requests that an engine has made are served by now. -/
def State.served (s : State) (n tag : Nat) : Bool :=
  let k := s.coreAt n
  k.adm.any (fun p => p.1 == tag) && k.adm.all (fun p => p.1 != tag || decide (p.2 ≤ s.now)) &&
    !s.held.any (fun h => h.core == some n && h.tag == tag)
/-- Use up the admissions that have been served. -/
def State.useAdm (s : State) (n tag : Nat) : State :=
  s.modCoreAt n (fun k => { k with adm := k.adm.filter (fun p => p.1 != tag || decide (s.now < p.2)) })
/-- Bring requests of some charges to the initiator point of the core's cluster (R365). -/
def State.engAsk (s : State) (n tag : Nat) (reqs : List Nat) : State :=
  { s with held := s.held ++ (engPayer s n tag).requestsOf (dieOf n) (clOf n % 8) (s.coreAt n).guest s.now reqs }
/-- The writes of an engine wait for the answer of another car. -/
def waitsCarAt (r : Except ((Nat × Nat) × List (Nat × List Nat)) Unit) : Bool :=
  match r with | .error e => e.1.1 == cWAIT | .ok _ => false

/-- The access of an engine waits for the answer of another car. -/
def waitsCar' {α : Type} (r : Except (Nat × Nat) α) : Bool := match r with | .error e => e.1 == cWAIT | .ok _ => false
/-- A remote request of a tag is not answered yet. -/
def State.remWaiting (s : State) (n tag : Nat) : Bool := s.fab.reqs.any (fun r => r.core == n && r.tag == tag && r.ans.isNone)

/-! ### Parts of commands -/

/-- A field of a transfer descriptor (R256). -/
def CCmd.dfield (c : CCmd) (o n : Nat) : Nat := ofLe ((c.desc.drop o).take n)
/-- The rows of CPY and CPYS: source, destination, length (R255). -/
def CCmd.rows (c : CCmd) : List (Nat × Nat × Nat) :=
  if c.op = 0x01 then (if c.len = 0 then [] else [(c.b, c.a, c.len)])
  else
    let st (o : Nat) : Int := signedOf 32 (c.dfield o 4)
    (List.range (c.dfield 6 2)).flatMap (fun (p : Nat) => (List.range (c.dfield 4 2)).map (fun (r : Nat) =>
      (wrap64 (c.b + p * st 12 + r * st 8), wrap64 (c.a + p * st 20 + r * st 16), c.dfield 0 4)))

/-- An error that a command meets as it begins (R254, R256, R259, R263). LDBLK of no line or of more than 64 completes with
COPYERR (DESIGN CHOICE, log entry 124). -/
def CCmd.bad (c : CCmd) (half : Nat) : Option (Nat × Nat) :=
  match c.op with
  | 0x02 =>
    if c.dfield 0 4 == 0 || decide (33554431 < c.dfield 0 4) || c.dfield 4 2 == 0 || c.dfield 6 2 == 0 || c.dfield 24 8 != 0
    then some (cCOPYERR, c.b) else none
  | 0x03 | 0x04 => if c.len < 16 ∨ c.ring.slotb * 128 < c.len then some (cCOPYERR, c.a) else none
  | 0x05 => if c.a % 128 ≠ 0 ∨ c.len = 0 ∨ 64 < c.len ∨ half < c.len then some (cCOPYERR, c.a) else none
  | 0x0D => if c.a % c.len ≠ 0 then some (cMISALIGN, c.a) else none
  | _ => none

/-- The width of an index of GTHR and SCTR in bytes. -/
def CCmd.ixBytes (c : CCmd) : Nat := 2 ^ (c.f % 4 + 1)
/-- The stream description that GTHR and SCTR captured. -/
def CCmd.stream (c : CCmd) : Stream :=
  { cbase := BitVec.ofNat 64 (c.dfield 0 8), cdim := BitVec.ofNat 64 (c.dfield 8 8), cstr := BitVec.ofNat 64 (c.dfield 16 8)
    cblk := BitVec.ofNat 64 (c.dfield 24 8), bnd := 1 }
/-- The address that an index selects (R258): ui16 is unsigned. -/
def CCmd.ixAddr (c : CCmd) (x : Nat) : Nat :=
  let v : Int := if c.f % 4 = 0 then x else signedOf (8 * c.ixBytes) x
  wrap64 ((bitsOf 47 0 (c.dfield 0 8) : Int) + v * (tagBits c.stream.sfmt / 8 : Nat))

/-- The lines of the list of indices that the next index of GTHR and SCTR is the first to need (R469). -/
def CCmd.ixLines (c : CCmd) : List (Nat × Nat) :=
  (linePieces (c.a + c.pos * c.ixBytes) c.ixBytes).filter (fun p => c.pos == 0 || p.1 % 128 == 0)

/-- The charges of the requests that a command brings to its initiator point, in order; GTHR and SCTR proceed by elements,
and a tile slot and an element that is gathered or scattered count at their base. -/
def CCmd.reqs (c : CCmd) : List Nat :=
  match c.op with
  | 0x01 | 0x02 => c.rows.flatMap (fun r => readReqs [(r.1, r.2.2)] ++ runReqs [(r.2.1, r.2.2)])
  | 0x03 => readReqs [(c.a, c.len)]
  | 0x05 => readReqs [(c.a, 128 * c.len)]
  | 0x0E => readReqs [(c.b, c.len)]
  | 0x09 => if c.pos < c.len then readReqs (c.ixLines ++ [(bitsOf 47 0 (c.dfield 0 8), tagBits c.stream.sfmt / 8)]) else []
  | 0x0A => if c.pos < c.len then readReqs c.ixLines ++ runReqs [(bitsOf 47 0 (c.dfield 0 8), tagBits c.stream.sfmt / 8)] else []
  | 0x04 | 0x0D => runReqs [(c.a, c.len)]
  | _ => []

/-- What becomes of a command that is worked on: it ends with a cause (0 for none) and an address, waits for another car,
waits for the host's answer to a WPGT, or goes on. -/
inductive CRes where
  | done (cause addr : Nat)
  | wait
  | hold (addr : Nat) (left : List (Nat × List Nat))
  | more
  deriving DecidableEq, Repr

/-! ### CPY and CPYS (R251, R255) -/

/-- The byte of storage that a target names, whatever its key: a space and an address. -/
def Tgt.cell : Tgt → Nat × Nat
  | .spad c o => (0, c * 2 ^ 21 + o)
  | .mem pa _ => (1, pa)
  | .unc pa _ => (1, pa)
  | .dev pa => (3, pa)
  | .rem pa => (4, pa)

/-- A piece of the storage that a command reads or writes: its row, its offset in the row, its space, address and length. -/
structure CopyPiece where
  row : Nat
  off : Nat
  space : Nat
  addr : Nat
  len : Nat
  deriving DecidableEq, Repr

/-- The piece holds a byte of storage. -/
def CopyPiece.has (p : CopyPiece) (space addr : Nat) : Bool :=
  p.space == space && decide (p.addr ≤ addr) && decide (addr < p.addr + p.len)

/-- The pieces of rows that start at the addresses of a list: row, offset, address and length of each. -/
def rowPieces (rows : List (Nat × Nat)) : List (Nat × Nat × Nat × Nat) :=
  (List.range rows.length).flatMap (fun j =>
    let r := rows.getD j (0, 0)
    (linePieces r.1 r.2).map (fun p => (j, (p.1 + 2 ^ 64 - r.1) % 2 ^ 64, p.1, p.2)))

/-- The storage of those pieces that translate. -/
def State.cells (s : State) (n kind : Nat) : List (Nat × Nat × Nat × Nat) → State × List CopyPiece
  | [] => (s, [])
  | (j, o, a, m) :: t =>
    let r := s.resolve n a kind
    let r2 := r.1.cells n kind t
    (r2.1, match r.2 with | .ok tg => { row := j, off := o, space := tg.cell.1, addr := tg.cell.2, len := m } :: r2.2 | .error _ => r2.2)

/-- A byte of storage is read as a source after it has been written as a destination (R255): in a later row, or at another
place of the same row, whose order the rule does not give (log entry 70). -/
def readAfterWrite (src dst : List CopyPiece) (space addr : Nat) : Bool :=
  dst.any (fun d => d.has space addr && src.any (fun x => x.has space addr &&
    (decide (d.row < x.row) || (x.row == d.row && x.off + (addr - x.addr) != d.off + (addr - d.addr)))))

/-- The bytes that a destination receives: one that is read after it has been written holds an unspecified byte (R255). -/
def State.overlay (s : State) (n : Nat) (src dst : List CopyPiece) : List (Nat × Nat) → List Nat → State × List Nat
  | [], _ => (s, [])
  | (a, m) :: t, b =>
    let r := s.resolve n a 4
    let here : List Nat := match r.2 with
      | .error _ => b.take m
      | .ok tg => (List.range m).map (fun i =>
          if readAfterWrite src dst tg.cell.1 (tg.cell.2 + i) then (Config.freeByte s.free (a + i)).toNat else b.getD i 0)
    let r2 := r.1.overlay n src dst t (b.drop m)
    (r2.1, here ++ r2.2)

/-- Read each row's source. -/
def State.readRows (s : State) (n tag : Nat) : List (Nat × Nat × Nat) → State × Except (Nat × Nat) (List (List Nat))
  | [] => (s, .ok [])
  | (a, _, m) :: t =>
    let r := s.vaRead n tag 4 a m
    match r.2 with
    | .error e => (r.1, .error e)
    | .ok b =>
      let r2 := r.1.readRows n tag t
      (r2.1, match r2.2 with | .ok l => .ok (b :: l) | .error e => .error e)

/-- The writes of single lines that bytes at some pieces make. -/
def pieceWrites : List (Nat × Nat) → List Nat → List (Nat × List Nat)
  | [], _ => []
  | (a, m) :: t, b => (a, b.take m) :: pieceWrites t (b.drop m)

/-- Make writes of single lines in order. An error comes with the writes that are not made, the failing one first. -/
def State.writePieces (s : State) (n tag : Nat) : List (Nat × List Nat) →
    State × Except ((Nat × Nat) × List (Nat × List Nat)) Unit
  | [] => (s, .ok ())
  | (a, b) :: t =>
    let r := s.vaWriteP n tag 5 [(a, b.length)] b
    match r.2 with
    | .error e => (r.1, .error (e, (a, b) :: t))
    | .ok () => r.1.writePieces n tag t

/-- Write each row's destination. -/
def State.writeRows (s : State) (n tag : Nat) (rows : List (Nat × List Nat)) :
    State × Except ((Nat × Nat) × List (Nat × List Nat)) Unit :=
  s.writePieces n tag (rows.flatMap (fun r => pieceWrites (linePieces r.1 r.2.length) r.2))

/-- The target of a byte lies in this package's memory or scratchpads. -/
def Tgt.plain : Tgt → Bool
  | .spad _ _ => true
  | .mem _ _ => true
  | .unc _ _ => true
  | _ => false

/-- Read one byte for a command that fails, if it can be read. -/
def State.readLoose (s : State) (n a : Nat) : State × Option Nat :=
  let r := s.resolve n a 4
  match r.2 with
  | .error _ => (r.1, none)
  | .ok tg =>
    if !tg.plain then (r.1, none)
    else
      let r2 := r.1.tgtRead n 0 tg 1
      (r2.1, match r2.2 with | .ok b => some (b.getD 0 0) | .error _ => none)

/-- Read the sources of the bytes that a failing copy does copy: which ones these are is left open (R251). -/
def State.looseReads (s : State) (n : Nat) : List (Nat × Nat) → State × List (Nat × Nat)
  | [] => (s, [])
  | (src, dst) :: t =>
    if Config.freeBool s.free dst then
      let r := s.readLoose n src
      let q := r.1.looseReads n t
      (q.1, (match r.2 with | some v => [(dst, v)] | none => []) ++ q.2)
    else s.looseReads n t

/-- Write one byte of a failing copy, if it can be written. -/
def State.looseWrite (s : State) (n dst v : Nat) : State :=
  let d := s.resolve n dst 5
  match d.2 with
  | .error _ => d.1
  | .ok tg => if tg.plain then (d.1.guarded n true tg (fun s => s.tgtWrite n 0 tg [v])).1 else d.1

/-- The failing end of a copy from readable sources: each destination byte holds its old or its copied value (R251), the
source bytes being those from before the copy. -/
def State.looseRows (s : State) (n : Nat) (rows : List (Nat × Nat × Nat)) : State :=
  let r := s.looseReads n (rows.flatMap (fun r => (List.range r.2.2).map (fun i => (r.1 + i, r.2.1 + i))))
  (r.2.foldl (fun t x => t.looseWrite n x.1 x.2) r.1).tickFree

/-- What the error of a read means for a command: a wait leaves only what it has sent. -/
def State.cFail (s0 s : State) (e : Nat × Nat) (loose : State → State) : State × CRes :=
  if e.1 = cWAIT then ({ s0 with fab := s.fab, flits := s.flits }, .wait) else (loose s, .done e.1 e.2)

/-- Drop a collective of a command from the engine. -/
def State.dropColl (s : State) (n seqNo : Nat) (cb : Bool) : State :=
  { s with fab := { s.fab with colls := s.fab.colls.filter (fun x => !(x.core == n && x.seqNo == seqNo && x.queueB == cb)) } }

/-- The oldest appended element of a stream's epoch that a checkpoint has passed (R181). -/
def Core.appended (k : Core) (st epoch : Nat) : Option (Nat × Nat × Nat × Nat × Nat) :=
  k.outq.find? (fun e => e.1 == st && e.2.1 == epoch && decide (e.2.2.2.2 < k.ckptSeq))

/-- SCTR has dealt with its next element. -/
def Core.scattered (k : Core) (cb : Bool) (c : CCmd) (err : Option (Nat × Nat)) : Core :=
  let x := match k.appended c.q c.epoch with
    | some e => { k with outq := k.outq.erase e }
    | none => k
  x.modC cb c.seqNo (fun y => { y with pos := y.pos + 1, moved := 0, left := [], denied := false, cerr := err })

/-- What follows the writes of a command, with the cause of an error or 0, and its address: a ring pointer moves (R257), a
collective leaves the engine (R527), SCTR goes on to its next element (R258). -/
def State.cWritten (s : State) (n : Nat) (cb : Bool) (c : CCmd) (e : Nat × Nat) : State × CRes :=
  match c.op with
  | 0x01 | 0x02 => (s.tickFree, .done e.1 e.2)
  | 0x03 => (if e.1 = 0 then s.ringMove n c.f c.ring.ep 0 1 else s, .done e.1 e.2)
  | 0x04 => (if e.1 = 0 then s.ringMove n c.f c.ring.ep 1 0 else s, .done e.1 e.2)
  | 0x0A => (s.modCoreAt n (fun k => k.scattered cb c (if e.1 = 0 then none else some e)), .more)
  | 0x0E => ((s.dropColl n c.seqNo cb).tickFree, .done e.1 e.2)
  | _ => (s, .done e.1 e.2)

/-- A failing copy leaves its destination open (R251). -/
def State.cLoose (s : State) (n : Nat) (cb : Bool) (c : CCmd) : State :=
  match c.op with
  | 0x01 | 0x02 => s.looseRows n c.rows
  | 0x04 => match (s.coreAt n).popSlot c.f (orderKey c.seqNo (cSlot cb)) 0 with
    | some sl => s.looseRows n [(c.ring.slotAddr sl + 16, c.a + 16, c.len - 16)]
    | none => s
  | _ => s

/-- A command makes its writes in the state s; s0 is what a wait goes back to. A write to a page of a guest table holds the
command there (R378). -/
def State.cWrite (s0 s : State) (n tag : Nat) (cb : Bool) (c : CCmd) (w : List (Nat × List Nat)) : State × CRes :=
  let r := s.writeRows n tag w
  match r.2 with
  | .ok () => r.1.cWritten n cb c (0, 0)
  | .error (e, left) =>
    if e.1 = cWAIT then ({ s0 with fab := r.1.fab, flits := r.1.flits }, .wait)
    else if e.1 = cWPGT then (r.1, .hold e.2 left)
    else (r.1.cLoose n cb c).cWritten n cb c e

/-- A command that was held at a write goes on with it, or ends with PROT as the host failed it (R378). -/
def State.cResume (s : State) (n tag : Nat) (cb : Bool) (c : CCmd) : State × CRes :=
  if c.denied then (s.cLoose n cb c).cWritten n cb c (cPROT, (c.left.headD (0, [])).1) else s.cWrite s n tag cb c c.left

/-- CPY and CPYS (R255): every source is read before any destination is written. -/
def State.cpyPerform (s : State) (n tag : Nat) (cb : Bool) (c : CCmd) : State × CRes :=
  let rows := c.rows
  let r := s.readRows n tag rows
  match r.2 with
  | .error e => s.cFail r.1 e (fun t => t.looseRows n rows)
  | .ok data =>
    let src := r.1.cells n 4 (rowPieces (rows.map (fun x => (x.1, x.2.2))))
    let dst := src.1.cells n 4 (rowPieces (rows.map (fun x => (x.2.1, x.2.2))))
    let outs := (rows.zip data).foldl (fun (acc : State × List (Nat × List Nat)) p =>
      let o := acc.1.overlay n src.2 dst.2 (linePieces p.1.2.1 p.1.2.2) p.2
      (o.1, acc.2 ++ [(p.1.2.1, o.2)])) (dst.1, [])
    s.cWrite outs.1 n tag cb c outs.2

/-! ### CPYT and CPYW (R257, R208) -/

/-- A tile header passes the checks of R208 under a tag. -/
def headerOk (b : List Nat) (tag : Nat) : Bool :=
  ofLe (b.take 2) == tag && ofLe ((b.drop 12).take 2) == tileCheck b && b.getD 14 0 == 0 && b.getD 15 0 == 0

/-- A header with its TAG replaced and its CHECK recomputed. -/
def retag (b : List Nat) (tag : Nat) : List Nat :=
  let b' := patch b 0 (toLe 2 tag)
  patch b' 12 (toLe 2 (tileCheck b'))

/-- CPYT: first the image is read and checked, then it goes into the tail slot. -/
def State.cpytPerform (s : State) (n tag : Nat) (cb : Bool) (c : CCmd) : State × CRes :=
  if c.pos = 0 then
    let r := s.vaRead n tag 4 c.a c.len
    match r.2 with
    | .error e => s.cFail r.1 e id
    | .ok b =>
      if headerOk b c.ring.tag then (r.1.modCoreAt n (fun k => k.modC cb c.seqNo (fun x => { x with pos := 1, desc := b })), .more)
      else (r.1, .done cTAGHDR c.a)
  else
    match (s.coreAt n).pushSlot c.f (orderKey c.seqNo (cSlot cb)) with
    | none => (s, .more)
    | some sl => s.cWrite s n tag cb c [(c.ring.slotAddr sl, c.desc)]

/-- CPYW. -/
def State.cpywPerform (s : State) (n tag : Nat) (cb : Bool) (c : CCmd) : State × CRes :=
  match (s.coreAt n).popSlot c.f (orderKey c.seqNo (cSlot cb)) 0 with
  | none => (s, .more)
  | some sl =>
    let r := s.vaRead n tag 4 (c.ring.slotAddr sl) c.len
    match r.2 with
    | .error e => s.cFail r.1 e id
    | .ok b => s.cWrite r.1 n tag cb c [(c.a, retag b c.ring.tag)]

/-! ### Load-blocks (R259, R260) -/

/-- End the block of a flag (R260): its dirty lines are written back and unpinned; the address of a line whose write-back
failed. -/
def State.endBlock (s : State) (n f : Nat) : State × Option Nat :=
  let lines := (s.coreAt n).l1.filter (fun l => l.pins.contains f)
  let g := (s.coreAt n).guest
  let step (acc : State × Option Nat) (l : L1Line) : State × Option Nat :=
    (dirtyRuns l.data l.dirty).foldl (fun acc r =>
      let w := (acc.1.post (some n) (dieOf n) (clOf n % 8) g (unitsOf r.2.length)).homeWrite g l.sel (l.pa + r.1) r.2
      (w.1, if w.2 || acc.2.isSome then acc.2 else some (l.va + r.1))) acc
  let r := lines.foldl step (s, none)
  (r.1.modCoreAt n (fun k => { k with
    l1 := k.l1.map (fun l => if l.pins.contains f then { l with pins := l.pins.erase f, dirty := [] } else l)
    blocks := k.blocks.filter (fun b => b.flag != f)
    bflags := k.bflags &&& (65535 - 2 ^ f) }), r.2)

/-- Bring one line into the L1 and pin it for a flag, beside the flags of other blocks that hold it: none when it fails,
with its cause. -/
def State.pinLine (s : State) (n f va : Nat) : State × Option Nat :=
  let r := s.resolve n va 4
  match r.2 with
  | .error x => (r.1, some x)
  | .ok (.mem pa sel) =>
    let s := r.1
    match (s.coreAt n).l1Find pa sel with
    | some _ =>
      (s.modCoreAt n (fun k => { k with l1 := k.l1.map (fun l =>
        if l.pa == pa / 128 * 128 && l.sel == sel then { l with pins := f :: l.pins.erase f, va := va } else l) }), none)
    | none =>
      let h := s.homeRead (s.coreAt n).guest sel (pa / 128 * 128) 128
      match h.2 with
      | none => (h.1, some cMEMUE)
      | some b =>
        let t := h.1.l1Put n { pa := pa / 128 * 128, sel := sel, data := b, dirty := [], pins := [f], va := va }
        (t, if ((t.coreAt n).l1Find pa sel).isSome then none else some cCOPYERR)
  -- only cached memory can stand in the L1 (DESIGN CHOICE, log entry 14)
  | .ok _ => (r.1, some cCOPYERR)

/-- Pin the lines of a block, from a list of their addresses: the first failure. -/
def State.pinLines (s : State) (n f : Nat) : List Nat → State × Option (Nat × Nat)
  | [] => (s, none)
  | a :: t =>
    let r := s.pinLine n f a
    match r.2 with
    | some x => (r.1, some (x, a))
    | none => r.1.pinLines n f t

/-- LDBLK (R259), once an earlier block of the flag has been evicted. -/
def State.ldblkPerform (s : State) (n : Nat) (c : CCmd) : State × CRes :=
  let pinned := ((s.coreAt n).l1.filter (fun l => !l.pins.isEmpty)).length
  if (s.coreAt n).l1Sets * 8 < pinned + c.len then (s, .done cCOPYERR c.a)
  else
    let r := s.pinLines n c.f ((List.range c.len).map (fun i => c.a + 128 * i))
    match r.2 with
    | some (x, a) =>
      (r.1.modCoreAt n (fun k => { k with l1 := k.l1.map (fun l => { l with pins := l.pins.erase c.f }) }),
        if x = cCOPYERR then .done cCOPYERR c.a else .done x a)
    | none =>
      (r.1.modCoreAt n (fun k => { k with
        blocks := k.blocks ++ [{ flag := c.f, va := c.a, lines := c.len }], bflags := k.bflags ||| 2 ^ c.f }), .done 0 0)

/-! ### GTHR and SCTR (R258) -/

/-- A value of a stream's stored format in its delivery format, or the reverse, by the rules of R104 under RNE also where
the two are one (R242). -/
def streamConv (src dst v : Nat) : Nat := if src = 12 ∧ dst = 12 then v % 16 else convElem .rne src dst v

/-- Deliver an element to every copy of the synchronous state that is younger than a command (R247). One beyond the last
of the stream is not kept: the reader gets zero bits there (R244). -/
def State.deliver (s : State) (n k epoch seqNo v : Nat) : State :=
  let put (y : Sync) : Sync :=
    let q := y.streams.get {} k
    if q.epoch = epoch ∧ q.bnd ≠ 0 ∧ q.pos + q.buf.length < q.size then { y with streams := y.streams.set k { q with buf := q.buf ++ [{ v := v }] } } else y
  s.modCoreAt n (fun x => { x with
    sync := put x.sync
    shadow := if seqNo < x.ckptSeq then put x.shadow else x.shadow
    trapShadow := if seqNo < x.trapSeq then put x.trapShadow else x.trapShadow
    ckpts := x.ckpts.map (fun c => if seqNo < c.seqNo then { c with snap := put c.snap } else c)
    branches := x.branches.map (fun b => if seqNo ≤ b.seqNo then { b with snap := put b.snap } else b) })

/-- One element of GTHR (R258): nothing is fetched for one beyond the last of the stream (R244). -/
def State.gthrPerform (s : State) (n tag : Nat) (cb : Bool) (c : CCmd) : State × CRes :=
  if c.len ≤ c.pos then (s, .done 0 0)
  else
    let q := c.stream
    let i := s.vaRead n tag 4 (c.a + c.pos * c.ixBytes) c.ixBytes
    match i.2 with
    | .error e => s.cFail i.1 e id
    | .ok x =>
      let live := (s.coreAt n).sync.streams.get {} c.q
      if live.size ≤ live.pos + live.buf.length then
        (i.1.modCoreAt n (fun k => k.modC cb c.seqNo (fun x => { x with pos := x.pos + 1, moved := 0 })), .more)
      else
      let r := i.1.vaRead n tag 4 (c.ixAddr (ofLe x)) (tagBits q.sfmt / 8)
      match r.2 with
      | .error e => s.cFail r.1 e id
      | .ok b =>
        let t := r.1.deliver n c.q c.epoch c.seqNo (streamConv q.sfmt q.dfmt (ofLe b))
        (t.modCoreAt n (fun k => k.modC cb c.seqNo (fun x => { x with pos := x.pos + 1, moved := 0 })), .more)

/-- One element of SCTR: after an error the remaining elements are only consumed. -/
def State.sctrPerform (s : State) (n tag : Nat) (cb : Bool) (c : CCmd) : State × CRes :=
  if c.len ≤ c.pos then (s, match c.cerr with | some e => .done e.1 e.2 | none => .done 0 0)
  else
    match (s.coreAt n).appended c.q c.epoch with
    | none => (s, .more)
    | some e =>
      match c.cerr with
      | some x => s.cWritten n cb c x
      | none =>
        let q := c.stream
        let i := s.vaRead n tag 4 (c.a + c.pos * c.ixBytes) c.ixBytes
        match i.2 with
        | .error x => if x.1 = cWAIT then s.cFail i.1 x id else i.1.cWritten n cb c x
        | .ok x => s.cWrite i.1 n tag cb c [(c.ixAddr (ofLe x), toLe (tagBits q.sfmt / 8) (streamConv q.dfmt q.sfmt e.2.2.2.1))]

/-! ### UNBD, CSIG and COLL -/

/-- UNBD waits for the writes of the binding that it ends (R246); an element that no SCTR can place any more is
dropped. -/
def State.unbdPerform (s : State) (n : Nat) (c : CCmd) : State × CRes :=
  let k := s.coreAt n
  let mine (e : Nat × Nat × Nat × Nat × Nat) : Bool := e.1 == c.q && e.2.1 == c.epoch
  let gm := match (k.sync.streams.get {} c.q).descOf c.epoch with | some q => q.gmode | none => true
  if k.outq.any mine && !gm then (s, .more)
  else
    let err := k.oerrs.find? (fun e => e.1 == c.q && e.2.1 == c.epoch)
    (s.modCoreAt n (fun k => { k with
        outq := k.outq.filter (fun e => !mine e), oerrs := k.oerrs.filter (fun e => !(e.1 == c.q && e.2.1 == c.epoch)) }),
      match err with | some e => .done e.2.2.1 e.2.2.2 | none => .done 0 0)

/-- The element size of a collective kind (R525). -/
def collSize (f : Nat) : Nat := if f = 0 ∨ f = 2 then 4 else if f = 1 ∨ f = 3 then 2 else 1

/-- FABRIC_PEER_LOST (R530). -/
def cPEERLOST : Nat := 0xA2

/-- A control message about collective k of a guest to the other participants: 2 acknowledges an abort, 3 aborts it by a reset
(R531), 6 with FABERR (R526). The other cars know the guest by its tenant and its participants. -/
def State.collTell (s : State) (g num code : Nat) : State :=
  s.tell (s.partners g) ([code, (s.guestAt g).gc.tenant, (s.fab.grp.get {} g).memb] ++ toLe 4 num)

/-- Combine two elements of a kind (R527). -/
def collElem (kind : Nat) (x y : Nat) : Nat :=
  let f := if kind % 2 = 0 then f32 else bf16
  if kind < 2 then f.round .rne (Num.add .rne (f.decode x) (f.decode y))
  else f.round .rne (Num.max (f.decode x) (f.decode y))

/-- A NaN result is the canonical NaN, that of a single participant too (R73, R527). -/
def collCanon (kind : Nat) (x : Nat) : Nat :=
  let f := if kind % 2 = 0 then f32 else bf16
  if (f.decode x).isNan then f.round .rne (f.decode x) else x

/-- Combine the inputs of the participants, in ascending car order (R527). -/
def collCombine (kind len di : Nat) (inputs : List (Nat × List Nat)) : List Nat :=
  match kind with
  | 4 => inputs.flatMap (fun p => p.2)
  | 5 => ((inputs.find? (fun p => p.1 == di)).map (fun p => p.2)).getD []
  | _ =>
    let w := collSize kind
    (List.range (len / w)).flatMap (fun i =>
      let el (p : Nat × List Nat) : Nat := ofLe ((p.2.drop (w * i)).take w)
      match inputs with
      | [] => []
      | h :: t => toLe w (collCanon kind (t.foldl (fun acc p => collElem kind acc (el p)) (el h))))

/-- Send the partial result of this car's participants up to itself to the next one, or from the last one the result to all
others, in flits of type 3 (R516, R527; the order of the sending is that of the combination, log entry 115). -/
def State.collSend (s : State) (c : Coll) (inputs : List (Nat × List Nat)) : State :=
  let part := collCombine c.kind c.len c.di (inputs.filter (fun p => decide (p.1 ≤ s.fab.car)))
  let above := (List.range 8).filter (fun x => bitOf x (s.fab.grp.get {} c.guest).memb && decide (s.fab.car < x))
  let dests := match above with
    | x :: _ => [x]
    | [] => s.partners c.guest
  dests.foldl (fun t x => t.sendTo x 3 (s.guestAt c.guest).gc.tenant (toLe 4 c.num ++ part)) s

/-- This car is the lowest participant of a guest's collectives (R526). -/
def State.collFirst (s : State) (g : Nat) : Bool :=
  (List.range s.fab.car).all (fun x => !bitOf x (s.fab.grp.get {} g).memb)

/-- A committed COLL enters the collective engine and takes its number (R526): one that was aborted before, or of a broken
group, completes at once with its cause, and one that is invalid aborts with FABERR here and at the other participants. DI from 8 to
31 is accepted where it says nothing, as every DI is (DESIGN CHOICE, log entry 126). -/
def State.collEnter (s : State) (n : Nat) (cb : Bool) (c : CCmd) : State :=
  let g := (s.coreAt n).guest
  let r := s.fab.grp.get {} g
  let num := r.seqNo
  let valid := c.len != 0 && c.len % collSize c.f == 0 && (c.f != 5 || bitOf c.di r.memb) && bitOf s.fab.car r.memb
  let gone := match r.done.find? (fun d => d.1 == num) with
    | some d => some d.2
    | none => if r.broken then some cPEERLOST else none
  let ok := valid && gone.isNone
  let why := gone.getD cFABERR
  let e : Coll := { guest := g, num := num, core := n, queueB := cb, seqNo := c.seqNo, kind := c.f, len := c.len, di := c.di,
                    dst := c.a, src := c.b, since := s.time }
  let t := { s with fab := { s.fab with
    grp := s.fab.grp.set g { r with seqNo := r.seqNo + 1 }, colls := if ok then s.fab.colls ++ [e] else s.fab.colls } }
  let t := if valid || gone.isSome then t else t.collTell g num 6
  t.modCoreAt n (fun k => k.modC cb c.seqNo (fun x => { x with coll := some num, res := if ok then none else some (why, 0) }))

/-- COLL at the front of its queue reads its input (R527). -/
def State.collRead (s : State) (n tag : Nat) (cb : Bool) (c : CCmd) : State × CRes :=
  let r := s.vaRead n tag 4 c.b c.len
  match r.2 with
  | .error e =>
    let f := s.cFail r.1 e id
    (match f.2 with | .done _ _ => (f.1.dropColl n c.seqNo cb).collTell (s.coreAt n).guest (c.coll.getD 0) 6 | _ => f.1, f.2)
  | .ok b =>
    let t := { r.1 with fab := { r.1.fab with colls := (r.1.fab : Fab).colls.map (fun (x : Coll) =>
      if x.core == n && x.seqNo == c.seqNo && x.queueB == cb then { x with inp := b } else x) } }
    -- the lowest participant begins the combination
    let t := match (t.fab : Fab).colls.find? (fun x => x.core == n && x.seqNo == c.seqNo && x.queueB == cb) with
      | some x => if t.collFirst x.guest && !(t.partners x.guest).isEmpty then t.collSend x [(t.fab.car, b)] else t
      | none => t
    (t.modCoreAt n (fun k => k.modC cb c.seqNo (fun x => { x with pos := 1 })), .more)

/-- COLL writes its result, kept in `desc`, to h(D) (R527): h(D) = h(S) is allowed, and in any other overlap of the two
the shared bytes are unspecified. -/
def State.collWrite (s : State) (n tag : Nat) (cb : Bool) (c : CCmd) : State × CRes :=
  let src := if c.a = c.b then (s, []) else s.cells n 4 (rowPieces [(c.b, c.len)])
  let dst := if c.a = c.b then (src.1, []) else src.1.cells n 5 (rowPieces [(c.a, c.desc.length)])
  let o := dst.1.overlay n src.2 dst.2 (linePieces c.a c.desc.length) c.desc
  s.cWrite o.1 n tag cb c [(c.a, o.2)]

/-! ### Completion and publication (R250 to R252) -/

/-- The oldest command of a queue that has not completed. -/
def Core.cFront (k : Core) (cb : Bool) : Option CCmd := (k.cq cb).find? (fun c => c.res.isNone)
/-- The oldest command, when it has completed and committed. -/
def Core.cPublishable (k : Core) (cb : Bool) : Option CCmd :=
  match (k.cq cb).head? with
  | some c => if c.res.isSome && c.committed then some c else none
  | none => none
/-- A committed COLL that has not entered the engine. -/
def Core.cEntering (k : Core) (cb : Bool) : Option CCmd := (k.cq cb).find? (fun c => c.op == 0x0E && c.committed && c.coll.isNone && c.res.isNone)

/-- Half the lines of the L1 (R259). -/
def Core.halfL1 (k : Core) : Nat := k.l1Sets * 8

/-- The requests that must be served before the command goes on. -/
def CCmd.need (c : CCmd) (half : Nat) : List Nat :=
  if (c.bad half).isSome || (c.op == 0x03 && c.pos == 1) || c.cerr.isSome then [] else c.reqs

/-- The data or the places that the front command waits for are there. -/
def State.cInputs (s : State) (n : Nat) (cb : Bool) (c : CCmd) : Bool :=
  let k := s.coreAt n
  let q := orderKey c.seqNo (cSlot cb)
  match c.op with
  | 0x03 => c.pos == 0 || ((k.pushSlot c.f q).isSome && k.inTurn q [(c.f, c.ring.ep, 0, 1)])
  | 0x04 => (k.popSlot c.f q 0).isSome && k.inTurn q [(c.f, c.ring.ep, 1, 0)]
  | 0x08 =>
    let gm := match (k.sync.streams.get {} c.q).descOf c.epoch with | some d => d.gmode | none => true
    gm || !k.outq.any (fun e => e.1 == c.q && e.2.1 == c.epoch)
  | 0x09 =>
    let d := k.sync.streams.get {} c.q
    decide (c.len ≤ c.pos) || d.epoch != c.epoch || d.bnd == 0 || decide (d.buf.length < 8 * groupElems d.dfmt)
  | 0x0A => decide (c.len ≤ c.pos) || (k.appended c.q c.epoch).isSome
  | _ => true

/-- Whether the front command can be worked on: a GTHR runs ahead of its commitment (R249), everything else after it. -/
def State.cReady (s : State) (n : Nat) (cb : Bool) (c : CCmd) : Bool :=
  let k := s.coreAt n
  let tag := cTag c.seqNo cb
  (c.committed || c.op == 0x09) && c.wpgt.isNone && !s.remWaiting n tag &&
  (c.op != 0x0E || (c.coll.isSome && c.pos != 1)) &&
  (if c.moved < (c.need k.halfL1).length then k.admNow tag s.now != 0 || !s.asked n tag
   else !s.waiting (engPayer s n tag) && ((c.bad k.halfL1).isSome || s.cInputs n cb c))

/-- Whether COPY_COMMAND_COMPLETE is due on queue A (false) or B. -/
def State.copyDue (s : State) (n : Nat) (cb : Bool) : Bool :=
  let k := s.coreAt n
  (k.cPublishable cb).isSome || (k.cEntering cb).isSome ||
  match k.cFront cb with
  | some c => s.cReady n cb c
  | none => false

/-- Bytes that a command that ends well has moved (R485, CUNITS). -/
def CCmd.bytesMoved (c : CCmd) : Nat :=
  match c.op with
  | 0x01 | 0x03 | 0x04 | 0x0D | 0x0E => c.len
  | 0x02 => c.dfield 0 4 * c.dfield 4 2 * c.dfield 6 2
  | 0x05 => 128 * c.len
  | 0x09 | 0x0A => c.len * (tagBits c.stream.sfmt / 8)
  | _ => 0

/-- Publish: CCNT counts it, and an error reaches the status registers (R250 to R252). -/
def State.cPublish (s : State) (n : Nat) (cb : Bool) (c : CCmd) : State :=
  let err := (c.res.getD (0, 0))
  let t := s.modCoreAt n (fun k =>
    let q := k.cstat cb
    let q := { q with ccnt := (q.ccnt + 1) % 2 ^ 32 }
    let q := if err.1 = 0 then q
      else if q.err then { q with multi := true } else { q with err := true, ecause := err.1, eaddr := err.2 % 2 ^ 48 }
    (k.setCq cb ((k.cq cb).drop 1)).setCstat cb q)
  if err.1 = 0 then t.countAt n 37 (unitsOf c.bytesMoved) else t

/-- Record what became of the front command. -/
def State.cSettle (s : State) (n : Nat) (cb : Bool) (c : CCmd) (r : CRes) : State :=
  match r with
  | .done x a => (s.modCoreAt n (fun k => k.modC cb c.seqNo (fun y => { y with res := some (x, a) }))).remDone n (cTag c.seqNo cb)
  | .hold a left =>
    (s.modCoreAt n (fun k => k.modC cb c.seqNo (fun y => { y with wpgt := some a, left := left }))).hostEv cWPGT (s.coreAt n).guest a
  | _ => s

/-- Work on the front command once its requests are admitted. -/
def State.cPerform (s : State) (n : Nat) (cb : Bool) (c : CCmd) : State × CRes :=
  let tag := cTag c.seqNo cb
  if !c.left.isEmpty then s.cResume n tag cb c else
  -- an earlier block of the flag is evicted first, whatever becomes of the new one (R259)
  let s := if c.op = 0x05 then (s.endBlock n c.f).1 else s
  match c.bad (s.coreAt n).halfL1 with
  | some e => (s, .done e.1 e.2)
  | none =>
    match c.op with
    | 0x01 | 0x02 => s.cpyPerform n tag cb c
    | 0x03 => s.cpytPerform n tag cb c
    | 0x04 => s.cpywPerform n tag cb c
    | 0x05 => s.ldblkPerform n c
    | 0x06 =>
      let r := s.endBlock n c.f
      (r.1, match r.2 with | some a => .done cMEMUE a | none => .done 0 0)
    | 0x08 => s.unbdPerform n c
    | 0x09 => s.gthrPerform n tag cb c
    | 0x0A => s.sctrPerform n tag cb c
    | 0x0D =>
      -- a release write at a scope wider than CORE writes the L1 back first (R386, R397)
      let t := if 2 ≤ c.order && decide (1 ≤ (if inAperture c.a then max 1 c.scope else c.scope)) then s.l1Clean n else s
      s.cWrite t n tag cb c [(c.a, toLe c.len c.b)]
    | _ => if c.pos = 0 then s.collRead n tag cb c else s.collWrite n tag cb c

/-- COPY_COMMAND_COMPLETE (R250): a publication, or the entry of a collective, or the work on the front command, whose
requests are admitted one after another. -/
def State.copyStep (s : State) (n : Nat) (cb : Bool) : State :=
  let k := s.coreAt n
  match k.cPublishable cb with
  | some c => s.cPublish n cb c
  | none =>
    match k.cEntering cb with
    | some c => s.collEnter n cb c
    | none =>
      match k.cFront cb with
      | none => s
      | some c =>
        let tag := cTag c.seqNo cb
        if !s.cReady n cb c then s
        else if c.moved < (c.need k.halfL1).length then
          let m := k.admNow tag s.now
          if m ≠ 0 then (s.useAdm n tag).modCoreAt n (fun k => k.modC cb c.seqNo (fun x => { x with moved := x.moved + m }))
          else s.engAsk n tag ((c.need k.halfL1).drop c.moved)
        else
          -- its accesses wait for the controllers and for the walker
          let r := s.regulated (engPayer s n tag) (fun x => x == .wait) (fun t => t.cPerform n cb c)
          match r.2 with
          | none => r.1
          | some x => r.1.cSettle n cb c x

/-- COPY_COMMAND_COMPLETE (R250). -/
def execCopyCommandComplete (core q : Nat) (s : State) : Host.Outcome State Fault Refusal := .next (s.copyStep core (q == 1))

/-! ### Stream fetches (R244, R245) -/

/-- Join runs that follow each other. -/
def joinRuns : List (Nat × Nat) → List (Nat × Nat)
  | [] => []
  | (a, n) :: t => match joinRuns t with
    | (b, m) :: r => if a + n = b then (a, n + m) :: r else (a, n) :: (b, m) :: r
    | [] => [(a, n)]

/-- Read runs one after another. -/
def State.readRuns (s : State) (n tag : Nat) (l : List (Nat × Nat)) : State × Except (Nat × Nat) (List Nat) :=
  let r := s.readRows n tag (l.map (fun p => (p.1, 0, p.2)))
  (r.1, match r.2 with | .ok l => .ok l.flatten | .error e => .error e)

/-- The elements of the next group to fetch: the first and the number. -/
def Stream.nextGroup (q : Stream) : Nat × Nat := (q.fetched, min (groupElems q.dfmt) (q.size - q.fetched))

/-- The runs of bytes of a group; of an e2m1 stream, for each block its codes and its halfword. -/
def Stream.groupRuns (q : Stream) : List (Nat × Nat) :=
  let g := q.nextGroup
  if q.sfmt = 12 then
    (List.range (ceilDiv (g.1 % 32 + g.2) 32)).flatMap (fun b =>
      let e := g.1 / 32 * 32 + 32 * b
      [((q.place e).1, 16), (q.half e, 2)])
  else joinRuns ((List.range g.2).map (fun i => ((q.place (g.1 + i)).1, tagBits q.sfmt / 8)))

/-- The delivered elements of a group from its bytes (R242). -/
def Stream.groupElemsOf (q : Stream) (b : List Nat) : List Nat :=
  let g := q.nextGroup
  if q.sfmt = 12 then
    (List.range g.2).map (fun i =>
      let o := (g.1 % 32 + i) / 32 * 18
      let j := (g.1 + i) % 32
      let code := b.getD (o + j / 2) 0 / 16 ^ (j % 2) % 16
      if q.dfmt = 12 then code else encFrom 12 q.dfmt .rne (e2m1Value (ofLe ((b.drop (o + 16)).take 2)) code))
  else
    let w := tagBits q.sfmt / 8
    (List.range g.2).map (fun i => streamConv q.sfmt q.dfmt (ofLe ((b.drop (w * i)).take w)))

/-- The tag of the fetches of stream k. -/
def fetchTag (k : Nat) : Nat := 3 + 4 * k
/-- The tag of the writes of stream k. -/
def writeTag (k : Nat) : Nat := 4 + 4 * k

/-- Whether STREAM_GROUP_ARRIVAL is due, which SAVEWAIT holds (R319): a bound input stream in geometry mode has room and elements to come. -/
def State.arrivalDue (s : State) (n k : Nat) : Bool :=
  let c := s.coreAt n
  let q := c.sync.streams.get {} k
  let tag := fetchTag k
  c.mode != .savewait && q.isIn && !q.gmode && decide (q.fetched < q.size) &&
  decide (q.buf.length + groupElems q.dfmt ≤ 8 * groupElems q.dfmt) && !s.remWaiting n tag &&
  (if (readReqs q.groupRuns).isEmpty || s.served n tag then !s.waiting (engPayer s n tag) else !s.asked n tag)

/-- The elements of a group whose fetch met the error e (R153, R245): an element whose own bytes can be read arrives as
it is, and each of the others carries its own address. `b` tells what reading some runs gives. -/
def Stream.failedElems (q : Stream) (b : List (Nat × Nat) → Except (Nat × Nat) (List Nat)) : List SElem :=
  (List.range q.nextGroup.2).map (fun i =>
    let x := q.nextGroup.1 + i
    let runs := if q.sfmt = 12 then [((q.place x).1, 1), (q.half x, 2)] else [((q.place x).1, tagBits q.sfmt / 8)]
    match b runs with
    | .error _ => { v := 0, err := some (q.place x).1 }
    | .ok l =>
      if q.sfmt = 12 then
        let code := l.getD 0 0 / 16 ^ (x % 2) % 16
        { v := if q.dfmt = 12 then code else encFrom 12 q.dfmt .rne (e2m1Value (ofLe (l.drop 1)) code) }
      else { v := streamConv q.sfmt q.dfmt (ofLe l) })

/-- A group of stream k enters its buffer; its request first passes the initiator point. A fetch that fails is not
reported; the elements it could not read carry the error (R245). -/
def State.arrive (s : State) (n k : Nat) : State :=
  let c := s.coreAt n
  let q := c.sync.streams.get {} k
  let tag := fetchTag k
  if !s.arrivalDue n k then s
  else if !(readReqs q.groupRuns).isEmpty && !s.served n tag then s.engAsk n tag (readReqs q.groupRuns)
  else
    -- the accesses wait for the controllers and for the walker
    let p := s.regulated (engPayer s n tag) waitsCar' (fun t =>
      let r := t.readRuns n tag q.groupRuns
      match r.2 with
      | .ok b => (r.1, .ok ((q.groupElemsOf b).map (fun v => ({ v := v } : SElem))))
      | .error e => (r.1, if e.1 = cWAIT then .error e else .ok (q.failedElems (fun l => (r.1.readRuns n tag l).2))))
    let put (t : State) (l : List SElem) : State :=
      let q' : Stream := { q with buf := q.buf ++ l, fetched := q.fetched + q.nextGroup.2 }
      ((t.useAdm n tag).remDone n tag).modCoreAt n (fun x => { x with sync := { x.sync with streams := x.sync.streams.set k q' } })
    match p.2 with
    | none => p.1
    | some (.ok l) => put p.1 l
    | some (.error _) => { s with fab := p.1.fab, flits := p.1.flits }

/-- STREAM_GROUP_ARRIVAL (R244). -/
def execStreamGroupArrival (core k : Nat) (s : State) : Host.Outcome State Fault Refusal := .next (s.arrive core k)

/-! ### Stream output (R181, R242) -/

/-- The appended elements of stream k that are written together: those of the oldest geometry-mode binding, up to one group,
as far as a checkpoint has passed them. -/
def Core.outGroup (c : Core) (k : Nat) : Option (Stream × List (Nat × Nat × Nat × Nat × Nat)) :=
  match c.outq.find? (fun e => e.1 == k && decide (e.2.2.2.2 < c.ckptSeq) && !c.scatterLeft e) with
  | none => none
  | some e =>
    match (c.sync.streams.get {} k).descOf e.2.1 with
    | none => none
    | some q =>
      if q.gmode then none
      else
        let all := c.outq.filter (fun x => x.1 == k && x.2.1 == e.2.1)
        let passed (x : Nat × Nat × Nat × Nat × Nat) : Bool := decide (x.2.2.2.2 < c.ckptSeq)
        -- the binding stands until a checkpoint has passed its end
        let live := decide ((c.shadow.streams.get {} k).epoch = e.2.1) && (c.shadow.streams.get {} k).bnd != 0
        if q.sfmt = 12 ∧ q.dfmt ≠ 12 then
          -- a run of 32 is quantised as a whole; an ended binding leaves a short last run
          let run := all.filter (fun x => x.2.2.1 / 32 == e.2.2.1 / 32)
          if !run.all passed || run.length < 32 && live then none else some (q, run)
        else some (q, (all.filter passed).take (groupElems q.dfmt))

/-- The writes of a group of appended elements: address and bytes. Where both formats are e2m1 the codes alone are written, no
halfword (DESIGN CHOICE, log entry 125). -/
def Stream.outRuns (q : Stream) (l : List (Nat × Nat × Nat × Nat × Nat)) : List (Nat × List Nat) :=
  let first := (l.map (fun e => e.2.2.1)).headD 0
  let val (e : Nat) : Option Nat := (l.find? (fun x => x.2.2.1 == e)).map (fun x => x.2.2.2.1)
  if q.sfmt = 12 then
    let base := first / 32 * 32
    let codes : List Nat × Nat := if q.dfmt = 12 then ([], 0)
      else quantBlock ((List.range 32).map (fun i => match val (base + i) with | some v => numOf q.dfmt v | none => .fin false 0 0))
    let code (i e : Nat) : Nat := if q.dfmt = 12 then (val e).getD 0 else codes.1.getD i 0
    let pairs := (List.range (ceilDiv l.length 2)).map (fun j =>
      let e := first + 2 * j
      ((q.place e).1, [code (e - base) e % 16 + 16 * (code (e + 1 - base) (e + 1) % 16)]))
    pairs ++ (if q.dfmt = 12 then [] else [(q.half base, toLe 2 codes.2)])
  else l.map (fun x => ((q.place x.2.2.1).1, toLe (tagBits q.sfmt / 8) (streamConv q.dfmt q.sfmt x.2.2.2.1)))

/-- Join writes that follow each other. -/
def joinWrites : List (Nat × List Nat) → List (Nat × List Nat)
  | [] => []
  | (a, b) :: t => match joinWrites t with
    | (c, d) :: r => if a + b.length = c then (a, b ++ d) :: r else (a, b) :: (c, d) :: r
    | [] => [(a, b)]

/-- Whether STREAM_OUTPUT_WRITE is due, which SAVEWAIT holds (R319). -/
def State.outputDue (s : State) (n k : Nat) : Bool :=
  let c := s.coreAt n
  let tag := writeTag k
  match c.outGroup k with
  | none => false
  | some (q, l) =>
    let reqs := runReqs ((joinWrites (q.outRuns l)).map (fun p => (p.1, p.2.length)))
    c.mode != .savewait && !s.remWaiting n tag && !c.oerrs.any (fun e => e.1 == k && e.2.2.1 == cWPGT) &&
    (if reqs.isEmpty || s.served n tag then !s.waiting (engPayer s n tag) else !s.asked n tag)

/-- Appended groups of stream k are written; the first failure of a binding is kept for its UNBD or for the settlement of
the kernel (R246, R430). -/
def State.outWrite (s : State) (n k : Nat) : State :=
  let c := s.coreAt n
  let tag := writeTag k
  if !s.outputDue n k then s
  else match c.outGroup k with
    | none => s
    | some (q, l) =>
      let w := joinWrites (q.outRuns l)
      let reqs := runReqs (w.map (fun p => (p.1, p.2.length)))
      if !reqs.isEmpty && !s.served n tag then s.engAsk n tag reqs
      else
        let ep := (l.map (fun e => e.2.1)).headD 0
        -- a write that was held goes on where it stopped (R378)
        let before := c.outHeld.find? (fun e => e.stream == k)
        let l := match before with | some e => e.elems | none => l
        let w := match before with | some e => e.left | none => w
        let p := s.regulated (engPayer s n tag) waitsCarAt (fun t => t.writeRows n tag w)
        let fin (t : State) (err : List (Nat × Nat × Nat × Nat)) : State :=
          ((t.useAdm n tag).remDone n tag).modCoreAt n (fun x => { x with
            outq := x.outq.filter (fun e => !l.contains e)
            outHeld := x.outHeld.filter (fun e => e.stream != k)
            oerrs := if x.oerrs.any (fun e => e.1 == k && e.2.1 == ep) then x.oerrs else x.oerrs ++ err })
        match p.2 with
        | none => p.1
        | some (.ok ()) => fin p.1 []
        | some (.error (e, left)) =>
          if e.1 = cWAIT then { s with fab := p.1.fab, flits := p.1.flits }
          else if e.1 = cWPGT then
            (p.1.modCoreAt n (fun x => { x with
              oerrs := x.oerrs ++ [(k, ep, cWPGT, e.2)]
              outHeld := { stream := k, elems := l, left := left } :: x.outHeld.filter (fun e => e.stream != k) })).hostEv cWPGT (s.coreAt n).guest e.2
          else fin p.1 [(k, ep, e.1, e.2)]

/-- STREAM_OUTPUT_WRITE (R181). -/
def execStreamOutputWrite (core k : Nat) (s : State) : Host.Outcome State Fault Refusal := .next (s.outWrite core k)

end Sys2Proof.Machine
end

