-- ==== Sys2Proof/Machine/Cluster.lean ====
section
/-! DEFINITION. The cluster: the barrier unit (R333 to R337) and the temporal array (R338 to R350), their instructions
and their events. -/

namespace Sys2Proof.Machine

/-! ### Barriers (R334 to R336) -/

/-- done(p) for a phase (R334). -/
def phaseDone (phase p : Nat) : Bool :=
  let d := (phase + 256 - p % 256) % 256
  decide (1 ≤ d) && decide (d ≤ 127)

/-- Arrive at a barrier for phase p (R335). -/
def Barrier.arrive (b : Barrier) (c p : Nat) : Barrier :=
  if p % 256 = b.phase ∧ bitOf c b.memb then
    let arr := b.arr ||| 2 ^ c
    if arr = b.memb then { b with phase := (b.phase + 1) % 256, arr := 0 } else { b with arr := arr }
  else b

/-- BARI (R335). -/
def Barrier.setUp (b : Barrier) (v : Nat) : Barrier :=
  { b with memb := v % 256 &&& b.owner, phase := bitsOf 15 8 v, arr := 0 }

/-- What the unit does with an access: the barrier after it. -/
def Barrier.act (b : Barrier) (r : BarReq) : Barrier :=
  if !bitOf r.core b.owner then b
  else match r.op with
    | 0 | 1 => b.arrive r.core r.val
    | 3 => b.setUp r.val
    | _ => b

/-- The answer of the unit, once it has acted: all ones outside OWNER; for BAR and BARW none while the phase is not
done. -/
def Barrier.answer (b : Barrier) (r : BarReq) : Option Nat :=
  if !bitOf r.core b.owner then some (2 ^ 64 - 1)
  else if r.op = 1 ∨ r.op = 3 then some b.phase
  else if phaseDone b.phase r.val then some b.phase else none

/-- Whether BARRIER_ACCESS is due. -/
def State.barrierDue (s : State) (cl : Nat) : Bool := (s.clAt cl).breqs.any (fun r => !r.acted && decide (r.actAt ≤ s.now))

/-- The unit acts on its oldest access, after the stores that the access follows have performed at CLUSTER scope, and
looks again at the cores that wait (R335, R336). -/
def State.barrierAct (s : State) (cl : Nat) : State :=
  match (s.clAt cl).breqs.find? (fun r => !r.acted && decide (r.actAt ≤ s.now)) with
  | none => s
  | some r =>
    (s.l1Clean (8 * cl + r.core)).modCl cl (fun c =>
      let b := (c.bars.get {} r.bar).act r
      let upd (x : BarReq) : BarReq :=
        let x := if x.core == r.core then { x with acted := true } else x
        if x.acted && x.ans.isNone && x.bar == r.bar then
          (match b.answer x with | some v => { x with ans := some v, ansAt := s.now } | none => x) else x
      { c with bars := c.bars.set r.bar b, breqs := c.breqs.map upd })

/-- BARRIER_ACCESS (R336). -/
def execBarrierAccess (cl : Nat) (s : State) : Host.Outcome State Fault Refusal := .next (s.barrierAct cl)

/-- A barrier instruction: it sends its access once the released stores have performed, waits for the answer, and holds
the next bundle until 4 cc after it (R336). -/
def barOp (s : State) (o : OpSBar) (op : Nat) : Host.Outcome State Fault Refusal :=
  sOp s o.g o.n (fun s =>
    if !s.clear then s
    else
      let c := s.focus % 8
      match (s.clAt (clOf s.focus)).breqs.find? (fun r => r.core == c) with
      | some r =>
        match r.ans with
        | none => s.stallOn 15
        | some v =>
          ((s.modCl (clOf s.focus) (fun x => { x with breqs := x.breqs.filter (fun r => r.core != c) })).ws o.d
            (BitVec.ofNat 64 v) 1).holdNext (r.ansAt + 3 - s.now)
      | none =>
        if storesPending s.core.stores 1 then s.stallOn 15
        else
          (s.modCl (clOf s.focus) (fun x => { x with breqs := x.breqs ++
            [{ core := c, op := op, bar := o.b.toNat, val := (s.rs o.a).toNat, actAt := s.now + 4 }] })).stallOn 15)

/-- BAR. -/
def execBar (o : OpSBar) (s : State) : Host.Outcome State Fault Refusal := barOp s o 0
/-- BARA. -/
def execBara (o : OpSBar) (s : State) : Host.Outcome State Fault Refusal := barOp s o 1
/-- BARW. -/
def execBarw (o : OpSBar) (s : State) : Host.Outcome State Fault Refusal := barOp s o 2
/-- BARI. -/
def execBari (o : OpSBar) (s : State) : Host.Outcome State Fault Refusal := barOp s o 3

/-! ### The temporal array at issue (R341 to R348) -/

/-- Core n holds or has requested the array, in the order of its program (R342). -/
def State.tHolds (s : State) (n : Nat) : Bool :=
  match ((s.coreAt n).tq.filter (fun c => (c.op == 0x10 && !c.noop) || c.op == 0x11)).getLast? with
  | some c => c.op == 0x10
  | none =>
    let a := (s.clAt (clOf n)).arr
    a.holder == some (n % 8) || a.queue.contains (n % 8)

/-- The grant for which a temporal command issued now waits is held (R345). -/
def State.tGranted (s : State) (n : Nat) : Bool :=
  (s.clAt (clOf n)).arr.holder == some (n % 8) && !(s.coreAt n).tq.any (fun c => c.op == 0x11)

/-- DIRTY as the earlier commands of the core will leave it, and the address to report (R346). -/
def State.tDirty (s : State) (n : Nat) : Bool × Nat :=
  let a := (s.clAt (clOf n)).arr
  (s.coreAt n).tq.foldl (fun d c => if c.op = 0x15 then (false, 0) else if c.op = 0x13 then (true, c.issued) else d) (a.dirty, a.dirtyAddr)

/-- An empty temporal command of the present bundle. -/
def State.tBase (s : State) (op : Nat) : TCmd :=
  { op := op, ra := 0, tag := 0, join := false, fb := false, src := false, twin := s.pre.twin, seqNo := s.core.seqNo, issued := s.cx.addr }
/-- Queue a temporal command. -/
def State.tIssue (s : State) (c : TCmd) : State := s.modCore (fun k => { k with tq := k.tq ++ [c] })

/-- The checks of every temporal command but TACQ, and the stall for the grant (R345, R346). -/
def State.tCheck (s : State) (op : Nat) (f : State → State) : State :=
  if !s.tHolds s.focus then s.raise 3 0x65 (BitVec.ofNat 64 op)
  else if !s.tGranted s.focus then s.stallOn 14
  else f s

/-- A request of a core that issues its TACQ enters the queue, of one cycle in ascending core number (R342). -/
def TArray.enter (a : TArray) (core now : Nat) : TArray :=
  if a.late.2 = now ∧ core < a.late.1 then
    { a with queue := a.queue.takeWhile (fun x => x != a.late.1) ++ core :: a.queue.dropWhile (fun x => x != a.late.1) }
  else { a with queue := a.queue ++ [core] }

/-- TACQ (R342): the request enters the queue when the bundle issues, or, behind a TREL of the core, when that takes
effect. -/
def execTacq (o : OpT0) (s : State) : Host.Outcome State Fault Refusal :=
  xnOp s o.g o.n (fun s =>
    let no := s.tHolds s.focus
    let later := s.core.tq.any (fun c => c.op == 0x11)
    let t := s.tIssue { s.tBase 0x10 with noop := no, begun := !no && !later }
    if no || later then t
    else t.modCl (clOf s.focus) (fun c => { c with arr := c.arr.enter (s.focus % 8) s.now }))

/-- TREL. -/
def execTrel (o : OpT0) (s : State) : Host.Outcome State Fault Refusal :=
  xnOp s o.g o.n (fun s => s.tCheck 0x11 (fun s => s.tIssue (s.tBase 0x11)))

/-- TRST. -/
def execTrst (o : OpT0) (s : State) : Host.Outcome State Fault Refusal :=
  xnOp s o.g o.n (fun s => s.tCheck 0x15 (fun s => s.tIssue (s.tBase 0x15)))

/-- TLDW (R347): any tag but a dense explicit t8 loads 255 everywhere. -/
def tldwTag (t : Nat) : Bool := tagFmt t == 14 && tagSparse t == 0 && tagLayout t != 3
/-- TLDW. -/
def execTldw (o : OpT1) (s : State) : Host.Outcome State Fault Refusal :=
  xnOp s o.g o.n (fun s => s.tCheck 0x12 (fun s => s.ringCheck 3 o.ra.toNat (fun s =>
    let r := s.pre.rings.get {} o.ra.toNat
    (s.tIssue { s.tBase 0x12 with ra := o.ra.toNat, tag := r.tag, ring := r }).warn wFMTOP (!tldwTag r.tag))))

/-- TCAP (R349). -/
def execTcap (o : OpT1) (s : State) : Host.Outcome State Fault Refusal :=
  xnOp s o.g o.n (fun s => s.tCheck 0x14 (fun s => s.ringCheck 3 o.ra.toNat (fun s =>
    let r := s.pre.rings.get {} o.ra.toNat
    (s.tIssue { s.tBase 0x14 with ra := o.ra.toNat, tag := r.tag, ring := r }).warn wFMTOP (tagVoid r.tag true))))

/-- A ring tag that gives NEV for every arrival (R348). -/
def tlncVoid (t : Nat) : Bool := tagFmt t == 12 || tagFmt t == 13 || tagSparse t != 0 || tagLayout t == 3
/-- An arrival in the t8 format (R93, R348). -/
def toArrival (f v : Nat) : Nat := if f = 14 then v % 256 else convElem .rne f 14 v

/-- TLNC (R346, R348). -/
def execTlnc (o : OpTL) (s : State) : Host.Outcome State Fault Refusal :=
  xnOp s o.g o.n (fun s => s.tCheck 0x13 (fun s =>
    let d := s.tDirty s.focus
    let base : TCmd := { s.tBase 0x13 with ra := o.ra.toNat, join := o.join, fb := o.fb, src := o.src }
    if d.1 then s.raise 3 0x66 (BitVec.ofNat 64 d.2)
    else if o.src then
      let f := (s.pre.streams.get {} o.ra.toNat).dfmt
      let r := s.readStream 3 o.ra.toNat 256
      match r.2 with
      | none => r.1
      | some l =>
        let void := f == 12 || f == 13
        (r.1.tIssue { base with tag := f, arrivals := l.map (fun v => if void then 255 else toArrival f v) }).warn wFMTOP void
    else s.ringCheck 3 o.ra.toNat (fun s =>
      let r := s.pre.rings.get {} o.ra.toNat
      (s.tIssue { base with tag := r.tag, ring := r }).warn wFMTOP (tlncVoid r.tag))))

/-! ### The evaluation (R339) -/

/-- The present edges into column j: row and weight. -/
def edgesInto (w : Tab Nat) (j : Nat) : List (Nat × Nat) :=
  (w.filter (fun p => p.1 % 256 == j && p.2 != 255)).map (fun p => (p.1 / 256, p.2))

/-- The row wires after one pass at tick t. -/
def rowsUp (join fb : Bool) (a rows cols : List Nat) (t : Nat) : List Nat :=
  (List.range 256).map (fun i =>
    let r := rows.getD i 255
    if r ≠ 255 then r
    else
      let ai := a.getD i 255
      let own := ai != 255 && decide (ai ≤ t)
      let back := cols.getD i 255 != 255
      let up := if !fb then own else if !join then own || back else if ai ≠ 255 then decide (ai ≤ t) else back
      if up then t else 255)

/-- The column wires after one pass at tick t. -/
def colsUp (join : Bool) (edges : List (List (Nat × Nat))) (rows cols : List Nat) (t : Nat) : List Nat :=
  (List.range 256).map (fun j =>
    let c := cols.getD j 255
    if c ≠ 255 then c
    else
      let e := edges.getD j []
      let high (p : Nat × Nat) : Bool := rows.getD p.1 255 != 255 && decide (rows.getD p.1 255 + p.2 ≤ t)
      let up := if join then !e.isEmpty && e.all high else e.any high
      if up then t else 255)

/-- Repeat the passes of one tick until no wire changes; every pass but the last raises a wire, so 513 suffice. -/
def settleTick (join fb : Bool) (edges : List (List (Nat × Nat))) (a : List Nat) (t : Nat) :
    Nat → List Nat × List Nat → List Nat × List Nat
  | 0, w => w
  | n + 1, w =>
    let rows := rowsUp join fb a w.1 w.2 t
    let cols := colsUp join edges rows w.2 t
    if rows = w.1 ∧ cols = w.2 then w else settleTick join fb edges a t n (rows, cols)

/-- An evaluation with arrivals a, join mode (false OR, true AND), feedback and tick window T: the wires (R339). -/
def evaluate (w : Tab Nat) (join fb : Bool) (a : List Nat) (T : Nat) : List Nat × List Nat :=
  let edges := (List.range 256).map (edgesInto w)
  (List.range T).foldl (fun x t => settleTick join fb edges a t 513 x) (List.replicate 256 255, List.replicate 256 255)

/-! ### The grant (R342, R343) -/

/-- The array as a scrub leaves it (R338). -/
def TArray.scrubbed (a : TArray) : TArray := { a with weights := [], bad := [], rows := [], cols := [], dirty := false, dirtyAddr := 0 }

/-- Whether TEMPORAL_GRANT is due. -/
def State.grantDue (s : State) (cl : Nat) : Bool :=
  let a := (s.clAt cl).arr
  a.holder.isNone && !a.queue.isEmpty && decide (a.freeAt ≤ s.now)

/-- The head of the queue receives the array; when its guest is not that of the last holder the array is scrubbed first,
for 520 cc. -/
def State.grantArray (s : State) (cl : Nat) : State :=
  let a := (s.clAt cl).arr
  if !s.grantDue cl then s
  else match a.queue with
    | [] => s
    | c :: t =>
      let g := (s.coreAt (8 * cl + c)).guest
      let a' := if a.lastGuest.isSome && a.lastGuest != some g then { a.scrubbed with lastGuest := some g, freeAt := s.now + 520 }
        else { a with holder := some c, queue := t, lastGuest := some g, dirtyAddr := 0 }
      s.modCl cl (fun x => { x with arr := a' })

/-- TEMPORAL_GRANT (R342). -/
def execTemporalGrant (cl : Nat) (s : State) : Host.Outcome State Fault Refusal := .next (s.grantArray cl)

/-! ### Commands on the array (R345) -/

/-- Ring positions that a temporal command publishes: ring, epoch, pops, pushes. -/
def TCmd.moves (c : TCmd) : List (Nat × Nat × Nat × Nat) :=
  if c.op = 0x12 || (c.op == 0x13 && !c.src) then [(c.ra, c.ring.ep, 1, 0)]
  else if c.op = 0x14 then [(c.ra, c.ring.ep, 0, 1)] else []

/-- The tile or the slot that a temporal command needs is there. -/
def Core.tInputs (k : Core) (c : TCmd) : Bool :=
  let q := orderKey c.seqNo 3
  k.inTurn q c.moves &&
  (if c.op = 0x12 || (c.op == 0x13 && !c.src) then (k.popSlot c.ra q 0).isSome
   else if c.op = 0x14 then (k.pushSlot c.ra q).isSome else true)

/-- The bytes that TCAP writes (R349). -/
def captureTile (tag : Nat) (cols : List Nat) : List Nat :=
  if tagVoid tag true then tileHeader tag 1 256 0 0 ++ List.replicate 112 0 ++ List.replicate (tileDataBytes (tagFmt tag) 1 256) 0
  else buildTile tag 1 256 14 (List.replicate 112 0) false (fun _ => .rne) (fun _ c => numOf 14 (cols.getD c 255))

/-- The time of a command once begun (R346). -/
def TCmd.time (c : TCmd) : Nat :=
  match c.op with
  | 0x11 => 1
  | 0x12 => 520
  | 0x13 => 4 + ceilDiv c.twin 2 + 12
  | 0x14 => 4 + ceilDiv (captureTile c.tag []).length 128
  | _ => 4

/-- The command of a cluster's holder that is next on the array. -/
def State.tFront (s : State) (cl : Nat) : Option (Nat × TCmd) :=
  match (s.clAt cl).arr.holder with
  | none => none
  | some c =>
    match (s.coreAt (8 * cl + c)).tq.head? with
    | some x => if x.op = 0x10 then none else some (8 * cl + c, x)
    | none => none

/-- Whether TEMPORAL_COMMAND_BEGIN is due: it has committed and its tile or slot is there. -/
def State.tBeginDue (s : State) (cl : Nat) : Bool :=
  match s.tFront cl with
  | some (n, c) => c.committed && !c.begun && (s.coreAt n).tInputs c
  | none => false

/-- Change a temporal command. -/
def Core.modT (k : Core) (seqNo : Nat) (f : TCmd → TCmd) : Core :=
  { k with tq := k.tq.map (fun c => if c.seqNo == seqNo then f c else c) }

/-- The front command begins. -/
def State.tBegin (s : State) (cl : Nat) : State :=
  match s.tFront cl with
  | some (n, c) => if s.tBeginDue cl then s.modCoreAt n (fun k => k.modT c.seqNo (fun x => { x with begun := true, doneAt := s.now + x.time })) else s
  | none => s

/-- TEMPORAL_COMMAND_BEGIN (R345). -/
def execTemporalCommandBegin (cl : Nat) (s : State) : Host.Outcome State Fault Refusal := .next (s.tBegin cl)

/-- An asynchronous MEMUE of a core (R350, R224). -/
def State.asyncMemue (s : State) (n : Nat) (info : Nat) : State :=
  (s.logArray n info).modCoreAt n (fun k => { k with asyncs := k.asyncs ++
    [{ cause := cMEMUE, slots := 0, info := BitVec.ofNat 64 info, flt := 0, async := true }] })

/-- The tile that a temporal command pops. -/
def State.tTile (s : State) (n : Nat) (c : TCmd) : TileV × Nat :=
  let sl := ((s.coreAt n).popSlot c.ra (orderKey c.seqNo 3) 0).getD 0
  (s.tileAt n c.ring sl c.tag, sl)

/-- The weights that TLDW loads (R347): 255 is not listed. -/
def loadWeights (t : TileV) : Tab Nat :=
  if !tldwTag t.tag then []
  else
    let cells := (List.range (min t.rows 256)).flatMap (fun i => (List.range (min t.cols 256)).map (fun j =>
      (256 * i + j, (t.raw (layoutIndex (tagLayout t.tag) t.rows t.cols i j)).getD 0)))
    cells.filter (fun p => p.2 != 255)

/-- The arrivals of a TLNC from its tile (R348). -/
def tileArrivals (t : TileV) : List Nat :=
  (List.range 256).map (fun i =>
    if tlncVoid t.tag || decide (t.rows * t.cols ≤ i) then 255 else toArrival (tagFmt t.tag) ((t.raw i).getD 0))

/-- The offsets that TLDW reads of its tile. -/
def weightReads (t : TileV) : List Nat :=
  if !tldwTag t.tag then []
  else t.offs false ((List.range (min t.rows 256)).flatMap (fun i => (List.range (min t.cols 256)).map (fun j => (i, j))))

/-- The offsets that TLNC reads of its tile. -/
def arrivalReads (t : TileV) : List Nat :=
  let n := tagBits (tagFmt t.tag) / 8
  if tlncVoid t.tag then [] else (List.range (n * min 256 (t.rows * t.cols))).map (fun i => 128 + i)

/-- The array when a command on it has been stopped (R345): a TLDW has loaded 128 bytes in each cycle after its first 8, a
TLNC has run two ticks in each cycle after its first 4 and leaves the array DIRTY; the beat it stands in is finished (log
entry 108). -/
def State.arrayCut (s : State) (cl n : Nat) (c : TCmd) (cycles : Nat) : State :=
  let modA (f : TArray → TArray) : State := s.modCl cl (fun x => { x with arr := f { x.arr with cut := none } })
  let t := s.tTile n c
  if c.op = 0x12 then
    let new := loadWeights t.1
    let done := 128 * (cycles - 7)
    modA (fun a => { a with weights := new.filter (fun p => decide (p.1 < done)) ++ a.weights.filter (fun p => decide (done ≤ p.1)) })
  else
    modA (fun a =>
      let w := evaluate a.weights c.join c.fb (if c.src then c.arrivals else tileArrivals t.1) (min c.twin (2 * (cycles - 3)))
      { a with rows := (List.range 256).map (fun i => (i, w.1.getD i 255)), cols := (List.range 256).map (fun i => (i, w.2.getD i 255))
               dirty := true, dirtyAddr := c.issued })

/-- The front command has run: its effect on the array and on its ring. -/
def State.tFinish (s : State) (cl n : Nat) (c : TCmd) : State :=
  let drop (t : State) (moves : Bool) : State :=
    (if moves then c.moves.foldl (fun t m => t.ringMove n m.1 m.2.1 m.2.2.1 m.2.2.2) t else t).modCoreAt n
      (fun k => { k with tq := k.tq.filter (fun x => x.seqNo != c.seqNo || x.op != c.op) })
  let modA (t : State) (f : TArray → TArray) : State := t.modCl cl (fun x => { x with arr := f x.arr })
  match c.op with
  | 0x11 =>
    let wait := (s.coreAt n).tq.any (fun x => x.op == 0x10 && !x.begun && !x.noop)
    let t := modA s (fun a => { a with
      holder := none, lastGuest := some (s.coreAt n).guest, freeAt := s.now + 2
      queue := if wait then a.queue ++ [n % 8] else a.queue, late := if wait then (n % 8, s.now) else a.late })
    (drop t false).modCoreAt n (fun k => { k with tq := k.tq.map (fun x => if x.op == 0x10 && !x.noop then { x with begun := true } else x) })
  | 0x12 =>
    let t := s.tTile n c
    match s.tileBad n c.ring t.2 t.1 (weightReads t.1) with
    | some o =>
      -- the weights are then unspecified (R224)
      drop ((modA s (fun a => { a with weights := (List.range 65536).map (fun i => (i, Config.freeNat s.free i % 256)) })).asyncMemue n
        (c.ring.slotAddr t.2 + o)).tickFree false
    | none => drop (modA s (fun a => { a with weights := loadWeights t.1, bad := [] })) true
  | 0x13 =>
    let t := s.tTile n c
    let bad := if c.src then none else s.tileBad n c.ring t.2 t.1 (arrivalReads t.1)
    let arr := (s.clAt cl).arr
    let a := if c.src then c.arrivals else tileArrivals t.1
    let w := evaluate arr.weights c.join c.fb (match bad with | some _ => (List.range 256).map (fun i => Config.freeNat s.free i % 256) | none => a) c.twin
    let cols := match arr.bad with | [] => w.2 | _ :: _ => List.replicate 256 255
    let s1 := modA s (fun a => { a with
      rows := (List.range 256).map (fun i => (i, w.1.getD i 255)), cols := (List.range 256).map (fun i => (i, cols.getD i 255))
      dirty := true, dirtyAddr := c.issued })
    let s2 := match arr.bad with | [] => s1 | cell :: _ => s1.asyncMemue n (2 ^ 63 + cell)
    match bad with
    | some o => drop ((s2.asyncMemue n (c.ring.slotAddr t.2 + o)).tickFree) false
    | none => drop s2 true
  | 0x14 =>
    let sl := ((s.coreAt n).pushSlot c.ra (orderKey c.seqNo 3)).getD 0
    let arr := (s.clAt cl).arr
    let b := captureTile c.tag ((List.range 256).map (fun j => arr.cols.get 255 j))
    let room := c.ring.slotb * 128
    let t := (s.vaWrite n 0 5 (c.ring.slotAddr sl) (b.take 16)).1
    drop ((t.vaWrite n 0 5 (c.ring.slotAddr sl + 128) ((b.drop 128).take (room - 128))).1) true
  | _ => drop (modA s (fun a => { a with rows := [], cols := [], dirty := false, dirtyAddr := 0 })) false

/-- A core of the cluster whose oldest temporal command is a TACQ that has committed and entered its request. -/
def State.tacqDone (s : State) (cl : Nat) : Option Nat :=
  ((List.range 8).find? (fun c => match (s.coreAt (8 * cl + c)).tq.head? with
    | some x => x.op == 0x10 && x.committed && (x.begun || x.noop)
    | none => false)).map (fun c => 8 * cl + c)

/-- Whether TEMPORAL_COMMAND_COMPLETE is due. -/
def State.tCompleteDue (s : State) (cl : Nat) : Bool :=
  (s.clAt cl).arr.cut.isSome || (s.tacqDone cl).isSome ||
  match s.tFront cl with
  | some (_, c) => c.begun && decide (c.doneAt ≤ s.now)
  | none => false

/-- What a stopped command has left on the array; the end of a TACQ; or else that of the command on the array. -/
def State.tComplete (s : State) (cl : Nat) : State :=
  match (s.clAt cl).arr.cut, s.tacqDone cl with
  | some x, _ => s.arrayCut cl x.1 x.2.1 x.2.2
  | none, some n => s.modCoreAt n (fun k => { k with tq := k.tq.drop 1 })
  | none, none =>
    match s.tFront cl with
    | some (n, c) => if c.begun && decide (c.doneAt ≤ s.now) then s.tFinish cl n c else s
    | none => s

/-- TEMPORAL_COMMAND_COMPLETE (R345). -/
def execTemporalCommandComplete (cl : Nat) (s : State) : Host.Outcome State Fault Refusal := .next (s.tComplete cl)

end Sys2Proof.Machine
end

