-- ==== Sys2Proof/Machine/Hash.lean ====
section
/-! DEFINITION. SHA-256, and the lengths that the manual gives to what the cryptography of Config yields (R459, R461, R519). -/

namespace Sys2Proof.Machine

/-! ### SHA-256 (R461)

The hash is built from the statements that define it: its constants are digits of roots of primes, its schedule and its
compression are lists whose newest word comes first. -/

/-- The first 64 prime numbers, the last of which is 311. -/
def firstPrimes : List Nat := (List.range 312).filter (fun p => decide (2 ≤ p) && (List.range p).all (fun d => decide (d < 2) || p % d != 0))

/-- The greatest r below 2^40 with r^e at most n, found bit by bit from the top. -/
def rootBelow (e n : Nat) : Nat :=
  (List.range 40).foldr (fun k r => if (r + 2 ^ k) ^ e ≤ n then r + 2 ^ k else r) 0

/-- 32 bits of the fraction of the e-th root of p. -/
def rootDigits (e p : Nat) : BitVec 32 := BitVec.ofNat 32 (rootBelow e (p * 2 ^ (32 * e)))

/-- The XOR of a word turned right by each of some amounts. -/
def spins (x : BitVec 32) (by_ : List Nat) : BitVec 32 := (by_.map x.rotateRight).foldl (fun a b => a ^^^ b) 0

/-- The message schedule, n words more, newest first. -/
def schedule : Nat → List (BitVec 32) → List (BitVec 32)
  | 0, w => w
  | n + 1, w =>
    let back (i : Nat) : BitVec 32 := w.getD (i - 1) 0
    schedule n ((back 7 + back 16 + (spins (back 2) [17, 19] ^^^ back 2 >>> 10) + (spins (back 15) [7, 18] ^^^ back 15 >>> 3)) :: w)

/-- The eight chaining words with one schedule word, its constant added, put in: the upper and the lower four each move
on by one. -/
def mixWord (kw : BitVec 32) (h : List (BitVec 32)) : List (BitVec 32) :=
  match h.take 4, h.drop 4 with
  | [p, q, r, o], [u, v, x, z] =>
    let low := kw + z + spins u [6, 11, 25] + (x ^^^ (u &&& (v ^^^ x)))
    let high := spins p [2, 13, 22] + ((p &&& q) ||| (r &&& (p ||| q)))
    [low + high, p, q, r] ++ [low + o, u, v, x]
  | _, _ => h

/-- A number as big-endian bytes. -/
def toBe (n w : Nat) : List Nat := (toLe n w).reverse

/-- The chaining words after one block of 64 bytes. -/
def mixBlock (h : List (BitVec 32)) (b : List Nat) : List (BitVec 32) :=
  let first := (List.range 16).map (fun i => BitVec.ofNat 32 (ofLe ((b.drop (60 - 4 * i)).take 4).reverse))
  let keyed := List.zipWith (fun p w => rootDigits 3 p + w) firstPrimes (schedule 48 first).reverse
  List.zipWith (fun x y => x + y) h (keyed.foldl (fun h kw => mixWord kw h) h)

/-- SHA-256 of a list of bytes, padded to whole blocks with a one bit, zeros and its length in bits. -/
def sha256 (m : List Nat) : List Nat :=
  let n := m.length
  let blocks := (n + 72) / 64
  let padded := m ++ 128 :: (List.replicate (64 * blocks - n - 9) 0 ++ toBe 8 (8 * n))
  let start := (firstPrimes.take 8).map (rootDigits 2)
  ((List.range blocks).foldl (fun h i => mixBlock h ((padded.drop (64 * i)).take 64)) start).flatMap (fun w => toBe 4 w.toNat)

/-! ### Lengths (log entry 8) -/

/-- n bytes of a list, zeros where it ends early. -/
def fixBytes (n : Nat) (l : List Nat) : List Nat := (List.range n).map (fun i => l.getD i 0 % 256)
/-- The SHA-256 of the verified firmware images (R461). -/
def fwBytes : List Nat := fixBytes 32 Config.firmwareHash
/-- The HSS signature of a message with index q: 5,396 bytes (R461). -/
def hssBytes (q : Nat) (m : List Nat) : List Nat := fixBytes 5396 (Config.hssSign q m)
/-- The ML-KEM-1024 encapsulation key of draw n: 1,568 bytes (R519). -/
def kemBytes (n : Nat) : List Nat := fixBytes 1568 (Config.kemKey n)
/-- The keyed hash of RFC 2104 over SHA-256, under a key of at most 64 bytes. -/
def hmac (key m : List Nat) : List Nat :=
  let k := fixBytes 64 key
  sha256 (k.map (fun b => b ^^^ 0x5C) ++ sha256 (k.map (fun b => b ^^^ 0x36) ++ m))
/-- The 96 bytes that a link derives by HKDF-SHA-256 (RFC 5869) from the shared secret and the two nonces, lower car index
first, which are the salt (R519); the rule gives no other information. -/
def linkBytes (secret lo hi : List Nat) : List Nat :=
  let key := hmac (lo ++ hi) secret
  let a := hmac key [1]
  let b := hmac key (a ++ [2])
  a ++ b ++ hmac key (b ++ [3])

end Sys2Proof.Machine
end

