-- ==== Sys2Proof/Machine/Image.lean ====
section
/-! DEFINITION. Reading a context image back (R318, R537): the items of the header frame, the vector section and the tiles. -/

namespace Sys2Proof.Machine

/-- The numbers of the context control registers of 0x010 to 0x0E4 (R290). -/
def imageCrs : List Nat :=
  (List.range 7).map (fun i => 0x10 + i) ++ (List.range 18).map (fun i => 0x20 + i) ++ (List.range 134).map (fun i => 0x40 + i) ++
  (List.range 5).map (fun i => 0xC8 + i) ++ [0xD0, 0xD8, 0xE0, 0xE4]

/-- A run of n items of w bytes each, little-endian. -/
def itemsOf (w : Nat) : Nat → List Nat → List Nat
  | 0, _ => []
  | n + 1, b => ofLe (b.take w) :: itemsOf w n (b.drop w)

/-- The registers of a file from the items that stand at an offset, the first one being number `first`. -/
def fileAt {α : Type} (b : List Nat) (o w n first : Nat) (f : Nat → α) : Tab α :=
  ((List.range n).zip (itemsOf w n (b.drop o))).map (fun p => (first + p.1, f p.2))

/-- The control registers of an image, by number. -/
def imageCr (b : List Nat) : Tab Nat := imageCrs.zip (itemsOf 8 imageCrs.length (b.drop 2211))

/-- A ring from its four registers (R201). -/
def Ring.ofCrs (old : Ring) (cr : Nat → Nat) : Ring :=
  { old with base := cr 0, slotb := bitsOf 31 16 (cr 1), slots := bitsOf 6 0 (cr 1)
             head := bitsOf 5 0 (cr 2), tail := bitsOf 13 8 (cr 2), count := bitsOf 22 16 (cr 2)
             tag := bitsOf 15 0 (cr 3), dtag := bitsOf 31 16 (cr 3) }

/-- A stream from its four registers (R240); what BIND captured stays. -/
def Stream.ofCrs (old : Stream) (cr : Nat → Nat) : Stream :=
  { old with qbase := BitVec.ofNat 64 (cr 0) &&& 0xCFFFFFFFFFFFFFFF, bnd := bitsOf 61 60 (cr 0), qdim := BitVec.ofNat 64 (cr 1)
             qstr := BitVec.ofNat 64 (cr 2), qblk := BitVec.ofNat 64 (cr 3) &&& 0xFFFFFFFF00000000, pos := bitsOf 31 0 (cr 3) }

/-- The vector files from the vector section (R537): a dead register keeps its tag alone. -/
def Sync.ofVectorSection (y : Sync) (b : List Nat) : Sync :=
  let live (p : Nat) : Bool := b.getD p 0 < 128
  let place (p : Nat) : Nat := 64 + 128 * ((List.range p).filter live).length
  let reg (old : Tab VReg) (f p : Nat) : Nat × VReg :=
    (p, { bits := if live (f + p) then BitVec.ofNat 1024 (ofLe ((b.drop (place (f + p))).take 128)) else (old.get {} p).bits
          tag := b.getD (f + p) 0 % 16 })
  { y with
    a := (List.range 32).map (reg y.a 0)
    b := (List.range 32).map (reg y.b 32)
    x := fileAt b (place 64) 128 8 0 (BitVec.ofNat 1024) }

/-- The synchronous state of an image. What the image does not hold stands as Bowline kept it (log entry 82). -/
def Sync.ofImage (y : Sync) (b : List Nat) : Sync :=
  let cr (i : Nat) : Nat := (imageCr b).get 0 i
  let w (v : Nat) : W64 := BitVec.ofNat 64 v
  let guards := ofLe ((b.drop 800).take 2)
  { y with
    pc := ofLe ((b.drop 8).take 8)
    s := (fileAt b 512 8 32 0 w).drop 1
    hb := fileAt b 768 8 4 28 w
    g := (List.range 15).map (fun i => (i + 1, bitOf (i + 1) guards))
    h := fileAt b 802 8 16 0 w
    j := fileAt b 930 8 16 0 w
    y := fileAt b 1058 8 16 0 w
    w := fileAt b 1186 64 8 0 (BitVec.ofNat 512)
    k := fileAt b 1698 32 16 0 (BitVec.ofNat 256)
    warn := cr 0x16, ldepth := cr 0x22, rrb := cr 0x23, twin := cr 0xD0, rng := cr 0xD8
    rings := (List.range 16).map (fun k => (k, (y.rings.get {} k).ofCrs (fun i => cr (0x40 + 4 * k + i))))
    streams := (List.range 16).map (fun k => (k, (y.streams.get {} k).ofCrs (fun i => cr (0x80 + 4 * k + i))))
    lp := (List.range 6).map (fun i => (i, w (cr (0xC0 + i)))) }

/-- The status of a copy queue from its two registers (R252). -/
def CqStat.ofCrs (v addr : Nat) : CqStat :=
  { ccnt := v / 2 ^ 32, ecause := bitsOf 31 24 v, multi := bitOf 1 v, err := bitOf 0 v, eaddr := addr }

/-- The tiles of an image that no pending version covers: one that the tiles section leaves out holds zero bits (R318). -/
def Core.tilesOfImage (k : Core) (b : List Nat) : Core :=
  let map := (List.range 8).map (fun t => b.getD (48 + t) 0)
  let live := (List.range 8).filter (fun t => map.getD t 0 < 128)
  let first := b.getD 3 0 - 6 * live.length
  let mine (t : Nat) : Bool := !k.pend.any (fun p => p.1 == t)
  let cells (t : Nat) : List Nat :=
    if live.contains t then itemsOf 6 4096 (b.drop (4096 * (first + 6 * (live.filter (fun u => decide (u < t))).length))) else []
  { k with
    tiles := (List.range 8).map (fun t =>
      (t, if mine t then { mode := map.getD t 0 % 4, flags := map.getD t 0 / 4 % 8, cells := cells t, written := live.contains t }
          else k.tiles.get {} t))
    sync := { k.sync with
      zst := (List.range 8).map (fun t => (t, if mine t then map.getD t 0 % 32 else k.sync.zst.get 0 t))
      zclr := k.sync.zclr.filter (fun p => !mine p.1) } }

/-- The core of an image: Bowline holds in `k` what the image does not. -/
def Core.ofImage (k : Core) (b : List Nat) : Core :=
  let cr (i : Nat) : Nat := (imageCr b).get 0 i
  let y := (k.sync.ofImage b).ofVectorSection (b.drop 4096)
  let k := { k with
    sync := y, latch := b.getD 2210 0 == 1, cycle := ofLe ((b.drop 24).take 8)
    qa := CqStat.ofCrs (cr 0xC8) (cr 0xCA), qb := CqStat.ofCrs (cr 0xC9) (cr 0xCB)
    trap := { cause := bitsOf 15 0 (cr 0x10), async := bitOf 16 (cr 0x10), addr := cr 0x11, flt := cr 0x12, slots := cr 0x13
              info := BitVec.ofNat 64 (cr 0x14), haddr := cr 0x15 / 4 * 4, en := bitOf 0 (cr 0x15) } }
  k.tilesOfImage b

/-- The key selector under which Bowline writes the frames of guest g: its key slot (log entry 45). -/
def State.frameSel (_ : State) (g : Nat) : Nat := g

/-- Read lines of a guest's frame; none when one of them cannot be read. -/
def State.readLines (s : State) (g : Nat) : List Nat → State × Option (List Nat)
  | [] => (s, some [])
  | a :: t =>
    let r := s.homeRead g (s.frameSel g) a 128
    match r.2 with
    | none => (r.1, none)
    | some b =>
      let r2 := r.1.readLines g t
      (r2.1, r2.2.map (fun l => b ++ l))

/-- Read the image in the frames of a saved context; no regulator is charged (log entry 82). -/
def State.readImage (s : State) (g : Nat) (frames : List Nat) : State × Option (List Nat) :=
  s.uncharged (fun s => s.readLines g (frames.flatMap (fun f => (List.range 32).map (fun i => f + 128 * i))))

/-- A saved context with its core as the image gives it; an image that cannot be read leaves Bowline's copy (log entry 82). -/
def State.loadImage (s : State) (g : Nat) (v : SavedCtx) : State × SavedCtx :=
  let r := s.readImage g v.frames
  match r.2 with
  | some b => let k := v.ctx.ofImage b; (r.1, { v with ctx := { k with shadow := k.sync } })
  | none => (r.1, v)

end Sys2Proof.Machine
end

