-- ==== Sys2Proof/Machine/Launch.lean ====
section
/-! DEFINITION. Command streams, nodes, the walk of a graph, records, the placement of groups, the major frame,
configuration planes, and LNCH, GARM, HIRQ and PFLIP (R413 to R445). -/

namespace Sys2Proof.Machine

/-! ### Planes (R437, R438, R440) -/

/-- One step of CRC-32C, the bits of a byte taken least significant first. -/
def crc32cByte (c b : Nat) : Nat :=
  (List.range 8).foldl (fun c i => if bitOf 0 c != bitOf i b then (c / 2) ^^^ 0x82F63B78 else c / 2) c
/-- CRC-32C of a list of bytes. -/
def crc32c (l : List Nat) : Nat := (l.foldl crc32cByte 0xFFFFFFFF) ^^^ 0xFFFFFFFF

/-- The bytes that the CRC of an image covers. -/
def planeBody : Nat := 0x1240

/-- The constant-table tag at byte i: 15 is stored as 9 (R437). -/
def storedByte (i v : Nat) : Nat :=
  if 0x1000 ≤ i ∧ i < 0x1200 ∧ i % 16 = 8 ∧ v % 16 = 15 then v - 6 else v
/-- A plane that holds an image; the method table's source address is kept with it (R219). -/
def Plane.ofImage (b : List Nat) (src : Nat) : Plane :=
  { bytes := bytesTab (((List.range b.length).zip b).map (fun p => storedByte p.1 p.2)), tbase := src }

/-- A little-endian field of a plane. -/
def Plane.field (p : Plane) (o n : Nat) : Nat := ofLe ((List.range n).map (fun i => p.bytes.get 0 (o + i)))
/-- The ring of a plane's fields: NPTR 0 and TAG from DTAG (R201, R439). -/
def Plane.ring (p : Plane) (k : Nat) (old : Ring) : Ring :=
  let o := 0x0C00 + 32 * k
  let d := tagWrite old.dtag (bitsOf 31 16 (p.field (o + 24) 8))
  { base := bitsOf 47 7 (p.field o 8) * 128, slotb := bitsOf 31 16 (p.field (o + 8) 8), slots := bitsOf 6 0 (p.field (o + 8) 8)
    dtag := d, tag := d, ep := old.ep + 1 }
/-- The ring of a plane's fields where the planes agree on it: its tiles, its pointer and its tag stay (R445). -/
def Plane.ringKept (p : Plane) (k : Nat) (old : Ring) : Ring :=
  let r := p.ring k old
  { old with base := r.base, slotb := r.slotb, slots := r.slots, dtag := r.dtag }
/-- The stream registers of a plane's fields; a binding stands until the next BIND (R240, R445). -/
def Plane.stream (p : Plane) (k : Nat) (old : Stream) : Stream :=
  let o := 0x0E00 + 32 * k
  { old with
    qbase := BitVec.ofNat 64 (p.field o 8) &&& 0xCFF0FFFFFFFFFFFF, qdim := BitVec.ofNat 64 (p.field (o + 8) 8)
    qstr := BitVec.ofNat 64 (p.field (o + 16) 8), qblk := BitVec.ofNat 64 (p.field (o + 24) 8) &&& 0xFFFFFFFF00000000 }
/-- Load the ring, stream and lane-pattern fields of a plane; `keep` names the rings that keep their pointers (R445). -/
def Sync.loadPlane (y : Sync) (p : Plane) (keep : Nat → Bool) : Sync :=
  { y with
    rings := (List.range 16).map (fun k => (k, if keep k then p.ringKept k (y.rings.get {} k) else p.ring k (y.rings.get {} k)))
    streams := (List.range 16).map (fun k => (k, p.stream k (y.streams.get {} k)))
    lp := (List.range 6).map (fun i => (i, BitVec.ofNat 64 (p.field (0x1200 + 8 * i) 8) &&& 0xFFFFFF7F)) }

/-- The items of a difference list: offset and bytes; none when the list breaks R438. `fuel` bounds their number. -/
def diffItems : Nat → List Nat → Option (List (Nat × List Nat))
  | 0, _ => none
  | _ + 1, [] => some []
  | fuel + 1, l =>
    let o := ofLe (l.take 2)
    let n := ofLe ((l.drop 2).take 2)
    let step := 4 + (n + 3) / 4 * 4
    if l.length < 4 ∨ n = 0 ∨ planeSize < n ∨ planeBody < o + n ∨ l.length < step then none
    else (diffItems fuel (l.drop step)).map (fun r => (o, (l.drop 4).take n) :: r)

/-- A Splice begins on a core (R438, steps 1 to 3): BUSY is set and READY cleared, the image is built from the active plane
as it stands and checked; the core's result stands `due` later. The answer is whether it will be accepted. -/
def Core.splice (k0 : Core) (node due seqNo crc image : Nat) (l : List Nat) : Core × Bool :=
  let k := k0.spliceEnd
  let start (p : Plane) (ok : Bool) : Core × Bool :=
    ({ k with cfgWord := (k.cfgWord ||| 8) &&& (~~~ 4)
              splicing := some { node := node, due := due, inact := p, seqNo := seqNo, ok := ok, ready := k.planeReady } }, ok)
  match diffItems (l.length + 1) l with
  | none => start {} false
  | some it =>
    let b := it.foldl (fun b x => patch b x.1 x.2) k.actPlane.image
    if crc32c (b.take planeBody) ≠ crc then start {} false
    else start (Plane.ofImage (patch (patch b 0x1242 [seqNo % 256]) 0x1244 (toLe 4 crc)) (image % 2 ^ 48)) true

/-! ### Fields of nodes (R416 to R422) -/

/-- A field of a node. -/
def Node.field (n : Node) (o k : Nat) : Nat := ofLe ((n.bytes.drop o).take k)
/-- A byte of a node. -/
def Node.byte (n : Node) (o : Nat) : Nat := n.bytes.getD o 0
/-- A flag of a node. -/
def Node.flag (n : Node) (i : Nat) : Bool := bitOf i (n.byte 3)
/-- NEXT. -/
def Node.next (n : Node) : Nat := n.field 8 8
/-- PRIO. -/
def Node.prio (n : Node) : Nat := n.byte 2 % 8
/-- Entry i, from byte 96, of 16 bytes. -/
def Node.entry (n : Node) (i : Nat) : List Nat := (n.bytes.drop (96 + 16 * i)).take 16
/-- The member entries. -/
def Node.members (n : Node) : List (List Nat) := (List.range (n.byte 16)).map n.entry
/-- The pipe entries. -/
def Node.pipes (n : Node) : List (List Nat) := (List.range (n.byte 17)).map (fun i => n.entry (n.byte 16 + i))
/-- The argument entries. -/
def Node.args (n : Node) : List (List Nat) := (List.range (n.byte 18)).map (fun i => n.entry (n.byte 16 + n.byte 17 + i))
/-- A field of an entry. -/
def eField (e : List Nat) (o k : Nat) : Nat := ofLe ((e.drop o).take k)
/-- The core that a member entry names. -/
def eCore (e : List Nat) : Nat := e.getD 6 0 % 8
/-- The Capstan positions that a member entry names, as a mask of 256 bits; none when it names none. -/
def eCaps (e : List Nat) : Option Nat :=
  if bitOf 7 (e.getD 6 0) then
    some ((List.range (e.getD 8 0)).foldl (fun m i => m ||| 2 ^ ((e.getD 7 0 + i) % 256)) 0)
  else none
/-- The cores of the cluster that the members name, as a mask. -/
def Node.gang (n : Node) : Nat := n.members.foldl (fun m e => m ||| 2 ^ eCore e) 0
/-- Four 64-bit words as one mask of 256 bits. -/
def mask256 (l : List Nat) : Nat := (List.range 4).foldl (fun m i => m + l.getD i 0 * 2 ^ (64 * i)) 0
/-- Every byte in a range of a node is zero. -/
def zeroIn (b : List Nat) (lo hi : Nat) : Bool := ((b.drop lo).take (hi - lo)).all (fun x => x == 0)

/-- The checks of a KERNEL node (R418, R405). -/
def kernelOk (c : Contract) (n : Node) : Bool :=
  let b := n.bytes
  let nm := n.byte 16
  let cores := n.members.map eCore
  decide (1 ≤ nm) && decide (nm ≤ 8) && decide (n.byte 17 ≤ 16) && decide (n.byte 18 ≤ 32) && decide (n.byte 19 ≤ 2) &&
  decide (n.byte 28 < 32) && n.byte 1 == ceilDiv (96 + 16 * (nm + n.byte 17 + n.byte 18)) 32 && zeroIn b 56 64 &&
  (!n.flag 0 || n.field 32 8 % 4 == 0) && n.field 40 8 % 4096 == 0 &&
  n.members.all (fun e => eField e 0 6 % 4 == 0 && e.getD 6 0 &&& 0x48 == 0 && zeroIn e 9 16 &&
    (match eCaps e with | none => true | some m => e.getD 8 0 != 0 && (m &&& mask256 c.caps) == m)) &&
  cores.eraseDups.length == nm &&
  n.pipes.all (fun e => decide (e.getD 0 0 < nm) && decide (e.getD 1 0 < nm) && e.getD 0 0 != e.getD 1 0 &&
    decide (2 ≤ e.getD 2 0) && decide (e.getD 2 0 ≤ 64) && decide (e.getD 3 0 < nm) && eField e 4 4 != 0 &&
    eField e 4 4 % 128 == 0 && eField e 8 4 % 128 == 0 && decide (e.getD 12 0 < 32) && decide (e.getD 13 0 < 32) &&
    zeroIn e 14 16 && decide (eField e 8 4 + e.getD 2 0 * eField e 4 4 ≤ c.wlen * 4096)) &&
  n.args.all (fun e => (decide (e.getD 0 0 < nm) || e.getD 0 0 == 0xFF) && zeroIn e 3 8 &&
    (match e.getD 1 0 with
     | 0 => decide (1 ≤ e.getD 2 0) && decide (e.getD 2 0 < 32)
     | 1 => decide (e.getD 2 0 < 16)
     | 2 => decide (e.getD 2 0 < 16)
     | _ => false))

/-- The checks of a node that was read (R416 to R422, R436 ERRK 2); a byte that the table of its kind does not name is
reserved (log entry 16). -/
def nodeOk (c : Contract) (n : Node) : Bool :=
  let b := n.bytes
  let k := n.byte 0
  decide (1 ≤ k) && decide (k ≤ 5) && (if k = 1 then decide (3 ≤ n.byte 1) && decide (n.byte 1 ≤ 31) else n.byte 1 == 3) &&
  (if k = 1 then decide (n.byte 2 < 8) else n.byte 2 == 0) && decide (n.byte 3 < 16) && decide (n.byte 4 ≤ 4) &&
  zeroIn b 6 8 && n.next % 32 == 0 && (List.range (min 4 (n.byte 4))).all (fun i => n.field (64 + 8 * i + 4) 2 == 0) &&
  (match k with
   | 1 => kernelOk c n
   | 2 => zeroIn b 17 20 && zeroIn b 24 64
   | 3 => n.field 18 2 % 4 == 0 && decide (4 ≤ n.field 18 2) && decide (n.field 18 2 ≤ 8192) && zeroIn b 28 32 &&
          n.field 32 8 % 4 == 0 && n.field 40 8 % 4096 == 0 && zeroIn b 48 64
   | 4 => decide (n.byte 16 < 64) && zeroIn b 17 64
   | _ => decide (n.byte 16 ≤ 3) && zeroIn b 17 24 && n.field 32 8 % 8 == 0 && n.field 40 8 % 32 == 0 && zeroIn b 56 64)

/-- Read a node (R416): 96 bytes, and the entries of a KERNEL node. -/
def State.nodeRead (s : State) (g addr : Nat) : State × Except (Nat × Nat) Node :=
  let r := s.gRead g addr 96
  match r.2 with
  | .error e => (r.1, .error e)
  | .ok b =>
    let len := b.getD 1 0
    if b.getD 0 0 = 1 ∧ 3 < len ∧ len ≤ 31 then
      let r2 := r.1.gRead g (addr + 96) (32 * len - 96)
      (r2.1, match r2.2 with
        | .error e => .error e
        | .ok b2 => .ok { addr := addr, kind := 1, bytes := b ++ b2 })
    else (r.1, .ok { addr := addr, kind := b.getD 0 0, bytes := b })

/-- A dependence is met (R417). -/
def State.depMet (s : State) (g epoch w : Nat) : Bool :=
  let e := ((s.guestAt g).ev.get 0 (bitsOf 63 56 w)).toNat
  let t := bitsOf 31 0 w + epoch * bitsOf 55 48 w
  decide ((e + 2 ^ 32 - t % 2 ^ 32) % 2 ^ 32 < 2 ^ 31)
/-- Every dependence of a node is met. -/
def State.depsMet (s : State) (g : Nat) (n : Node) : Bool :=
  (List.range (min 4 (n.byte 4))).all (fun i => s.depMet g n.epoch (n.field (64 + 8 * i) 8))

/-! ### Streams and walks (R413 to R415, R423, R424) -/

/-- A command stream. -/
def State.cms (s : State) (g k : Nat) : Cms := (s.guestAt g).cms.get {} k
/-- Change a command stream. -/
def State.modCms (s : State) (g k : Nat) (f : Cms → Cms) : State :=
  s.modGuest g (fun x => { x with cms := x.cms.set k (f (x.cms.get {} k)) })
/-- A node instance. -/
def State.nodeAt (s : State) (g id : Nat) : Option Node := (s.guestAt g).nodes.find? (fun n => n.id == id)
/-- The address of the entry at a position of the ring. -/
def Cms.slot (q : Cms) (i : Nat) : Nat := q.base * 4096 + 8 * (i % 2 ^ q.logn)
/-- The entries that wait. -/
def Cms.fill (q : Cms) : Nat := (q.tail + 2 ^ 32 - q.head) % 2 ^ 32

/-- TAIL takes a value (R415): one further than 2^N beyond HEAD is taken as HEAD + 2^N. -/
def State.tailWrite (s : State) (g k v : Nat) : State :=
  s.modCms g k (fun q =>
    let d := (v % 2 ^ 32 + 2 ^ 32 - q.head) % 2 ^ 32
    { q with tail := (q.head + min d (2 ^ q.logn)) % 2 ^ 32 })

/-- TAIL is written (R415): a posted write, which the earlier accesses of its function go before (R399). -/
def execCommandStreamTailWrite (g k v : Nat) (s : State) : Host.Outcome State Fault Refusal :=
  .next (if s.parked.any (fun p => p.2.ofHost g) then s.park (.tail g k v) else s.tailWrite g k v)

/-- EN is cleared (R414): the walk ends after its present node. -/
def execCommandStreamDisable (g k : Nat) (s : State) : Host.Outcome State Fault Refusal :=
  .next (s.modCms g k (fun q => { q with en := false, leaving := q.run }))

/-- HALT is cleared (R414): the failed graph is abandoned. -/
def execHaltClear (g k : Nat) (s : State) : Host.Outcome State Fault Refusal :=
  .next (if (s.cms g k).halt then s.modCms g k (fun q => { q with halt := false, run := false, arm := false, entered := false, reached := 0, leaving := false }) else s)

/-- A stream may take an entry. -/
def State.takeDue (s : State) (g k : Nat) : Bool :=
  let q := s.cms g k
  let c := (s.guestAt g).gc
  c.en && c.gstate != 5 && q.en && !q.halt && !q.run && q.fill != 0

/-- The entry at HEAD is taken (R413). -/
def execStreamEntryTake (g k : Nat) (s : State) : Host.Outcome State Fault Refusal :=
  .next (if !s.takeDue g k then s
  else s.cpGate g (fun s =>
    let q := s.cms g k
    let ea := q.slot q.head
    let r := (s.modCms g k (fun q => { q with head := (q.head + 1) % 2 ^ 32 })).gRead g ea 8
    match r.2 with
    | .error e => r.1.haltStream g k 1 e.1 ea
    | .ok b =>
      let w := ofLe b
      if bitsOf 63 48 w ≠ 0 ∨ bitsOf 4 0 w ≠ 0 then r.1.haltStream g k 2 0 ea
      else r.1.modCms g k (fun q =>
        { q with run := true, gHead := w, node := w, entered := false, epoch := 0, arm := false, reached := 0, leaving := false })))

/-- The walk starts again at a node in the next epoch (R424), unless its stream abandons the graph (R414). -/
def Cms.rearmAt (q : Cms) (node : Nat) : Cms :=
  if q.leaving then { q with run := false, arm := false, entered := false, leaving := false }
  else { q with node := node, epoch := (q.epoch + 1) % 2 ^ 32, entered := false }

/-- The walk goes on at a node, or ends at NEXT = 0 (R423); a stream may abandon its graph (R414). -/
def Cms.goTo (q : Cms) (node : Nat) : Cms :=
  if q.leaving then { q with run := false, arm := false, entered := false, leaving := false }
  else if node ≠ 0 then { q with node := node, entered := false }
  else if q.arm then ({ q with arm := false } : Cms).rearmAt q.gHead
  else { q with run := false, entered := false }

/-- KERNEL records that are neither DONE nor FAILED (R427). -/
def State.unfinished (s : State) (g : Nat) : Nat :=
  ((s.guestAt g).nodes.filter (fun n => n.kind == 1 && decide (n.st < 3))).length

/-- Enter a node: a new instance (R423). -/
def State.enterNode (s : State) (g stream epoch : Nat) (n : Node) : State :=
  s.modGuest g (fun x => { x with
    nodes := x.nodes ++ [{ n with id := x.nextId, stream := stream, epoch := epoch }]
    nextId := x.nextId + 1
    lastImg := if n.kind = 1 then n.field 40 8 else x.lastImg })

/-- An instance has ended (R417). -/
def State.nodeEnded (s : State) (g id : Nat) : Bool :=
  match s.nodeAt g id with | none => true | some n => decide (3 ≤ n.st)

/-- Another walk waits at the limit (R427). -/
def State.limitQueue (s : State) (g k : Nat) : Bool :=
  [0, 1, 2, 3].any (fun j => j != k && (s.cms g j).reached != 0 && !(s.cms g j).halt)

/-- The walk of a stream waits at a KERNEL node for the limit of 256 records, behind no other walk (R427). -/
def State.limitTurn (s : State) (g k : Nat) : Bool :=
  let r := (s.cms g k).reached
  r == 0 || (decide (s.unfinished g < 256) &&
    [0, 1, 2, 3].all (fun j => (s.cms g j).reached == 0 || (s.cms g j).halt || decide (r ≤ (s.cms g j).reached)))

/-- The walk of a stream can go on. -/
def State.enterDue (s : State) (g k : Nat) : Bool :=
  let q := s.cms g k
  q.run && !q.halt && (if q.entered then
    (match s.nodeAt g q.inst with | none => true | some n => n.kind != 5 && decide (3 ≤ n.st)) else s.limitTurn g k)

/-- The walk fetches, checks and enters its node, or leaves a node that it waited for (R423). -/
def execNodeEnter (g k : Nat) (s : State) : Host.Outcome State Fault Refusal :=
  .next (if !s.enterDue g k then s
  else
    let q := s.cms g k
    if q.entered then s.modCms g k (fun q => q.goTo (match s.nodeAt g q.inst with | none => 0 | some n => n.next))
    else s.cpGate g (fun s =>
      let r := s.nodeRead g q.node
      match r.2 with
      | .error e => r.1.haltStream g k 1 e.1 q.node
      | .ok n =>
        if !nodeOk (r.1.guestAt g).gc n then r.1.haltStream g k 2 0 q.node
        else if n.kind = 1 ∧ (256 ≤ r.1.unfinished g ∨ (q.reached = 0 ∧ r.1.limitQueue g k = true)) then
          (r.1.modCms g k (fun q => { q with reached := (r.1.guestAt g).nextOrder + 1 })).modGuest g
            (fun x => { x with nextOrder := x.nextOrder + 1 })
        else
          let id := (r.1.guestAt g).nextId
          let t := (r.1.enterNode g k q.epoch n).modCms g k (fun q => { q with reached := 0, inst := id, entered := true })
          if n.kind = 5 ∨ n.flag 3 then t else t.modCms g k (fun q => q.goTo n.next)))

/-- A node ends without failure; SIGV signals its event (R429, R431). -/
def State.nodeDone (s : State) (g id : Nat) : State :=
  match s.nodeAt g id with
  | none => s
  | some n =>
    let t := s.modNode g id (fun n => { n with st := 3 })
    if n.flag 1 && !n.replay then t.evAdd g (n.byte 5) 1 else t

/-- A node of a kind acts: it is PENDING and its dependences are met. -/
def State.actDue (s : State) (g id kind : Nat) : Option Node :=
  match s.nodeAt g id with
  | none => none
  | some n => if n.kind == kind && n.st == 0 && s.depsMet g n then some n else none

/-- An EVENT node acts (R419). -/
def execEventNode (g id : Nat) (s : State) : Host.Outcome State Fault Refusal :=
  .next (match s.actDue g id 2 with
  | none => s
  | some n => (s.evAdd g (n.byte 16) (n.field 20 4)).nodeDone g id)

/-- A HOSTIRQ node acts (R420). -/
def execHostirqNode (g id : Nat) (s : State) : Host.Outcome State Fault Refusal :=
  .next (match s.actDue g id 4 with
  | none => s
  | some n => (s.irqPost g (n.byte 16 % 64)).nodeDone g id)

/-- Cause SPLICEBAD (R323). -/
def cSPLICEBAD : Nat := 0xA4

/-- A core runs a live kernel of guest g. -/
def Core.live (k : Core) (g : Nat) : Bool :=
  k.guest == g && (k.mode == .run || k.mode == .handler || k.mode == .saving || k.mode == .savewait)

/-- The cycles a Splice of n bytes takes on a core (R438). -/
def spliceTime (n : Nat) : Nat := 4 + ceilDiv n 128 + 74

/-- Send a Splice to the live kernels of guest g on one core, running or saved (R421, R440). On a core that runs bundles
it begins after the bundle of this cycle, so that a PFLIP there acts first (R445). -/
def State.spliceCore (s : State) (g c node seqNo crc image : Nat) (l : List Nat) : State × Bool :=
  let k := s.coreAt c
  let due := s.now + spliceTime l.length
  let a : State × Bool :=
    if !k.live g then (s, true)
    else if k.mode == .run || k.mode == .handler then
      (s.modCoreAt c (fun k => { k with arriving := k.arriving ++ [{ node := node, since := s.now, due := due, seqNo := seqNo,
                                                                       crc := crc, image := image, list := l }] }), true)
    else (let r := k.splice node due seqNo crc image l; (s.modCoreAt c (fun _ => r.1), r.2))
  let sv := (s.guestAt g).saved.map (fun v => if 8 * v.cl + v.core == c
    then (let r := v.ctx.splice node due seqNo crc image l; ({ v with ctx := r.1.spliceEnd }, r.2)) else (v, true))
  (a.1.modGuest g (fun x => { x with saved := sv.map (fun p => p.1) }), a.2 && sv.all (fun p => p.2))

/-- The Splice that reached a core in an earlier cycle begins; a refused one fails its node. -/
def State.spliceBegin (s : State) (c : Nat) (x : SpliceReq) : State :=
  let k := { s.coreAt c with arriving := (s.coreAt c).arriving.drop 1 }
  let r := k.splice x.node x.due x.seqNo x.crc x.image x.list
  let t := s.modCoreAt c (fun _ => r.1)
  if r.2 then t else t.modNode k.guest x.node (fun n => { n with sent := 2 })

/-- A core still applies the Splice of a node of guest g. -/
def State.splicing (s : State) (g id : Nat) : Bool :=
  s.cores.any (fun p => p.2.guest == g && ((p.2.splicing.map (fun x => x.node)) == some id || p.2.arriving.any (fun x => x.node == id)))

/-- Whether SPLICE_NODE is due: the node acts, or its last core has finished. -/
def State.spliceDue (s : State) (g id : Nat) : Bool :=
  match s.actDue g id 3 with | some n => n.sent == 0 || !s.splicing g id | none => false

/-- A SPLICE node acts (R421, R438): it sends the list to the cores, and it ends when each of them has applied or refused
it. A list that cannot be read rejects the Splice. -/
def execSpliceNode (g id : Nat) (s : State) : Host.Outcome State Fault Refusal :=
  .next (match s.actDue g id 3 with
  | none => s
  | some n =>
    if n.sent = 0 then s.cpGate g (fun s =>
      let r := s.gRead g (n.field 32 8) (n.field 18 2)
      match r.2 with
      | .error _ => r.1.failNode g id 5 cSPLICEBAD
      | .ok l =>
        let cores := (List.range 256).filter (fun c => bitOf (c / 8) (n.field 20 4) && bitOf (c % 8) (n.byte 17))
        let z := cores.foldl (fun (p : State × Bool) c =>
          let q := p.1.spliceCore g c id (n.byte 16) (n.field 24 4) (n.field 40 8) l; (q.1, p.2 && q.2)) (r.1, true)
        z.1.modNode g id (fun x => { x with sent := if z.2 then 1 else 2 }))
    else if s.splicing g id then s
    else if n.sent = 1 then s.nodeDone g id else s.failNode g id 5 cSPLICEBAD)

/-- The condition of a COND node (R422). -/
def condHolds (op w v : Nat) : Bool :=
  match op with
  | 0 => w == v
  | 1 => w != v
  | 2 => decide (w < v)
  | _ => decide (v ≤ w)

/-- The COND node of a walk acts (R422, R423). -/
def execCondNode (g k : Nat) (s : State) : Host.Outcome State Fault Refusal :=
  let q := s.cms g k
  .next (if !(q.run && q.entered && !q.halt) then s
  else match s.actDue g q.inst 5 with
  | none => s
  | some n => s.cpGate g (fun s =>
    let r := s.gRead g (n.field 32 8) 8
    match r.2 with
    | .error e => r.1.failNode g n.id 4 e.1
    | .ok b =>
      let w := ofLe b &&& n.field 48 8
      let t := r.1.nodeDone g n.id
      t.modCms g k (fun q => if condHolds (n.byte 16) w (n.field 24 8) then q.rearmAt (n.field 40 8) else q.goTo n.next)))

/-- A KERNEL record becomes READY (R425, R426): its count is read once; a count of 0 is DONE at once. -/
def execKernelRecordReady (g id : Nat) (s : State) : Host.Outcome State Fault Refusal :=
  .next (match s.actDue g id 1 with
  | none => s
  | some n =>
    let go (s : State) : State :=
      let r : State × Except (Nat × Nat) (List Nat) := if n.flag 0 then s.gRead g (n.field 32 8) 4 else (s, .ok (toLe 4 (n.field 24 4)))
      match r.2 with
      | .error e => r.1.failNode g id 4 e.1
      | .ok b =>
        if ofLe b = 0 then r.1.nodeDone g id
        else (r.1.modNode g id (fun n => { n with st := 1, count := ofLe b, order := (r.1.guestAt g).nextOrder })).modGuest g
          (fun x => { x with nextOrder := x.nextOrder + 1 })
    if n.flag 0 then s.cpGate g go else go s)

/-! ### Where a group fits (R428, R333, R405, R452) -/

/-- Cluster cl serves placements in the stage of bring-up (R502, R503); after FATAL none does (R512). -/
def State.clusterUp (s : State) (cl : Nat) : Bool :=
  !(s.clAt cl).retired && (s.clAt cl).pend == 0 && !s.plat.switching && !s.plat.fatal && (s.plat.stage == 3 || (s.plat.stage == 2 && cl / 8 == s.plat.reddie))

/-- The µs since the start of the frame. -/
def State.frameUs (s : State) : Nat := s.time - s.frame.startAt

/-- A window gives guest g cluster cl now, and its guard band has not begun (R428, R434, R435). Without FRAME_CTL.EN no
windows are scheduled, and every cluster stands idle (log entry 17). -/
def State.winAllows (s : State) (g cl : Nat) : Bool :=
  s.frame.acc.any (fun k =>
    let w := s.frame.regs.wins.get {} k
    w.guest == g && bitOf cl w.clmask && decide (w.start ≤ s.frameUs) && decide (s.frameUs < w.start + w.wlen - w.guard) &&
    !s.frame.guard.contains k && !s.frame.ended.contains k)

/-- The clusters on which groups of guest g may be placed (R428, R452, R453). -/
def State.clusterAllowed (s : State) (g cl : Nat) : Bool :=
  let c := (s.guestAt g).gc
  bitOf cl c.part && (!c.rsz || bitOf cl (s.guestAt g).newPart) && s.clusterUp cl && s.winAllows g cl

/-- A placed group of some guest holds core n. -/
def State.coreHeld (s : State) (n : Nat) : Bool :=
  s.guests.any (fun p => p.2.grps.any (fun r => r.st == 0 && r.cores.contains n))

/-- Core n is free for a placement. -/
def State.coreFree (s : State) (n : Nat) : Bool :=
  let k := s.coreAt n
  (k.mode == .idle || k.mode == .stopped) && !k.retired && !k.retiring && !s.coreHeld n &&
    -- what the last context left behind is performed and written back (R282, R301)
    k.stores.isEmpty && decide (k.flushAt ≤ s.now)

/-- The barriers of cluster cl assigned to a gang. -/
def State.barsOwned (s : State) (cl : Nat) : Nat :=
  (s.clAt cl).bars.foldl (fun m p => if p.2.owner = 0 then m else m ||| 2 ^ p.1) 0

/-- The Capstan positions that live kernels of guest g hold, saved ones included (R405). -/
def State.capsHeld (s : State) (g : Nat) : Nat :=
  let run := (s.guestAt g).grps.foldl (fun m r => if r.st = 0 then r.cores.foldl (fun m c =>
    m ||| mask256 ((s.coreAt c).capmap.map (fun w => w.toNat))) m else m) 0
  (s.guestAt g).saved.foldl (fun m v => m ||| mask256 (v.ctx.capmap.map (fun w => w.toNat))) run

/-- The Capstan positions named by a record, none when two members name one. -/
def Node.capsNamed (n : Node) : Option Nat :=
  n.members.foldl (fun m e => match m, eCaps e with
    | some x, some y => if x &&& y = 0 then some (x ||| y) else none
    | x, none => x
    | none, _ => none) (some 0)

/-- The cluster on which the next group of a record fits, the lowest first; `free` says which cores are free. -/
def State.fitOn (s : State) (g : Nat) (n : Node) (free : Nat → Bool) (bars : Nat → Nat) : Option Nat :=
  let caps := match n.capsNamed with | none => false | some m => m &&& s.capsHeld g == 0
  if !caps then none
  else (List.range 32).find? (fun cl =>
    bitOf cl (n.field 20 4) && s.clusterAllowed g cl && (!n.replay || cl == (s.guestAt g).rpl.cl) &&
    n.members.all (fun e => free (8 * cl + eCore e)) && bars cl &&& n.field 30 2 == 0)

/-- Whether the next group of a record fits. -/
def State.fit (s : State) (g : Nat) (n : Node) : Option Nat := s.fitOn g n s.coreFree s.barsOwned

/-! ### Placing a group (R429, R439) -/

/-- A change of the L1 split (R278): the bytes that change role become zero, blocks end. -/
def Core.split (k : Core) (l1sz : Nat) : Core :=
  if k.l1sz = l1sz then k
  else { k with l1sz := l1sz, spad := k.spad.filter (fun p => decide (p.1 < 4096 * min (spPages k.l1sz) (spPages l1sz))),
                l1 := [], blocks := [], bflags := 0 }

/-- What a member core does with its planes (R439). -/
inductive PlaneCase where
  | flip
  | stay
  | load
  deriving DecidableEq, Repr

/-- The case of R439 for a member core. -/
def Core.planeCase (k : Core) (g : Nat) (n : Node) : PlaneCase :=
  if n.flag 2 && k.ran && k.guest == g && k.iseq == n.byte 29 && k.planeReady then .flip
  else if n.flag 2 && k.ran && k.guest == g && k.aseq == n.byte 29 then .stay
  else .load

/-- Set the planes of a member core (R439); `img` is the image read from CFGIMG. -/
def Core.setPlanes (k : Core) (g : Nat) (n : Node) (img : Plane) : Core :=
  let same := k.ran && k.guest == g
  let bad := same && bitOf 4 k.cfgWord.toNat
  match k.planeCase g n with
  | .flip => { k with planeAct := k.planeInact, planeInact := k.planeAct, cfgPlane := 1 - k.cfgPlane,
                      cfgWord := cfgOf k.aseq k.iseq bad true (1 - k.cfgPlane) }
  | .stay => { k with planeInact := {}, cfgWord := cfgOf 0 k.aseq bad false k.cfgPlane }
  | .load =>
    let act := if same then k.cfgPlane else 0
    { k with planeAct := img, planeInact := {}, cfgPlane := act, cfgWord := cfgOf 0 (img.bytes.get 0 0x1242) bad false act }

/-- What a core keeps from one context to the next: its array, its repair state, its first-level TLB, its planes, its
counters and its debug settings. -/
def Core.hardware (k : Core) : Core :=
  { guest := k.guest, spad := k.spad, badWords := k.badWords, spareRows := k.spareRows, retired := k.retired, retiring := k.retiring, l1sz := k.l1sz
    tlb := k.tlb, planeAct := k.planeAct, planeInact := k.planeInact, cfgPlane := k.cfgPlane, cfgWord := k.cfgWord, ran := k.ran
    pmc := k.pmc, pmctl := k.pmctl, mcyc := k.mcyc, hpmc := k.hpmc, hpmctl := k.hpmctl, hmcyc := k.hmcyc
    dbg := k.dbg.idle, seqNo := k.seqNo }

/-- The s, h and j registers that step 2 of R429 loads for member m: arguments, pipe bases, group index. -/
def Node.entryRegs (n : Node) (m index : Nat) : Tab W64 × Tab W64 × Tab W64 :=
  let put (t : Tab W64) (i v : Nat) : Tab W64 := t.set i (BitVec.ofNat 64 v)
  let a := n.args.foldl (fun (r : Tab W64 × Tab W64 × Tab W64) e =>
    if e.getD 0 0 = m ∨ e.getD 0 0 = 0xFF then
      match e.getD 1 0 with
      | 0 => (put r.1 (e.getD 2 0) (eField e 8 8), r.2.1, r.2.2)
      | 1 => (r.1, put r.2.1 (e.getD 2 0) (eField e 8 8), r.2.2)
      | _ => (r.1, r.2.1, put r.2.2 (e.getD 2 0) (eField e 8 8))
    else r) ([], [], [])
  let base (e : List Nat) : Nat := 0xFF0100000000 + eCore (n.entry (e.getD 3 0)) * 0x200000 + eField e 8 4
  let s := n.pipes.foldl (fun t e =>
    let t := if e.getD 0 0 = m then put t (e.getD 12 0) (base e) else t
    if e.getD 1 0 = m then put t (e.getD 13 0) (base e) else t) a.1
  let s := if n.byte 28 = 0 then s else put s (n.byte 28) index
  (s.del 0, a.2.1, a.2.2)

/-- A mask of 256 positions as four words. -/
def words256 (m : Nat) : List W64 := [0, 1, 2, 3].map (fun i => BitVec.ofNat 64 (m / 2 ^ (64 * i)))

/-- The cores of a cluster that hold a window of a guest (R325, R511). -/
def State.windowMemb (s : State) (g cl : Nat) : Nat :=
  if (s.guestAt g).gc.wlen = 0 then 0
  else (List.range 8).foldl (fun m c => if (s.coreAt (8 * cl + c)).retired then m else m + 2 ^ c) 0

/-- The counter bank of core n belongs to guest g, LENT or not (R463). -/
def State.bankOf (s : State) (n g : Nat) : Bool := s.plat.res.get 0 n == g + 1 || s.plat.res.get 0 n == g + 18

/-- A core turns from one guest to another: the bank that a guest holds there freezes with its values, and nothing that
belongs to the old guest stays in the counters or in the record of the last stop (R15, R486). -/
def State.turnBank (s : State) (c g : Nat) : State :=
  let k := s.coreAt c
  if k.guest = g then s
  else
    let t := if s.bankOf c k.guest then s.modGuest k.guest (fun x => { x with banks := x.banks.set c (k.pmc, k.pmctl, k.mcyc) }) else s
    let b : Tab Pmc × W64 × Tab Nat := if s.bankOf c g then (t.guestAt g).banks.get ([], 0, []) c else ([], 0, [])
    t.modCoreAt c (fun k => { k with pmc := b.1, pmctl := b.2.1, mcyc := b.2.2, dbg := { k.dbg with why := 0, code := 0, addr := 0 } })

/-- A core turns to a context of guest g: it drops the first-level TLB entries of other guests (R288), and the cluster's
second-level TLB passes to the guest, empty, when it held another's entries (R379). -/
def State.turnTo (s : State) (c g : Nat) : State :=
  ((s.turnBank c g).modCoreAt c (fun k => { k with tlb := k.tlb.filter (fun e => e.guest == g) })).modCl (clOf c)
    (fun cl => if cl.tlbGuest == some g then cl else { cl with tlb2 := [], tlbGuest := some g })

/-- Place member m of a group on its core (R429 steps 1 to 3 and 5). -/
def State.placeMember (s : State) (g : Nat) (n : Node) (cl index m caps : Nat) (img : Plane) : State :=
  let e := n.entry m
  let c := 8 * cl + eCore e
  let gc := (s.guestAt g).gc
  let memb := s.windowMemb g cl
  let r := n.entryRegs m index
  (s.turnTo c g).modCoreAt c (fun k0 =>
    let k := ((k0.spliceEnd.split (n.byte 19)).setPlanes g n img).hardware
    let y : Sync := ({ pc := eField e 0 6, s := r.1, h := r.2.1, j := r.2.2 } : Sync).loadPlane k.planeAct (fun _ => false)
    { k with
      mode := .run, guest := g, ran := true, rcd := n.id, grp := index, mem := m
      sync := y, shadow := y, trapShadow := y, ckptAddr := y.pc, ckptSeq := k.seqNo, ckptHere := true
      readyAt := s.now + 1
      trap := { haddr := bitsOf 47 2 (n.field 48 8) * 4, en := bitOf 0 (n.field 48 8) }
      spwoff := gc.woff, spwlen := gc.wlen, cspwoff := gc.woff, cspwlen := gc.wlen, cspmemb := memb
      capmap := words256 caps })

/-- The Capstan positions of the members in order: those named, or the lowest free one of the guest's mask (R405). -/
def capsFor (mask : Nat) : Nat → List (List Nat) → List Nat
  | _, [] => []
  | held, e :: t =>
    match eCaps e with
    | some m => m :: capsFor mask held t
    | none =>
      match (List.range 256).find? (fun i => bitOf i mask && !bitOf i held) with
      | some i => 2 ^ i :: capsFor mask (held ||| 2 ^ i) t
      | none => 0 :: capsFor mask held t

/-- Write the header of a pipe (R331). -/
def State.pipeHeader (s : State) (g : Nat) (n : Node) (cl : Nat) (e : List Nat) : State :=
  let c := 8 * cl + eCore (n.entry (e.getD 3 0))
  let base := (s.guestAt g).gc.woff * 4096 + eField e 8 4
  s.modCoreAt c (fun k => { k with spad := (List.range (e.getD 2 0)).foldl (fun t i =>
    spadPut t (base + i * eField e 4 4) (toLe 8 i ++ toLe 4 0)) k.spad })

/-- Assign the barriers of a group to its gang (R333). -/
def State.assignBars (s : State) (cl mask gang : Nat) : State :=
  s.modCl cl (fun c => { c with bars := (List.range 16).foldl (fun t b =>
    if bitOf b mask then t.set b { owner := gang, memb := gang } else t) c.bars })

/-- A member of a group on cluster cl needs the image of CFGIMG. -/
def State.needsImage (s : State) (g : Nat) (n : Node) (cl : Nat) : Bool :=
  n.members.any (fun e => (s.coreAt (8 * cl + eCore e)).planeCase g n == .load) && n.field 40 8 != 0

/-- The image of CFGIMG when a member needs it: an error kind and cause, or the plane (R439). -/
def State.imageFor (s : State) (g : Nat) (n : Node) (cl : Nat) : State × Except (Nat × Nat) Plane :=
  let a := n.field 40 8
  if !s.needsImage g n cl then (s, .ok {})
  else
    let r := s.gRead g a planeSize
    (r.1, match r.2 with
      | .error e => .error (6, e.1)
      | .ok b => if crc32c (b.take planeBody) == ofLe ((b.drop 0x1244).take 4) then .ok (Plane.ofImage b (a % 2 ^ 48))
          else .error (7, cSPLICEBAD))

/-- Place the next group of a record on cluster cl, its image having been admitted (R429). -/
def State.placeNow (s : State) (g : Nat) (n : Node) (cl : Nat) : State :=
  let gc := (s.guestAt g).gc
  if n.placed = 0 && decide (spPages (n.byte 19) < gc.woff + gc.wlen) then s.failNode g n.id 8 0
  else
    let r := s.imageFor g n cl
    match r.2 with
    | .error e => r.1.failNode g n.id e.1 e.2
    | .ok img =>
      let held := s.capsHeld g ||| n.capsNamed.getD 0
      let caps := capsFor (mask256 gc.caps) held n.members
      let t := (List.range n.members.length).foldl (fun t m => t.placeMember g n cl n.placed m (caps.getD m 0) img) r.1
      let t := n.pipes.foldl (fun t e => t.pipeHeader g n cl e) t
      let t := t.assignBars cl (n.field 30 2) n.gang
      let grp : Grp := { node := n.id, index := n.placed, cl := cl, members := n.members.map (fun e => { core := eCore e }),
                         order := (t.guestAt g).nextOrder }
      (t.modNode g n.id (fun n => { n with st := 2, placed := n.placed + 1 })).modGuest g
        (fun x => { x with grps := x.grps ++ [grp], nextOrder := x.nextOrder + 1 })

/-- Place the next group of a record on cluster cl (R429): the fetch of an image first passes point 8. -/
def State.placeGroup (s : State) (g : Nat) (n : Node) (cl : Nat) : State :=
  if s.needsImage g n cl then s.cpGate g (fun s => s.placeNow g n cl) else s.placeNow g n cl

/-! ### Saved groups (R428, R314, R318) -/

/-- The contexts of a saved group. -/
def Guest.contexts (x : Guest) (r : Grp) : List SavedCtx := x.saved.filter (fun v => v.node == r.node && v.index == r.index)

/-- A saved group can resume: on its own cores, with its barriers free (R425, R333). -/
def State.resumeFits (s : State) (g : Nat) (r : Grp) : Bool :=
  r.st == 1 && s.clusterAllowed g r.cl &&
  ((s.guestAt g).contexts r).all (fun v => s.coreFree (8 * r.cl + v.core)) &&
  r.bars.all (fun b => !bitOf b.1 (s.barsOwned r.cl))

/-- Restore a context on its core from its image (R318, R282, R247, R260): the stream buffers of input streams are fetched again from
POS, the load-blocks are refilled, and the method cache and the fetch buffer are empty (log entry 18). -/
def State.restoreCtx (s : State) (g : Nat) (cl : Nat) (v : SavedCtx) : State :=
  let c := 8 * cl + v.core
  let im := s.loadImage g v
  let s := im.1
  let v := im.2
  let memb := s.windowMemb g cl
  let gc := (s.guestAt g).gc
  let re (y : Sync) : Sync := { y with streams := y.streams.map (fun p =>
    if p.2.bnd != 0 && !bitOf 63 p.2.cbase.toNat && !bitOf 62 p.2.cbase.toNat then (p.1, { p.2 with buf := [], fetched := p.2.pos }) else p) }
  let t := (s.turnTo c g).modCoreAt c (fun k0 =>
    let h := (k0.spliceEnd.split v.ctx.l1sz).hardware
    { v.ctx with
      mode := if v.ctx.inHandler then .handler else .run, inHandler := false, mHalt := false, guest := g, ran := true
      sync := re v.ctx.sync, shadow := re v.ctx.shadow, trapShadow := re v.ctx.trapShadow
      spad := h.spad, badWords := h.badWords, spareRows := h.spareRows, retired := h.retired, retiring := h.retiring, l1sz := h.l1sz, tlb := h.tlb
      -- the bank is saved and restored with the context (R486)
      pmc := v.ctx.pmc, pmctl := v.ctx.pmctl, mcyc := v.ctx.mcyc
      hpmc := h.hpmc, hpmctl := h.hpmctl, hmcyc := h.hmcyc, dbg := h.dbg
      yreq := false, ywhy := 0, ydl := 0, readyAt := s.now + 1, frames := [], yieldPend := none, rstack := []
      ckptHere := true, ckptAddr := v.ctx.sync.pc, ckptSeq := v.ctx.seqNo
      spwoff := gc.woff, spwlen := gc.wlen, cspwoff := gc.woff, cspwlen := gc.wlen, cspmemb := memb
      l1 := [], mcache := [], fbBytes := [], fbFault := none })
  -- the load-blocks are filled and pinned again (R260)
  let t := v.ctx.blocks.foldl (fun (t : State) (b : Block) =>
    (List.range b.lines).foldl (fun (t : State) i =>
      let va := b.va + 128 * i
      let r := t.resolve c va 4
      match r.2 with
      | .ok (.mem pa sel) =>
        let d := (r.1.post (some c) (dieOf c) (clOf c % 8) g 2).homeRead g sel pa 128
        match d.2 with
        | some x => d.1.modCoreAt c (fun k => { k with l1 := k.l1 ++ [{ pa := pa, sel := sel, data := x, dirty := [], pins := [b.flag], va := va }] })
        | none => d.1
      | _ => r.1) t) t
  (t.returnFrames g v.frames).traceRec c 8 0 v.ctx.sync.pc 0

/-- Resume a saved group (R428): its barriers first, then its members together. -/
def State.resumeGroup (s : State) (g : Nat) (r : Grp) : State :=
  let cs := (s.guestAt g).contexts r
  let t := s.modCl r.cl (fun c => { c with bars := r.bars.foldl (fun t b => t.set b.1 b.2) c.bars })
  let t := cs.foldl (fun t v => t.restoreCtx g r.cl v) t
  (t.modGrp g r.node r.index (fun r => { r with st := 0, bars := [], yield := false, order := (t.guestAt g).nextOrder })).modGuest g
    (fun x => { x with nextOrder := x.nextOrder + 1,
                       saved := x.saved.filter (fun v => !(v.node == r.node && v.index == r.index)) })

/-- Ask a core to give up its context (R314). -/
def State.askYield (s : State) (c why ydl : Nat) : State :=
  s.modCoreAt c (fun k => if k.mode == .run || k.mode == .handler then { k with yreq := true, ywhy := why, ydl := ydl } else k)

/-! ### Groups without a place (R453) -/

/-- The bytes of a guest's window on core n: core of the cluster, offset, byte. -/
def State.windowBytes (s : State) (g n : Nat) : List (Nat × Nat × Byte) :=
  let c := (s.guestAt g).gc
  ((s.coreAt n).spad.filter (fun p => decide (c.woff * 4096 ≤ p.1) && decide (p.1 < (c.woff + c.wlen) * 4096))).map
    (fun p => (n % 8, p.1, p.2))

/-- Clear a guest's window on core n. -/
def State.clearWindow (s : State) (g n : Nat) : State :=
  let c := (s.guestAt g).gc
  s.modCoreAt n (fun k => { k with spad := k.spad.filter (fun p =>
    !(decide (c.woff * 4096 ≤ p.1) && decide (p.1 < (c.woff + c.wlen) * 4096))) })

/-- A saved group leaves its cluster: its windows are taken along (R453 step 3). -/
def State.unmoor (s : State) (g : Nat) (r : Grp) : State :=
  let w := r.cores.flatMap (fun n => s.windowBytes g n)
  s.modGrp g r.node r.index (fun r => { r with st := 3, spad := w })

/-- The lowest cluster on which a group without a place fits (R453): in the partition, in the CLMASK of its record, given
by the window, with its cores and barriers free. -/
def State.moorFit (s : State) (g part : Nat) (r : Grp) : Option Nat :=
  let mask := ((s.nodeAt g r.node).map (fun n => n.field 20 4)).getD 0
  (List.range 32).find? (fun cl => bitOf cl part && bitOf cl mask && s.clusterUp cl && s.winAllows g cl &&
    r.members.all (fun m => s.coreFree (8 * cl + m.core)) && r.bars.all (fun b => !bitOf b.1 (s.barsOwned cl)))

/-- A group without a place gets a cluster: its windows are copied there, with the cores divided as its contexts left them
(R278, R279), and its contexts resume there. -/
def State.moor (s : State) (g : Nat) (r : Grp) (cl : Nat) : State :=
  let t := ((s.guestAt g).contexts r).foldl (fun (t : State) (v : SavedCtx) =>
    t.modCoreAt (8 * cl + v.core) (fun k => k.split v.ctx.l1sz)) s
  let t := r.members.foldl (fun t m => t.clearWindow g (8 * cl + m.core)) t
  let t := r.spad.foldl (fun (t : State) b => t.modCoreAt (8 * cl + b.1) (fun k => { k with spad := k.spad.set b.2.1 b.2.2 })) t
  (t.modGrp g r.node r.index (fun r => { r with st := 1, cl := cl, spad := [] })).modGuest g (fun x => { x with
    saved := x.saved.map (fun v => if v.node == r.node && v.index == r.index then { v with cl := cl } else v) })

/-- The address of the record of a group. -/
def State.grpAddr (s : State) (g : Nat) (r : Grp) : Nat := ((s.nodeAt g r.node).map (fun n => n.addr)).getD 0

/-- Give a saved group another place, or let it wait in GANGWAIT (R453 step 3). -/
def State.relocate (s : State) (g part : Nat) (r : Grp) : State :=
  let t := s.unmoor g r
  match (t.guestAt g).grps.find? (fun x => x.node == r.node && x.index == r.index) with
  | none => t
  | some r' =>
    match t.moorFit g part r' with
    | some cl => t.moor g r' cl
    | none => t.statusEvent g 3 0 0 (t.grpAddr g r')

/-! ### One placement decision (R428, R432) -/

/-- Records of a priority that wait for placement, in FIFO order (R427). -/
def Guest.queue (x : Guest) (p : Nat) : List Node :=
  (x.nodes.filter (fun n => n.kind == 1 && (n.st == 1 || n.st == 2) && !n.dropped && decide (n.placed < n.count) && n.prio == p)).mergeSort
    (fun a b => decide (a.order ≤ b.order))

/-- The priority of a group. -/
def Guest.grpPrio (x : Guest) (r : Grp) : Nat := ((x.nodes.find? (fun n => n.id == r.node)).map Node.prio).getD 0

/-- The first record of a queue whose next group fits, with the blocked records before it; a record with a bypass count
of 2 stops its queue (R428). -/
def State.pick (s : State) (g : Nat) : List Node → List Node → Option (Node × Nat × List Node)
  | [], _ => none
  | n :: t, blocked =>
    match s.fit g n with
    | some cl => some (n, cl, blocked)
    | none => if 2 ≤ n.bypass then none else s.pick g t (n :: blocked)

/-- The groups that would have to yield so that a READY record fits (R432): from the lowest priority upward, the most
recently placed first; empty when none helps or when enough have been asked already. -/
def State.yieldFor (s : State) (g : Nat) (n : Node) : List Grp :=
  let x := s.guestAt g
  let low := (x.grps.filter (fun r => r.st == 0 && decide (x.grpPrio r < n.prio))).mergeSort
    (fun a b => decide (x.grpPrio a < x.grpPrio b) || (x.grpPrio a == x.grpPrio b && decide (b.order ≤ a.order)))
  -- a group that is leaving already, for its window or by another request, is not asked again
  let leaving (r : Grp) : Bool := r.yield || r.cores.any (fun c => (s.coreAt c).yreq)
  let asked := low.filter leaving
  let rest := low.filter (fun r => !leaving r)
  let fits (l : List Grp) : Bool :=
    let cs := l.flatMap Grp.cores
    let barOf (cl : Nat) : Nat := (s.clAt cl).bars.foldl (fun m p =>
      if p.2.owner = 0 || l.any (fun r => r.cl == cl && r.members.any (fun q => bitOf q.core p.2.owner)) then m else m ||| 2 ^ p.1) 0
    (s.fitOn g n (fun c => (s.coreFree c || cs.contains c) && !(s.coreAt c).retired) barOf).isSome
  match (List.range (rest.length + 1)).find? (fun i => fits (asked ++ rest.take i)) with
  | some i => rest.take i
  | none => []

/-- Ask a group to yield to a record of higher priority (R432, R433). -/
def State.yieldGroup (s : State) (g : Nat) (r : Grp) : State :=
  (r.cores.foldl (fun t c => t.askYield c 2 s.frame.regs.pydl) s).modGrp g r.node r.index (fun r => { r with yield := true })

/-- The records of a queue that a placement decision examines: none behind a stopped record (R428). -/
def examined : List Node → List Node
  | [] => []
  | n :: t => if 2 ≤ n.bypass then [n] else n :: examined t

/-- What the next placement decision does for one priority: resume, place, or ask groups to yield. Saved groups go ahead
of every new placement of their priority, in the order in which they were saved (R428). -/
def State.placeOne (s : State) (g p : Nat) : Option State :=
  let x := s.guestAt g
  let saved := (x.grps.filter (fun r => (r.st == 1 || r.st == 3) && x.grpPrio r == p)).mergeSort (fun a b => decide (a.order ≤ b.order))
  match saved with
  | r :: _ =>
    if r.st = 3 then (s.moorFit g (if x.gc.rsz then x.gc.part &&& x.newPart else x.gc.part) r).map (fun cl => (s.moor g r cl).statusEvent g 4 0 0 (s.grpAddr g r))
    else if s.resumeFits g r then some (s.resumeGroup g r)
    else none
  | [] =>
    match s.pick g (x.queue p) [] with
    | some (n, cl, blocked) =>
      let t := s.placeGroup g n cl
      let placed := (t.nodeAt g n.id).any (fun m => decide (n.placed < m.placed))
      some (if t.cpWaits g || !placed then t else blocked.foldl (fun t b => t.modNode g b.id (fun b =>
        if b.passers.contains n.id then b else { b with passers := n.id :: b.passers, bypass := b.bypass + 1 })) t)
    | none =>
      match (examined (x.queue p)).find? (fun n => n.st == 1 && !(s.yieldFor g n).isEmpty) with
      | some n => some ((s.yieldFor g n).foldl (fun t r => t.yieldGroup g r) s)
      | none => none

/-- The first priority from 7 down at which something can be done. -/
def State.placeFrom (s : State) (g : Nat) : List Nat → Option State
  | [] => none
  | p :: t => match s.placeOne g p with | some s' => some s' | none => s.placeFrom g t

/-- The placement decision of a guest in RUN. -/
def State.placeNext (s : State) (g : Nat) : Option State :=
  if (s.guestAt g).gc.gstate = 2 then s.placeFrom g [7, 6, 5, 4, 3, 2, 1, 0] else none

/-- One placement decision (R428). -/
def execGroupPlacement (g : Nat) (s : State) : Host.Outcome State Fault Refusal := .next ((s.placeNext g).getD s)

/-! ### Completion (R429) -/

/-- A placed group of guest g all of whose members have ended and settled. -/
def Grp.over (r : Grp) : Bool := r.members.all (fun m => m.ended && m.written)

/-- A group completes (R429); the last one ends its record, which signals its event. -/
def execGroupComplete (g id index : Nat) (s : State) : Host.Outcome State Fault Refusal :=
  .next (match (s.guestAt g).grps.find? (fun r => r.node == id && r.index == index && r.st == 0 && r.over) with
  | none => s
  | some r =>
    let t := s.modGuest g (fun x => { x with grps := x.grps.filter (fun q => !(q.node == id && q.index == index)) })
    let t := t.modCl r.cl (fun c => { c with bars := c.bars.map (fun b =>
      if b.2.owner != 0 && r.members.any (fun m => bitOf m.core b.2.owner) then (b.1, {}) else b) })
    let t := t.modNode g id (fun n => { n with complete := n.complete + 1 })
    match t.nodeAt g id with
    | none => t
    | some n => if n.st == 2 && decide (n.count ≤ n.complete) then t.nodeDone g id else t)

/-! ### The major frame (R433 to R435, R509) -/

/-- A window is rejected (R434), given the windows accepted before it. -/
def FrameRegs.rejects (f : FrameRegs) (acc : List Nat) (k : Nat) : Bool :=
  let w := f.wins.get {} k
  decide (f.len < w.start + w.wlen) || w.wlen == 0 || decide (w.wlen ≤ w.guard) ||
  acc.any (fun j =>
    let v := f.wins.get {} j
    decide (v.start < w.start + w.wlen) && decide (w.start < v.start + v.wlen) && (v.clmask &&& w.clmask) != 0)

/-- The accepted windows and the WERR bits of a frame (R434). -/
def FrameRegs.check (f : FrameRegs) : List Nat × Nat :=
  if !f.en then ([], 0)
  else (List.range 16).foldl (fun (r : List Nat × Nat) k =>
    if !(f.wins.get {} k).en then r
    else if f.rejects r.1 k then (r.1, r.2 ||| 2 ^ k) else (r.1 ++ [k], r.2)) ([], 0)

/-- A frame is due to start: TIME has reached the next multiple of LEN (R433). -/
def State.frameDue (s : State) : Bool := s.time != s.frame.startAt && decide (s.frame.startAt / s.frame.regs.len < s.time / s.frame.regs.len)

/-- The TDP of the package in W (R3). -/
def packageTdp : Nat := 360

/-- SAFE_N follows the SAFE bits FATAL, THERM, RECOV and INSTR (R508). -/
def State.updSafe (s : State) : State :=
  { s with plat := { s.plat with safeN := s.plat.fatal || s.plat.therm || s.plat.recov || s.plat.instr } }

/-- A junction temperature of 125 °C or more (R509): step 4, THERM and an interrupt. -/
def State.thermTrip (s : State) : State :=
  ((({ s with plat := { s.plat with cstep := 4, coolFrames := 0, therm := true, tj := max 125 s.plat.tj } }).updSafe).hostIrq 0)

/-- The clock step after a frame (R509). AVG and TJ are what the sensors give: free values (log entry 19). -/
def State.clockStep (s : State) : State :=
  let avg := Config.freeNat s.free 500 % 2 ^ 16
  let tj := Config.freeNat s.free 501 % 256
  let cap := if s.plat.cap = 0 then packageTdp else s.plat.cap
  let cool := decide (10 * avg < 9 * cap) && decide (tj < 100)
  let n := if cool then s.plat.coolFrames + 1 else 0
  let down := decide (cap < avg) || decide (110 ≤ tj)
  let p : Plat := { s.plat with avg := avg, tj := tj, coolFrames := n }
  let p : Plat := if s.plat.stage != 3 then p
    else if down then { p with cstep := min 4 (p.cstep + 1), coolFrames := 0 }
    else if 4 ≤ n ∧ p.cstep ≠ 0 then { p with cstep := p.cstep - 1, coolFrames := 0 }
    else p
  let t := ({ s with plat := p }).tickFree
  if 125 ≤ tj then t.thermTrip else t

/-- The cores of window k's guest on its clusters (R435). -/
def State.windowCores (s : State) (k : Nat) : List Nat :=
  let w := s.frame.regs.wins.get {} k
  (List.range 256).filter (fun c => bitOf (c / 8) w.clmask && (s.coreAt c).live w.guest)

/-- The guard band of window k has come. -/
def State.guardDue (s : State) (k : Nat) : Bool :=
  let w := s.frame.regs.wins.get {} k
  s.frame.acc.contains k && !s.frame.guard.contains k && decide (w.start + w.wlen - w.guard ≤ s.frameUs)

/-- The guard band of window k begins (R435). -/
def execWindowGuard (k : Nat) (s : State) : Host.Outcome State Fault Refusal :=
  .next (if !s.guardDue k then s
  else
    let w := s.frame.regs.wins.get {} k
    let t := (s.windowCores k).foldl (fun t c => t.askYield c 0 (w.guard * s.ccPerUs)) s
    { t with frame := { t.frame with guard := t.frame.guard ++ [k] } })

/-- Window k has reached its end. -/
def State.endDue (s : State) (k : Nat) : Bool :=
  let w := s.frame.regs.wins.get {} k
  s.frame.acc.contains k && !s.frame.ended.contains k && decide (w.start + w.wlen ≤ s.frameUs)

/-- Window k ends (R435): a core that has not yielded is forced. -/
def execWindowEnd (k : Nat) (s : State) : Host.Outcome State Fault Refusal :=
  .next (if !s.endDue k then s
  else
    let t := (s.windowCores k).foldl (fun t c => t.modCoreAt c (fun q => if q.yreq then { q with ydl := 0 } else q)) s
    { t with frame := { t.frame with ended := t.frame.ended ++ [k] } })

/-! ### Instructions (R441 to R445) -/

/-- A request to the command processor (R441): refused in a replay (R490), and made only once the stores that the
checkpoint ahead released have performed at its scope; none of its effect while another slot keeps the bundle from completing. -/
def request (s : State) (g : BitVec 4) (n : Bool) (scope : Nat) (f : State → State) : Host.Outcome State Fault Refusal :=
  sOp s g n (fun s =>
    if !s.clear then s
    else if s.replaying s.focus then s.replayRefuse
    else match s.settled scope with
      | none => s.stallOn rowService
      | some t => f t)

/-- The stream of the record that runs on the core in focus. -/
def State.ownStream (s : State) : Nat := ((s.nodeAt s.gid s.core.rcd).map (fun n => n.stream)).getD 0

/-- Enter the node at an address for LNCH (R442): the new state and the status. -/
def State.launchAt (s : State) (g stream a : Nat) : State × Nat :=
  if a % 32 ≠ 0 then (s, 4)
  else
    let r := s.nodeRead g a
    match r.2 with
    | .error _ => (r.1, 2)
    | .ok n0 =>
      -- NEXT is ignored
      let n := { n0 with bytes := patch n0.bytes 8 (List.replicate 8 0) }
      if !(n.kind == 1 || n.kind == 2) || !nodeOk (r.1.guestAt g).gc n then (r.1, 3)
      else if 256 ≤ r.1.unfinished g then (r.1, 1)
      else (r.1.enterNode g stream 0 n, 0)

/-- A request of the core in focus for which the command processor accesses memory waits for point 8. -/
def State.cpStall (s : State) (f : State → State) : State :=
  let r := s.regulated (cpPayer s.gid) (fun _ => false) (fun t => (f t, ()))
  match r.2 with
  | none => r.1.stallOn rowService
  | some _ => r.1

/-- LNCH (R442). -/
def execLnch (o : OpSR2) (s : State) : Host.Outcome State Fault Refusal :=
  request s o.g o.n 3 (fun s => s.cpStall fun s =>
    let r := s.launchAt s.gid s.ownStream (s.rs o.a).toNat
    r.1.ws o.d (BitVec.ofNat 64 r.2) 1)

/-- Queue or re-arm a graph on a stream (R443): the new state and the status. -/
def State.rearm (s : State) (g k a : Nat) : State × Nat :=
  let q := s.cms g k
  if a % 32 ≠ 0 then (s, 4)
  else if !q.en || q.halt then (s, 3)
  else if q.run && q.gHead == a then (s.modCms g k (fun q => { q with arm := true }), 0)
  else if 2 ^ q.logn ≤ q.fill then (s, 2)
  else
    let ea := q.slot q.tail
    let r := s.gWrite g ea (toLe 8 a)
    match r.2 with
    | .error e => (r.1.haltStream g k 1 e.1 ea, 3)
    | .ok () => (r.1.modCms g k (fun q => { q with tail := (q.tail + 1) % 2 ^ 32 }), 1)

/-- Whether GARM writes an entry. -/
def Cms.queues (q : Cms) (a : Nat) : Bool :=
  a % 32 == 0 && q.en && !q.halt && !(q.run && q.gHead == a) && decide (q.fill < 2 ^ q.logn)

/-- GARM (R443). -/
def execGarm (o : OpSGarm) (s : State) : Host.Outcome State Fault Refusal :=
  request s o.g o.n 3 (fun s =>
    let k := o.k.toNat
    let a := (s.rs o.a).toNat
    let go (s : State) : State := (let r := s.rearm s.gid k a; r.1.ws o.d (BitVec.ofNat 64 r.2) 1)
    if (s.cms s.gid k).queues a then s.cpStall go else go s)

/-- HIRQ (R444): every guest owns its 64 vectors (R447). -/
def execHirq (o : OpSHirq) (s : State) : Host.Outcome State Fault Refusal :=
  request s o.g o.n 5 (fun s => s.irqPost s.gid o.v.toNat)

/-- The fields of ring k differ between the planes of a core. -/
def Core.ringDiffers (k : Core) (r : Nat) : Bool := k.planeAct.ring r {} != k.planeInact.ring r {}

/-- Switch the planes of a core (R445). -/
def Core.flip (k : Core) : Core :=
  { k with
    planeAct := k.planeInact, planeInact := k.actPlane, cfgPlane := 1 - k.cfgPlane, mcache := []
    cfgWord := cfgOf k.aseq k.iseq (bitOf 4 k.cfgWord.toNat) true (1 - k.cfgPlane)
    sync := k.sync.loadPlane k.planeInact (fun r => !k.ringDiffers r) }

/-- PFLIP (R445). -/
def execPflip (o : OpSD) (s : State) : Host.Outcome State Fault Refusal :=
  sOp s o.g o.n (fun s =>
    if !s.clear then s
    else match s.settled 3 with
      | none => s.stallOn rowService
      | some t =>
        if t.core.splicing.isSome then s.stallOn rowService
        else if !t.core.planeReady then t.ws o.d 1 1
        else if (List.range 16).any (fun r => t.core.ringDiffers r && t.core.ringBusy r) then s.stallOn 9
        else ((t.modCore Core.flip).ws o.d 0 1).holdNext 11)

end Sys2Proof.Machine
end

