-- ==== Sys2Proof/Machine/Fabric.lean ====
section
/-! DEFINITION. The fabric (chapter 23): ports and their link layer, remote accesses that arrive, responses, windows,
collectives, the loss of a car, aborts. -/

namespace Sys2Proof.Machine

/-! ### The leaves of a shadow table, as Bowline reads them -/

/-- A line as it stands in the L2 or in memory. -/
def State.peekLine (s : State) (sel line : Nat) : List Nat :=
  match s.l2Find line sel with
  | some l => l.data
  | none => (s.ctlRead line (s.keyOf sel)).getD (List.replicate 128 0)

/-- The leaves below a table: first GVA, level, PA of the entry, entry (R373, R374). -/
def State.tableLeaves (s : State) : List Nat → Nat → Nat → List (Nat × Nat × Nat × Nat)
  | [], _, _ => []
  | level :: rest, table, va =>
    (List.range 32).flatMap (fun l =>
      let b := s.peekLine 16 (table + 128 * l)
      (List.range 16).flatMap (fun j =>
        let e := ofLe ((b.drop (8 * j)).take 8)
        let at_ := table + 128 * l + 8 * j
        let a := va + (16 * l + j) * 2 ^ levelShift level
        let leaf := level == 0 || bitOf 2 e
        if !bitOf 0 e || pteReserved leaf e then []
        else if leaf then (if level = 3 then [] else [(a, level, at_, e)])
        else s.tableLeaves rest (bitsOf 51 12 e * 4096) a))

/-- The leaves of a guest's shadow table. -/
def State.leaves (s : State) (g : Nat) : List (Nat × Nat × Nat × Nat) := s.tableLeaves [3, 2, 1, 0] (s.guestAt g).gc.root 0

/-- A guest maps a remote page of a car (R521). -/
def State.mapsCar (s : State) (g car : Nat) : Bool :=
  (s.leaves g).any (fun l => bitsOf 9 8 l.2.2.2 == 3 && bitsOf 51 49 l.2.2.2 == car)

/-! ### Ports (R513 to R520) -/

/-- The car that the wiring gives port p (R513), none for a port without a cable. -/
def Fab.neighbour (f : Fab) (p : Nat) : Option Nat :=
  let n := f.ncar + 1
  if f.topo = 1 then
    (if p = 1 then (if f.car + 1 < n then some (f.car + 1) else none) else (if 0 < f.car ∧ f.car < n then some (f.car - 1) else none))
  else if f.topo = 2 then some (if p = 1 then (f.car + 1) % n else (f.car + n - 1) % n)
  else none

/-- The 32 bytes of FAB_ROOT0 to FAB_ROOT3. -/
def Fab.rootBytes (f : Fab) : List Nat := (List.range 4).flatMap (fun i => toLe 8 (f.root.getD i 0).toNat)

/-- Send messages of ATTEST at once, in the IDLE slots of the wheel (R517, R519, log entry 115). -/
def State.emitAll (s : State) (p : Nat) (l : List FlitMsg) : State :=
  let idle := (List.range 32).filter (fun i => (s.portAt p).owner i == 0xFF)
  (l.zip (List.range l.length)).foldl (fun t m => t.emit p (idle.getD (m.2 % max 1 idle.length) 0) m.1) s

/-- Send the link report of R519 with a fresh nonce and a fresh encapsulation key from the random source; the report's bytes
are those of R461 with the changes of R519 (no contract: zeros in 80 to 111), unsigned once the signatures are exhausted
(R462). -/
def State.sendReport (s : State) (p : Nat) : State :=
  let n := s.plat.nonce
  let nonce := (List.range 32).map (fun i => (Config.randomByte n i).toNat)
  let kem := kemBytes n
  let body := toLe 2 0x0002 ++ List.replicate 6 0 ++ toLe 8 s.plat.hss ++ nonce ++ fwBytes ++ List.replicate 32 0 ++
    [s.fab.car, s.fab.topo, s.fab.ncar] ++ List.replicate 29 0
  let q := s.plat.hss
  let t := { s with plat := { s.plat with nonce := n + 1, hss := if q < 2 ^ 30 then q + 1 else q } }
  (t.modPort p (fun x => { x with nonce := nonce, draw := n })).emitAll p
    (flitsOf 4 0xFF ((s.fab.neighbour p).getD 0) s.fab.car
      (body ++ kem.take 112 ++ (if q < 2 ^ 30 then hssBytes q (body ++ sha256 kem) else []) ++ kem.drop 112))

/-- A signal is detected (R518). -/
def execSignalDetect (p : Nat) (s : State) : Host.Outcome State Fault Refusal :=
  .next (if s.fab.en && (s.portAt p).state == 0 then s.modPort p (fun x => { x with state := 1, peerv := false, rate := false }) else s)

/-- Training has ended: the lanes are raised to 56 GBd (R515) and the link report is sent (R518, R519). -/
def execTrainingComplete (p : Nat) (s : State) : Host.Outcome State Fault Refusal :=
  .next (if (s.portAt p).state == 1 then (s.modPort p (fun x => { x with state := 2, rate := true })).sendReport p else s)

/-- No lock at 56 GBd for 1 ms: the lanes return to 53.125 GBd (R515). -/
def execRateFallback (p : Nat) (s : State) : Host.Outcome State Fault Refusal :=
  .next (if (s.portAt p).state = 0 then s else s.modPort p (fun x => { x with rate := false }))

/-! ### The loss of a car (R530) -/

/-- End a collective of this car with an error status; its destination keeps its old bytes (R526, R530, R531). -/
def State.abortColl (s : State) (c : Coll) (cause : Nat) : State :=
  (s.dropColl c.core c.seqNo c.queueB).modCoreAt c.core (fun k => k.modC c.queueB c.seqNo (fun x => { x with res := some (cause, 0) }))

/-- Change the collective register of a guest. -/
def State.modGrpReg (s : State) (g : Nat) (f : Fcgrp → Fcgrp) : State :=
  { s with fab := { s.fab with grp := s.fab.grp.set g (f (s.fab.grp.get {} g)) } }

/-- Some pair of a guest's participants sends over a link, as the routes stood in `up` (R514, R530). -/
def Fab.collUses (f : Fab) (up : Nat → Bool) (memb link : Nat) : Bool :=
  let cars := (List.range f.cars).filter (fun c => bitOf c memb)
  cars.any (fun a => cars.any (fun b => match f.route up a b with
    | some p => (f.path a p b).contains link
    | none => false))

/-- Steps 1 to 4 of R530 for a link that `old` had and the state after it has not: the accesses sent over it and those to cars
no longer reachable fail, the collectives that use it or that have such a participant abort, and the guests and the host are
told of such cars. -/
def State.loseLink (s old : State) (link : Nat) : State :=
  let f := s.fab
  let lost := old.reachable.filter (fun c => !s.reachable.contains c)
  let hit (r : RemReq) : Bool := r.ans.isNone && (lost.contains r.car || (r.sent && (f.path f.car r.port r.car).contains link))
  -- step 2
  let t := { s with fab := { f with reqs := f.reqs.map (fun (r : RemReq) => if hit r then { r with ans := some (false, []) } else r) } }
  let t : State := (f.reqs.filter hit).foldl (fun t r => t.fabLogPut 7 r.pa) t
  -- step 3
  let memb (g : Nat) : Nat := (f.grp.get {} g).memb
  let dead := f.colls.filter (fun c => lost.any (fun x => bitOf x (memb c.guest)) || f.collUses old.linkUp (memb c.guest) link)
  let t := dead.foldl (fun t c => (t.abortColl c cPEERLOST).modGrpReg c.guest (fun (r : Fcgrp) => { r with broken := true })) t
  -- step 4
  lost.foldl (fun t car =>
    let t := (List.range 16).foldl (fun t g =>
      if (t.guestAt g).gc.en && (t.mapsCar g car || bitOf car (memb g)) then t.statusEvent g 1 cPEERLOST car 0 else t) t
    t.hostEv cPEERLOST car 0) t

/-- A port without a link: what was sent on it or waits at it is gone, and so are its keys. -/
def Port.downed (q : Port) (why : Nat) : Port :=
  { q with state := 0, why := why, rate := false, kept := [], outq := [], again := [], txKey := [], rxKey := [], txSalt := [], rxSalt := [],
           peerv := false, fails := 0 }

/-- A port goes DOWN (R530), for a reason of FPk_STAT.WHY: this car tells the cars that are still reachable of the link. -/
def State.downPort (s : State) (p why : Nat) : State :=
  let t := s.modPort p (fun x => x.downed why)
  if !s.portOpen p then t
  else
    let link := s.fab.linkOf p
    let t := (t.loseLink s link).tell t.reachable [1, link, 0]
    -- an abort that was sent over the link is settled by the loss
    { t with fab := { t.fab with aborts := t.fab.aborts.filter (fun a => s.routeTo a.1 != some p && t.reachable.contains a.1) } }

/-- PORT_DOWN (R530). -/
def execPortDown (p why : Nat) (s : State) : Host.Outcome State Fault Refusal :=
  .next (if (s.portAt p).state = 0 then s else s.downPort p why)

/-- Training has not ended in 500 ms (R518). -/
def execTrainingTimeout (p : Nat) (s : State) : Host.Outcome State Fault Refusal :=
  .next (if (s.portAt p).state = 1 then s.downPort p 4 else s)

/-- A peer's link report is refused: it does not fit the wiring (WHY 3), or a check of R519 fails (WHY 5). The end with the
higher car index also needs the peer's ciphertext. -/
def State.refusal (s : State) (p : Nat) (r : LinkRep) : Option Nat :=
  if !(s.fab.neighbour p == some r.car && r.topo == s.fab.topo && r.ncar == s.fab.ncar) then some 3
  else if !(r.sigOk && r.rootHash == s.fab.rootBytes && r.fwHash == fwBytes) || (r.car < s.fab.car && r.cipher.isEmpty) then some 5
  else none

/-- The shared secret of a link (R519): the end with the lower car index encapsulates to the other's key, which takes it from
the ciphertext. -/
def State.linkSecret (s : State) (p : Nat) (r : LinkRep) : List Nat :=
  if s.fab.car < r.car then Config.kemShared s.plat.nonce r.kem else Config.kemOpen (s.portAt p).draw r.cipher

/-- The end with the lower car index sends the ciphertext of its encapsulation (R519). -/
def State.sendCipher (s : State) (p : Nat) (r : LinkRep) : State :=
  if s.fab.car < r.car then
    ({ s with plat := { s.plat with nonce := s.plat.nonce + 1 } }).emitAll p
      (flitsOf 4 0xFF r.car s.fab.car (5 :: fixBytes 1568 (Config.kemCipher s.plat.nonce r.kem)))
  else s

/-- The port after a report that it accepts (R519): UP, with the keys and salts of the 96 derived bytes, and numbers from 0 on.
The flits that a rekey left without an acknowledgement are sent again under the new key (R520, log entry 113). -/
def Port.raised (q : Port) (low : Bool) (r : LinkRep) (secret : List Nat) (flitAt : Nat) : Port :=
  let k := if low then linkBytes secret q.nonce r.nonce else linkBytes secret r.nonce q.nonce
  let a := k.take 32
  let b := (k.drop 32).take 32
  let sa := (k.drop 64).take 4
  let sb := (k.drop 68).take 4
  { q with
    state := 3, peer := r.car, peerv := true, txSeq := 0, rxSeq := 0, acked := 0, kept := [], again := [], fails := 0, flitAt := flitAt
    outq := (q.kept.map (fun x => x.2)).filter (fun m => m.type != 0) ++ q.outq
    txKey := if low then a else b, rxKey := if low then b else a, txSalt := if low then sa else sb, rxSalt := if low then sb else sa }

/-- A peer's link report (R519): the port goes DOWN, or it is UP and the other cars are told of the link (log entry 115). -/
def State.acceptReport (s : State) (p : Nat) (r : LinkRep) : State :=
  match s.refusal p r with
  | some why => s.downPort p why
  | none =>
    let t := (s.sendCipher p r).modPort p (fun q => q.raised (s.fab.car < r.car) r (s.linkSecret p r) (s.flitTimes q))
    let t := if s.portOpen p then t else t.tell t.reachable [1, t.fab.linkOf p, 1]
    -- a car that has become reachable learns of the links that this one knows to be down
    t.fab.lost.foldl (fun t l => t.tell (t.reachable.filter (fun c => !s.reachable.contains c)) [1, l, 0]) t

/-- LINK_REPORT (R519). -/
def execLinkReport (p : Nat) (r : LinkRep) (s : State) : Host.Outcome State Fault Refusal :=
  .next (if (s.portAt p).state = 2 then s.acceptReport p r else s)

/-- The flits kept for resending after an ACK of bits [23:0] of the next sequence number expected (R516). -/
def Port.acknowledge (q : Port) (ack : Nat) : Port :=
  let d := (ack + 2 ^ 24 - q.acked % 2 ^ 24) % 2 ^ 24
  if q.acked + d ≤ q.txSeq then { q with acked := q.acked + d, kept := q.kept.filter (fun x => decide (q.acked + d ≤ x.1)) } else q

/-- A good flit is taken in its turn (R516). -/
def Port.receive (q : Port) (f : Flit) : Port :=
  let x := q.acknowledge (bitsOf 23 0 f.ack)
  if bitsOf 23 0 f.seqNo == bitsOf 23 0 x.rxSeq then { x with rxSeq := x.rxSeq + 1, fails := 0 } else x

/-- A flit is delivered (R514, R516): one for another car is forwarded to the other port, where it waits for slots of the same
owner; an acknowledgement of an abort settles it (R531, log entry 23). What the other messages ask for arrives as the events of
their own rows. -/
def State.deliverFlit (s : State) (p : Nat) (f : Flit) : State :=
  let at_ (i : Nat) : Nat := f.payload.getD i 0
  if f.type = 0 then s
  else if at_ 0 ≠ s.fab.car then
    (if s.portOpen (1 - p) then
      s.modPort (1 - p) (fun q => { q with outq := q.outq ++ [{ type := f.type, owner := at_ 2, payload := f.payload }] })
     else s)
  else if f.type = 4 ∧ at_ 3 = 2 then
    { s with fab := { s.fab with aborts := s.fab.aborts.filter (fun a =>
      !(a.1 == at_ 1 && (s.guestAt a.2.1).gc.tenant == at_ 4 && (s.fab.grp.get {} a.2.1).memb == at_ 5 &&
        a.2.2.1 == ofLe ((f.payload.drop 6).take 4))) } }
  else s

/-- A flit arrives (R516): one that fails eight times takes the port DOWN; one that passes is delivered in its turn. -/
def execFlitReceive (p : Nat) (f : Flit) (s : State) : Host.Outcome State Fault Refusal :=
  .next (if (s.portAt p).state < 3 then s
  else if !f.good || decide (4 < f.type) then
    (if 7 ≤ (s.portAt p).fails then s.downPort p 1 else s.modPort p (fun x => { x with fails := x.fails + 1 }))
  else
    let t := s.modPort p (fun x => x.receive f)
    if (t.portAt p).rxSeq == (s.portAt p).rxSeq then t else t.deliverFlit p f)

/-- ACK has not moved for 2 µs: what is kept is sent again from ACK on, in the slots of its owners (R516, R517). -/
def execFlitResend (p : Nat) (s : State) : Host.Outcome State Fault Refusal :=
  .next (if (s.portAt p).state < 3 then s else s.modPort p (fun q => { q with again := q.kept.map (fun x => x.1) }))

/-- No flit has been decoded for 10 µs (R516). -/
def execFlitSilence (p : Nat) (s : State) : Host.Outcome State Fault Refusal :=
  .next (if (s.portAt p).state = 3 then s.downPort p 2 else s)

/-- Whether the sequence number of either direction of a port that is UP has reached 2^48 (R520). -/
def State.rekeyDue (s : State) (p : Nat) : Bool :=
  let q := s.portAt p
  q.state == 3 && (decide (2 ^ 48 ≤ q.txSeq) || decide (2 ^ 48 ≤ q.rxSeq))

/-- A sequence number has reached 2^48: the port repeats ATTEST, and requests toward it are held (R518, R520). -/
def execRekey (p : Nat) (s : State) : Host.Outcome State Fault Refusal :=
  .next (if (s.portAt p).state = 3 then (s.modPort p (fun x => { x with state := 2 })).sendReport p else s)

/-- A control flit tells of a link between other cars: that it is lost (R530), or that it is UP again (log entry 115). -/
def execPeerLossNotice (n : LinkNews) (s : State) : Host.Outcome State Fault Refusal :=
  .next (if n.up then { s with fab := { s.fab with lost := s.fab.lost.filter (fun l => l != n.link) } }
  else if s.fab.lost.contains n.link || n.link == s.fab.linkOf 0 || n.link == s.fab.linkOf 1 then s
  else ({ s with fab := { s.fab with lost := s.fab.lost ++ [n.link] } } : State).loseLink s n.link)

/-- FAB_CTL.EN = 0 is written: every port goes DOWN with WHY 6 (R518). -/
def execFabricDisable (s : State) : Host.Outcome State Fault Refusal :=
  let t := { s with fab := { s.fab with en := false } }
  .next ([0, 1].foldl (fun t p => if (t.portAt p).state = 0 then t else t.downPort p 6) t)

/-! ### Remote accesses (R521 to R524, R529) -/

/-- The response to a remote access, with its number; a failure carries the number of its check. It waits for slots of the
tenant (R517, R523). -/
def State.respond (s : State) (a : RemAcc) (why : Nat) (b : List Nat) : State :=
  s.sendTo a.car 2 a.tenant (toLe 8 a.id ++ [why] ++ b)

/-- Perform a checked access at its place, with its guest and key selector (R522, R523): the answer, or an uncorrectable line. -/
def State.serve (s : State) (a : RemAcc) (p : Nat × Nat × Nat) : State × Option (List Nat) :=
  let t := s.charge (s.homeDie p.1) 8 p.2.1 (unitsOf a.len)
  if a.kind = 0 then t.homeRead p.2.1 p.2.2 p.1 a.len
  else if a.kind = 1 then (let w := t.homeWrite p.2.1 p.2.2 p.1 (a.data.take a.len); (w.1, if w.2 then some [] else none))
  else
    let r := t.homeRead p.2.1 p.2.2 p.1 a.len
    match r.2 with
    | none => (r.1, none)
    | some old =>
      let f := if a.kind = 3 then 2 else a.op
      let b := if a.kind = 3 then ofLe a.cmp else ofLe a.data
      match amoNew f a.len (ofLe old) b (ofLe a.data) with
      | none => (r.1, some old)
      | some v => let w := r.1.uncharged (fun t => t.homeWrite p.2.1 p.2.2 p.1 (toLe a.len v))
                  (w.1, if w.2 then some old else none)

/-- Perform a remote access at the place that its check has given it, and answer it (R522, R529). -/
def State.remoteServe (s : State) (a : RemAcc) (pa guest sel : Nat) : State :=
  let r := s.serve a (pa, guest, sel)
  match r.2 with
  | some b => r.1.respond a 0 b
  | none => r.1.respond a 7 []

/-- A remote access arrives at this car and is checked (R522); one that passes is performed under the window as it stands now
(R529), once it has passed point 8 of the die of its home (R364). -/
def execRemoteAccess (a : RemAcc) (s : State) : Host.Outcome State Fault Refusal :=
  .next (match s.winCheck a.tenant a.win a.off a.len (a.kind != 0) with
  | some y => s.respond a y []
  | none => let p := s.winPlace a.win a.off; s.park (.car a p.1 p.2.1 p.2.2))

/-- A response arrives (R523): a failure carries the check that failed, which FAB_LOG keeps. -/
def execRemoteResponse (id ok : Nat) (data : List Nat) (s : State) : Host.Outcome State Fault Refusal :=
  .next (match s.fab.reqs.find? (fun r => r.id == id && r.ans.isNone) with
  | none => s
  | some r =>
    let good := ok == 1
    let t := { s with fab := { s.fab with reqs := s.fab.reqs.map (fun x => if x.id == id then { x with ans := some (good, if good then data else []) } else x) } }
    if good then t else t.fabLogPut (data.headD 7 % 8) r.pa)

/-- FAB_LOG is read (R523): the read clears it. -/
def execFabLogRead (s : State) : Host.Outcome State Fault Refusal := .next { s with fab := { s.fab with log := 0 } }

/-- The value of a window's two registers (R528). -/
def winOf (base cfg : Nat) : FWin :=
  { en := bitOf 63 base, w := bitOf 62 base, enc := bitOf 61 base, base := bitsOf 51 21 base
    tenant := bitsOf 55 48 cfg, guest := bitsOf 35 32 cfg, size := bitsOf 19 0 cfg }

/-- FWIN is written (R529). -/
def execWindowRewrite (w base cfg : Nat) (s : State) : Host.Outcome State Fault Refusal :=
  .next { s with fab := { s.fab with wins := s.fab.wins.set (w % 32) (winOf base cfg) } }

/-- A revocation arrives from a car (R529). Its windows have EN = 0 there, so that accesses of this car to them fail by
check 1 of R522; no state of this car holds a window of another. -/
def execWindowRevocation (_ : Nat) (s : State) : Host.Outcome State Fault Refusal := .next s

/-! ### Collectives (R525 to R528, R531) -/

/-- The oldest collective of a guest whose own input has been read. -/
def State.collReady (s : State) (g : Nat) : Option Coll :=
  match s.fab.colls.find? (fun c => c.guest == g) with
  | none => none
  | some c =>
    if ((s.coreAt c.core).cq c.queueB).any (fun x => x.seqNo == c.seqNo && x.pos == 1 && x.res.isNone) then some c else none

/-- The participants of a guest's collectives, in ascending order (R526). -/
def State.participants (s : State) (g : Nat) : List Nat := (List.range 8).filter (fun x => bitOf x (s.fab.grp.get {} g).memb)

/-- The inputs of all participants of a collective, in ascending car order: this car's own and those of its peers (R527). -/
def State.collInputs (s : State) (c : Coll) (peers : List PeerInput) : List (Nat × List Nat) :=
  (s.participants c.guest).map (fun x =>
    (x, if x = s.fab.car then c.inp else ((peers.find? (fun p => p.car == x)).map (fun p => p.data)).getD []))

/-- A peer has entered a collective with the same F, LEN and DI (R526). -/
def Coll.agrees (c : Coll) (p : PeerInput) : Bool := p.kind == c.kind && p.len == c.len && p.di == c.di && p.data.length == c.len

/-- A collective combines its inputs (R527): `peers` are what the other participants bring. Participants that disagree abort
it (R526). The partial result goes on, and the front of the queue writes the result. -/
def execCollectiveComplete (g : Nat) (peers : List PeerInput) (s : State) : Host.Outcome State Fault Refusal :=
  .next (match s.collReady g with
  | none => s
  | some c =>
    let others := (s.participants g).filter (fun x => x != s.fab.car)
    if !(others.all (fun x => peers.any (fun p => p.car == x))) then s
    else if peers.any (fun p => others.contains p.car && !c.agrees p) then (s.abortColl c cFABERR).collTell g c.num 6
    else
      let l := s.collInputs c peers
      let t := if s.collFirst g then s else s.collSend c l
      t.modCoreAt c.core (fun k => k.modC c.queueB c.seqNo (fun x => { x with pos := 2, desc := collCombine c.kind c.len c.di l })))

/-- Note the number of a collective that was aborted before this car entered it (R526, R531). -/
def Fcgrp.note (r : Fcgrp) (num cause : Nat) : Fcgrp :=
  if r.seqNo ≤ num then { r with done := r.done ++ [(num, cause)] } else r

/-- The oldest collective of a guest has waited FCGRPg.TMO ms for a participant since this car, the lowest one, entered it
(R526). An earlier first entry, of another car, is told by the event from outside (log entry 117). -/
def State.collLate (s : State) (g : Nat) : Bool :=
  match s.collReady g with
  | some c => s.collFirst g && decide (c.since + 1000 * (s.fab.grp.get {} g).tmo ≤ s.time)
  | none => false

/-- A participant has not entered in time (R526): the oldest collective aborts with FABERR; a collective that this car
has not entered keeps its number for the abort. The lowest participant tells the others. -/
def execCollectiveTimeout (g : Nat) (s : State) : Host.Outcome State Fault Refusal :=
  .next (match s.fab.colls.find? (fun c => c.guest == g) with
  | some c => let t := s.abortColl c cFABERR; if s.collFirst g then t.collTell g c.num 6 else t
  | none =>
    let r := s.fab.grp.get {} g
    let k := (List.range (r.done.length + 1)).map (fun i => r.seqNo + i)
    match k.find? (fun n => !r.done.any (fun d => d.1 == n)) with
    | some n => let t := s.modGrpReg g (fun r => r.note n cFABERR); if s.collFirst g then t.collTell g n 6 else t
    | none => s)

/-- FCGRPg is written (R528): its collectives in the engine abort with FABERR. -/
def execFcgrpWrite (g v : Nat) (s : State) : Host.Outcome State Fault Refusal :=
  let t := (s.fab.colls.filter (fun c => c.guest == g)).foldl (fun t c => t.abortColl c cFABERR) s
  .next (t.modGrpReg g (fun _ => { broken := false, seqNo := 0, tmo := if bitsOf 15 8 v = 0 then 1 else bitsOf 15 8 v, memb := bitsOf 7 0 v }))

/-- ABORT_PEER_RESET (R531). -/
def cABORTRESET : Nat := 0xA1

/-- A reset abort of a collective arrives from a car (R531): the matching collective ends, or its number is kept, BROKEN is
set, and the abort is acknowledged. -/
def execAbortMessage (g : Nat) (m : AbortNews) (s : State) : Host.Outcome State Fault Refusal :=
  let t : State := match s.fab.colls.find? (fun c => c.guest == g && c.num == m.num) with
    | some c => s.abortColl c cABORTRESET
    | none => s.modGrpReg g (fun r => r.note m.num cABORTRESET)
  let t := t.modGrpReg g (fun r => { r with broken := true })
  .next (t.tell [m.car] ([2, (t.guestAt g).gc.tenant, (t.fab.grp.get {} g).memb] ++ toLe 4 m.num))

/-- An abort over a port has not been acknowledged for 1 ms (R531). -/
def State.ackLate (s : State) (p : Nat) : Bool :=
  s.fab.aborts.any (fun a => s.routeTo a.1 == some p && decide (a.2.2.2 + 1000 ≤ s.time))

/-- An abort has not been acknowledged in 1 ms (R531): the port goes DOWN with WHY 1. -/
def execAbortAckTimeout (p : Nat) (s : State) : Host.Outcome State Fault Refusal :=
  .next (if s.ackLate p then s.downPort p 1 else s)

/-- Step 4 of a guest reset (R457, R531): every collective of the guest in the engine aborts, and each reachable
participant is told. -/
def State.resetColls (s : State) (g : Nat) : State :=
  let mine := s.fab.colls.filter (fun c => c.guest == g)
  mine.foldl (fun t c =>
    let t := { t with fab := { t.fab with colls := t.fab.colls.filter (fun x => !(x.guest == g && x.num == c.num)) } }
    let t : State := t.collTell g c.num 3
    { t with fab := { t.fab with aborts := (t.fab : Fab).aborts ++ (t.partners g).map (fun x => (x, g, c.num, t.time)) } }) s

/-- Step 5 of a guest reset (R457, R529): its windows lose EN, and every reachable car is told which, since this one does not
know who maps them. -/
def State.revokeWindows (s : State) (g : Nat) : State :=
  let mine := (s.fab.wins.filter (fun w => w.2.guest == g && w.2.en)).map (fun w => w.1)
  let t := { s with fab := { s.fab with wins := s.fab.wins.map (fun w => if w.2.guest == g then (w.1, { w.2 with en := false }) else w) } }
  if mine.isEmpty then t else t.tell t.reachable (4 :: mine)

/-! ### The host's window into a guest (R494) -/

/-- Cause PROT of an access from the host to a page that is not memory stands as `gRead` and `gWrite` give it. A failed
access is logged in AER and reported; a failed read completes with Completer Abort (R494). -/
def State.hostWindow (s : State) (g : Nat) (write : Bool) (addr : Nat) (data : List Nat) : State :=
  let va := bitsOf 47 36 (s.guestAt g).hwin * 2 ^ 36 + addr % 2 ^ 36
  let fail (t : State) (e : Nat × Nat) : State :=
    { (t.statusEvent g 1 e.1 0 e.2) with plat := { (t.statusEvent g 1 e.1 0 e.2).plat with aer := (t.statusEvent g 1 e.1 0 e.2).plat.aer ++ [(g + 1, e.2)] } }
  if write then
    let r := s.gWrite g va data
    match r.2 with
    | .ok () => r.1
    | .error e => fail r.1 e
  else
    let r := s.gRead g va data.length
    match r.2 with
    | .ok b => { r.1 with plat := { r.1.plat with hostOut := some b } }
    | .error e =>
      let t := fail r.1 e
      { t with plat := { t.plat with hostOut := none } }

/-- HOST_WINDOW_ACCESS (R494): through the virtual BAR4 of guest g, charged at point 8. A read returns as many bytes as
`data` names. -/
def execHostWindowAccess (guest write addr : Nat) (data : List Nat) (s : State) : Host.Outcome State Fault Refusal :=
  .next (if s.plat.stage = 0 ∨ s.plat.stage = 7 then s else s.park (.host guest (write == 1) addr data))

end Sys2Proof.Machine
end

