-- ==== Sys2Proof/Machine/Guest.lean ====
section
/-! DEFINITION. Bowline and the guests (chapter 17): contracts, START, STOP, RESET, resizes, degraded contracts, keys,
frames, attestation, interrupts, resources, and the walker of a stopping guest. -/

namespace Sys2Proof.Machine

/-! ### Contracts (R451, R452) -/

/-- Change the contract of a guest. -/
def State.modGc (s : State) (g : Nat) (f : Contract → Contract) : State := s.modGuest g (fun x => { x with gc := f x.gc })
/-- The contract of a guest. -/
def State.gc (s : State) (g : Nat) : Contract := (s.guestAt g).gc
/-- The loaded guests. -/
def State.loaded (s : State) : List Nat := (List.range 16).filter (fun g => (s.gc g).en)

/-- The fields of GC_CTL that the host writes while EN = 0 (R451). -/
def Contract.ctlFields (c : Contract) (v : Nat) : Contract :=
  { c with tenant := bitsOf 55 48 v, maxscope := bitsOf 42 40 v, cls := bitsOf 33 32 v }

/-- Bit set size. -/
def popN (m : Nat) : Nat := ((List.range 64).filter (fun i => bitOf i m)).length

/-- A cluster counts as in service (R454, R503, R511). -/
def State.clusterServes (s : State) (cl : Nat) : Bool :=
  !(s.clAt cl).retired && (List.range 8).all (fun c => !(s.coreAt (8 * cl + c)).retired) &&
  (s.plat.stage == 3 || (s.plat.stage == 2 && cl / 8 == s.plat.reddie))

/-- The capacity for minima of a kind: 0 clusters, 1 ways, 2 bandwidth, 3 window time (R454). -/
def State.capacity (s : State) (kind : Nat) : Nat :=
  match kind with
  | 0 => ((List.range 32).filter s.clusterServes).length
  | 1 => 32 - popN s.waysOut
  | 2 => 540 * ((List.range 48).filter (fun ch => !s.plat.chRet.contains ch &&
      (s.plat.stage == 3 || (s.plat.stage == 2 && ch / 12 == s.plat.reddie)))).length
  | _ => s.frame.regs.len

/-- An effective minimum. -/
def Contract.eff (c : Contract) (kind : Nat) : Nat :=
  match kind with | 0 => c.effcl | 1 => c.effways | 2 => c.effbw | _ => c.effwin
/-- Set an effective minimum. -/
def Contract.setEff (c : Contract) (kind v : Nat) : Contract :=
  match kind with
  | 0 => { c with effcl := v }
  | 1 => { c with effways := v }
  | 2 => { c with effbw := v }
  | _ => { c with effwin := v }
/-- GC_EFF shows GC_MIN until a cut (R451, R454). -/
def Contract.resetEff (c : Contract) : Contract :=
  { c with effbw := c.minbw, effways := c.minways, effcl := c.mincl, effwin := c.minwin }

/-- Two ranges of pages share a page. -/
def overlap (a n b m : Nat) : Bool := n != 0 && m != 0 && decide (a < b + m) && decide (b < a + n)

/-- The first check of R452 that refuses the contract of guest g, or 0. -/
def State.loadErr (s : State) (g : Nat) : Nat :=
  let c := s.gc g
  let others := (s.loaded.filter (fun h => h != g)).map s.gc
  let low (d : Contract) : Bool := decide (d.cls < 2)
  if others.any (fun d => c.ways &&& d.ways != 0 && (!c.share || !d.share || low c || low d || c.tenant != d.tenant)) then 1
  else if 448 < c.woff + c.wlen ∨ others.any (fun d => c.part &&& d.part != 0 && overlap c.woff c.wlen d.woff d.wlen) then 2
  else if (List.range 4).any (fun i => decide (64 < c.ws.getD i 0 + (others.map (fun d => d.ws.getD i 0)).sum)) then 3
  else if (List.range 4).any (fun k => decide (s.capacity k < c.resetEff.eff k + (others.map (fun d => d.eff k)).sum)) then 4
  else if c.maxscope < 3 ∨ 5 < c.maxscope ∨ (c.cls = 3 ∧ c.maxscope = 5) ∨ c.tenant = 0xFF then 5
  else if low c && s.buckets.any (fun b => b.1 % 16 == g && (b.2.shr || b.2.mode == 2)) then 6
  else if others.any (fun d => mask256 c.caps &&& mask256 d.caps != 0) then 7
  else 0

/-- Every line in the ways of a mask that belongs to no guest sharing them leaves before the mask is used (R360). -/
def State.clearWays (s : State) (g mask : Nat) : State :=
  (s.l2.filter (fun l => bitOf l.way mask && l.guest != g && !bitOf l.way (s.gc l.guest).ways)).foldl (fun t l => t.l2Evict l) s

/-- GC_CTL is written with EN = 1 (R452): a loaded contract does not change. -/
def execContractLoad (g v : Nat) (s : State) : Host.Outcome State Fault Refusal :=
  .next (if (s.gc g).en then s
  else
    let t := s.modGc g (fun c => c.ctlFields v)
    let e := t.loadErr g
    if e ≠ 0 then t.modGc g (fun c => { c with err := e })
    else ((t.clearWays g (t.gc g).ways).modGuest g (fun x => { x with ev := [] })).modGc g
      (fun c => { c.resetEff with en := true, err := 0, gstate := 1 }))

/-- GC_CMD START (R446): refused with ERR 8 while the key slot holds no key. -/
def execStart (g : Nat) (s : State) : Host.Outcome State Fault Refusal :=
  let c := s.gc g
  .next (if c.gstate ≠ 1 ∧ c.gstate ≠ 4 then s
  else if !c.keyValid then s.modGc g (fun c => { c with err := 8 })
  else s.modGc g (fun c => { c with gstate := 2 }))

/-! ### Resizes (R453) -/

/-- The cores of a guest that hold live kernels, on the clusters of a mask. -/
def State.liveCores (s : State) (g mask : Nat) : List Nat :=
  (s.cores.filter (fun p => p.2.live g && bitOf (p.1 / 8) mask)).map (fun p => p.1)
/-- Every cluster. -/
def allClusters : Nat := 2 ^ 32 - 1
/-- The clusters in one mask and not in another. -/
def without (a b : Nat) : Nat := (List.range 32).foldl (fun m i => if bitOf i a && !bitOf i b then m + 2 ^ i else m) 0

/-- Start a resize of guest g to a partition (R453 steps 1 and 2). A write while one runs gives it the new partition. -/
def State.resizeTo (s : State) (g part : Nat) : State :=
  let part := part % 2 ^ 32
  let t := s.modGuest g (fun x => { x with newPart := part, gc := { x.gc with rsz := true } })
  (t.liveCores g (without (t.gc g).part part)).foldl (fun t c => t.askYield c 1 t.frame.regs.pydl) t

/-- GC_PART is written while EN = 1 (R453). -/
def execResize (g part : Nat) (s : State) : Host.Outcome State Fault Refusal :=
  .next (if (s.gc g).en && (s.gc g).gstate != 5 then (s.modGc g (fun c => { c with hostPart := part % 2 ^ 32 })).resizeTo g part else s)

/-- Scrub what guest g leaves on a cluster: its windows, its temporal array where it last held it (R453 step 4). -/
def State.scrubCluster (s : State) (g cl : Nat) : State :=
  let t := (List.range 8).foldl (fun t c => t.clearWindow g (8 * cl + c)) s
  t.modCl cl (fun c => if c.arr.lastGuest == some g && c.arr.holder.isNone
    then { c with arr := { c.arr.scrubbed with lastGuest := none } } else c)

/-- RESIZE_DONE as the host sees it: the code 0x102 stands for KIND 2. -/
def evRESIZE : Nat := 0x102

/-- The end of a resize once every core of the leaving clusters is saved (R453 steps 3 to 6). -/
def State.resizeEnd (s : State) (g : Nat) : State :=
  let x := s.guestAt g
  let leave := without x.gc.part x.newPart
  let moved := x.grps.filter (fun r => r.st == 1 && bitOf r.cl leave)
  let t := moved.foldl (fun t r => t.relocate g x.newPart r) s
  let t := (List.range 32).foldl (fun t cl => if bitOf cl leave then t.scrubCluster g cl else t) t
  let t := t.modGc g (fun c => { c with part := x.newPart, rsz := false })
  let n := ((t.guestAt g).grps.filter (fun r => r.st == 3)).length
  (t.statusEvent g 2 0 n 0).hostEv evRESIZE g n

/-! ### Stopping (R458) -/

/-- Begin a stop: every core of the guest is asked for its context (R458 step 1). -/
def State.stopBegin (s : State) (g : Nat) : State :=
  let t := s.modGuest g (fun x => { x with stopWait := false, gc := { x.gc with gstate := 3 } })
  (t.liveCores g allClusters).foldl (fun t c => t.askYield c 3 t.frame.regs.pydl) t

/-- GC_CMD STOP (R446, R458): during a resize it begins when the resize has completed. -/
def execStop (g : Nat) (s : State) : Host.Outcome State Fault Refusal :=
  .next (if (s.gc g).gstate ≠ 2 then s
  else if (s.gc g).rsz then s.modGuest g (fun x => { x with stopWait := true })
  else s.stopBegin g)

/-- The index of R3 for the page of a leaf at a level: 0, 2 and 4 for a page of its own, 1, 3 and 5 for that of a span group
(R375). -/
def State.pageIndex (s : State) (va level entry e : Nat) : Nat :=
  let n := spanCount level
  let b := (s.peekLine 16 (entry / 128 * 128)).drop (entry % 128 / 8 / n * n * 8)
  let p := leafPage level va e (if bitOf 6 e then (List.range n).map (fun j => ofLe ((b.drop (8 * j)).take 8)) else [])
  2 * level + (if p.2.1 = levelShift level then 0 else 1)

/-- Write the dirty-page report and clear the D bits that it reports (R458 step 3). -/
def State.dirtyReport (s : State) (g : Nat) : State :=
  let c := s.gc g
  let dirty := (s.leaves g).filter (fun l => bitOf 7 l.2.2.2)
  let room := (c.dprp * 4096 - 16) / 8
  let put := dirty.take room
  let b := toLe 8 put.length ++ [if room < dirty.length then 1 else 0] ++ List.replicate 7 0 ++
    put.flatMap (fun l => toLe 8 (bitsOf 47 12 l.1 * 4096 + s.pageIndex l.1 l.2.1 l.2.2.1 l.2.2.2))
  let t := (linePieces (c.dpra * 4096) b.length).foldl (fun (p : State × List Nat) x =>
    ((p.1.homeWrite g 16 x.1 (p.2.take x.2)).1, p.2.drop x.2)) (s, b)
  dirty.foldl (fun t l => (t.homeWrite g 16 l.2.2.1 (toLe 8 (l.2.2.2 - 128))).1) t.1

/-- The end of a stop once every context of the guest is saved (R458 steps 2 to 4). The D bits that the report clears
are dropped from the TLBs, so that the next write sets them again (R377). -/
def State.stopEnd (s : State) (g : Nat) : State :=
  let t := (s.l2.filter (fun l => l.dirty && (l.guest == g || l.sel == g))).foldl (fun t l => t.l2Clean l) s
  let t := if (s.gc g).dprp = 0 then t else t.dirtyReport g
  let t := { t with
    cores := t.cores.map (fun (p : Nat × Core) => (p.1, { p.2 with tlb := p.2.tlb.filter (fun e => e.guest != g) }))
    cls := t.cls.map (fun (p : Nat × Cluster) => (p.1, { p.2 with tlb2 := p.2.tlb2.filter (fun e => e.guest != g) })) }
  (t.modGc g (fun c => { c with gstate := 4 })).hostIrq 0

/-! ### Resetting (R457) -/

/-- Drop every translation of a guest (R457 step 6). -/
def State.dropTlbs (s : State) (g : Nat) : State :=
  { s with
    cores := s.cores.map (fun (p : Nat × Core) => (p.1, { p.2 with tlb := p.2.tlb.filter (fun e => e.guest != g) }))
    cls := s.cls.map (fun (p : Nat × Cluster) => (p.1, { p.2 with tlb2 := p.2.tlb2.filter (fun e => e.guest != g) }))
    dies := s.dies.map (fun (p : Nat × Die) => (p.1, { p.2 with wcache := p.2.wcache.filter (fun e => e.guest != g) })) }

/-- Steps 1 to 4 of a reset (R457). -/
def State.resetBegin (s : State) (g : Nat) : State :=
  let cores := s.liveCores g allClusters
  let grps := (s.guestAt g).grps
  let t := s.modGc g (fun c => { c with gstate := 5, rsz := false })
  -- 1: cores stop without a save, saved contexts are discarded
  let t := cores.foldl (fun t c => t.stopCore c false) t
  -- what a core that was stopped before has released is dropped with its requests
  let t := { t with cores := t.cores.map (fun (p : Nat × Core) =>
    if p.2.guest = g then (p.1, { p.2 with stores := [], l1 := if p.2.mode = CoreMode.stopped then [] else p.2.l1 }) else p) }
  -- 2: requests at the regulation points are dropped
  let t := { t with
    held := (t.held : List HeldReq).filter (fun (h : HeldReq) => h.guest != g && h.own != g)
    grants := (t.grants : List Grant).filter (fun (x : Grant) => x.payer.guest != g)
    parked := (t.parked : List (Nat × Outside)).filter (fun (p : Nat × Outside) => (t.outsidePlace p.2).1 != g)
    buckets := t.buckets.map (fun (b : Nat × Bucket) => if b.1 % 16 = g then (b.1, { b.2 with hcnt := 0, held := false, raised := 0 }) else b)
    fab := { t.fab with reqs := (t.fab.reqs : List RemReq).filter (fun (r : RemReq) => !cores.contains r.core) } }
  -- 3: records, walks, positions, barriers
  let t := grps.foldl (fun t r => if r.st = 0 then t.modCl r.cl (fun c => { c with bars := c.bars.map (fun (b : Nat × Barrier) =>
    if b.2.owner != 0 && r.members.any (fun m => bitOf m.core b.2.owner) then (b.1, {}) else b) }) else t) t
  let t := cores.foldl (fun t c => t.modCoreAt c (fun k => { k with capmap := [0, 0, 0, 0] })) t
  let t := t.modGuest g (fun x => { x with nodes := [], grps := [], saved := [], walks := [], stopWait := false, rpl := {} })
  -- 4: collectives
  t.resetColls g

/-- The step of R457 that leaves the ways of a guest empty: the lines under its key are lost, its plaintext lines and those
of ways that no other guest has are written back (R360). -/
def State.resetWays (s : State) (g : Nat) : State :=
  let ways := (s.gc g).ways
  let shared (w : Nat) : Bool := s.loaded.any (fun h => h != g && bitOf w (s.gc h).ways)
  let t := { s with l2 := s.l2.filter (fun l => l.sel != g) }
  (t.l2.filter (fun l => bitOf l.way ways && (l.guest == g || !shared l.way))).foldl (fun t l => t.l2Evict l) t

/-- INSTR holds until the host has written class-0 minima that the capacity meets, or has reset every class-0 guest (R455);
a cut one counts with the minimum that was written. -/
def State.checkInstr (s : State) : State :=
  let zero := s.loaded.filter (fun g => (s.gc g).cls == 0)
  if (List.range 4).all (fun k => decide ((zero.map (fun g => (s.gc g).resetEff.eff k)).sum ≤ s.capacity k))
  then ({ s with plat := { s.plat with instr := false } }).updSafe else s

/-- Steps 5 to 8 of a reset (R457); the reset of the last class-0 guest lets go of SAFE_N (R455). -/
def State.resetEnd (s : State) (g : Nat) : State :=
  let part := (s.gc g).part
  -- 5, 6
  -- CMSk_BASE reads 0, LOGN with it (R474)
  let t := (s.revokeWindows g).modGuest g (fun x => { x with
    cms := (List.range 4).map (fun k => (k, { logn := 0 })), gc := { x.gc with root := 0, gen := 0 } })
  let t := t.dropTlbs g
  -- 7
  let t := (List.range 32).foldl (fun t cl => if bitOf cl part then t.scrubCluster g cl else t) t
  let t := { t with cores := t.cores.map (fun (p : Nat × Core) => if p.2.guest = g && p.2.ran then
    (p.1, { p.2.hardware with mode := p.2.mode, planeAct := {}, planeInact := {}, cfgWord := 0, cfgPlane := 0, ran := false
                              pmc := if t.plat.res.get 0 p.1 = g + 1 then [] else p.2.pmc }) else p) }
  let t := t.resetWays g
  -- a resource of the guest is FREE, a LENT one stays with the host (R463)
  let t := { t with plat := { t.plat with
    res := ((t.plat.res : Tab Nat).map (fun (p : Nat × Nat) => if p.2 = g + 18 then (p.1, 17) else p)).filter (fun (p : Nat × Nat) => p.2 != g + 1)
    poolScrub := t.plat.poolScrub ++ (t.guestAt g).frames } }
  -- 8
  let low := (s.gc g).cls = 0
  let t := t.modGuest g (fun x => { x with
    ev := [], frames := [], sevEn := false, sevBase := 0, sevN := 0, sevLost := false, sevTail := 0, sevHead := 0, irq := []
    attNonce := 0, attOut := 0, hwin := 0, lastImg := 0
    gc := { x.gc with en := false, gstate := 0, ways := 0, key := [], keyValid := false, rsz := false } })
  if low && t.plat.instr && !t.loaded.any (fun h => (t.gc h).cls == 0) then t.checkInstr else t

/-- GC_CMD RESET (R446, R457). -/
def State.resetGuest (s : State) (g : Nat) : State :=
  if (s.gc g).gstate = 0 ∨ (s.gc g).gstate = 5 then s else s.resetBegin g

/-- RESET. -/
def execReset (g : Nat) (s : State) : Host.Outcome State Fault Refusal := .next (s.resetGuest g)

/-- Function level reset of virtual function g + 1: RESET of guest g (R493). -/
def execFunctionLevelReset (g : Nat) (s : State) : Host.Outcome State Fault Refusal := .next (s.resetGuest g)

/-- What Bowline goes on with for guest g by itself: the end of a resize, a stop that waited for it, the end of a stop,
the end of a reset whose aborts are acknowledged. -/
def State.advanceGuest (s : State) (g : Nat) : Option State :=
  let x := s.guestAt g
  if x.gc.gstate = 5 then (if s.fab.aborts.any (fun a => a.2.1 == g) then none else some (s.resetEnd g))
  else if x.gc.rsz then
    (if (s.liveCores g (without x.gc.part x.newPart)).isEmpty then some (s.resizeEnd g) else none)
  else if x.stopWait && x.gc.gstate == 2 then some (s.stopBegin g)
  else if x.gc.gstate = 3 then
    -- the released stores of cores that were stopped before are performed first
    (if (s.liveCores g allClusters).isEmpty && s.cores.all (fun p => p.2.guest != g || p.2.stores.isEmpty) then some (s.stopEnd g) else none)
  else none

/-! ### Degraded contracts (R454, R455) -/

/-- CONTRACT_DEGRADED and INSTR_MINIMA (R323). -/
def cDEGRADED : Nat := 0x83
/-- INSTR_MINIMA. -/
def cINSTRMINIMA : Nat := 0x84

/-- The cuts of one class (R454): guest and minimum before, the shortfall; the new minima and what is still short. -/
def cutClass (l : List (Nat × Nat)) (short : Nat) : List (Nat × Nat) × Nat :=
  let t := (l.map (fun p => p.2)).sum
  if t ≤ short then (l.map (fun p => (p.1, 0)), short - t)
  else
    let cut := l.map (fun p => (p.1, p.2 - short * p.2 / t))
    let left := short - (l.map (fun p => short * p.2 / t)).sum
    let order := ((cut.filter (fun p => p.2 != 0)).mergeSort (fun a b => decide (b.1 ≤ a.1))).take left
    (cut.map (fun p => if order.any (fun q => q.1 == p.1) then (p.1, p.2 - 1) else p), 0)

/-- The new minima of a kind for all loaded guests: guest, class, minimum (R454). -/
def cutAll (l : List (Nat × Nat × Nat)) (short : Nat) : List (Nat × Nat) :=
  ([3, 2, 1, 0].foldl (fun (acc : List (Nat × Nat) × Nat) c =>
    let mine := (l.filter (fun p => p.2.1 == c)).map (fun p => (p.1, p.2.2))
    if acc.2 = 0 then (acc.1 ++ mine, 0)
    else let r := cutClass mine acc.2; (acc.1 ++ r.1, r.2)) ([], short)).1

/-- The bits of a mask from the highest down, n of them removed. -/
def dropHigh (m : Nat) : Nat → Nat
  | 0 => m
  | n + 1 => match (List.range 32).reverse.find? (fun i => bitOf i m) with
    | some i => dropHigh (m - 2 ^ i) n
    | none => m

/-- Take ways from a guest: its lines in them are written back and leave (R360). -/
def State.takeWays (s : State) (g mask : Nat) : State :=
  let gone := without (s.gc g).ways mask
  ((s.l2.filter (fun l => l.guest == g && bitOf l.way gone)).foldl (fun t l => t.l2Evict l) s).modGc g (fun c => { c with ways := mask })

/-- Adjust what a guest holds to a cut minimum (R454). Clusters and ways out of service go first, then the highest (log
entry 20). -/
def State.adjust (s : State) (g kind old new : Nat) : State :=
  match kind with
  | 0 =>
    let out := (List.range 32).filter (fun cl => bitOf cl (s.gc g).part && !s.clusterServes cl)
    let first := (out.take (old - new)).foldl (fun m cl => m - 2 ^ cl) (s.gc g).part
    s.resizeTo g (dropHigh first (old - new - (out.take (old - new)).length))
  | 1 =>
    let out := (List.range 32).filter (fun w => bitOf w (s.gc g).ways && bitOf w s.waysOut)
    let first := (out.take (old - new)).foldl (fun m w => m - 2 ^ w) (s.gc g).ways
    s.takeWays g (dropHigh first (old - new - (out.take (old - new)).length))
  | 2 => { s with buckets := s.buckets.map (fun (b : Nat × Bucket) =>
      if b.1 % 16 = g && decide (16 ≤ b.1 / 16 % 32) && decide (b.1 / 16 % 32 < 28) then (b.1, { b.2 with rate := b.2.rate * new / old }) else b) }
  | _ => s

/-- Cut the minima of a kind when the capacity has fallen below their sum (R454, R455). -/
def State.cutMinima (s : State) (kind : Nat) : State :=
  let l := s.loaded.map (fun g => (g, (s.gc g).cls, (s.gc g).eff kind))
  let sum := (l.map (fun p => p.2.2)).sum
  if sum ≤ s.capacity kind then s
  else
    let new := cutAll l (sum - s.capacity kind)
    let cut := l.filterMap (fun p => (new.find? (fun q => q.1 == p.1 && decide (q.2 < p.2.2))).map (fun q => (p.1, p.2.1, p.2.2, q.2)))
    let t := cut.foldl (fun t p =>
      ((t.modGc p.1 (fun c => c.setEff kind p.2.2.2)).adjust p.1 kind p.2.2.1 p.2.2.2).statusEvent p.1 1 cDEGRADED kind p.2.2.2) s
    if cut.any (fun p => p.2.1 == 0) then (({ t with plat := { t.plat with instr := true } }).updSafe).hostEv cINSTRMINIMA kind 0 else t

/-- GC_MIN is written (R451, R455). -/
def execGcMinWrite (g v : Nat) (s : State) : Host.Outcome State Fault Refusal :=
  let t := s.modGc g (fun c => ({ c with minbw := bitsOf 63 48 v, minways := bitsOf 45 40 v, mincl := bitsOf 37 32 v, minwin := bitsOf 16 0 v }).resetEff)
  .next (if t.plat.instr && (t.gc g).cls == 0 then t.checkInstr else t)

/-! ### Keys and frames (R459, R460) -/

/-- A key command is ignored in RUN and STOPPING (R459). -/
def State.keyBusy (s : State) (g : Nat) : Bool := (s.gc g).gstate == 2 || (s.gc g).gstate == 3
/-- Every L2 line under the key slot of a guest is invalidated before the key changes (R459). -/
def State.setKey (s : State) (g : Nat) (key : List Nat) (valid : Bool) : State :=
  ({ s with l2 := s.l2.filter (fun l => l.sel != g) }).modGc g (fun c => { c with key := key, keyValid := valid })

/-- KCMD GENERATE (R459). -/
def execGenerate (g : Nat) (s : State) : Host.Outcome State Fault Refusal :=
  .next (if s.keyBusy g then s
  else
    let k := (List.range 64).map (fun i => (Config.randomByte s.plat.nonce i).toNat)
    ({ s with plat := { s.plat with nonce := s.plat.nonce + 1 } }).setKey g k true)

/-- KCMD IMPORT (R459): a failed unwrap leaves VALID = 0. -/
def execImportKey (g : Nat) (s : State) : Host.Outcome State Fault Refusal :=
  .next (if s.keyBusy g then s
  else
    let a := (s.gc g).keySrc
    let r := (linePieces a 72).foldl (fun (p : State × List Nat) x =>
      let r := p.1.homeRead g 16 x.1 x.2; (r.1, p.2 ++ r.2.getD [])) (s, [])
    match Config.keyUnwrap r.2 with
    | some k => r.1.setKey g (fixBytes 64 k) true
    | none => r.1.setKey g [] false)

/-- KCMD ERASE (R459). -/
def execErase (g : Nat) (s : State) : Host.Outcome State Fault Refusal :=
  .next (if s.keyBusy g then s else s.setKey g (List.replicate 64 0) false)

/-- Give a clean frame to a guest (R460). -/
def State.giveFrame (s : State) (g pa : Nat) : State :=
  ({ s with plat := { s.plat with pollOut := s.plat.pollOut ++ [(g, pa)] } }).modGuest g (fun x => { x with frames := x.frames ++ [pa] })

/-- POOL_ALLOCg is read (R460): without a clean frame the read waits. -/
def execPoolAlloc (g : Nat) (s : State) : Host.Outcome State Fault Refusal :=
  .next (match s.plat.poolClean with
  | pa :: t => ({ s with plat := { s.plat with poolClean := t } }).giveFrame g pa
  | [] => { s with plat := { s.plat with poolWait := s.plat.poolWait ++ [g] } })

/-- The first address of the 2 MiB frame of an address. -/
def frameOf (pa : Nat) : Nat := pa / 2 ^ 21 * 2 ^ 21

/-- A frame leaves its owner, its lines leave the L2, and it joins the scrub queue (R460). -/
def State.releaseFrame (s : State) (pa : Nat) : State :=
  let f := frameOf pa
  if s.plat.poolClean.contains f || s.plat.poolScrub.contains f then s
  else { s with
    l2 := s.l2.filter (fun l => frameOf l.pa != f)
    guests := s.guests.map (fun (p : Nat × Guest) => (p.1, { p.2 with frames := p.2.frames.filter (fun x => x != f) }))
    plat := { s.plat with poolScrub := s.plat.poolScrub ++ [f] } }

/-- POOL_FREE is written (R460). -/
def execPoolFree (pa : Nat) (s : State) : Host.Outcome State Fault Refusal := .next (s.releaseFrame pa)

/-- Memory with every byte of a range as zero. -/
def memClear (m : List Host.Cell) (lo n : Nat) : List Host.Cell := m.filter (fun c => !(decide (lo ≤ c.1) && decide (c.1 < lo + n)))

/-- The scrub engine finishes the oldest frame (R460): it becomes clean, and the oldest waiting read takes it. -/
def execFrameScrub (s : State) : Host.Outcome State Fault Refusal :=
  .next (match s.plat.poolScrub with
  | [] => s
  | f :: t =>
    let s1 := { s with
      mem := memClear s.mem f (2 ^ 21)
      l2 := s.l2.filter (fun l => frameOf l.pa != f)
      memKey := s.memKey.filter (fun p => frameOf (128 * p.1) != f)
      memBad := s.memBad.filter (fun l => frameOf l != f)
      plat := { s.plat with poolScrub := t } }
    match s.plat.poolWait with
    | g :: w => ({ s1 with plat := { s1.plat with poolWait := w } }).giveFrame g f
    | [] => { s1 with plat := { s1.plat with poolClean := s1.plat.poolClean ++ [f] } })

/-! ### Attestation (R461, R462) -/

/-- The registers GC_CTL to GC_MIN as written by the host: reserved and RO bits, ROOT and GEN zero. -/
def Contract.written (c : Contract) : List Nat :=
  let ws (i : Nat) : Nat := c.ws.getD i 0
  [b2n c.en * 2 ^ 63 + c.tenant * 2 ^ 48 + c.maxscope * 2 ^ 40 + c.cls * 2 ^ 32, c.hostPart, b2n c.share * 2 ^ 32 + c.hostWays,
   c.woff * 2 ^ 32 + c.wlen * 2 ^ 16, 0, ws 3 * 2 ^ 24 + ws 2 * 2 ^ 16 + ws 1 * 2 ^ 8 + ws 0, c.sfl * 8, c.hostSfln,
   c.minbw * 2 ^ 48 + c.minways * 2 ^ 40 + c.mincl * 2 ^ 32 + c.minwin].flatMap (fun w => toLe 8 w)

/-- The 256 signed bytes of a report. -/
def State.reportBody (s : State) (g : Nat) (nonce img : List Nat) : List Nat :=
  let c := s.gc g
  toLe 2 1 ++ [g, c.cls, c.tenant, 0, 0, 0] ++ toLe 8 s.plat.hss ++ nonce ++ fwBytes ++ sha256 c.written ++
    (if img.isEmpty then List.replicate 32 0 else sha256 img) ++ List.replicate 112 0

/-- ATT_GO is written (R461): the counter advances before the signature leaves; without signatures left DETAIL is 1. A
fault of an access gives a status event with its cause instead of a report (log entry 24). -/
def execAttestation (g : Nat) (s : State) : Host.Outcome State Fault Refusal :=
  let x := s.guestAt g
  .next (if !x.gc.en then s
  else if 2 ^ 30 ≤ s.plat.hss then s.statusEvent g 6 0 1 x.attOut
  else
    let r := s.gRead g x.attNonce 32
    match r.2 with
    | .error e => r.1.statusEvent g 1 e.1 0 e.2
    | .ok nonce =>
      let im := if x.lastImg = 0 then (r.1, Except.ok []) else r.1.gRead g x.lastImg planeSize
      let img := match im.2 with | .ok b => b | .error _ => []
      let body := im.1.reportBody g nonce img
      let t := { im.1 with plat := { im.1.plat with hss := im.1.plat.hss + 1 } }
      let w := t.gWrite g x.attOut (body ++ hssBytes s.plat.hss body)
      match w.2 with
      | .error e => w.1.statusEvent g 1 e.1 0 e.2
      | .ok () => w.1.statusEvent g 6 0 0 x.attOut)

/-! ### Events of a virtual function (R447, R449) -/

/-- An event counter is written: the value is added (R447). -/
def execEventCounterAdd (g e v : Nat) (s : State) : Host.Outcome State Fault Refusal := .next (s.evAdd g (e % 256) v)

/-- The timer of a vector has run out (R449). -/
def State.timerDue (s : State) (g v : Nat) : Bool :=
  let q := (s.guestAt g).irq.get {} v
  q.pend != 0 && q.itime != 0 && !q.waiting && decide (q.first + q.itime ≤ s.time)
/-- IRQ_TIMER (R449). -/
def execIrqTimer (g v : Nat) (s : State) : Host.Outcome State Fault Refusal := .next (if s.timerDue g v then s.sendMsg g v else s)

/-- A masked vector is unmasked: a message that it holds is sent (R449). -/
def execVectorUnmask (g v : Nat) (s : State) : Host.Outcome State Fault Refusal :=
  let q := (s.guestAt g).irq.get {} v
  let t := s.modGuest g (fun x => { x with irq := x.irq.set v { q with masked := false } })
  .next (if q.waiting then t.sendMsg g v else t)

/-! ### Resources (R463) -/

/-- The host claims a resource: FREE becomes HOST, GUEST becomes LENT. -/
def execHostClaim (id : Nat) (s : State) : Host.Outcome State Fault Refusal :=
  .next (match resKey id with
  | none => s
  | some (k, _) =>
    let h := s.plat.res.get 0 k
    let n := if h = 0 then 17 else if h < 17 then h + 17 else h
    let t := { s with plat := { s.plat with res := s.plat.res.set k n } }
    -- the settings of a guest's trace unit are put aside, as its counter values are (log entry 55)
    if 256 ≤ k ∧ 1 ≤ h ∧ h < 17 then t.modCl (k - 256) (fun c => { c with lent := some c.trc, trc := {} }) else t)

/-- The host releases a resource: LENT returns to its guest, HOST becomes FREE. -/
def execHostRelease (id : Nat) (s : State) : Host.Outcome State Fault Refusal :=
  .next (match resKey id with
  | none => s
  | some (k, _) =>
    let h := s.plat.res.get 0 k
    if h = 17 then { s with plat := { s.plat with res := s.plat.res.del k } }
    else if 18 ≤ h then
      (let t := { s with plat := { s.plat with res := s.plat.res.set k (h - 17) } }
       if 256 ≤ k then t.modCl (k - 256) (fun c => { c with trc := c.lent.getD {}, lent := none }) else t)
    else s)

end Sys2Proof.Machine
end

