-- ==== Sys2Proof/Machine/Regulation.lean ====
section
/-! DEFINITION. The regulation points (R364 to R372), the stages of a request of the S path at the slice and the
controller (R356, R366, R370), fetches and walks (R269, R288, R379, R380), and the answers to WPGT (R378). -/

namespace Sys2Proof.Machine

/-! ### Admission (R367, R368, R370) -/

/-- The requests of guest g that have reached a point. -/
def State.heldAt (s : State) (die point g : Nat) : List HeldReq :=
  s.held.filter (fun h => h.die == die && h.point == point && h.guest == g && decide (h.since ≤ s.now))

/-- The request that reached its point first; of those of one cycle, the one that was brought first. -/
def oldest (l : List HeldReq) : Option HeldReq :=
  l.foldl (fun m h => match m with
    | some x => if h.since < x.since then some h else m
    | none => some h) none

/-- An admitted request leaves the run of which it is the first, whose next one comes a cycle later. -/
def HeldReq.admitted (h : HeldReq) : List HeldReq :=
  { h with adm := true, more := 0 } :: (if h.more = 0 then [] else [{ h with more := h.more - 1, since := h.since + 1 }])

/-- Change the first element that meets a test. -/
def mapFirst {α : Type} (p : α → Bool) (f : α → α) : List α → List α
  | [] => []
  | x :: t => if p x then f x :: t else x :: mapFirst p f t

/-- Put a list in the place of the first element that meets a test. -/
def flatFirst {α : Type} (p : α → Bool) (f : α → List α) : List α → List α
  | [] => []
  | x :: t => if p x then f x ++ t else x :: flatFirst p f t

/-- Note that a request has passed its point and is served from a cycle on; requests of one payer under one key count together. -/
def State.grant (s : State) (g : Grant) : State :=
  match s.grants.find? (fun x => x.payer == g.payer && x.key == g.key) with
  | some x => { s with grants := s.grants.map (fun y => if y == x then { x with units := x.units + g.units, since := max x.since g.since } else y) }
  | none => { s with grants := s.grants ++ [g] }

/-- An admitted request passes its point in a cycle (R366, R370): from an initiator point it goes on to the slice, which looks
it up in 12 cc. At the port of its cluster a request of the S path goes on, and an engine's counts as admitted there; at any
other point it is granted to its payer. -/
def State.passPoint (s : State) (h : HeldReq) (t : Nat) : State :=
  let pass := s.grant { payer := { core := h.core, guest := h.own, tag := h.tag }, key := bkey h.die h.point h.guest,
                        units := h.units, since := if h.point < 16 then t + 12 else t }
  match h.core with
  | some n =>
    if h.tag = postTag then s
    else if 8 ≤ h.point then pass
    else if h.tag = 0 then
      s.modCoreAt n (fun k => { k with req := k.req.map (fun r => { r with stage := 1, dueAt := t + 12 }) })
    else s.modCoreAt n (fun k => { k with adm := k.adm ++ [(h.tag, t + 12)] })
  | none => if h.tag = postTag then s else pass

/-! ### Accesses from outside (R364, R483, R494, R522) -/

/-- Write a trace record: TRC_PTR counts it once it is in memory, TRC_LOST when it cannot be written (R483). -/
def State.putRecord (s : State) (cl g va : Nat) (b : List Nat) : State :=
  let r := s.gWriteP g (cl / 8) (cl % 8) (linePieces va b.length) b
  match r.2 with
  | .ok () => r.1.modCl cl (fun x => { x with trc := { x.trc with ptr := (x.trc.ptr + 1) % 2 ^ 32 } })
  | .error _ => r.1.modCl cl (fun x => { x with trc := { x.trc with lost := min (x.trc.lost + 1) (2 ^ 32 - 1) } })

/-- Perform an access from outside. -/
def State.outside (s : State) (i : Outside) : State :=
  match i with
  | .host g w a d => s.hostWindow g w a d
  | .tail g k v => s.tailWrite g k v
  | .car a pa h sel => s.remoteServe a pa h sel
  | .record cl g va b => s.putRecord cl g va b

/-- The first access from outside that can go on at an initiator point. Those of one function of the host go on in their
order (R399). -/
def State.outsideReady (s : State) (die point g : Nat) : Option (Nat × Outside) :=
  s.parked.find? (fun p => s.outsidePlace p.2 == (g, die, point) && !s.waiting (outPayer g p.1) &&
    (!p.2.ofHost g || (s.parked.find? (fun q => q.2.ofHost g)).map (fun q => q.1) == some p.1))

/-- An access from outside goes on: its requests are brought to the next points, or it is performed. -/
def State.outsideStep (s : State) (g : Nat) (p : Nat × Outside) : State :=
  let r := s.regulated (outPayer g p.1) (fun _ => false) (fun t => (t.outside p.2, ()))
  match r.2 with
  | none => r.1
  | some _ => { r.1 with parked := r.1.parked.filter (fun q => q.1 != p.1) }

/-- The oldest request that is not admitted, when its bucket admits it now. -/
def State.admittable (s : State) (die point g : Nat) : Option HeldReq :=
  match oldest ((s.heldAt die point g).filter (fun h => !h.adm)) with
  | some h => if (s.bucket die point g).admits h.units then some h else none
  | none => none

/-- An admitted request of guest g has slots to use, up to a cycle of the wheel. -/
def State.servable (s : State) (die point g : Nat) : Option (HeldReq × Nat) :=
  match oldest ((s.heldAt die point g).filter (fun h => h.adm)) with
  | some h => (s.slotTime die point g (max h.units 1)).map (fun t => (h, t))
  | none => none

/-- A request of the guest is held at the point. -/
def State.holds (s : State) (die point g : Nat) : Bool := (s.heldAt die point g).any (fun h => !h.adm)

/-- Whether REGULATION_ADMIT is due. -/
def State.admitDue (s : State) (die point g : Nat) : Bool :=
  (s.outsideReady die point g).isSome || (s.admittable die point g).isSome || (s.servable die point g).isSome || (s.bucket die point g).held != s.holds die point g

/-- One decision for the requests of guest g at a point: an access from outside goes on, a request is admitted and debited
(R367), or an admitted one takes its slots (R370). -/
def State.admitStep (s : State) (die point g : Nat) : State :=
  let t : State := match s.outsideReady die point g with
    | some p => s.outsideStep g p
    | none =>
      match s.admittable die point g with
      | some h =>
        ({ s with held := flatFirst (fun x => x == h) HeldReq.admitted s.held }).debit die point g h.units
      | none =>
        match s.servable die point g with
        | some (h, c) =>
          (({ s with held := s.held.erase h } : State).modBucket die point g (fun b => { b with next := c + 1 })).passPoint h (s.wheelStart point c)
        | none => s
  t.modBucket die point g (fun b => { b with held := t.holds die point g })

/-- REGULATION_ADMIT (R367). -/
def execRegulationAdmit (die point guest : Nat) (s : State) : Host.Outcome State Fault Refusal :=
  .next (if s.admitDue die point guest then s.admitStep die point guest else s)

/-- Decide admission until nothing changes; every decision passes or admits a request. -/
def State.admitAll (s : State) (die point g : Nat) : Nat → State
  | 0 => s
  | n + 1 => if s.admitDue die point g then (s.admitStep die point g).admitAll die point g n else s

/-- The tick of one bucket after admission (R368 steps 3 and 4). -/
def Bucket.count (b : Bucket) (held : Bool) : Bucket :=
  if !held then { b with hcnt := 0, raised := 0, held := false }
  else
    let h := min 65535 (b.hcnt + 1)
    { b with hcnt := h, held := true,
             raised := if b.mode = 2 ∧ b.hcnt ≠ h ∧ h = b.hold + 1 ∧ b.raised = 0 then 1 else b.raised }

/-- The buckets that a tick touches: those written and those where a request stands. -/
def State.bucketKeys (s : State) : List Nat :=
  let b := s.buckets.map (fun p => p.1)
  b ++ ((s.held.map (fun h => bkey h.die h.point h.guest)).eraseDups).filter (fun k => !b.contains k)

/-- The buckets for which something may be due: a request stands there, HELD is set, BUDGET is raised, or an access from
outside enters there. -/
def State.pointKeys (s : State) : List Nat :=
  (s.buckets.filter (fun p => p.2.held || p.2.raised == 1)).map (fun p => p.1) ++ s.held.map (fun h => bkey h.die h.point h.guest) ++
    s.parked.map (fun p => let x := s.outsidePlace p.2; bkey x.2.1 x.2.2 x.1)

/-- REGULATOR_TICK (R368). -/
def execRegulatorTick (s : State) : Host.Outcome State Fault Refusal :=
  let at_ (t : State) (k : Nat) (f : State → Nat → Nat → Nat → State) : State := f t (k / 512) (k / 16 % 32) (k % 16)
  let ks := s.bucketKeys
  let t := { s with ticked := s.ticked + 1 }
  let t := ks.foldl (fun t k => at_ t k (fun t d p g =>
    t.modBucket d p g (fun b => { b with level := min (b.depth : Int) (b.level + b.rate) }))) t
  let t := ks.foldl (fun t k => at_ t k (fun t d p g => t.admitAll d p g (2 * (t.held.map (fun h => h.more + 1)).sum + 1))) t
  .next (ks.foldl (fun t k => at_ t k (fun t d p g => t.modBucket d p g (fun b => b.count (t.holds d p g)))) t)

/-- Cause BUDGET. -/
def cBUDGET : Nat := 0x82

/-- BUDGET (R369): an asynchronous trap of every core with a request held here, or a status event when no core has one
(its ADDR carries the information: log entry 25). -/
def execBudget (die point guest : Nat) (s : State) : Host.Outcome State Fault Refusal :=
  .next (if (s.bucket die point guest).raised ≠ 1 then s
  else
    let info := point + 64 * die
    let cores := ((s.heldAt die point guest).filterMap (fun h => if h.adm then none else h.core)).eraseDups
    let t := s.modBucket die point guest (fun b => { b with raised := 2 })
    if cores.isEmpty then t.statusEvent guest 1 cBUDGET 0 info
    else cores.foldl (fun t n => t.modCoreAt n (fun k => { k with asyncs := k.asyncs ++
      [{ cause := cBUDGET, slots := 0, info := BitVec.ofNat 64 info, flt := 0, async := true }] })) t)

/-! ### The S path at its home -/

/-- Perform a request of the S path of core n at its target (R396, R132, R281). -/
def State.sPerform (s : State) (n : Nat) (r : SReq) : State × Except Nat (List Nat) :=
  let s := if r.rel then s.l1Clean n else s
  let t := placeTgt r.tgt r.pa r.sel
  let s := if r.tgt = 1 ∧ r.op ≠ 4 ∧ r.op ≠ 5 then s.l1Expel n r.pa r.sel else s
  match r.op with
  | 1 =>
    let w := s.guarded n true t (fun s => s.tgtWrite n 0 t (toLe r.len r.opnd))
    (w.1, match w.2 with | .ok _ => .ok [] | .error x => .error x)
  | 2 => s.guarded n false t (fun s => s.atomicAt n t r.len r.fop r.opnd r.cmp)
  | _ => s.guarded n false t (fun s => s.tgtRead n 0 t r.len)

/-- The payer of the S path of core n. -/
def State.sPayer (s : State) (n : Nat) : Payer := { core := some n, guest := (s.coreAt n).guest, tag := 0 }

/-- The access of an engine waits for the answer of another car. -/
def waitsCar {α : Type} (r : Except Nat α) : Bool := match r with | .error x => x == cWAIT | .ok _ => false

/-- Perform a request at its slice and hold its answer for the core (R366): a hit is performed; what needs a controller goes on
to its points first; a remote access waits for its car. -/
def State.sAnswer (s : State) (n : Nat) (r : SReq) : State :=
  let p := s.regulated (s.sPayer n) waitsCar (fun t => t.sPerform n r)
  let put (t : State) (stage : Nat) (b : List Nat) (x : Nat) : State :=
    t.modCoreAt n (fun k => { k with req := some { r with stage := stage, dueAt := s.now, data := b, fault := x } })
  match p.2 with
  | none => put p.1 2 [] 0
  | some (.ok b) => put p.1 3 b 0
  | some (.error x) => if x = cWAIT then { s with fab := p.1.fab, flits := p.1.flits } else put p.1 3 [] x

/-- An SC operation that comes earlier in the Capstan's order has not been performed (R407): the SC operations of a guest are
performed in their order, and those of two guests where they meet, on one line. -/
def State.scBehind (s : State) (n : Nat) (r : SReq) : Bool :=
  r.sc != 0 && s.cores.any (fun p => p.1 != n && (match p.2.req with
    | some q => q.sc != 0 && (p.2.guest == (s.coreAt n).guest || (q.tgt == r.tgt && q.pa / 128 == r.pa / 128)) && decide (q.sc < r.sc) && (q.stage != 3 || q.tgt == 0)
    | none => false))

/-- Whether L2_LOOKUP is due for the request of a core. -/
def State.lookupDue (s : State) (n : Nat) : Bool :=
  match (s.coreAt n).req with
  | some r => r.stage == 1 && decide (r.dueAt ≤ s.now) && !s.remWaiting n 0 && !s.scBehind n r
  | none => false

/-- L2_LOOKUP (R366): a hit is performed; a miss and an uncached access go on to their controller point. -/
def execL2Lookup (req : Nat) (s : State) : Host.Outcome State Fault Refusal :=
  .next (match (s.coreAt req).req with
  | none => s
  | some r => if s.lookupDue req then s.sAnswer req r else s)

/-- Whether CONTROLLER_ACCESS is due for the request of a core. -/
def State.controllerDue (s : State) (n : Nat) : Bool :=
  match (s.coreAt n).req with
  | some r => r.stage == 2 && !s.waiting (s.sPayer n) && !s.remWaiting n 0 && !s.scBehind n r
  | none => false

/-- CONTROLLER_ACCESS (R370): the requests have their slots, and the access is made with the charges of R534. -/
def execControllerAccess (req : Nat) (s : State) : Host.Outcome State Fault Refusal :=
  .next (match (s.coreAt req).req with
  | some r => if s.controllerDue req then s.sAnswer req r else s
  | none => s)

/-- Whether LOAD_DATA_RETURN is due. -/
def State.returnDue (s : State) (n : Nat) : Bool :=
  match (s.coreAt n).req with
  | some r => 3 ≤ r.stage && decide (r.dueAt ≤ s.now) && (r.tgt != 0 || !s.scBehind n r)
  | none => false

/-- Bytes enter the fetch buffer, which holds 256: the oldest leave it (R267). -/
def Core.fbPut (k : Core) (b : List Nat) : Core :=
  let n := k.fbBytes.length + b.length - 256
  { k with fbBase := k.fbBase + n, fbBytes := (k.fbBytes ++ b).drop n }

/-- The answer of a request reaches the core: a filled line enters the L1, fetched bytes the fetch buffer (the L1 too,
unless its size is 256 KiB), and every other answer waits for its bundle (R128, R269, R281). -/
def State.takeAnswer (s : State) (n : Nat) (r : SReq) : State :=
  let t := (s.modCoreAt n (fun k => { k with req := none })).remDone n 0
  let l : L1Line := { pa := r.pa / 128 * 128, sel := r.sel, data := r.data, dirty := [], va := r.va / 128 * 128 }
  if r.op = 5 then
    let t := if r.fault = 0 ∧ r.tgt = 1 ∧ (s.coreAt n).l1sz ≠ 0 then t.l1Put n l else t
    t.modCoreAt n (fun k => if r.fault = 0 then k.fbPut (r.data.drop (r.va % 128)) else { k with fbFault := some r.fault })
  else if r.op = 4 ∧ r.fault = 0 then
    (t.l1Put n l).modCoreAt n (fun k => { k with missed := true, missedFar := true })
  else
    let d := (List.range r.data.length).map (fun i => (r.fwd.getD i none).getD (r.data.getD i 0))
    t.modCoreAt n (fun k => { k with missed := true, missedFar := k.missedFar || r.tgt != 0, got := k.got ++ [(r.va, d, r.fault)], once := r.sc != 0 || (1 ≤ r.op && r.op ≤ 3) })

/-- LOAD_DATA_RETURN (R128): a request to another scratchpad of the cluster takes the first cycle in which that accepts it
(R327), and is performed there first. -/
def execLoadDataReturn (core : Nat) (s : State) : Host.Outcome State Fault Refusal :=
  .next (match (s.coreAt core).req with
  | none => s
  | some r =>
    if !s.returnDue core then s
    else if r.tgt = 0 ∧ r.stage = 3 then
      let k := 8 * clOf core + r.pa / 0x200000 % 8
      (s.netTake k (s.netFree k)).modCoreAt core (fun x => { x with req := some { r with stage := 4, dueAt := s.netFree k } })
    else if r.tgt = 0 then
      let p := s.sPerform core r
      match p.2 with
      | .ok b => p.1.takeAnswer core { r with data := b, fault := 0 }
      | .error x => p.1.takeAnswer core { r with data := [], fault := x }
    else s.takeAnswer core r)

/-! ### Fetch (R267, R269) -/

/-- The bytes of the fetch buffer from the program counter on. -/
def Core.fetched (k : Core) : List Nat :=
  if k.fbBase ≤ k.sync.pc then k.fbBytes.drop (k.sync.pc - k.fbBase) else []

/-- The bundle at the program counter when all its bytes are in the fetch buffer. -/
def Core.bundle (k : Core) : Option Bundle :=
  let b := k.fetched
  if b.length < 4 then none
  else
    let r := splitBundle b
    if r.len ≤ b.length then some r else none

/-- The fetch buffer continues from the program counter: what it holds, and any fault at its end, is of use. -/
def Core.fbUsed (k : Core) : Bool := decide (k.fbBase ≤ k.sync.pc) && decide (k.sync.pc ≤ k.fbBase + k.fbBytes.length)

/-- The fault that keeps the bundle at the program counter from being complete. -/
def Core.fetchFault (k : Core) : Option Nat := if k.fbUsed && k.bundle.isNone then k.fbFault else none

/-- A core executes: it runs a context, stands in no stop and waits for no answer of the host. -/
def Core.running (k : Core) : Bool :=
  (k.mode == .run || k.mode == .handler) && !k.dbg.stopped && k.wpgt.isNone

/-- The atomic or SC operation of the bundle at the program counter has been performed, or is on its way in another car: the
bundle completes before anything interrupts the core, so that it is performed once (R133). -/
def Core.performed (k : Core) : Bool :=
  match k.req with
  | some r => (r.sc != 0 || (1 ≤ r.op && r.op ≤ 3)) && (if r.tgt = 4 then 1 ≤ r.stage else r.stage == 3 && r.tgt != 0)
  | none => !k.got.isEmpty && k.once

/-- Whether FETCH_FILL is due: the bundle at the program counter is not complete and nothing stands in the way. -/
def State.fetchDue (s : State) (n : Nat) : Bool :=
  let k := s.coreAt n
  k.running && k.bundle.isNone && k.fetchFault.isNone && k.req.isNone && k.walk.isNone && k.held.isNone &&
  k.sync.pc % 4 == 0 && decide (k.sync.pc < 2 ^ 48)

/-- A request of guest g would pass a point at once: none for which something waits stands before it, the bucket admits it
with those that stand there, and the guest has slots (R367, R370). -/
def State.passesNow (s : State) (die point g units : Nat) : Bool :=
  let q := s.heldAt die point g
  q.all (fun h => h.tag == postTag) &&
    (s.bucket die point g).admits (units + ((q.filter (fun h => !h.adm)).map (fun h => h.units * (h.more + 1))).sum) &&
    (s.slotTime die point g 1).isSome

/-- The fetch of a line goes through at once: it is in the L2, or its controller would pass its read. It then counts as made
ahead: that read takes its place and slots at the controller, and no bundle waits for it (log entry 98). -/
def State.fetchPasses (s : State) (g pa sel : Nat) : Bool :=
  let c := (s.placeOf pa).1
  (s.l2Find pa sel).isSome || s.passesNow (c / 12) (16 + c % 12) g 2

/-- A fetch misses the first-level TLB, which is counted once (R289, R485). -/
def State.askFetch (s : State) (n va : Nat) : State :=
  let w : AccReq := { va := va, kind := 0 }
  if (s.coreAt n).walk = some w then s else (s.askWalk n va 0).countAt n (s.missEvent n w) 1

/-- FETCH_FILL (R269): the next line of the bundle is taken from the L1 or the scratchpad, or asked for; a fetch of an
uncached or other page is made at its home. A fetch is no request at the port of its cluster (log entry 98). -/
def State.fetchStep (s : State) (n : Nat) : State :=
  if !s.fetchDue n then s
  else
    let s := s.modCoreAt n (fun k => if k.fbUsed then k else { k with fbBase := k.sync.pc, fbBytes := [], fbFault := none })
    let k := s.coreAt n
    let va := k.fbBase + k.fbBytes.length
    let fail (t : State) (c : Nat) : State := t.modCoreAt n (fun k => { k with fbFault := some c })
    let left := 128 - va % 128
    let ask (t : State) (tgt pa sel len : Nat) : State :=
      let r : SReq := { va := va, tgt := tgt, pa := pa, sel := sel, len := len, op := 5, fop := 0, opnd := 0, cmp := 0,
                        stage := 1, scope := 0, dueAt := t.now + 12 }
      t.modCoreAt n (fun k => { k with req := some r })
    let go (t : State) (tg : Tgt) : State :=
      match tg with
      | .spad c o =>
        if (t.coreAt c).spadBad o left then fail (t.logArray c (spadPa c o)) cMEMUE
        else
          let b := (List.range left).map (fun i => t.spadGet c (o + i))
          t.modCoreAt n (fun k => k.fbPut b)
      | .mem pa sel =>
        match k.l1Find pa sel with
        | some l => if k.lineBad l then fail (t.logArray n l.pa) cMEMUE else t.modCoreAt n (fun k => k.fbPut (l.data.drop (pa % 128)))
        | none =>
          let line := pa / 128 * 128
          if t.fetchPasses k.guest line sel then
            (let r := t.homeRead k.guest sel line 128
             match r.2 with
             | none => fail r.1 cMEMUE
             | some b =>
               let u := if k.l1sz ≠ 0 then r.1.l1Put n { pa := line, sel := sel, data := b, dirty := [], va := va / 128 * 128 } else r.1
               u.modCoreAt n (fun k => k.fbPut (b.drop (pa % 128))))
          else ask t 1 line sel 128
      | .unc pa sel => ask t 2 (pa / 128 * 128) sel 128
      | .dev pa => ask t 3 (pa / 128 * 128) 16 128
      | .rem pa => ask t 4 (pa / 128 * 128) 16 128
    if 2 ^ 48 ≤ va then fail s cNOTMAP
    else if inAperture va then
      match s.aperture n va with
      | some tg => go s tg
      | none => fail s cNOTMAP
    else
      match s.tlb1 n va 0 with
      | some e => match e.deny 0 with | some c => fail s c | none => go s (e.tgt va)
      | none =>
        match k.walkFault with
        | some (r, c) =>
          if r.va / 4096 = va / 4096 ∧ r.kind = 0 then fail (s.modCoreAt n (fun k => { k with walkFault := none })) c
          else s.askFetch n va
        | none => s.askFetch n va

/-- FETCH_FILL (R269). -/
def execFetchFill (core : Nat) (s : State) : Host.Outcome State Fault Refusal := .next (s.fetchStep core)

/-! ### Walks (R377 to R380) -/

/-- The payer of the walks of core n. -/
def State.walkPayer (s : State) (n : Nat) : Payer := { core := some n, guest := (s.coreAt n).guest, tag := walkTag }

/-- The second-level TLB of core n holds an entry for its walk. -/
def State.tlb2Hit (s : State) (n : Nat) (w : AccReq) : Bool :=
  let k := s.coreAt n
  let cl := s.clAt (clOf n)
  cl.tlbGuest == some k.guest && cl.tlb2.any (fun e => e.serves k.guest (s.guestAt k.guest).gc.gen w.va w.kind)

/-- Whether TRANSLATION_WALK is due for a core: a second-level hit 10 cc after its lookup (R289), or a place in the queue of
the walker, or the walk itself once it has a slot and its requests have passed. -/
def State.walkDue (s : State) (n : Nat) : Bool :=
  let k := s.coreAt n
  match k.walk with
  | none => false
  | some w =>
    if s.tlb2Hit n w then decide (k.walkAt ≤ s.now)
    else
      let o := s.walkPayer n
      !s.walkAsked o || (s.walkTurn o && !s.waiting o)

/-- The outcome of a walk reaches core n: the entry, or the fault of its access. A WPGT of the S path is Bowline's: the
core rolls back and waits for the host (R378). -/
def State.walkTaken (s : State) (n : Nat) (w : AccReq) (r : Except Nat TlbEnt) : State :=
  let t := s.modCoreAt n (fun k => { k with walk := none })
  match r with
  | .ok _ => t
  | .error c => t.modCoreAt n (fun k => { k with walkFault := some (w, c) })

/-- Cores whose misses join a walk in flight: same walker, guest and page (R380). -/
def State.joined (s : State) (n : Nat) (w : AccReq) : List (Nat × AccReq) :=
  (s.walkQueue (s.coreAt n).guest (dieOf n)).filterMap (fun o =>
    match o.1.core with
    | none => none
    | some c =>
      if c = n ∨ o.1.tag ≠ walkTag then none
      else match (s.coreAt c).walk with
        | some v => if v.va / 4096 = w.va / 4096 then some (c, v) else none
        | none => none)

/-- A miss that has joined the walk of another core receives its result (R380), unless its own access needs more: a write whose
leaf has D = 0, or another failure. -/
def State.joinerTakes (r : Except Nat TlbEnt) (kind : Nat) (s : State) (p : Nat × AccReq) : State :=
  let gone := s.leaveWalker (s.walkPayer p.1)
  match r with
  | .ok e =>
    if (e.d || !(p.2.kind == 2 || p.2.kind == 3) || !e.w) && (e.deny p.2.kind).isNone then
      (gone.modCoreAt p.1 (fun k => { k with tlb := tlbPut 64 k.tlb e })).walkTaken p.1 p.2 (.ok e)
    else s
  | .error c => if p.2.kind = kind ∨ c = cNOTMAP ∨ c = cMEMUE then gone.walkTaken p.1 p.2 (.error c) else s

/-- TRANSLATION_WALK (R380). -/
def State.walkStep (s : State) (n : Nat) : State :=
  let k := s.coreAt n
  match k.walk with
  | none => s
  | some w =>
    let o := s.walkPayer n
    if !s.walkDue n then s
    else if s.tlb2Hit n w then
      (let r := (s.leaveWalker o).translate n w.va w.kind
       r.1.walkTaken n w r.2)
    else if !s.walkAsked o then s.joinWalker o (some (w.va / 4096))
    else
      let others := s.joined n w
      let r := s.regulated o (fun _ => false) (fun t => t.translate n w.va w.kind)
      match r.2 with
      | none => r.1
      | some x => others.foldl (State.joinerTakes x w.kind) ((r.1.leaveWalker o).walkTaken n w x)

/-- TRANSLATION_WALK (R380). -/
def execTranslationWalk (core : Nat) (s : State) : Host.Outcome State Fault Refusal := .next (s.walkStep core)

/-! ### WPGT (R378) -/

/-- The answer of the host to a WPGT of one core: of its S path, of a copy command, of a stream write. On resume the
access is made again; on fail it ends with PROT. -/
def Core.wpgtEnd (k : Core) (resume : Bool) : Core :=
  let c (x : CCmd) : CCmd := match x.wpgt with
    | none => x
    | some _ => { x with wpgt := none, denied := !resume }
  { k with
    wpgt := none, cqa := k.cqa.map c, cqb := k.cqb.map c
    oerrs := if resume then k.oerrs.filter (fun e => e.2.2.1 != cWPGT)
             else k.oerrs.map (fun e => if e.2.2.1 == cWPGT then (e.1, e.2.1, cPROT, e.2.2.2) else e)
    outq := if resume then k.outq else k.outq.filter (fun q => !k.outHeld.any (fun e => e.elems.contains q))
    outHeld := if resume then k.outHeld else [] }

/-- WPGT_ANSWER (R378): a failed write of the S path takes PROT into the handler; one that waits in a saved context is
taken when the context resumes. -/
def execWpgtAnswer (core resume : Nat) (s : State) : Host.Outcome State Fault Refusal :=
  let ok := resume == 1
  let k := s.coreAt core
  let prot (a flt : Nat) : TrapReq := { cause := cPROT, slots := 1, info := BitVec.ofNat 64 a, flt := flt, async := false }
  let t := s.modCoreAt core (fun k => k.wpgtEnd ok)
  let t := { t with guests := t.guests.map (fun (p : Nat × Guest) => (p.1, { p.2 with saved := p.2.saved.map (fun (v : SavedCtx) =>
    if 8 * v.cl + v.core = core then
      { v with ctx := { v.ctx.wpgtEnd ok with held := match v.ctx.wpgt with
        | some w => if ok then v.ctx.held else some (prot w.1 w.2)
        | none => v.ctx.held } }
    else v) })) }
  .next (match k.wpgt with
  | none => t
  | some w => if ok || !(k.mode == .run || k.mode == .handler) then t else t.takeTrap core (prot w.1 w.2))

/-! ### Invalidation (R381) -/

/-- Whether an entry covers an address of a range. -/
def covers (lo hi va bits : Nat) : Bool := decide (va ≤ hi) && decide (lo < va + 2 ^ bits)

/-- An address lies in one of some spans. -/
def inSpans (spans : List (Nat × Nat)) (va : Nat) : Bool := spans.any (fun p => covers p.1 p.2 va 0)

/-- A core has an access of bundles up to q that an affected entry has translated and that has not been performed: a
store of its buffer, or the request that it has sent. Engines translate at the moment of the access. -/
def Core.translated (k : Core) (spans : List (Nat × Nat)) (q : Nat) : Bool :=
  k.stores.any (fun x => x.kind != 9 && decide (x.seqNo ≤ q) && inSpans spans x.va) ||
    (match k.req with | some r => decide (k.seqNo ≤ q) && inSpans spans r.va | none => false)

/-- The cached lines for which a core has used affected entries: those of its L1 and of its stores (R381, R398). -/
def Core.linesOf (k : Core) (spans : List (Nat × Nat)) : List (Nat × Nat) :=
  ((k.l1.filter (fun (l : L1Line) => inSpans spans l.va)).map (fun (l : L1Line) => (l.pa, l.sel)) ++
    (k.stores.filter (fun (x : Store) => x.kind == 1 && x.scope == 0 && inSpans spans x.va)).map (fun (x : Store) => (x.pa / 128 * 128, x.sel))).eraseDups

/-- An invalidation has completed (R381): the accesses of its third item have been performed at their home slices, no longer
standing in an L1 alone, or have been dropped. -/
def State.invalOver (s : State) (v : Inval) : Bool :=
  v.cores.all (fun p => !(s.coreAt p.1).translated v.spans p.2) &&
    v.lines.all (fun x => match (s.coreAt x.1).l1Find x.2.1 x.2.2 with
      | some l => !l.dirty.any id
      | none => true)

/-- What the entries that an invalidation affects map: its range, and the pages of the entries of the TLBs that reach into it. -/
def State.affected (s : State) (guest lo hi : Nat) : List (Nat × Nat) :=
  let es := (s.cores.flatMap (fun p => p.2.tlb) ++ s.cls.flatMap (fun p => p.2.tlb2)).filter
    (fun e => e.guest == guest && covers lo hi e.va e.bits)
  (lo, hi) :: (es.map (fun e => (e.va, e.va + 2 ^ e.bits - 1))).eraseDups

/-- SHADOW_INVALIDATE (R381): every matching entry of every TLB and walker cache is dropped, and a fault that a walk found
is forgotten, so that the walk is made again. Accesses that were translated before go on under their translation; the
invalidation completes when they have been performed. -/
def execShadowInvalidate (guest lo hi : Nat) (s : State) : Host.Outcome State Fault Refusal :=
  let keep (e : TlbEnt) : Bool := !(e.guest == guest && covers lo hi e.va e.bits)
  let spans := s.affected guest lo hi
  let mine := s.cores.filter (fun p => p.2.guest == guest)
  .next { s with
    invals := s.invals ++ [{ guest := guest, spans := spans, cores := mine.map (fun p => (p.1, p.2.seqNo)),
                              lines := mine.flatMap (fun p => (p.2.linesOf spans).map (fun l => (p.1, l))) }]
    cores := s.cores.map (fun (p : Nat × Core) => (p.1, { p.2 with
      tlb := p.2.tlb.filter keep
      walkFault := if p.2.guest = guest then none else p.2.walkFault
      fbFault := if p.2.guest = guest then none else p.2.fbFault }))
    cls := s.cls.map (fun (p : Nat × Cluster) => (p.1, { p.2 with tlb2 := p.2.tlb2.filter keep }))
    dies := s.dies.map (fun (p : Nat × Die) => (p.1, { p.2 with
      wcache := p.2.wcache.filter (fun e => !(e.guest == guest && covers lo hi e.va (levelShift (e.level + 1)))) })) }

end Sys2Proof.Machine
end

