-- ==== Sys2Proof/Machine/CoreEvents.lean ====
section
/-! DEFINITION. What a core does between its bundles (chapter 10, R137, R301, R307, R317, R319, R321, R406): branch
resolution, checkpoints, the performing of released stores, asynchronous traps, forced saves. -/

namespace Sys2Proof.Machine

/-! ### Branch resolution (R137) -/

/-- The oldest unresolved branch, once it resolves. -/
def State.branchReady (s : State) (n : Nat) : Option Branch :=
  match (s.coreAt n).branches.head? with
  | some b => if b.resolveAt ≤ s.now then some b else none
  | none => none

/-- A synchronous trap that waited for branches may be taken (R307). -/
def Core.heldReady (k : Core) : Bool :=
  k.branches.isEmpty && k.held.isSome && (k.mode == .run || k.mode == .handler) && k.wpgt.isNone

/-- Whether BRANCH_RESOLUTION is due: a branch resolves, or a trap that waited for the branches before it is taken. -/
def State.resolutionDue (s : State) (n : Nat) : Bool := (s.branchReady n).isSome || (s.coreAt n).heldReady

/-- A branch was predicted wrong: every bundle after it is squashed, and the right arm goes on 3 cc after the branch, or
after the idle cycles of its bundle when these end later (R22, R137). -/
def State.squash (s : State) (n : Nat) (b : Branch) : State :=
  let q := b.seqNo + 1
  let lost := (s.coreAt n).seqNo - q
  let s := if (s.coreAt n).acquiring q then s.dropArray n else s
  let t := (s.dropRequests n).modCoreAt n (fun k =>
    let k := k.cancelFrom q
    { k with
      branches := k.branches.filter (fun x => x.seqNo != b.seqNo)
      sync := b.snap, rstack := b.rstack, ckptHere := false, yieldPend := if b.yields then some b.seqNo else k.yieldPend, stallWhy := 0, readyAt := max (b.resolveAt + 1) b.after })
  (t.countAt n 6 1).countAt n 3 lost

/-- BRANCH_RESOLUTION (R137, R307). -/
def State.resolveBranch (s : State) (n : Nat) : State :=
  match s.branchReady n with
  | some b =>
    let t := if b.wrong then s.squash n b
      else s.modCoreAt n (fun k => { k with branches := k.branches.filter (fun x => x.seqNo != b.seqNo) })
    let t := t.settle n
    if b.taken then (t.countAt n 5 1).traceRec n 1 0 b.frm b.target else t
  | none =>
    match (s.coreAt n).held with
    | some r => if (s.coreAt n).heldReady then s.takeTrap n r else s
    | none => s

/-- BRANCH_RESOLUTION. -/
def execBranchResolution (core : Nat) (s : State) : Host.Outcome State Fault Refusal := .next (s.resolveBranch core)

/-! ### Checkpoints (R297, R298) -/

/-- The oldest standing checkpoint, once every branch issued before its bundle has resolved. -/
def Core.ckptReady (k : Core) : Option Ckpt :=
  match k.ckpts.head? with
  | some c => if k.branches.all (fun b => decide (c.seqNo ≤ b.seqNo)) then some c else none
  | none => none

/-- CHECKPOINT (R298). -/
def execCheckpoint (core : Nat) (s : State) : Host.Outcome State Fault Refusal :=
  .next (match (s.coreAt core).ckptReady with
  | some c => (s.takeCkpt core c.addr c.seqNo c.snap).modCoreAt core (fun k => { k with ckpts := k.ckpts.drop 1 })
  | none => s)

/-! ### Released stores (R301, R386, R396, R397) -/

/-- The oldest store that has not gone out, once a checkpoint has released it. A release at TENANT scope or wider waits for
the acknowledgements of the remote writes before it (R400), and so does a remote write for those to its own line. -/
def Core.storeFront (k : Core) : Option Store :=
  match k.stores.find? (fun x => !x.sent) with
  | some x =>
    if x.released && !k.stores.any (fun y => y.sent && ((x.rel && decide (4 ≤ x.scope)) || (x.kind == 4 && y.pa / 128 == x.pa / 128)))
    then some x else none
  | none => none

/-- The remote request of a store that has been sent. -/
def State.storeReq (s : State) (n : Nat) (x : Store) : Option RemReq :=
  s.fab.reqs.find? (fun r => r.core == n && r.tag == storeTag && r.pa == x.pa && r.data == x.bytes)

/-- A remote write that its car has answered, and whether it has performed (R400). -/
def State.storeAcked (s : State) (n : Nat) : Option (Store × Bool) :=
  (s.coreAt n).stores.findSome? (fun x =>
    if !x.sent then none
    else match s.storeReq n x with
      | some r => r.ans.map (fun a => (x, a.1))
      | none => some (x, false))

/-- A store to cached memory that goes to the L1: a plain one, or one at CORE scope (R396). -/
def Store.plain (x : Store) : Bool := x.kind == 1 && x.scope == 0

/-- The units that a store brings to the port of its cluster: none for a scratchpad, for a hit in the L1 and for a mark
(R364, R365); a miss that the L1 can take fills a line. -/
def State.storeUnits (s : State) (n : Nat) (x : Store) : Nat :=
  let k := s.coreAt n
  if x.kind = 0 ∨ x.kind = 9 then 0
  else if x.plain && k.mode != .stopped && (k.l1Find x.pa x.sel).isSome then 0
  else if x.plain && k.mode != .stopped && k.l1Room x.pa then 2
  else unitsOf x.bytes.length

/-- Whether STORE_PERFORM is due: the store is performed, or its request comes to the port. -/
def State.storeDue (s : State) (n : Nat) : Bool :=
  (s.storeAcked n).isSome || match (s.coreAt n).storeFront with
  | none => false
  | some x => (if s.storeUnits n x == 0 || s.served n storeTag then !s.waiting (engPayer s n storeTag) else !s.asked n storeTag)

/-- Perform a store at its place (R396): the cause of its failure, if any. The L1 of a core that was stopped has been
written back, so that its last stores go home (R282). -/
def State.storeAt (s : State) (n : Nat) (x : Store) : State × Except Nat Unit :=
  let s := if x.rel && x.scope != 0 then s.l1Clean n else s
  if x.kind = 9 then (s, .ok ())
  else
    let t := placeTgt x.kind x.pa x.sel
    s.guarded n true t (fun s =>
    if x.plain && (s.coreAt n).mode != .stopped then
      if ((s.coreAt n).l1Find x.pa x.sel).isSome then (s.l1Patch n x.pa x.sel x.bytes, .ok ())
      else if (s.coreAt n).l1Room x.pa then
        let line := x.pa / 128 * 128
        let r := s.homeRead (s.coreAt n).guest x.sel line 128
        match r.2 with
        | none => (r.1, .error cMEMUE)
        | some b => ((r.1.l1Put n { pa := line, sel := x.sel, data := b, dirty := [], va := x.va / 128 * 128 }).l1Patch n x.pa x.sel x.bytes, .ok ())
      else s.tgtWrite n storeTag t x.bytes
    else (if x.kind = 1 then s.l1Expel n x.pa x.sel else s).tgtWrite n storeTag t x.bytes)

/-- The failure of a released store: an asynchronous trap against the checkpoint that released it (R129, R307). -/
def Core.storeFailed (k : Core) (x : Store) (cause : Nat) : Core :=
  { k with asyncs := k.asyncs ++ [{ cause := cause, slots := 1, info := BitVec.ofNat 64 x.va, flt := x.ckpt, async := true }] }

/-- The other car has answered a remote write: its line frees (R301, R400). -/
def State.storeDone (s : State) (n : Nat) (x : Store) (ok : Bool) : State :=
  let id := (s.storeReq n x).map (fun r => r.id)
  ({ s with fab := { s.fab with reqs := s.fab.reqs.filter (fun r => some r.id != id) } }).modCoreAt n (fun k =>
    let k := { k with stores := k.stores.erase x }
    if ok then k else k.storeFailed x cFABERR)

/-- STORE_PERFORM (R301): stores are performed in program order; a remote write has gone out when it is sent (R400). -/
def State.storeStep (s : State) (n : Nat) : State :=
  match s.storeAcked n with
  | some (x, ok) => s.storeDone n x ok
  | none =>
  match (s.coreAt n).storeFront with
  | none => s
  | some x =>
    if !s.storeDue n then s
    else if s.storeUnits n x != 0 && !s.served n storeTag then s.engAsk n storeTag [s.storeUnits n x]
    else
      let o := engPayer s n storeTag
      let r := s.regulated o waitsCar (fun t => t.storeAt n x)
      let out (t : State) (f : Core → Core) : State := (t.useAdm n storeTag).modCoreAt n f
      match r.2 with
      | none => r.1
      | some (.ok ()) => out r.1 (fun k => { k with stores := k.stores.erase x })
      | some (.error c) =>
        if c = cWAIT then
          out { s with fab := r.1.fab, flits := r.1.flits, grants := s.grants.filter (fun g => g.payer != o) }
            (fun k => { k with stores := k.stores.map (fun y => if y == x then { y with sent := true } else y) })
        else out r.1 (fun k => { k with stores := k.stores.erase x }.storeFailed x c)

/-- STORE_PERFORM. -/
def execStorePerform (core : Nat) (s : State) : Host.Outcome State Fault Refusal := .next (s.storeStep core)

/-! ### Whose settings apply (R475) -/

/-- A core holds a context that can be debugged. -/
def Core.hasContext (k : Core) : Bool := k.mode == .run || k.mode == .handler

/-- DBG_CTL and DBG_SEL of a view of the debug block of core n, when that view acts on the context there (R475): the host's
on the guests of its GMASK, the guest's on its own contexts while it holds the trace unit of the cluster and the unit is not
LENT. -/
def State.dbgView (s : State) (host : Bool) (n : Nat) : Option (Nat × Nat) :=
  let k := s.coreAt n
  if !k.hasContext then none
  else if host then
    (if bitOf k.guest (s.plat.hostGmask.get 0 n) then
      some ((s.plat.hostRegs.get 0 (2 * n)).toNat, (s.plat.hostRegs.get 0 (2 * n + 1)).toNat)
    else none)
  else if s.plat.res.get 0 (256 + clOf n) = k.guest + 1 then some (k.dbg.ctl.toNat, k.dbg.sel.toNat)
  else none

/-- The settings that apply to the context of core n: those of the guest's view when it acts, else those of the host's (log
entry 50). -/
def State.dbgFor (s : State) (n : Nat) : Option (Nat × Nat) := (s.dbgView false n).orElse (fun _ => s.dbgView true n)

/-- The DBG bit of the bundle at the program counter, once its header has been fetched. -/
def Core.dbgBit (k : Core) : Bool :=
  let b := k.fetched
  decide (4 ≤ b.length) && (readHeader (ofLe (b.take 4))).dbg

/-- Why core n is to stop before its next bundle: 1 DBG, 2 BKPT, 3 STEP, 4 HALT (R476): a BKPT first, whose WHY
R480 fixes, then the first of the others that holds (the order is a DESIGN CHOICE, log entry 51); a stop that an asynchronous trap came before keeps its reason. -/
def State.stopWhy (s : State) (n : Nat) : Option Nat :=
  let k := s.coreAt n
  match s.dbgFor n with
  | none => none
  | some c =>
    if k.dbg.stopped || k.held.isSome || k.wpgt.isSome || k.yieldPend.isSome || k.performed then none
    else if k.dbg.moved.isSome then k.dbg.moved.map (fun m => m.1)
    else if k.dbg.bk.isSome then some 2
    else if bitOf 0 c.1 && !k.dbg.skip && k.dbgBit then some 1
    else if bitOf 1 c.1 && !k.dbg.step then some 3
    else if k.dbg.haltReq then some 4
    else none

/-- CODE of a stop for a reason: the operand of the BKPT, else 0 (R478). -/
def Core.stopCode (k : Core) (why : Nat) : Nat :=
  match k.dbg.moved, k.dbg.bk with
  | some m, _ => m.2
  | none, some b => if why = 2 then b.2 else 0
  | none, none => 0

/-- An asynchronous trap comes before a stop that is due: a stop for DBG or BKPT, which the return to the checkpoint would
forget, then falls before the handler's first bundle (R476). -/
def State.stopMoves (s : State) (n : Nat) : State :=
  match s.stopWhy n with
  | some w => if 2 < w then s else s.modCoreAt n (fun k => { k with dbg := { k.dbg with moved := some (w, k.stopCode w) } })
  | none => s

/-! ### Asynchronous traps (R307, R311) -/

/-- Whether ASYNC_TRAP is due: outside handler mode, before the next bundle, once the branches have resolved. -/
def Core.asyncReady (k : Core) : Bool :=
  k.mode == .run && !k.dbg.stopped && k.wpgt.isNone && !k.asyncs.isEmpty && k.branches.isEmpty && !k.performed

/-- ASYNC_TRAP (R309): TRAPFLT is the bundle that was about to issue, or what a released store's failure names. -/
def execAsyncTrap (core : Nat) (s : State) : Host.Outcome State Fault Refusal :=
  let k := s.coreAt core
  .next (match k.asyncs with
  | [] => s
  | r :: t =>
    if !k.asyncReady then s
    else
      -- what a BUDGET reports stays held, and is admitted in due course (R369)
      let s := if r.cause = cBUDGET then (s.stopMoves core).keepHeld core else s.stopMoves core
      (s.modCoreAt core (fun k => { k with asyncs := t })).takeTrap core
        { r with flt := if r.slots = 1 then r.flt else k.sync.pc, slots := 0, async := true })

/-! ### Saves that are forced (R314, R317, R319) -/

/-- YDEADLINE. -/
def cYDEADLINE : Nat := 0x80

/-- The context of core n is saved so that its cluster or core can be replaced or retired, or for the switchover. -/
def State.evacuating (s : State) (n : Nat) : Bool :=
  (s.clAt (clOf n)).pend != 0 || s.plat.switching ||
    (List.range 8).any (fun i => (s.coreAt (8 * clOf n + i)).retiring &&
      (i == n % 8 || (s.guestAt (s.coreAt n).guest).grps.any (fun r => r.cores.contains n && r.cores.contains (8 * clOf n + i))))

/-- Whether FORCED_SAVE is due: DL has reached 0, and no YIELD that issued before waits for its branches (R320). -/
def Core.forcedDue (k : Core) : Bool :=
  (k.mode == .run || k.mode == .handler) && k.yreq && k.ydl == 0 && k.yieldPend.isNone && !k.dbg.stopped && !k.performed

/-- FORCED_SAVE (R317): uncommitted work is cancelled and the shadow of the last checkpoint restored; in handler mode
the shadow that the trap restored, so that the context resumes at TRAPADDR. -/
def execForcedSave (core : Nat) (s : State) : Host.Outcome State Fault Refusal :=
  let k := s.coreAt core
  .next (if !k.forcedDue then s
  else
    let t := s.rollback core cYDEADLINE
    let t := if s.evacuating core then t else t.hostEv cYDEADLINE k.guest core
    t.modCoreAt core (fun x =>
      if k.mode == .handler then
        let y := { x.trapShadow with pc := x.trap.addr }
        { x with mode := .saving, inHandler := false, saveKind := 2, saveWhy := x.ywhy, sync := y, shadow := y, ckptAddr := y.pc }
      else { x with mode := .saving, inHandler := false, saveKind := 1, saveWhy := x.ywhy }))

/-- Whether SAVEWAIT_END is due. -/
def State.savewaitDue (s : State) (n : Nat) : Bool :=
  (s.coreAt n).mode == .savewait && (s.guestAt (s.coreAt n).guest).gc.sfln != 0

/-- SAVEWAIT_END (R319): the save goes on from the frame that it needed. -/
def execSavewaitEnd (core : Nat) (s : State) : Host.Outcome State Fault Refusal :=
  .next (if s.savewaitDue core then s.modCoreAt core (fun k => { k with mode := .saving }) else s)

/-! ### Events and the Capstan (R321, R322, R406) -/

/-- A signal on its way has reached core n: the cores it names and the guest of its sender. -/
def State.eventFor (s : State) (n : Nat) : Option (Nat × Nat) :=
  (s.clAt (clOf n)).evs.find? (fun e => decide (e.1 ≤ s.now) && bitOf (n % 8) e.2)

/-- EVENT_LATCH_SET (R322): a core of another guest ignores the signal. -/
def execEventLatchSet (core : Nat) (s : State) : Host.Outcome State Fault Refusal :=
  .next (match s.eventFor core with
  | none => s
  | some e =>
    let gone (l : List (Nat × Nat)) : List (Nat × Nat) := (mapFirst (fun x => x == e) (fun x => (x.1, x.2 - 2 ^ (core % 8))) l).filter
      (fun x => x.2 % 256 != 0)
    let t := s.modCl (clOf core) (fun c => { c with evs := gone c.evs })
    if (s.coreAt core).live (e.2 / 256) then t.modCoreAt core (fun k => { k with latch := true }) else t)

/-- Whether CAPSTAN_ISSUE is due: the bundle waits for nothing but the Capstan, which stands at a position of the core
that it has not used. -/
def State.capstanDue (s : State) (n : Nat) : Bool :=
  let k := s.coreAt n
  k.running && k.capGo != some s.tb && k.stallWhy == 2 ^ 13 && k.ownsPos s.capPos && k.capLast != some s.tb

/-- CAPSTAN_ISSUE (R406). -/
def execCapstanIssue (core : Nat) (s : State) : Host.Outcome State Fault Refusal :=
  .next (if s.capstanDue core then s.modCoreAt core (fun k => { k with capGo := some s.tb }) else s)

end Sys2Proof.Machine
end

