-- ==== Sys2Proof/Machine/Save.lean ====
section
/-! DEFINITION. Saves of contexts (R315 to R319, R537) and the settlement of a kernel that has ended (R430). -/

namespace Sys2Proof.Machine

/-! ### The image (R318, R537) -/

/-- Elements of w bits packed from the least significant bit, in whole bytes. -/
def packBits (w : Nat) (l : List Nat) : List Nat :=
  toLe ((w * l.length + 7) / 8) (l.foldr (fun v acc => acc * 2 ^ w + v % 2 ^ w) 0)

/-- Zero bytes up to a multiple of n. -/
def padTo (n : Nat) (l : List Nat) : List Nat := l ++ List.replicate ((n - l.length % n) % n) 0

/-- The bytes of registers, each of n bytes, in ascending number. -/
def regBytes (n count : Nat) (f : Nat → Nat) : List Nat := (List.range count).flatMap (fun i => toLe n (f i))

/-- The tag of a physical vector register. -/
def Sync.vtag (y : Sync) (b : Bool) (p : Nat) : Nat := (y.vreg b p).tag

/-- The vector section (R537). -/
def Sync.vectorSection (y : Sync) : List Nat :=
  let tagOf (b : Bool) (p : Nat) : Nat := y.vtag b p % 16 + (if y.dead b p then 128 else 0)
  let regs (b : Bool) : List Nat := (List.range 32).flatMap (fun p => if y.dead b p then [] else toLe 128 (y.vreg b p).bits.toNat)
  padTo 4096 ((List.range 32).map (tagOf false) ++ (List.range 32).map (tagOf true) ++ regs false ++ regs true ++
    regBytes 128 8 (fun i => (y.x.get 0 i).toNat))

/-- The item of one stream of the stream section (R537): none when its buffer is empty. -/
def Core.streamItem (k : Core) (i : Nat) : List Nat :=
  let q := k.sync.streams.get {} i
  let l : List Nat := if q.isOut then (k.outq.filter (fun e => e.1 == i)).map (fun e => e.2.2.2.1) else q.buf.map (fun e => e.v)
  if l.isEmpty then []
  else
    let b := packBits (tagBits q.dfmt) l
    [i, b2n q.isOut, 0, 0] ++ toLe 4 b.length ++ List.replicate 8 0 ++ padTo 128 b

/-- The tiles that the image holds: those that a command other than MZERO has written. -/
def Core.savedTiles (k : Core) : List Nat := (List.range 8).filter (fun t => (k.tileBefore t (k.seqNo + 1)).written)

/-- The matrix command that the save has suspended at a block boundary. -/
def Core.suspended (k : Core) : Option MCmd :=
  match k.mFront with
  | some c => if c.stopped then some c else none
  | none => none

/-- The image without its header, in bytes. -/
def Core.imageBody (k : Core) : List Nat :=
  k.sync.vectorSection ++ padTo 4096 ((List.range 16).flatMap k.streamItem) ++
  k.savedTiles.flatMap (fun t => let z := k.tileBefore t (k.seqNo + 1); regBytes 6 4096 (fun i => z.cells.getD i 0))

/-- The frames that the image takes (R318). -/
def Core.imageFrames (k : Core) : Nat := 1 + k.imageBody.length / 4096

/-- The dispatch result of a suspended command, in the layout of word 1 of its method entry (log entry 44). -/
def MCmd.dispatched (c : MCmd) : Nat := (c.conv + 1) * 2 ^ 9 + c.rout * 2 ^ 12 + c.cring * 2 ^ 16 + c.ctag * 2 ^ 20

/-- The header frame (R318). Of several pending asynchronous traps it names the oldest (DESIGN CHOICE, log entry 128). -/
def State.imageHeader (s : State) (n : Nat) : List Nat :=
  let k := s.coreAt n
  let y := k.sync
  let a := k.asyncs.head?
  let c := k.suspended
  let z (t : Nat) : Nat := let v := k.tileBefore t (k.seqNo + 1); v.mode + 4 * v.flags + (if v.written then 0 else 128)
  let first := toLe 2 1 ++ [k.saveKind, k.imageFrames, (a.map (fun r => r.cause)).getD (if k.saveKind = 0 then 0 else cYDEADLINE), (c.map (fun c => 128 + c.zd)).getD 0] ++
    toLe 2 ((c.map (fun c => c.block)).getD 0) ++ toLe 8 y.pc ++ toLe 8 ((a.map (fun r => r.info.toNat)).getD 0) ++ toLe 8 k.cycle ++
    toLe 8 ((c.map (fun c => c.word)).getD 0) ++ toLe 8 ((c.map MCmd.dispatched).getD 0) ++ (List.range 8).map z ++ List.replicate 8 0
  let frames := regBytes 8 56 (fun i => k.frames.getD (i + 1) 0)
  let regs := regBytes 8 32 (fun i => if i = 0 then 0 else (y.s.get 0 i).toNat) ++ regBytes 8 4 (fun i => (y.hb.get 0 (28 + i)).toNat) ++
    toLe 2 ((List.range 16).foldl (fun m i => m + (if i = 0 || y.g.get false i then 2 ^ i else 0)) 0) ++
    regBytes 8 16 (fun i => (y.h.get 0 i).toNat) ++ regBytes 8 16 (fun i => (y.j.get 0 i).toNat) ++ regBytes 8 16 (fun i => (y.y.get 0 i).toNat) ++
    regBytes 64 8 (fun i => (y.w.get 0 i).toNat) ++ regBytes 32 16 (fun i => (y.k.get (BitVec.allOnes 256) i).toNat) ++ [b2n k.latch] ++
    imageCrs.flatMap (fun cr => toLe 8 (s.crValue n y cr))
  padTo 4096 (first ++ frames ++ regs)

/-- Write 4 KiB into a frame: admitted at once, and debited (R316). -/
def State.writeFrame (s : State) (n g f : Nat) (b : List Nat) : State :=
  (s.paying .direct (fun s => ((List.range 32).foldl (fun t i =>
    ((t.charge (dieOf n) (clOf n % 8) g 2).homeWrite g (t.frameSel g) (f + 128 * i) ((b.drop (128 * i)).take 128)).1) s, ()))).1

/-- Write the image into the popped frames. -/
def State.writeImage (s : State) (n : Nat) : State :=
  let k := s.coreAt n
  let b := s.imageHeader n ++ k.imageBody
  (List.range k.frames.length).foldl (fun t i => t.writeFrame n k.guest (k.frames.getD i 0) ((b.drop (4096 * i)).take 4096)) s

/-! ### The steps of a save (R315, R317, R319) -/

/-- Begin a cooperative save: the checkpoint at the resume address commits every entry (R315 step 1); a stopped core
already stands at one (R477). -/
def State.saveBegin (s : State) (n : Nat) : State :=
  let k := s.coreAt n
  let t := if k.dbg.stopped then s else s.takeCkpt n k.sync.pc k.seqNo k.sync
  t.modCoreAt n (fun k => { k with
    mode := .saving, inHandler := k.mode == .handler, saveKind := 0, saveWhy := k.ywhy, yieldPend := none, ckpts := [], dbg := k.dbg.idle })

/-- The released stores are performed, the copy and temporal commands have published, and no request of the core is held
(R315 step 2, R456). -/
def State.saveQuiet (s : State) (n : Nat) : Bool :=
  let k := s.coreAt n
  k.stores.isEmpty && k.cqa.isEmpty && k.cqb.isEmpty && k.tq.isEmpty && !s.held.any (fun h => h.core == some n)

/-- Pop save frames one at a time until the image has all it needs; an empty list is SAVEFL (R318, R319). -/
def State.popFrames (s : State) (n need : Nat) : Nat → State
  | 0 => s
  | fuel + 1 =>
    let k := s.coreAt n
    if need ≤ k.frames.length then s
    else
      let c := (s.guestAt k.guest).gc
      if c.sfln = 0 then (s.modCoreAt n (fun k => { k with mode := .savewait })).hostEv 0x81 k.guest n
      else
        let r := s.homeRead k.guest 16 (c.sfl * 8 + 8 * (c.sfln - 1)) 8
        let t := r.1.modGuest k.guest (fun x => { x with gc := { x.gc with sfln := x.gc.sfln - 1 } })
        (t.modCoreAt n (fun k => { k with frames := k.frames ++ [ofLe (r.2.getD []) / 4096 * 4096] })).popFrames n need fuel

/-- Whether every member of a group that has not ended is saved. -/
def Guest.allSaved (x : Guest) (r : Grp) : Bool :=
  r.members.all (fun m => m.ended || x.saved.any (fun v => v.node == r.node && v.index == r.index && v.core == m.core))

/-- A group whose members are all saved is SAVED, and its barriers are kept with it (R333, R425). -/
def State.groupSaved (s : State) (g id index : Nat) : State :=
  match (s.guestAt g).grps.find? (fun r => r.node == id && r.index == index && r.st == 0) with
  | none => s
  | some r =>
    if !(s.guestAt g).allSaved r || r.members.all (fun m => m.ended) then s
    else
      let mine (b : Barrier) : Bool := b.owner != 0 && r.members.any (fun m => bitOf m.core b.owner)
      let bars := (s.clAt r.cl).bars.filter (fun p => mine p.2)
      let t := s.modCl r.cl (fun c => { c with bars := c.bars.map (fun p => if mine p.2 then (p.1, {}) else p) })
      (t.modGrp g id index (fun r => { r with st := 1, bars := bars, yield := false, order := (t.guestAt g).nextOrder })).modGuest g
        (fun x => { x with nextOrder := x.nextOrder + 1 })

/-- The image is complete (R320): the context is kept, the core is idle. -/
def State.saveEnd (s : State) (n : Nat) : State :=
  let t := (s.writeImage n).modCoreAt n (fun k => let k := k.spliceEnd; { k with sync := k.sync.dropDead s.free })
  let t := t.traceRec n 7 (t.coreAt n).saveKind (t.coreAt n).sync.pc 0
  let k := t.coreAt n
  let v : SavedCtx :=
    { node := k.rcd, index := k.grp, mem := k.mem, cl := clOf n, core := n % 8, kind := k.saveKind, why := k.saveWhy
      frames := k.frames, ctx := { k with spad := [], tlb := [], adm := [], hpmc := [], hmcyc := [], dbg := {} } }
  let t := t.modCoreAt n (fun k => { k.hardware with planeAct := k.actPlane })
  (t.modGuest k.guest (fun x => { x with saved := x.saved ++ [v] })).groupSaved k.guest k.rcd k.grp

/-- One cycle of a save: it waits for stores and commands, stops the matrix engine at a block boundary, releases the
temporal array, writes the L1 back, takes its frames and writes the image (R315, R344, R282, R318). -/
def State.saveStep (s : State) (n : Nat) : State :=
  if !s.saveQuiet n then s
  else
    let m := s.mSuspend n
    if !m.2 then m.1
    else
      let r := ((m.1.modCoreAt n (fun k => { k with mHalt := true })).dropArray n).l1Switched n
      if !r.2 then r.1
      else
        let need := (r.1.coreAt n).imageFrames
        let t := r.1.popFrames n need (need + 1)
        if (t.coreAt n).mode == .savewait then t else t.saveEnd n

/-! ### The end of a kernel (R430) -/

/-- A stream of a kernel that ends: input is discarded, output is ended as by UNBD. -/
def Stream.ended (q : Stream) : Stream := { q with bnd := 0, buf := if q.isOut then q.buf else [] }

/-- Bowline marks the member of core n as ended and settled (R429); the other members may all be saved (R425). -/
def State.memberEnded (s : State) (n : Nat) : State :=
  let k := s.coreAt n
  (s.modGrp k.guest k.rcd k.grp (fun r => { r with members := r.members.map (fun m =>
    if m.core = n % 8 then { m with ended := true, written := true } else m) })).groupSaved k.guest k.rcd k.grp

/-- A core whose kernel has ended and settled: its registers, its counts of published commands and its rings stand until
the next kernel enters (R250, R429). -/
def Core.over (k : Core) : Core :=
  { k with mode := .idle, dbg := k.dbg.idle, planeAct := k.actPlane, branches := [], ckpts := [], req := none, walk := none,
           walkFault := none, held := none, asyncs := [], yreq := false, ydl := 0, yieldPend := none, frames := [], fbBytes := [],
           fbFault := none, adm := [], mcache := [], rstack := [], pendCnt := [], pendTrc := [], pendSig := [] }

/-- One cycle of the settlement of a kernel that ended by SYSC service 0 (R430): the array, the streams, the blocks, the
L1; errors reach the guest as status events. -/
def State.kendStep (s : State) (n : Nat) : State :=
  let s := if (s.coreAt n).tq.isEmpty then s.dropArray n else s
  let s := s.mapSync n (fun y => { y with streams := y.streams.map (fun p => (p.1, p.2.ended)) })
  if !s.saveQuiet n || !(s.coreAt n).mq.isEmpty then s
  else
    let s := s.modCoreAt n (fun k => { k with outq := k.outq.filter (fun e => !k.scatterLeft e) })
    let k := s.coreAt n
    if !k.outq.isEmpty || k.oerrs.any (fun e => e.2.2.1 == cWPGT) then s
    else
      let t := k.oerrs.foldl (fun t e => t.statusEvent k.guest 1 e.2.2.1 0 e.2.2.2) s
      let t := (List.range 16).foldl (fun (t : State) f =>
        let r := t.endBlock n f
        match r.2 with
        | some a => r.1.statusEvent k.guest 1 cMEMUE 0 a
        | none => r.1) t
      let r := (t.modCoreAt n (fun k => { k with oerrs := [] })).l1Switched n
      if !r.2 then r.1 else (r.1.memberEnded n).modCoreAt n (fun k => k.spliceEnd.over)

/-- One cycle of a core in SAVING. -/
def State.savingStep (s : State) (n : Nat) : State :=
  if (s.coreAt n).saveKind = 3 then s.kendStep n else s.saveStep n

end Sys2Proof.Machine
end

