-- ==== Sys2Proof/Machine/Debug.lean ====
section
/-! DEFINITION. Debug, trace and counters (chapter 21): BKPT and MARK, stops, resumes, the debug data register, the
trace unit and the host's view of the counter banks. -/

namespace Sys2Proof.Machine

/-! ### BKPT and MARK (R479 to R481) -/

/-- BKPT (R480): the core stops before the next bundle when its context is debugged with BPEN. -/
def execBkpt (o : OpSBk) (s : State) : Host.Outcome State Fault Refusal :=
  sOp s o.g o.n (fun s =>
    match s.dbgFor s.focus with
    | some c => if bitOf 0 c.1 then s.modCore (fun k => { k with dbg := { k.dbg with bk := some (k.seqNo, o.i.toNat) } }) else s
    | none => s)

/-- MARK (R481): a record of TYPE 4 with the value of sA at issue. -/
def execMark (o : OpSLoop) (s : State) : Host.Outcome State Fault Refusal :=
  sOp s o.g o.n (fun s => if s.cx.stall.isSome then s else s.traceB 4 o.i.toNat s.cx.addr (s.rs o.a).toNat)

/-! ### Stops (R476 to R478) -/

/-- Whether DEBUG_STOP is due: the branches before P have resolved, no asynchronous trap comes first, and the checkpoint
at P is still to be taken or every earlier result has landed. -/
def State.stopDue (s : State) (n : Nat) : Bool :=
  let k := s.coreAt n
  (s.stopWhy n).isSome && k.branches.isEmpty && k.ckpts.isEmpty && decide (k.readyAt ≤ s.now) && (k.mode == .handler || k.asyncs.isEmpty) &&
  (!k.dbg.ck || k.sync.landing.all (fun p => decide (p.2 ≤ s.now)))

/-- DEBUG_STOP (R476): the checkpoint at P, then, once the exposed pipeline has drained, the stop. -/
def execDebugStop (core : Nat) (s : State) : Host.Outcome State Fault Refusal :=
  let k := s.coreAt core
  .next (match s.stopWhy core with
  | none => s
  | some why =>
    if !s.stopDue core then s
    else if !k.dbg.ck then
      (s.ckptBase core k.sync.pc k.seqNo k.sync).modCoreAt core (fun k => { k with dbg := { k.dbg with ck := true } })
    else
      (s.modCoreAt core (fun k => { k with dbg := { k.dbg.idle with stopped := true, why := why, code := k.stopCode why, addr := k.sync.pc } })).traceRec
        core 6 why k.sync.pc 0)

/-- A HALT of a view (R476): a stop before the next bundle that the core can reach. -/
def State.haltBy (s : State) (n : Nat) (view : Option (Nat × Nat)) : State :=
  if view.isSome && !(s.coreAt n).dbg.stopped then s.modCoreAt n (fun k => { k with dbg := { k.dbg with haltReq := true } }) else s

/-- HALT (R476). -/
def execHalt (core : Nat) (s : State) : Host.Outcome State Fault Refusal := .next (s.haltBy core (s.dbgFor core))

/-- A RESUME of a view (R478): the fetch buffer is discarded and P is fetched again, from what memory holds now. -/
def State.resumeBy (s : State) (n : Nat) (view : Option (Nat × Nat)) : State :=
  match view with
  | none => s
  | some c =>
    if !(s.coreAt n).dbg.stopped then s
    else ((s.l1Clean n).l1DropClean n).modCoreAt n (fun k => { k with
      fbBytes := [], fbFault := none, readyAt := max k.readyAt s.now
      dbg := { k.dbg.idle with step := true, skip := bitOf 4 c.1 } })

/-- RESUME (R478). -/
def execResume (core : Nat) (s : State) : Host.Outcome State Fault Refusal := .next (s.resumeBy core (s.dbgFor core))

/-! ### DBG_DATA (R475) -/

/-- Replace 64-bit word w of a wide register. -/
def putWord {n : Nat} (x : BitVec n) (w : Nat) (v : W64) : BitVec n :=
  BitVec.ofNat n (x.toNat - x.toNat / 2 ^ (64 * w) % 2 ^ 64 * 2 ^ (64 * w) + v.toNat * 2 ^ (64 * w))

/-- 64-bit word w of a wide register. -/
def getWord {n : Nat} (x : BitVec n) (w : Nat) : W64 := BitVec.ofNat 64 (x.toNat / 2 ^ (64 * w))

/-- Write a word of a vector register; word 16 is its tag, which code 15 leaves. -/
def VReg.put (r : VReg) (w : Nat) (v : W64) : VReg :=
  if w < 16 then { r with bits := putWord r.bits w v } else if w = 16 then { r with tag := tagWrite r.tag (v.toNat % 16) } else r

/-- Read a word of a vector register. -/
def VReg.word (r : VReg) (w : Nat) : W64 :=
  if w < 16 then getWord r.bits w else if w = 16 then BitVec.ofNat 64 (r.tag % 16) else 0

/-- The guards as a word: g0 reads as true. -/
def Sync.guards (y : Sync) : Nat := (List.range 16).foldl (fun m i => m + (if i = 0 || y.g.get false i then 2 ^ i else 0)) 0

/-- Write a word of the register files; `bank` says that s28 to s31 are those of the handler (R311). A selector that
names nothing changes nothing. -/
def Sync.dbgPut (y : Sync) (bank : Bool) (file reg w : Nat) (v : W64) : Sync :=
  match file with
  | 0 => if w != 0 || reg = 0 || 32 ≤ reg then y
         else if bank && decide (28 ≤ reg) then { y with hb := y.hb.set reg v } else { y with s := y.s.set reg v }
  | 1 => if 32 ≤ reg then y else { y with a := y.a.set reg ((y.a.get {} reg).put w v) }
  | 2 => if 32 ≤ reg then y else { y with b := y.b.set reg ((y.b.get {} reg).put w v) }
  | 3 => if w != 0 || 16 ≤ reg then y else { y with h := y.h.set reg v }
  | 4 => if w != 0 || 16 ≤ reg then y else { y with j := y.j.set reg v }
  | 5 => if w != 0 || 16 ≤ reg then y else { y with y := y.y.set reg v }
  | 6 => if 8 ≤ reg || 16 ≤ w then y else { y with x := y.x.set reg (putWord (y.x.get 0 reg) w (v &&& 0xBFBFBFBFBFBFBFBF)) }
  | 7 => if 8 ≤ reg || 8 ≤ w then y else { y with w := y.w.set reg (putWord (y.w.get 0 reg) w v) }
  | 8 =>
    if reg = 0 then
      (if w != 0 then y else { y with g := (List.range 16).foldl (fun t i => if i = 0 then t else t.set i (bitOf i v.toNat)) y.g })
    else if 17 ≤ reg || 4 ≤ w then y
    else { y with k := y.k.set (reg - 1) (putWord (y.k.get (BitVec.allOnes 256) (reg - 1)) w v) }
  | _ => y

/-- Read a word of the register files. -/
def Sync.dbgGet (y : Sync) (bank : Bool) (free file reg w : Nat) : W64 :=
  match file with
  | 0 => if w != 0 || reg = 0 || 32 ≤ reg then 0 else if bank && decide (28 ≤ reg) then y.hb.get 0 reg else y.s.get 0 reg
  | 1 => if 32 ≤ reg then 0 else if y.dead false reg && decide (w < 16) then Config.freeW64 free (reg + 32 * w) else (y.a.get {} reg).word w
  | 2 => if 32 ≤ reg then 0 else if y.dead true reg && decide (w < 16) then Config.freeW64 free (reg + 32 * w) else (y.b.get {} reg).word w
  | 3 => if w != 0 || 16 ≤ reg then 0 else y.h.get 0 reg
  | 4 => if w != 0 || 16 ≤ reg then 0 else y.j.get 0 reg
  | 5 => if w != 0 || 16 ≤ reg then 0 else y.y.get 0 reg
  | 6 => if 8 ≤ reg || 16 ≤ w then 0 else getWord (y.x.get 0 reg) w
  | 7 => if 8 ≤ reg || 8 ≤ w then 0 else getWord (y.w.get 0 reg) w
  | 8 => if reg = 0 then (if w = 0 then BitVec.ofNat 64 y.guards else 0)
         else if 17 ≤ reg || 4 ≤ w then 0 else getWord (y.k.get (BitVec.allOnes 256) (reg - 1)) w
  | _ => 0

/-- The host holds or borrows the counter bank of core n. -/
def State.hostBank (s : State) (n : Nat) : Bool := decide (17 ≤ s.plat.res.get 0 n)

/-- Clear the host's counters, their latches and MCYC (R484, CLR). -/
def Core.clearHost (k : Core) : Core :=
  { k with hpmc := k.hpmc.map (fun p => (p.1, { p.2 with count := 0, latch := 0 })), hmcyc := [] }

/-- Write a register of the host's bank (R486). -/
def Core.hostBankPut (k : Core) (cr : Nat) (v : W64) : Core :=
  if 0x108 ≤ cr ∧ cr ≤ 0x10B then { k with hpmc := k.hpmc.set (cr - 0x108) { k.hpmc.get {} (cr - 0x108) with sel := v &&& 0x7F } }
  else if cr = 0x10C then { (if bitOf 4 v.toNat then k.clearHost else k) with hpmctl := v &&& 0xF }
  else k

/-- A register of the host's bank. -/
def Core.hostBankGet (k : Core) (cr : Nat) : Nat :=
  if 0x100 ≤ cr ∧ cr ≤ 0x107 then
    (if cr % 2 = 0 then (k.hpmc.get {} ((cr - 0x100) / 2)).count % 2 ^ 32 else (k.hpmc.get {} ((cr - 0x100) / 2)).latch)
  else if 0x108 ≤ cr ∧ cr ≤ 0x10B then (k.hpmc.get {} (cr - 0x108)).sel.toNat
  else if cr = 0x10C then k.hpmctl.toNat % 16
  else if 0x110 ≤ cr ∧ cr ≤ 0x114 then k.hmcyc.get 0 (cr - 0x110)
  else 0

/-- A counter register reached through DBG_SEL, and the host's bank is the one in force. -/
def State.hostBankCr (s : State) (n cr : Nat) : Bool := s.hostBank n && decide (0x100 ≤ cr) && decide (cr ≤ 0x114)

/-- Write a control register of core n as a MOVCW of its context would (R142). -/
def State.crWriteAt (s : State) (n cr : Nat) (v : W64) : State :=
  let t := ({ s with focus := n, cx := {} } : State).crWrite cr v
  { t with focus := s.focus, cx := s.cx }

/-- DBG_DATA as a view reads it (R475): 0 unless the view acts and the core is stopped. What a read of a PMCnL latches is the
event COUNTER_LOW_READ. -/
def State.dbgData (s : State) (view : Option (Nat × Nat)) (n : Nat) : W64 :=
  match view with
  | none => 0
  | some c =>
    let k := s.coreAt n
    let file := bitsOf 31 28 c.2
    let reg := bitsOf 24 16 c.2
    if !k.dbg.stopped then 0
    else if file = 9 then BitVec.ofNat 64 (if s.hostBankCr n reg then k.hostBankGet reg else s.crValue n k.sync reg)
    else k.sync.dbgGet (k.mode == .handler) s.free file reg (bitsOf 4 0 c.2)

/-- A write of DBG_DATA by a view (R475): the state from which the core will resume, and with it the shadow of the checkpoint
at which it stands. -/
def State.dbgWrite (s : State) (n : Nat) (view : Option (Nat × Nat)) (v : Nat) : State :=
  match view with
  | none => s
  | some c =>
    let file := bitsOf 31 28 c.2
    let reg := bitsOf 24 16 c.2
    let w := BitVec.ofNat 64 v
    if !(s.coreAt n).dbg.stopped then s
    else
      let t :=
        if file = 9 then
          (if s.hostBankCr n reg then s.modCoreAt n (fun k => k.hostBankPut reg w) else s.crWriteAt n reg w)
        else s.modCoreAt n (fun k => { k with sync := k.sync.dbgPut (k.mode == .handler) file reg (bitsOf 4 0 c.2) w })
      t.modCoreAt n (fun k => { k with shadow := k.sync.landed t.free })

/-- DBG_DATA_WRITE (R475). -/
def execDbgDataWrite (core v : Nat) (s : State) : Host.Outcome State Fault Refusal := .next (s.dbgWrite core (s.dbgFor core) v)

/-! ### Trace (R482, R483) -/

/-- TRACE_ENABLE (R483): a write of TRC_BASE; EN = 1 sets PTR to 0. -/
def execTraceEnable (cl v : Nat) (s : State) : Host.Outcome State Fault Refusal :=
  .next (if 32 ≤ cl then s else (s.traceFlush cl).modCl cl (fun c => { c with trc :=
    { c.trc with
      en := bitOf 63 v, base := bitsOf 47 12 v, ptr := if bitOf 63 v then 0 else c.trc.ptr
      nextAt := if bitOf 63 v then (List.range 8).map (fun k => (k, s.now + c.trc.period)) else c.trc.nextAt } }))

/-- Whether TRACE_SAMPLE is due for core k of cluster cl. -/
def State.sampleDue (s : State) (cl k : Nat) : Bool :=
  let u := (s.clAt cl).trc
  u.en && u.period != 0 && bitOf k u.cores && decide (u.nextAt.get 0 k ≤ s.now)

/-- The address that a SAMPLE record charges: the bundle that issued the command in the matrix engine (R488). -/
def Core.sampleData (k : Core) (now : Nat) : Nat :=
  if k.mClass now = 4 then 0 else match k.mFront with | some c => c.issued | none => 0

/-- TRACE_SAMPLE (R482). -/
def execTraceSample (cl k : Nat) (s : State) : Host.Outcome State Fault Refusal :=
  .next (if 32 ≤ cl || 8 ≤ k || !s.sampleDue cl k then s
  else
    let n := 8 * cl + k
    let t := s.modCl cl (fun c => { c with trc := { c.trc with nextAt := c.trc.nextAt.set k (s.now + c.trc.period) } })
    if (s.coreAt n).hasContext then
      t.traceRec n 5 ((s.coreAt n).mClass s.now) (s.coreAt n).sync.pc ((s.coreAt n).sampleData s.now)
    else t)

/-! ### Counters from outside (R484, R486, R219) -/

/-- PMCTL_CLR (R484): the bank of its holder. -/
def execPmctlClr (core : Nat) (s : State) : Host.Outcome State Fault Refusal :=
  .next (if 256 ≤ core ∨ s.plat.res.get 0 core = 0 then s
  else s.modCoreAt core (fun k => if s.hostBank core then k.clearHost else k.clearCounters))

/-- Latch the high half of a counter. -/
def latchIn (t : Tab Pmc) (i : Nat) : Tab Pmc := t.set i { t.get {} i with latch := (t.get {} i).count / 2 ^ 32 }

/-- COUNTER_LOW_READ (R484): the low half of counter i is read, and its high half latched. -/
def execCounterLowRead (core i : Nat) (s : State) : Host.Outcome State Fault Refusal :=
  .next (if 256 ≤ core ∨ s.plat.res.get 0 core = 0 ∨ 4 ≤ i then s
  else s.modCoreAt core (fun k => if s.hostBank core then { k with hpmc := latchIn k.hpmc i } else { k with pmc := latchIn k.pmc i }))

/-- MCINV (R219): the method cache is emptied. -/
def execMcinv (core : Nat) (s : State) : Host.Outcome State Fault Refusal :=
  .next (if 256 ≤ core then s else s.modCoreAt core (fun k => { k with mcache := [] }))

end Sys2Proof.Machine
end

