-- ==== Sys2Proof/Machine/Replay.lean ====
section
/-! DEFINITION. Replay measurement (R489 to R492): the start, the passes, the report. -/

namespace Sys2Proof.Machine

/-- Change the replay block of guest g. -/
def State.modRpl (s : State) (g : Nat) (f : Replay → Replay) : State := s.modGuest g (fun x => { x with rpl := f x.rpl })

/-- The replay block of guest g. -/
def State.rplAt (s : State) (g : Nat) : Replay := (s.guestAt g).rpl

/-- The record of the present pass of guest g. -/
def State.replayNode (s : State) (g : Nat) : Option Node := (s.guestAt g).nodes.find? (fun n => n.replay)

/-- The member cores of a node on cluster cl, in member order. -/
def Node.coresOn (n : Node) (cl : Nat) : List Nat := n.members.map (fun e => 8 * cl + eCore e)

/-- The cluster of a replay: the lowest of CLMASK and PART that is in service (the manual names none, log entry 52). -/
def State.replayCluster (s : State) (g : Nat) (n : Node) : Option Nat :=
  (List.range 32).find? (fun cl => bitOf cl (n.field 20 4) && bitOf cl (s.guestAt g).gc.part && s.clusterUp cl)

/-- A node that a replay can run: a KERNEL node whose IC is 0 and whose GCOUNT is 1 (R489). -/
def State.replayable (s : State) (g : Nat) (n : Node) : Bool :=
  n.kind == 1 && nodeOk (s.guestAt g).gc n && !n.flag 0 && n.field 24 4 == 1

/-- A replay ends. -/
def State.replayStop (s : State) (g reason : Nat) : State :=
  s.modRpl g (fun r => { r with busy := false, pass := 0, abort := false, reason := if r.reason = 0 then reason else r.reason })

/-- REPLAY_GO (R489): the counter banks of the member cores are claimed, all or none; a bank that is BUSY ends the replay
at once. -/
def execReplayGo (guest : Nat) (s : State) : Host.Outcome State Fault Refusal :=
  let r := s.rplAt guest
  .next (if 16 ≤ guest || r.busy then s
  else
    let s := s.modRpl guest (fun r => { r with
      reason := 0, firstmm := 0, done := 0, pass := 0, abort := false, sigs := [], sigs1 := [], shots := [], winPages := 0 })
    let q := s.nodeRead guest r.node
    match q.2 with
    | .error _ => q.1.replayStop guest 3
    | .ok n =>
      match q.1.replayable guest n, q.1.replayCluster guest n with
      | true, some cl =>
        let cores := n.coresOn cl
        if cores.any (fun c => (q.1.guestClaim guest c).2 != 0) then q.1.replayStop guest 1
        else (cores.foldl (fun t c => (t.guestClaim guest c).1) q.1).modRpl guest (fun r => { r with busy := true, cl := cl })
      | _, _ => q.1.replayStop guest 3)

/-- REPLAY_ABORT (R489): the replay ends after its present pass. -/
def execReplayAbort (guest : Nat) (s : State) : Host.Outcome State Fault Refusal :=
  .next (if (s.rplAt guest).busy then s.modRpl guest (fun r => { r with abort := true }) else s)

/-! ### The start of a pass (R490 steps 1 to 3) -/

/-- Write back and invalidate every L2 line with the guest's key selector. -/
def State.l2EvictGuest (s : State) (g : Nat) : State :=
  (s.l2.filter (fun l => l.sel == g)).foldl (fun t l => t.l2Evict l) s

/-- Drop the guest's entries from the TLBs of a cluster and from the cache of the walker that serves its die. -/
def State.dropTlbsAt (s : State) (g cl : Nat) : State :=
  let t := (List.range 8).foldl (fun t i => t.modCoreAt (8 * cl + i) (fun k => { k with tlb := k.tlb.filter (fun e => e.guest != g) })) s
  (t.modCl cl (fun c => { c with tlb2 := c.tlb2.filter (fun e => e.guest != g) })).modDie (s.walkerDie (cl / 8))
    (fun d => { d with wcache := d.wcache.filter (fun e => e.guest != g) })

/-- Write captured page i back to memory from the snapshot area. -/
def State.restorePage (s : State) (g i pa sel : Nat) : State :=
  let r := s.rplAt g
  (List.range 32).foldl (fun t j =>
    let d := t.gRead g (4096 * (r.snap + r.winPages + i) + 128 * j) 128
    match d.2 with
    | .ok b => (d.1.uncWrite g sel (pa + 128 * j) b).1
    | .error _ => d.1) s

/-- The snapshot of the window of member i: address and length. -/
def State.windowSnap (s : State) (g i : Nat) : Nat × Nat :=
  (4096 * ((s.rplAt g).snap + i * (s.guestAt g).gc.wlen), 4096 * (s.guestAt g).gc.wlen)

/-- Copy the window of member i, on core c, to the snapshot area. -/
def State.saveWindow (s : State) (g i c : Nat) : State :=
  let a := s.windowSnap g i
  let o := 4096 * (s.guestAt g).gc.woff
  (s.gWrite g a.1 ((List.range a.2).map (fun j => s.spadGet c (o + j)))).1

/-- Restore the window of member i. -/
def State.restoreWindow (s : State) (g i c : Nat) : State :=
  let a := s.windowSnap g i
  let o := 4096 * (s.guestAt g).gc.woff
  let d := s.gRead g a.1 a.2
  match d.2 with
  | .ok b => d.1.modCoreAt c (fun k => { k with spad := spadPut k.spad o b })
  | .error _ => d.1

/-- Entry p - 1 of RPL_SEL: the four selectors of pass p. -/
def State.passSelectors (s : State) (g p : Nat) : State × List Nat :=
  let d := s.gRead g ((s.rplAt g).sel + 32 * (p - 1)) 32
  match d.2 with
  | .ok b => (d.1, [0, 1, 2, 3].map (fun i => ofLe ((b.drop (8 * i)).take 8)))
  | .error _ => (d.1, [0, 0, 0, 0])

/-- Set the bank of a member core for a pass (step 2). -/
def Core.passBank (k : Core) (sel : List Nat) : Core :=
  { k with pmc := [0, 1, 2, 3].map (fun i => (i, { sel := BitVec.ofNat 64 (sel.getD i 0 % 128) })), pmctl := 0xF, mcyc := [] }

/-- Start pass p (R490 steps 1 to 3): the node is entered as a READY record of its own. -/
def State.passStart (s : State) (g p : Nat) : State :=
  let q := s.nodeRead g (s.rplAt g).node
  match q.2 with
  | .error _ => q.1.replayStop g 3
  | .ok n =>
    if !q.1.replayable g n then q.1.replayStop g 3
    else
      let cl := (s.rplAt g).cl
      let cores := n.coresOn cl
      let win := cores.length * (s.guestAt g).gc.wlen
      let idx := List.range cores.length
      if p = 1 ∧ (s.rplAt g).pages < win then q.1.replayStop g 2
      else
        let t := if p = 1 then
            (idx.foldl (fun t i => t.saveWindow g i (cores.getD i 0)) q.1).modRpl g (fun r => { r with winPages := win })
          else q.1
        let t := (cores.foldl (fun t c => t.l1Flush c) t).l2EvictGuest g
        let t := if p = 1 then t
          else
            let shots := (t.rplAt g).shots
            let t := (List.range shots.length).foldl (fun t i => let x := shots.getD i (0, 16); t.restorePage g i x.1 x.2) t
            idx.foldl (fun t i => t.restoreWindow g i (cores.getD i 0)) t
        let t := t.dropTlbsAt g cl
        let e := t.passSelectors g p
        let t := cores.foldl (fun t c => t.modCoreAt c (fun k => k.passBank e.2)) e.1
        (t.modGuest g (fun x => { x with
          nodes := x.nodes.filter (fun m => !m.replay) ++
            [{ n with id := x.nextId, st := 1, count := 1, order := x.nextOrder, replay := true }]
          nextId := x.nextId + 1, nextOrder := x.nextOrder + 1, lastImg := n.field 40 8 })).modRpl g
          (fun r => { r with pass := p, sigs := [] })

/-! ### The end of a pass (R490 step 5, R491, R492) -/

/-- The group of the present pass leaves the machine without a save, when the pass ends before it (R489). -/
def State.passCancel (s : State) (g : Nat) (n : Node) : State :=
  let t := match (s.guestAt g).grps.find? (fun r => r.node == n.id) with
    | none => s
    | some r =>
      if r.st = 0 then (match r.cores.head? with | some c => s.terminate c 0 | none => s)
      else
        let t := ((s.guestAt g).contexts r).foldl (fun (t : State) (v : SavedCtx) => t.returnFrames g v.frames) s
        t.modGuest g (fun x => { x with
          grps := x.grps.filter (fun q => q.node != n.id), saved := x.saved.filter (fun v => v.node != n.id) })
  t.modNode g n.id (fun n => { n with st := 4, dropped := true })

/-- The report entry of member m in pass p (R492). -/
def State.reportEntry (s : State) (g c p m status : Nat) : List Nat :=
  let k := s.coreAt c
  [p % 256, m, status, 0, 0, 0, 0, 0] ++ [0, 1, 2, 3].flatMap (fun i => toLe 8 (k.pmc.get {} i).count) ++
    [0, 1, 2, 3, 4].flatMap (fun i => toLe 8 (k.mcyc.get 0 i)) ++ toLe 8 ((s.rplAt g).sigs.get 0 m) ++ toLe 8 k.cycle

/-- Cause REPLAY_MISMATCH. -/
def cREPLAYMM : Nat := 0xA5

/-- The report of member m; a signature that differs from that of pass 1 is told to the guest (R491). -/
def State.reportMember (s : State) (g : Nat) (n : Node) (early : Bool) (m : Nat) : State :=
  let r := s.rplAt g
  let c := 8 * r.cl + eCore (n.entry m)
  let mm := !early && decide (1 < r.pass) && r.sigs.get 0 m != r.sigs1.get 0 m
  let b := s.reportEntry g c r.pass m (if early then 2 else if mm then 1 else 0)
  let t := (s.gWrite g (r.out + 96 * ((r.pass - 1) * n.byte 16 + m)) b).1
  if mm then
    (t.statusEvent g 1 cREPLAYMM r.pass (r.sigs.get 0 m)).modRpl g (fun r => { r with firstmm := if r.firstmm = 0 then r.pass else r.firstmm })
  else t

/-- End the present pass: its report, then the end of the replay after the last pass, an abort or a failure. -/
def State.passEnd (s : State) (g : Nat) (n : Node) : State :=
  let early := (s.rplAt g).reason != 0
  let t := if early then s.passCancel g n else s
  let t := (List.range (n.byte 16)).foldl (fun t m => t.reportMember g n early m) t
  let t := t.modRpl g (fun r => { r with
    sigs1 := if r.pass = 1 then r.sigs else r.sigs1, done := if early then r.done else r.done + 1 })
  let r := t.rplAt g
  if early then t.replayStop g 0
  else if r.abort || decide (r.passes < r.pass) then
    let t := if n.flag 1 then t.evAdd g (n.byte 5) 1 else t
    t.replayStop g (if r.abort && decide (r.pass ≤ r.passes) then 5 else 0)
  else t

/-- Whether REPLAY_PASS is due: a pass can start, or the present one is over. -/
def State.passDue (s : State) (g : Nat) : Bool :=
  let r := s.rplAt g
  r.busy && (r.pass == 0 || r.reason != 0 ||
    (match s.replayNode g with | none => true | some n => decide (3 ≤ n.st)))

/-- REPLAY_PASS (R490): the present pass ends, and the next one starts. -/
def execReplayPass (guest : Nat) (s : State) : Host.Outcome State Fault Refusal :=
  .next (if !s.passDue guest then s
  else
    let p := (s.rplAt guest).pass
    if p = 0 then s.passStart guest 1
    else match s.replayNode guest with
      | none => s.replayStop guest 4
      | some n =>
        let t := s.passEnd guest n
        if (t.rplAt guest).busy then t.passStart guest (p + 1) else t)

end Sys2Proof.Machine
end

