-- ==== Sys2Proof/Machine/Repair.lean ====
section
/-! DEFINITION. Repair in service (R351 to R353, R383, R499, R500, R510 to R512): spares, retirements, failed links. -/

namespace Sys2Proof.Machine

/-! ### What guests own -/

/-- The GVA under which guest g maps a physical address of memory: the lowest one (R374). -/
def State.ownerVa (s : State) (g pa : Nat) : Option Nat :=
  ((s.leaves g).find? (fun l =>
    let b := levelShift l.2.1
    decide (bitsOf 9 8 l.2.2.2 < 2) && decide (bitsOf 51 12 l.2.2.2 * 4096 ≤ pa) && decide (pa < bitsOf 51 12 l.2.2.2 * 4096 + 2 ^ b))).map
    (fun l => l.1 + (pa - bitsOf 51 12 l.2.2.2 * 4096))

/-- The loaded guests that hold a window on a cluster. -/
def State.windowGuests (s : State) (cl : Nat) : List Nat := s.loaded.filter (fun g => bitOf cl (s.gc g).part && (s.gc g).wlen != 0)

/-- The GVA of a scratchpad byte in the cluster aperture of the guest whose window holds it, with that guest (R324). -/
def State.spadOwner (s : State) (n o : Nat) : Option (Nat × Nat) :=
  ((s.windowGuests (clOf n)).find? (fun g => decide ((s.gc g).woff * 4096 ≤ o) && decide (o < ((s.gc g).woff + (s.gc g).wlen) * 4096))).map
    (fun g => (g, 0xFF0100000000 + n % 8 * 0x200000 + (o - (s.gc g).woff * 4096)))

/-- An event to the host and, as a status event of KIND 1, to guests. -/
def State.repairEvent (s : State) (code detail : Nat) (gs : List (Nat × Nat)) (addr : Nat) : State :=
  (gs.foldl (fun t g => t.statusEvent g.1 1 code detail g.2) s).hostEv code detail addr

/-! ### Memory channels (R499, R500) -/

/-- CHANNEL_REFRESH (R499): refresh takes channel time alone; no state of the machine shows it. -/
def execChannelRefresh (_die _ch : Nat) (s : State) : Host.Outcome State Fault Refusal := .next s

/-- Every remaining channel of the die has room for the lines of channel ch (R500). -/
def State.channelFits (s : State) (ch : Nat) : Bool :=
  let old := s.plat.chRet.reverse
  let left := channelsLeft (ch :: old) (ch / 12)
  !left.isEmpty && left.all (fun c => decide (s.ownLines + relocated s.ownLines c (ch :: old) ≤ s.plat.chCap * 2 ^ 30 / 128))

/-- The unreadable lines that channel ch holds, in ascending channel address. -/
def State.badLinesOn (s : State) (ch : Nat) : List Nat :=
  (s.memBad.filter (fun l => (s.placeOf l).1 == ch)).mergeSort (fun a b => decide ((s.placeOf a).2 ≤ (s.placeOf b).2))

/-- The first GVA of guest g among lines. -/
def State.firstVa (s : State) (g : Nat) : List Nat → Option Nat
  | [] => none
  | l :: t => match s.ownerVa g l with | some v => some v | none => s.firstVa g t

/-- CHRETIRE. -/
def cCHRETIRE : Nat := 0xC0

/-- CHANNEL_RETIREMENT (R500): the lines of the channel are relocated, an unreadable one as zero bytes; without room for
them the retirement is refused, and only the host is told. -/
def execChannelRetirement (die ch : Nat) (s : State) : Host.Outcome State Fault Refusal :=
  let n := 12 * die + ch
  .next (if 4 ≤ die ∨ 12 ≤ ch ∨ s.plat.chRet.contains n then s
  else if !s.channelFits n then s.hostEv cCHRETIRE (n + 2 ^ 9) 0
  else
    let bad := s.badLinesOn n
    let owners := s.loaded.filterMap (fun g => (s.firstVa g bad).map (fun v => (g, v)))
    let t := bad.foldl (fun t l => t.ctlWrite l [] (List.replicate 128 0)) s
    let t := { t with plat := { t.plat with chRet := t.plat.chRet ++ [n], memRet := t.plat.memRet ||| 2 ^ n } }
    let t := t.repairEvent cCHRETIRE (n + (if bad.isEmpty then 0 else 2 ^ 8)) owners
      ((bad.head?.bind (fun l => s.loaded.findSome? (fun g => s.ownerVa g l))).getD 0)
    t.cutMinima 2)

/-! ### Clusters and cores (R351 to R353, R511) -/

/-- The contexts of the cores in a list are to be saved by force (R352 step 1). -/
def State.evacuate (s : State) (cores : List Nat) : State :=
  cores.foldl (fun t n => t.modCoreAt n (fun k => if k.hasContext then { k with yreq := true, ydl := 0 } else k)) s

/-- The cores of a cluster. -/
def coresOf (cl : Nat) : List Nat := (List.range 8).map (fun i => 8 * cl + i)

/-- A core holds a context that runs or is being saved. -/
def Core.occupied (k : Core) : Bool := k.hasContext || k.mode == .saving || k.mode == .savewait

/-- CLUSTER_RETIRE (R353): the contexts are saved first; `upkeep` goes on when they are. -/
def State.retireCluster (s : State) (cl : Nat) : State :=
  if 32 ≤ cl || (s.clAt cl).retired then s else (s.modCl cl (fun c => { c with pend := 2 })).evacuate (coresOf cl)

/-- CLUSTER_RETIRE. -/
def execClusterRetire (cl : Nat) (s : State) : Host.Outcome State Fault Refusal := .next (s.retireCluster cl)

/-- CLUSTER_SWAP (R351, R352): the contexts are saved first; a die whose spare is in use retires the cluster (R353). -/
def State.swapCluster (s : State) (cl : Nat) : State :=
  if 32 ≤ cl || (s.clAt cl).retired || (s.clAt cl).pend != 0 then s
  else if (s.dieAt (cl / 8)).spareUsed then s.retireCluster cl
  else (s.modCl cl (fun c => { c with pend := 1 })).evacuate (coresOf cl)

/-- CLUSTER_SWAP. -/
def execClusterSwap (cl : Nat) (s : State) : Host.Outcome State Fault Refusal := .next (s.swapCluster cl)

/-- The cores whose contexts leave with core n: its own group as a whole. -/
def State.gangOf (s : State) (n : Nat) : List Nat :=
  let k := s.coreAt n
  if !k.occupied then [n]
  else match (s.guestAt k.guest).grps.find? (fun r => r.cores.contains n && r.st == 0) with
    | some r => r.cores
    | none => [n]

/-- A core is to be retired (R511); while the die's spare is free, the cluster is swapped. -/
def State.retireCore (s : State) (n : Nat) : State :=
  if 256 ≤ n || (s.coreAt n).retired then s
  else if !(s.dieAt (dieOf n)).spareUsed then s.swapCluster (clOf n)
  else (s.modCoreAt n (fun k => { k with retiring := true })).evacuate (s.gangOf n)

/-- CORE_RETIRE (R511). -/
def execCoreRetire (core : Nat) (s : State) : Host.Outcome State Fault Refusal := .next (s.retireCore core)

/-- CLSWAP and CORERETIRE. -/
def cCLSWAP : Nat := 0xC1
/-- CORERETIRE. -/
def cCORERETIRE : Nat := 0xC2

/-- The unreadable words of the windows on a cluster: core and offset. -/
def State.lostWords (s : State) (cl : Nat) : List (Nat × Nat) :=
  (coresOf cl).flatMap (fun n => ((s.coreAt n).badWords.map (fun w => (n, 8 * w))).filter (fun p => (s.spadOwner p.1 p.2).isSome))

/-- Zero the unreadable words of a core's scratchpad. -/
def Core.zeroWords (k : Core) : Core := { k with spad := k.spad.filter (fun p => !k.badWords.contains (p.1 / 8)), badWords := [] }

/-- The saved groups of some clusters go on, those of a higher priority first, in the order in which they were saved (R352
step 4, R504 step 5, R428). -/
def State.resumeAll (s : State) (on : Nat → Bool) : State :=
  (List.range 16).foldl (fun t g =>
    if (t.guestAt g).gc.gstate ≠ 2 then t
    else [7, 6, 5, 4, 3, 2, 1, 0].foldl (fun t p =>
      (((t.guestAt g).grps.filter (fun r => r.st == 1 && on r.cl && (t.guestAt g).grpPrio r == p)).mergeSort
        (fun a b => decide (a.order ≤ b.order))).foldl (fun t r => if t.resumeFits g r then t.resumeGroup g r else t) t) t) s

/-- The logical cluster moves to the spare (R352 steps 2 to 5): its scratchpads are copied, an unreadable word as
zero; its TLBs are empty and its array scrubbed. DETAIL is laid out as that of CHRETIRE (log entry 56). -/
def State.swapEnd (s : State) (cl : Nat) : State :=
  let lost := s.lostWords cl
  let firstOf (g : Nat) : Nat := ((lost.filterMap (fun p => s.spadOwner p.1 p.2)).find? (fun q => q.1 == g)).elim 0 (fun q => q.2)
  let gs := (s.windowGuests cl).map (fun g => (g, firstOf g))
  let t := (coresOf cl).foldl (fun t n => t.modCoreAt n (fun k => { k.zeroWords with spareRows := 0, tlb := [], mcache := [] })) s
  let t := t.modCl cl (fun c => { c with phys := 1, pend := 0, tlb2 := [], tlbGuest := none, arr := {}, breqs := [], evs := [] })
  let t := t.modDie (cl / 8) (fun d => { d with spareUsed := true })
  (t.resumeAll (fun c => c == cl)).repairEvent cCLSWAP (cl + (if lost.isEmpty then 0 else 2 ^ 8)) gs ((lost.head?.bind (fun p => s.spadOwner p.1 p.2)).elim 0 (fun q => q.2))

/-- Saved groups that stood on cores that are lost find another place or wait in GANGWAIT (R453 step 3). -/
def State.relocateFrom (s : State) (lost : Nat → Bool) : State :=
  (List.range 16).foldl (fun t g =>
    ((t.guestAt g).grps.filter (fun r => r.st == 1 && r.cores.any lost)).foldl (fun t r => t.relocate g (t.gc g).part r) t) s

/-- The cluster is retired (R353). -/
def State.retireEnd (s : State) (cl : Nat) : State :=
  let t := s.modCl cl (fun c => { c with retired := true, pend := 0, tlb2 := [], tlbGuest := none })
  (t.relocateFrom (fun n => clOf n == cl)).cutMinima 0

/-- The core is retired (R511): its groups leave, its MEMB bit is cleared, and the host and the guests with a window on the
cluster are told. -/
def State.coreEnd (s : State) (n : Nat) : State :=
  let t := s.modCoreAt n (fun k => { k with retired := true, retiring := false })
  let t := t.relocateFrom (fun m => m == n)
  let t := (coresOf (clOf n)).foldl (fun t m => t.modCoreAt m (fun k =>
    { k with cspmemb := if bitOf (n % 8) k.cspmemb then k.cspmemb - 2 ^ (n % 8) else k.cspmemb })) t
  (t.repairEvent cCORERETIRE n ((t.windowGuests (clOf n)).map (fun g => (g, 0))) 0).cutMinima 0

/-- Every context of a cluster is saved. -/
def State.clusterIdle (s : State) (cl : Nat) : Bool := (coresOf cl).all (fun n => !(s.coreAt n).occupied)

/-- The groups that held core n are saved. -/
def State.coreIdle (s : State) (n : Nat) : Bool :=
  !(s.coreAt n).occupied && !s.guests.any (fun p => p.2.grps.any (fun r => r.st == 0 && r.cores.contains n &&
    r.cores.any (fun m => (s.coreAt m).occupied)))

/-- What a repair that waits for saves goes on with. -/
def State.repairStep (s : State) : Option State :=
  match s.cls.find? (fun p => p.2.pend != 0 && s.clusterIdle p.1) with
  | some p => some (if p.2.pend = 1 then s.swapEnd p.1 else s.retireEnd p.1)
  | none => match s.cores.find? (fun p => p.2.retiring && s.coreIdle p.1) with
    | some p => some (s.coreEnd p.1)
    | none => none

/-! ### SRAM rows, L2 ways, walkers, links (R383, R510, R512) -/

/-- SRAM_ROW_REPAIR (R510): a spare row takes the place of the row; words that cannot be corrected are zero in a
scratchpad, and a dirty L1 line is dropped; the repair map keeps the count (R502). Without a spare row the cluster or the core
goes (R351, R353). When a row is to be replaced is decided outside (log entry 86). -/
def execSramRowRepair (core row : Nat) (s : State) : Host.Outcome State Fault Refusal :=
  let k := s.coreAt core
  .next (if 256 ≤ core then s
  else if 32 ≤ k.spareRows then s.retireCore core
  else
    let bad := (k.badWords.filter (fun w => w / 128 == row)).mergeSort (fun a b => decide (a ≤ b))
    let t := s.modCoreAt core (fun k => { k with spareRows := k.spareRows + 1, badWords := k.badWords.filter (fun w => w / 128 != row) })
    let t := if (s.clAt (clOf core)).phys = 0 then { t with plat := { t.plat with sramMap := t.plat.sramMap.set core (k.spareRows + 1) } } else t
    -- the words that the copy corrects, of the 128 of a row, are a free value (R283, log entry 86)
    let t := (t.countAt core 39 (Config.freeNat s.free row % 129)).tickFree
    if bad.isEmpty then t
    else if row < 4 * spPages k.l1sz then
      let t := t.modCoreAt core (fun k => { k with spad := k.spad.filter (fun p => !bad.contains (p.1 / 8)) })
      bad.foldl (fun t w => match s.spadOwner core (8 * w) with
        | some o => t.statusEvent o.1 1 cMEMUE 0 o.2
        | none => t) t
    else
      let t := t.modCoreAt core (fun c => { c with l1 := c.l1.filter (fun l => !k.lineIn row l) })
      (k.l1.filter (fun l => k.lineIn row l && l.dirty.any id)).foldl
        (fun t l => t.statusEvent k.guest 1 cMEMUE 0 (l.va + 8 * (bad.headD 0 % 16))) t)

/-- L2_WAY_RETIRE (R383): the way is written back where possible and leaves every mask; each guest that loses it is told,
and minima are cut where the capacity falls below them. -/
def execL2WayRetire (way : Nat) (s : State) : Host.Outcome State Fault Refusal :=
  .next (if 32 ≤ way ∨ bitOf way s.waysOut then s
  else
    let losers := s.loaded.filter (fun g => bitOf way (s.gc g).ways)
    let t := (s.l2.filter (fun l => l.way == way)).foldl (fun t l => t.l2Evict l) s
    let u := ({ t with waysOut := t.waysOut + 2 ^ way } : State).cutMinima 1
    let u := losers.foldl (fun u g => u.modGc g (fun c => { c with ways := without c.ways (2 ^ way) })) u
    (losers.filter (fun g => (u.gc g).effways == (t.gc g).effways)).foldl
      (fun u g => u.statusEvent g 1 cDEGRADED 1 (u.gc g).effways) u)

/-- WALKER_FAILOVER (R383). -/
def execWalkerFailover (die : Nat) (s : State) : Host.Outcome State Fault Refusal :=
  .next (if 4 ≤ die then s else s.modDie die (fun d => { d with walkerFailed := true, wcache := [] }))

/-- MESH_LINK_FAILURE (R383): traffic takes the alternate dimension order; only its latency changes. -/
def execMeshLinkFailure (die : Nat) (s : State) : Host.Outcome State Fault Refusal :=
  .next (if 4 ≤ die then s else s.modDie die (fun d => { d with meshFailed := true }))

/-- The ring link between die d and the next one is up. -/
def Plat.ringUp (p : Plat) (d : Nat) : Bool := !bitOf (d % 4) p.ringLost
/-- The anchor link of die d is up. -/
def Plat.anchorUp (p : Plat) (d : Nat) : Bool := !bitOf (d % 4) p.anchorLost

/-- A die has no path (R512): the ring is broken in two places, or its anchor link is lost and no neighbour across an intact
ring link has one (log entry 53). -/
def Plat.cutOff (p : Plat) : Bool :=
  decide (2 ≤ ((List.range 4).filter (fun d => !p.ringUp d)).length) ||
  (List.range 4).any (fun d => !p.anchorUp d && !(p.ringUp d && p.anchorUp (d + 1)) && !(p.ringUp (d + 3) && p.anchorUp (d + 3)))

/-- DIE_LINK_LOSS (R512): link 0 to 3 of the ring, or 4 + d to the anchor die. A die without a path sets FATAL: every core
stops without a save, and the host receives an interrupt. -/
def execDieLinkLoss (link : Nat) (s : State) : Host.Outcome State Fault Refusal :=
  .next (if 8 ≤ link then s
  else
    let p := if link < 4 then { s.plat with ringLost := s.plat.ringLost ||| 2 ^ link }
      else { s.plat with anchorLost := s.plat.anchorLost ||| 2 ^ (link - 4) }
    let t := { s with plat := p }
    if p.cutOff && !p.fatal then
      let t := (s.cores.filter (fun c => c.2.occupied)).foldl (fun t c => t.stopCore c.1 false) t
      (({ t with plat := { t.plat with fatal := true } }).updSafe).hostIrq 0
    else t)

end Sys2Proof.Machine
end

