-- ==== Sys2Proof/Machine/Platform.lean ====
section
/-! DEFINITION. Bring-up, service stages, time, power, the host port and the debug pins (R433, R493 to R509, R462). -/

namespace Sys2Proof.Machine

/-! ### Power-on and bring-up (R495, R501 to R504) -/

/-- The state after power-on: non-volatile storage is kept (R462, R500), and so are the events that stand before the
machine and the record of what it has sent. -/
def State.powerOn (s : State) : State :=
  { State.reset with
    inputs := s.inputs, hostEvs := s.hostEvs, msgs := s.msgs, flits := s.flits, free := s.free + 1
    plat := { State.reset.plat with
      hss := s.plat.hss, nonce := s.plat.nonce, chRet := s.plat.chRet, memRet := s.plat.memRet
      memtop := s.plat.memtop, rsz := s.plat.rsz, chCap := s.plat.chCap, sramMap := s.plat.sramMap
      slotA := s.plat.slotA, slotB := s.plat.slotB, fuseKey := s.plat.fuseKey, fuseVersion := s.plat.fuseVersion } }

/-- PERST_N (R495). -/
def execPerstN (s : State) : Host.Outcome State Fault Refusal := .next s.powerOn

/-- POWER_LOSS (R462): what is not in non-volatile storage is lost; an index that has been committed is never used again. -/
def execPowerLoss (s : State) : Host.Outcome State Fault Refusal := .next s.powerOn

/-- A slot is accepted (R501): its signature, its key under the fuse value, its version, and the limits of R496. -/
def Plat.accepts (p : Plat) (x : Slot) : Bool :=
  x.signed && sha256 x.key == p.fuseKey && decide (p.fuseVersion ≤ x.version) &&
  decide (2 ≤ x.cap) && decide (x.cap ≤ 8) && decide (x.memtop ≤ 48 * x.cap) &&
  decide (1 ≤ x.rsz) && decide (x.rsz ≤ 12 * x.cap) && decide (x.rsz ≤ x.memtop)

/-- The slot that the device starts from: A first, B second (R501). -/
def Plat.bootSlot (p : Plat) : Option Slot := [p.slotA, p.slotB].findSome? (fun x => x.filter p.accepts)

/-- The firmware of an accepted slot starts and ends stage 0; the configuration of memory is the slot's (R496, R501, R502). -/
def Plat.started (p : Plat) (x : Slot) : Plat :=
  { p with stage := 1, dieTried := 0, chCap := x.cap, memtop := x.memtop, rsz := x.rsz }

/-- Die d is brought up next: its SRAM repair map is loaded, and it passes or does not (R502). -/
def State.bringDie (s : State) (die : Nat) (pass : Bool) : State :=
  let p := { s.plat with dieTried := die + 1 }
  let cores := (p.sramMap.filter (fun q => dieOf q.1 == die)).foldl
    (fun c q => c.set q.1 { c.get {} q.1 with spareRows := q.2 }) s.cores
  let t := { s with plat := p, cores }
  if !pass then t
  else if p.stage = 1 then { t with plat := { p with stage := 2, reddie := die, dieup := p.dieup ||| 2 ^ die, cstep := 4 } }
  else { t with plat := { p with dieup := p.dieup ||| 2 ^ die } }

/-- DIE_BRINGUP (R502): the dies follow the start of the firmware one at a time in ascending number; the first die that
passes is that of reduced service. -/
def execDieBringup (die pass : Nat) (s : State) : Host.Outcome State Fault Refusal :=
  .next (if 4 ≤ die ∨ 2 < s.plat.stage then s
  else if s.plat.stage = 0 then
    (match s.plat.bootSlot with
     | none => s
     | some x => if die = 0 then ({ s with plat := s.plat.started x } : State).bringDie die (pass == 1) else s)
  else if die = s.plat.dieTried then s.bringDie die (pass == 1)
  else s)

/-- RECOVERY_MAILBOX (R501): only recovery answers; the device is in recovery when it accepts neither slot. -/
def execRecoveryMailbox (data : List Nat) (s : State) : Host.Outcome State Fault Refusal :=
  .next (if s.plat.stage = 7 ∨ (s.plat.stage = 0 ∧ s.plat.bootSlot.isNone) then
    ({ s with plat := { s.plat with stage := 7, recov := true, mailOut := Config.mailboxAnswer data } }).updSafe
  else s)

/-- FULL (R504): once every die has passed, the switchover waits for the next frame start. -/
def execFull (s : State) : Host.Outcome State Fault Refusal :=
  .next (if s.plat.stage = 2 ∧ s.plat.dieup % 16 = 15 then { s with plat := { s.plat with full := true } } else s)

/-- The cores that hold contexts. -/
def State.occupiedCores (s : State) : List Nat := (s.cores.filter (fun p => p.2.occupied)).map (fun p => p.1)

/-- The switchover (R504 steps 2 to 5), once every context is saved: the slice is written back, every line takes its place
under R497, the clock rises to step 0 (log entry 54), and the contexts are restored before the host hears of it. -/
def State.switchEnd (s : State) : State :=
  let t := s.l2.foldl (fun t l => t.l2Evict l) s
  (({ t with plat := { t.plat with stage := 3, switching := false, cstep := 0, coolFrames := 0 } }).resumeAll (fun _ => true)).hostIrq 0

/-- A Splice whose time on its core is over. -/
def State.spliceOver (s : State) : Option Nat :=
  (s.cores.find? (fun p => match p.2.splicing with | some x => decide (x.due ≤ s.now) | none => false)).map (fun p => p.1)

/-- A Splice that reached its core in an earlier cycle. -/
def State.spliceArrived (s : State) : Option (Nat × SpliceReq) :=
  s.cores.findSome? (fun p => match p.2.arriving.head? with | some x => if x.since < s.now then some (p.1, x) else none | none => none)

/-- What the platform goes on with by itself: a Splice on a core, a switchover, a repair. -/
def State.upkeep (s : State) : Option State :=
  if s.invals.any s.invalOver then some { s with invals := s.invals.filter (fun v => !s.invalOver v) }
  else match s.spliceArrived with
  | some x => some (s.spliceBegin x.1 x.2)
  | none =>
  match s.spliceOver with
  | some n => some (s.modCoreAt n Core.spliceEnd)
  | none => if s.plat.switching && s.occupiedCores.isEmpty then some s.switchEnd else s.repairStep

/-! ### The major frame (R433, R434, R504, R506, R509) -/

/-- FRAME_START (R433, R434): the registers as written come into force, the windows are checked, the clock step and the
steps of TIME are taken, and a requested switchover begins. -/
def execFrameStart (s : State) : Host.Outcome State Fault Refusal :=
  .next (if !s.frameDue then s
  else
    let f := s.frame.next
    let c := f.check
    let jump := s.plat.tsJump * f.len
    let t := { s with
      tb := s.tb + 250 * jump
      ticked := if jump = 0 then s.ticked else s.time + jump - 1
      frame := { regs := f, next := f, werr := (s.frame.werr - (s.frame.werr &&& s.frame.wclr)) ||| c.2, acc := c.1, guard := [], ended := [], startAt := s.time + jump }
      -- the second since the last edge is one of the count, which the step moves
      plat := { s.plat with tsJump := 0, tsLast := s.plat.tsLast + jump } }
    let t := t.clockStep
    if t.plat.full then ({ t with plat := { t.plat with full := false, switching := true } }).evacuate t.occupiedCores else t)

/-! ### Time and power (R506, R509) -/

/-- A 32-bit signed value, saturating. -/
def sat32 (x : Int) : Nat := (max (-(2 ^ 31 : Int)) (min (2 ^ 31 - 1) x) % (2 ^ 32 : Int)).toNat

/-- TSYNC (R506): the error at the edge, the rate for the next second, and a step forward when allowed. -/
def execTsync (s : State) : Host.Outcome State Fault Refusal :=
  .next (if !s.plat.tsEn then s
  else
    let err : Int := (4 * s.tb : Nat) - (s.plat.tsSec * 10 ^ 9 : Nat)
    let behind := (-err).toNat / 1000
    { s with plat := { s.plat with
        tsLock := true, tsLast := s.time, tsErr := sat32 err
        tsPpm := max (-200) (min 200 (-err / 1000))
        tsJump := if s.plat.tsStep && decide (err < -1000000) then behind / s.frame.next.len else 0 } })

/-- Whether TSYNC_TIMEOUT is due. -/
def State.timeoutDue (s : State) : Bool := s.plat.tsLock && decide (s.plat.tsLast + 3000000 ≤ s.time)

/-- TSYNC_TIMEOUT (R506): LOCK is lost, and the count goes on at its last rate. -/
def execTsyncTimeout (s : State) : Host.Outcome State Fault Refusal :=
  .next (if s.timeoutDue then { s with plat := { s.plat with tsLock := false } } else s)

/-- THERMAL_TRIP (R509). -/
def execThermalTrip (s : State) : Host.Outcome State Fault Refusal :=
  .next s.thermTrip

/-! ### The host port (R493, R494) -/

/-- A piece of a read through the physical BAR4, within one line (R494). -/
def State.hostReadPiece (s : State) (pa n : Nat) : Option (List Nat) :=
  if s.memEnd < pa + n then none
  else
    let line := pa / 128 * 128
    match s.l2Find line 16 with
    | some l => if l.bad then none else some ((l.data.drop (pa % 128)).take n)
    | none => (s.ctlRead line []).map (fun b => (b.drop (pa % 128)).take n)

/-- A piece of a write through the physical BAR4, within one line: it replaces ciphertext. -/
def State.hostWritePiece (s : State) (pa : Nat) (b : List Nat) : Option State :=
  if s.memEnd < pa + b.length then none
  else
    let line := pa / 128 * 128
    match s.l2Find line 16 with
    | some l =>
      if l.bad && b.length < 128 then none
      else some { s with l2 := s.l2.map (fun x => if x.pa == line && x.sel == 16
        then { x with data := patch x.data (pa % 128) b, dirty := true, bad := false } else x) }
    | none =>
      match s.ctlRead line [] with
      | some o => some (s.ctlWrite line [] (patch o (pa % 128) b))
      | none => if b.length = 128 then some (s.ctlWrite line [] b) else none

/-- A failed access of the physical function is logged. -/
def State.hostFail (s : State) (pa : Nat) : State := { s with plat := { s.plat with aer := s.plat.aer ++ [(0, pa)] } }

/-- Read through the physical BAR4. -/
def State.hostRead (s : State) (pa n : Nat) : Option (List Nat) :=
  (linePieces pa n).foldl (fun r p => match r, s.hostReadPiece p.1 p.2 with | some a, some b => some (a ++ b) | _, _ => none) (some [])

/-- Write through the physical BAR4. -/
def State.hostWrite (s : State) : List (Nat × Nat) → List Nat → State
  | [], _ => s
  | p :: t, b => match s.hostWritePiece p.1 (b.take p.2) with
    | some s' => s'.hostWrite t (b.drop p.2)
    | none => (s.hostFail p.1).hostWrite t (b.drop p.2)

/-- HOST_PHYSICAL_ACCESS (R494): key selector 16. A read returns as many bytes as `data` names. -/
def execHostPhysicalAccess (write addr : Nat) (data : List Nat) (s : State) : Host.Outcome State Fault Refusal :=
  .next (if s.plat.stage = 0 ∨ s.plat.stage = 7 then s
  else if write = 1 then s.hostWrite (linePieces addr data.length) (data.map (fun b => b % 256))
  else match s.hostRead addr data.length with
    | some b => { s with plat := { s.plat with hostOut := some b } }
    | none => { s.hostFail addr with plat := { (s.hostFail addr).plat with hostOut := none } })

/-- PMCSR_WRITE (R493): D3hot is refused while a guest runs, stops or resets. -/
def execPmcsrWrite (d3 : Nat) (s : State) : Host.Outcome State Fault Refusal :=
  let busy := s.guests.any (fun p => p.2.gc.gstate == 2 || p.2.gc.gstate == 3 || p.2.gc.gstate == 5)
  .next { s with plat := { s.plat with d3 := d3 == 1 && !busy } }

/-! ### The debug pins (R507) -/

/-- The 32 bits of IDCODE, the lowest first; its lowest bit is 1 (IEEE 1149.1). -/
def idcode : Nat := 1 + Config.jedecCode % 2 ^ 11 * 2 + 0x0A38 * 2 ^ 12 + 1 * 2 ^ 28

/-- Bits of a number, the lowest first. -/
def lowFirst (n v : Nat) : List Nat := (List.range n).map (fun i => b2n (bitOf i v))

/-- TRST_N resets the debug pins' logic: IDCODE is selected, as IEEE 1149.1 has it. -/
def State.tapReset (s : State) : State := { s with plat := { s.plat with ir := 0, jtagOut := [] } }

/-- IEEE_1149_1_INSTRUCTION (R507): 0 IDCODE, 1 BYPASS, 2 SAMPLE/PRELOAD, 3 EXTEST, 4 a signed unlock, others as the vendor
defines them after an unlock and as BYPASS before. `data` holds the bits shifted in; what is shifted out is kept. -/
def execIeee11491 (ir : Nat) (data : List Nat) (s : State) : Host.Outcome State Fault Refusal :=
  let n := data.length
  let bypass := (0 :: data).take n
  let pins := (List.range n).map (fun i => b2n (Config.freeBool s.free (600 + i)))
  let put (out : List Nat) : State := ({ s with plat := { s.plat with ir := ir, jtagOut := out } }).tickFree
  .next (match ir with
  | 0 => put ((lowFirst 32 idcode ++ data).take n)
  | 1 => put bypass
  | 2 => put pins
  | 3 => put pins
  | 4 => { put bypass with plat := { (put bypass).plat with unlocked := s.plat.unlocked || Config.unlockOk data } }
  | _ => put (if s.plat.unlocked then Config.jtagVendor ir data else bypass))

end Sys2Proof.Machine
end

