-- ==== Sys2Proof/Machine/Registers.lean ====
section
/-! DEFINITION. Writes of the memory-mapped registers (R6, R371, R414, R433, R447 to R451, R475, R483, R489, R508, R528):
the Bowline register space, and BAR0 and BAR2 of the virtual functions. A reserved or read-only field ignores the write. -/

namespace Sys2Proof.Machine

/-- The state that a meaning leaves; the state itself where it leaves none. -/
def State.after (s : State) (f : State → Host.Outcome State Fault Refusal) : State :=
  match f s with | .next t => t | _ => s

/-! ### Regulators (R371) -/

/-- A regulation point exists (R364). -/
def pointExists (p : Nat) : Bool := decide (p < 10) || (decide (16 ≤ p) && decide (p < 28))

/-- Write a bucket register. -/
def Bucket.put (b : Bucket) (r v : Nat) : Bucket :=
  match r with
  | 0x00 => { b with level := signedOf 32 v }
  | 0x08 => { b with depth := bitsOf 23 0 v }
  | 0x10 => { b with rate := bitsOf 15 0 v }
  | 0x18 => { b with shr := bitOf 2 v, mode := if bitsOf 1 0 v = 3 then b.mode else bitsOf 1 0 v }
  | 0x20 => { b with hold := max 1 (min 65534 (bitsOf 15 0 v)) }
  | _ => b

/-- A bucket write that would break ERR 6 for a loaded guest of class 0 or 1 is ignored (R452). -/
def State.bucketRefused (s : State) (g : Nat) (b : Bucket) : Bool := (s.gc g).en && decide ((s.gc g).cls < 2) && (b.shr || b.mode == 2)

/-- Write a register of a regulation point. -/
def State.putPoint (s : State) (die p r v : Nat) : State :=
  if !pointExists p then s
  else if r < 0x400 then
    let g := r / 0x40
    let b := (s.bucket die p g).put (r % 0x40) v
    if r % 0x40 = 0x18 && s.bucketRefused g b then s else s.modBucket die p g (fun _ => b)
  else if r < 0x420 then
    let k := 32 * die + p
    let w := s.wheels.get (List.replicate 4 (BitVec.allOnes 64)) k
    { s with wheels := s.wheels.set k (w.set ((r - 0x400) / 8) (BitVec.ofNat 64 v)) }
  else s

/-! ### The major frame (R433) -/

/-- Write a frame register: in force from the next frame start, which a write at the instant of a frame start comes
after (R433). -/
def State.putFrame (s : State) (r v : Nat) : State :=
  -- the guard bands and ends of the windows of the frame that is over come before the start of the next (R435)
  let s := if s.frameDue then
      ((List.range 16).foldl (fun t k => (t.after (execWindowGuard k)).after (execWindowEnd k)) s).after execFrameStart
    else s
  let f := s.frame.next
  let go (f : FrameRegs) : State := { s with frame := { s.frame with next := f } }
  let k := (r - 0x100) / 0x10
  if r = 0x000 then go { f with en := bitOf 63 v, pydl := bitsOf 31 0 v }
  else if r = 0x008 then
    (if 1000 ≤ bitsOf 16 0 v ∧ bitsOf 16 0 v ≤ 100000 then go { f with len := bitsOf 16 0 v } else s)
  else if r = 0x010 then
    { s with frame := { s.frame with wclr := s.frame.wclr ||| bitsOf 15 0 v } }
  else if 0x100 ≤ r ∧ r < 0x200 then
    let w := f.wins.get {} k
    let w1 : Win := { w with en := bitOf 63 v, guest := bitsOf 59 56 v, guard := bitsOf 55 48 v, wlen := bitsOf 40 24 v, start := bitsOf 16 0 v }
    (if r % 0x10 = 0 then go { f with wins := f.wins.set k w1 }
     else if r % 0x10 = 8 then go { f with wins := f.wins.set k { w with clmask := bitsOf 31 0 v } }
     else s)
  else s

/-! ### Contracts (R446, R451) -/

/-- Change a field that only the host writes while EN = 0. -/
def State.locked (s : State) (g : Nat) (f : Contract → Contract) : State := if (s.gc g).en then s else s.modGc g f

/-- Write a register of the contract of guest g. -/
def State.putContract (s : State) (g r v : Nat) : State :=
  match r with
  | 0x00 => if bitOf 63 v then s.after (execContractLoad g v) else s.locked g (fun c => c.ctlFields v)
  | 0x08 => if (s.gc g).en then s.after (execResize g v) else s.modGc g (fun c => { c with part := bitsOf 31 0 v, hostPart := bitsOf 31 0 v })
  | 0x10 => s.locked g (fun c => { c with share := bitOf 32 v, ways := bitsOf 31 0 v, hostWays := bitsOf 31 0 v })
  | 0x18 => s.locked g (fun c => { c with woff := bitsOf 40 32 v, wlen := bitsOf 24 16 v })
  | 0x20 =>
    -- a new generation drops the entries of the old one
    (let t := if (s.gc g).gen = bitsOf 11 0 v then s else s.after (execShadowInvalidate g 0 (2 ^ 48 - 1))
     t.modGc g (fun c => { c with root := bitsOf 51 12 v * 4096, gen := bitsOf 11 0 v }))
  | 0x28 => s.modGc g (fun c => { c with ws := [bitsOf 6 0 v, bitsOf 14 8 v, bitsOf 22 16 v, bitsOf 30 24 v] })
  | 0x30 => s.modGc g (fun c => { c with sfl := bitsOf 51 3 v })
  | 0x38 => s.modGc g (fun c => { c with sfln := bitsOf 15 0 v, hostSfln := bitsOf 15 0 v })
  | 0x40 => s.after (execGcMinWrite g v)
  | 0x50 =>
    (let t := s.modGc g (fun c => { c with keySrc := bitsOf 51 4 v * 16 })
     match bitsOf 1 0 v with
     | 1 => t.after (execGenerate g)
     | 2 => t.after (execImportKey g)
     | 3 => t.after (execErase g)
     | _ => t)
  | 0x58 => s.modGc g (fun c => { c with dpra := bitsOf 51 12 v, dprp := bitsOf 7 0 v })
  | 0x60 =>
    (match bitsOf 1 0 v with
     | 1 => s.after (execStart g)
     | 2 => s.after (execStop g)
     | 3 => s.after (execReset g)
     | _ => s)
  | _ => if 0x68 ≤ r ∧ r ≤ 0x80 ∧ r % 8 = 0 then s.locked g (fun c => { c with caps := c.caps.set ((r - 0x68) / 8) (v % 2 ^ 64) }) else s

/-! ### Trace units and debug blocks (R475, R483) -/

/-- Write a register of the trace unit of cluster cl; only the host has GMASK. -/
def State.putTrace (s : State) (host : Bool) (cl r v : Nat) : State :=
  let go (f : TraceUnit → TraceUnit) : State := s.modCl cl (fun c => { c with trc := f c.trc })
  match r with
  | 0x00 => s.after (execTraceEnable cl v)
  | 0x08 => go (fun u => { u with wrap := bitOf 16 v, pages := max 1 (bitsOf 15 0 v) })
  | 0x18 => go (fun u => { u with gmask := if host then bitsOf 63 48 v else u.gmask, period := bitsOf 47 32 v, cores := bitsOf 23 16 v, types := bitsOf 9 0 v })
  | 0x20 => go (fun u => { u with lost := bitsOf 31 0 v })
  | _ => s

/-- The actions of a DBG_CTL write of a view: RESUME, then HALT. -/
def State.dbgActs (s : State) (host : Bool) (n v : Nat) : State :=
  let t := if bitOf 3 v then s.resumeBy n (s.dbgView host n) else s
  if bitOf 2 v then t.haltBy n (t.dbgView host n) else t

/-- Write a register of the debug block of core n in the host's view. -/
def State.putDebugHost (s : State) (n r v : Nat) : State :=
  match r with
  | 0x00 =>
    ({ s with plat := { s.plat with
        hostGmask := s.plat.hostGmask.set n (bitsOf 31 16 v), hostRegs := s.plat.hostRegs.set (2 * n) (BitVec.ofNat 64 v &&& 0x13) } } : State).dbgActs
      true n v
  | 0x18 => { s with plat := { s.plat with hostRegs := s.plat.hostRegs.set (2 * n + 1) (BitVec.ofNat 64 v &&& 0xF1FF001F) } }
  | 0x20 => s.dbgWrite n (s.dbgView true n) v
  | _ => s

/-- Write a register of the debug block of core n in the view of guest g. -/
def State.putDebugGuest (s : State) (g n r v : Nat) : State :=
  if s.plat.res.get 0 (256 + clOf n) ≠ g + 1 then s
  else match r with
  | 0x00 =>
    (let t := s.modCoreAt n (fun k => { k with dbg := { k.dbg with ctl := BitVec.ofNat 64 v &&& 0x13 } })
     if (s.coreAt n).guest = g then t.dbgActs false n v else t)
  | 0x18 => s.modCoreAt n (fun k => { k with dbg := { k.dbg with sel := BitVec.ofNat 64 v &&& 0xF1FF001F } })
  | 0x20 => if (s.coreAt n).guest = g then s.dbgWrite n (s.dbgView false n) v else s
  | _ => s

/-! ### Replay (R489) -/

/-- Write a replay register of guest g. -/
def State.putReplay (s : State) (g r v : Nat) : State :=
  match r with
  | 0x00 => s.modRpl g (fun r => { r with node := bitsOf 47 5 v * 32 })
  | 0x08 => s.modRpl g (fun r => { r with sel := bitsOf 47 5 v * 32 })
  | 0x10 => s.modRpl g (fun r => { r with snap := bitsOf 47 12 v })
  | 0x18 => s.modRpl g (fun r => { r with pages := bitsOf 19 0 v })
  | 0x20 => s.modRpl g (fun r => { r with out := bitsOf 47 5 v * 32 })
  | 0x28 =>
    (let t := s.modRpl g (fun r => { r with passes := bitsOf 3 0 v })
     let t := if bitOf 9 v then t.after (execReplayAbort g) else t
     if bitOf 8 v then t.after (execReplayGo g) else t)
  | _ => s

/-! ### The platform and fabric blocks (R508, R528) -/

/-- Write a register of the platform block. -/
def State.putPlatform (s : State) (r v : Nat) : State :=
  let go (p : Plat) : State := { s with plat := p }
  match r with
  | 0x00 => if bitOf 34 v then (go { s.plat with therm := false }).updSafe else s
  | 0x08 => if bitOf 0 v then s.after execFull else s
  | 0x20 => go { s.plat with tsEn := bitOf 63 v, tsStep := bitOf 62 v }
  | 0x28 => go { s.plat with tsSec := bitsOf 31 0 v }
  | 0x38 => go { s.plat with cap := bitsOf 15 0 v }
  | 0x48 => go { s.plat with rowce := bitsOf 63 48 v, clce := bitsOf 47 32 v, chce := bitsOf 31 16 v }
  | _ => s

/-- Write a register of port k. -/
def State.putPort (s : State) (k r v : Nat) : State :=
  if r = 0x08 then
    s.modPort k (fun p => { p with retry := if bitsOf 63 32 v = 0 then p.retry else 0, fecc := if bitsOf 31 0 v = 0 then p.fecc else 0 })
  else if 0x10 ≤ r ∧ r < 0x30 ∧ r % 8 = 0 then s.modPort k (fun p => { p with wheel := p.wheel.set ((r - 0x10) / 8) (BitVec.ofNat 64 v) })
  else s

/-- Write a register of remote window n. -/
def State.putWindow (s : State) (n : Nat) (cfg : Bool) (v : Nat) : State :=
  let w := s.fab.wins.get {} n
  let u := if cfg then { w with tenant := bitsOf 55 48 v, guest := bitsOf 35 32 v, size := bitsOf 19 0 v }
    else { w with en := bitOf 63 v, w := bitOf 62 v, enc := bitOf 61 v, base := bitsOf 51 21 v }
  { s with fab := { s.fab with wins := s.fab.wins.set n u } }

/-- Write a register of the fabric block; CAR only while EN = 0, and the reserved TOPO 11 is ignored. -/
def State.putFabric (s : State) (r v : Nat) : State :=
  if r = 0x000 then
    (let t := { s with fab := { s.fab with
        ncar := bitsOf 14 12 v, car := if s.fab.en then s.fab.car else bitsOf 10 8 v
        topo := if bitsOf 1 0 v = 3 then s.fab.topo else bitsOf 1 0 v } }
     if bitOf 63 v then { t with fab := { t.fab with en := true } } else t.after execFabricDisable)
  else if 0x008 ≤ r ∧ r ≤ 0x020 then { s with fab := { s.fab with root := s.fab.root.set ((r - 8) / 8) (BitVec.ofNat 64 v) } }
  else if 0x040 ≤ r ∧ r < 0x0C0 then s.putPort ((r - 0x40) / 0x40) (r % 0x40) v
  else if 0x100 ≤ r ∧ r < 0x300 then s.putWindow ((r - 0x100) / 0x10) (r % 0x10 == 8) v
  else if 0x300 ≤ r ∧ r < 0x380 then s.after (execFcgrpWrite ((r - 0x300) / 8) v)
  else s

/-! ### The spaces -/

/-- Write a register of the Bowline register space. -/
def State.putBowline (s : State) (off v : Nat) : State :=
  let blk := off / 0x100000
  let o := off % 0x100000
  if blk < 4 then s.putPoint blk (o / 0x1000) (o % 0x1000) v
  else if blk = 0x8 then s.putFrame o v
  else if blk = 0x9 then (if o < 0x1000 then s.putContract (o / 0x100) (o % 0x100) v else s)
  else if blk = 0xA then (if o = 0x100 then s.after (execPoolFree v) else s)
  else if blk = 0xB then
    (if o < 0x800 then (if 17 ≤ s.plat.res.get 0 (256 + o / 0x40) then s.putTrace true (o / 0x40) (o % 0x40) v else s)
     else if o < 0x4800 then s.putDebugHost ((o - 0x800) / 0x40) ((o - 0x800) % 0x40) v
     else if 0x80000 ≤ o ∧ o < 0x81000 then s.putReplay ((o - 0x80000) / 0x100) (o % 0x100) v
     else s)
  else if blk = 0xC then s.putPlatform o v
  else if blk = 0xD then s.putFabric o v
  else s

/-- Write a register of a command stream (R414). -/
def State.putStream (s : State) (g k r v : Nat) : State :=
  match r with
  | 0x00 => (if bitOf 63 v then s else s.after (execCommandStreamDisable g k)).modCms g k (fun q =>
      { q with en := bitOf 63 v, base := bitsOf 47 12 v, logn := max 4 (min 16 (bitsOf 4 0 v)) })
  | 0x08 => s.after (execCommandStreamTailWrite g k v)
  | 0x18 => if bitOf 1 v then s.after (execHaltClear g k) else s
  | _ => s

/-- Write a register of the status-event ring (R448): a write that clears LOST changes nothing else. -/
def State.putRing (s : State) (g r v : Nat) : State :=
  match r with
  | 0x00 => if bitOf 62 v then s.modGuest g (fun x => { x with sevLost := false })
    else s.modGuest g (fun x => { x with sevEn := bitOf 63 v, sevBase := bitsOf 47 12 v, sevN := if bitsOf 3 0 v ≤ 8 then bitsOf 3 0 v else x.sevN })
  | 0x10 => s.modGuest g (fun x => { x with sevHead := bitsOf 31 0 v })
  | _ => s

/-- Write a register of BAR0 of virtual function g + 1 (R447). -/
def State.putVf (s : State) (g off v : Nat) : State :=
  if 0x1000 ≤ off ∧ off < 0x1100 then s.putStream g ((off - 0x1000) / 0x40) (off % 0x40) v
  else if 0x2000 ≤ off ∧ off < 0x2800 then s.after (execEventCounterAdd g ((off - 0x2000) / 8) v)
  else if 0x3000 ≤ off ∧ off < 0x3018 then s.putRing g (off - 0x3000) v
  else if 0x4000 ≤ off ∧ off < 0x4400 ∧ off % 0x10 = 0 then
    s.modGuest g (fun x => { x with irq := x.irq.upd {} ((off - 0x4000) / 0x10) (fun q => { q with itime := bitsOf 47 32 v, icnt := bitsOf 7 0 v }) })
  else if off = 0x7000 then s.modGuest g (fun x => { x with attNonce := bitsOf 47 5 v * 32 })
  else if off = 0x7008 then s.modGuest g (fun x => { x with attOut := bitsOf 47 12 v * 4096 })
  else if off = 0x7010 then (if bitOf 0 v then s.after (execAttestation g) else s)
  else if 0x8000 ≤ off ∧ off < 0x8800 then
    (let cl := (off - 0x8000) / 0x40
     if s.plat.res.get 0 (256 + cl) = g + 1 then s.putTrace false cl (off % 0x40) v else s)
  else if 0x8800 ≤ off ∧ off < 0xC800 then s.putDebugGuest g ((off - 0x8800) / 0x40) ((off - 0x8800) % 0x40) v
  else if 0xD000 ≤ off ∧ off < 0xD100 then s.putReplay g (off - 0xD000) v
  else if off = 0xE000 then s.modGuest g (fun x => { x with hwin := bitsOf 47 36 v * 2 ^ 36 })
  else s

/-- Write an entry of the MSI-X table of the physical function, whose place the manual does not give (R493; log entry 110): an
unmasked vector sends the message that it holds. -/
def State.putPfMsix (s : State) (off v : Nat) : State :=
  if 0x100 ≤ off then s
  else
    let k := off / 16
    let put (f : IrqVec → IrqVec) : State := { s with plat := { s.plat with pfIrq := s.plat.pfIrq.upd {} k f } }
    if off % 16 = 0 then put (fun q => { q with addr := v / 4 * 4 })
    else
      let t := put (fun q => { q with data := v % 2 ^ 32, masked := bitOf 32 v, waiting := q.waiting && bitOf 32 v })
      if (s.plat.pfIrq.get {} k).waiting && !bitOf 32 v then { t with msgs := t.msgs ++ [(0, k)] } else t

/-- Write an entry of the MSI-X table (R447): the message address, or the message data and the mask bit. The pending bits
after the table (log entry 110) take no write. -/
def State.putMsix (s : State) (g off v : Nat) : State :=
  if 0x400 ≤ off then s
  else
    let put (f : IrqVec → IrqVec) : State := s.modGuest g (fun x => { x with irq := x.irq.upd {} (off / 16) f })
    if off % 16 = 0 then put (fun q => { q with addr := v / 4 * 4 })
    else
      let t := put (fun q => { q with data := v % 2 ^ 32, masked := q.masked || bitOf 32 v })
      if bitOf 32 v then t else t.after (execVectorUnmask g (off / 16))

/-- The functions answer: neither the ROM runs, nor the recovery that answers its mailbox alone (R501, R502). -/
def State.answers (s : State) : Bool := s.plat.stage != 0 && s.plat.stage != 7

/-- REGISTER_WRITE (R6): space 0 is the Bowline register space, 1 + g is BAR0 and 17 + g is BAR2 of guest g, and 33 the MSI-X
table of the physical function. -/
def execRegisterWrite (space off v : Nat) (s : State) : Host.Outcome State Fault Refusal :=
  let v := v % 2 ^ 64
  .next (if off % 8 ≠ 0 || !s.answers then s
  else if space = 0 then s.putBowline off v
  else if space ≤ 16 then s.putVf (space - 1) off v
  else if space ≤ 32 then s.putMsix (space - 17) off v
  else if space = 33 then s.putPfMsix off v
  else s)

end Sys2Proof.Machine
end

