-- ==== Sys2Proof/Machine/Sequence.lean ====
section
/-! DEFINITION. The sequencer: the checks of a fetched bundle (R51), its issue (R266), what a cycle counts, and which event
of the machine is due next. It takes the meaning of an instruction as a parameter, which Step supplies. -/

namespace Sys2Proof.Machine

/-- The meaning of every instruction, as Step supplies it. -/
abbrev Meaning := Instr → State → Host.Outcome State Fault Refusal

/-! ### Structural conflicts (R48) -/

/-- The slots of all instructions in a list. -/
def slotsOf (l : List Instr) : Nat := l.foldl (fun m i => m ||| 2 ^ i.slot) 0

/-- The write set without s0 and g0 (R48). -/
def writeSet' (i : Instr) : List Nat := (writeSet i).filter (fun k => k != kS 0 && k != kG 0)

/-- Pairs of slots whose lists share an element: the slots concerned. -/
def shareSlots (f : Instr → List Nat) : List Instr → Nat
  | [] => 0
  | i :: t =>
    let hit := t.filter (fun j => (f i).any (fun x => (f j).contains x))
    (if hit.isEmpty then 0 else 2 ^ i.slot ||| slotsOf hit) ||| shareSlots f t

/-- Slots whose reads through one outport number more than one (condition 3). -/
def portSlots (l : List Instr) : Nat :=
  [0, 1, 2, 3, 4, 5].foldl (fun m p =>
    let us := l.filter (fun i => (portReads i).contains p)
    if 2 ≤ (us.map (fun i => ((portReads i).filter (fun x => x == p)).length)).sum then m ||| slotsOf us else m) 0

/-- The union of the slots in every condition of 1 to 7 that the bundle meets; 0 when it is legal (R48, R51). -/
def illegalSlots (l : List Instr) (cap : Bool) : Nat :=
  let lanes := (l.map laneBits).sum
  let bit (p : Instr → Bool) : Nat := slotsOf (l.filter p)
  shareSlots writeSet' l ||| shareSlots streamReads l ||| portSlots l |||
  (if 1536 < lanes then bit isVector else 0) |||
  bit (fun i => isVector i && widthField i == 3) |||
  (if cap then 0 else bit isSC) |||
  bit (fun i => match scopeField i with | some c => decide (6 ≤ c) | none => false)

/-- The first failing check of 3 to 5 of R51 for a bundle, with its slots. -/
def bundleCause (b : Bundle) : Option (Nat × Nat) :=
  let d := decodeWords b.words
  let illegal := illegalSlots d.1 b.hdr.cap ||| scopeSlots b.words
  if b.hdr.rsv then some (0x03, 0)
  else if d.2 ≠ 0 then some (0x01, d.2)
  else if illegal ≠ 0 then some (0x02, illegal)
  else none

/-- The guard of an instruction holds at issue. -/
def State.guardOf (s : State) (i : Instr) : Bool :=
  let g := guardField i
  s.readG g.1 != g.2

/-! ### Implicit checkpoints ahead of a bundle (R300, R306) -/

/-- Uncommitted entries of the commit buffer (R303). -/
def Core.entries (k : Core) : Nat :=
  (k.mq.filter (fun c => !c.committed)).length + (k.cqa.filter (fun c => !c.committed)).length +
  (k.cqb.filter (fun c => !c.committed)).length + (k.tq.filter (fun c => !c.committed)).length

/-- Whether the bundle brings an implicit checkpoint ahead of itself by its opcodes or by a full commit buffer. -/
def State.needsCkpt (s : State) (l : List Instr) : Bool :=
  l.any (fun i => ckptAhead i || ckptAround i (s.guardOf i)) ||
    (let n := (l.filter (fun i => isEngine i && s.guardOf i)).length
     n != 0 && decide (16 < s.core.entries + n))

/-- Take the checkpoint at the bundle at the program counter once every older branch has resolved (R298). -/
def State.ckptAtPc (s : State) : State :=
  let k := s.core
  if k.branches.isEmpty then
    (s.takeCkpt s.focus k.sync.pc k.seqNo k.sync).modCore (fun k => { k with ckptHere := true, ckpts := [] })
  else s

/-- The checkpoint of a CKP bundle that issues (R297): taken at once, or when the branches before it have resolved. -/
def State.ckpAt (s : State) (y : Sync) : State :=
  let k := s.core
  if k.ckptHere then s
  else if k.branches.isEmpty then s.takeCkpt s.focus y.pc k.seqNo y
  else s.modCore (fun k => { k with ckpts := k.ckpts ++ [{ addr := y.pc, seqNo := k.seqNo, snap := y }] })

/-! ### What a bundle counts (R485, R491) -/

/-- BR, JAL, JR and JALR: whether it is conditional (R136), and whether its target comes from a register. -/
def jumpKind (i : Instr) : Option (Bool × Bool) :=
  let g := guardField i
  match i with
  | .br _ => some (g.1 != 0 || g.2, false)
  | .jal _ => some (g.1 != 0 || g.2, false)
  | .jr _ => some (g.1 != 0 || g.2, true)
  | .jalr _ => some (g.1 != 0 || g.2, true)
  | _ => none

/-- The event of R485 that an S operation with a true guard is. -/
def memEvent (i : Instr) : Nat :=
  match i with
  | .ldB _ | .ldH _ | .ldW _ | .ldD _ | .ldsB _ | .ldsH _ | .ldsW _ => 7
  | .stB _ | .stH _ | .stW _ | .stD _ | .stl _ => 8
  | .amoadd _ | .amoswp _ | .amocas _ | .amomin _ | .amomax _ | .amoand _ | .amoor _ | .amoxor _ | .scld _ | .scst _ | .scamo _ => 9
  | _ => 0

/-- What one slot operation of a bundle that issues counts (R485): events and numbers. -/
def slotCounts (on far : Bool) (i : Instr) : List (Nat × Nat) :=
  if i.slot = 0 then
    (if on then [] else [(14, 1)]) ++ (match jumpKind i with | some (true, _) => [(4, 1)] | _ => []) ++
      (if !on || memEvent i = 0 then [] else (memEvent i, 1) :: (if memEvent i = 7 && far then [(10, 1)] else []))
  else if (i.slot = 1 ∨ i.slot = 2) ∧ on then [(33 + i.slot, 1)]
  else []

/-- What a bundle that issues in the state s counts (R485), in the mode in which it issues; all but BISSUE only once its
branches have resolved. -/
def State.countBundle (s t : State) (b : Bundle) (l : List Instr) : State :=
  let hnd := s.core.mode == .handler
  let t := t.countIn s.focus hnd 2 1
  let evs := (if b.hdr.idle = 0 then [] else [(13, b.hdr.idle)]) ++ l.flatMap (fun i => slotCounts (s.guardOf i) s.core.missedFar i)
  evs.foldl (fun t e =>
    if s.core.branches.isEmpty then t.countIn s.focus hnd e.1 e.2
    else t.modCore (fun k => { k with pendCnt := k.pendCnt ++ [(s.core.seqNo, e.1, e.2)] })) t

/-- What a branch adds to the path signature (R491): whether it is taken, and the target of a taken JR or JALR. -/
def State.signBranch (s : State) (i : Instr) : State :=
  match jumpKind i, s.cx.br with
  | some (cond, reg), some (_, taken, _, target) =>
    let t := if cond then s.sigB [b2n taken] else s
    if reg && taken then t.sigB (toLe 6 target) else t
  | _, _ => s

/-- A taken JR or JALR: the bundles after it are fetched anew (R269 step 3; log entry 99). -/
def State.refetch (s : State) (l : List Instr) : State :=
  let reg := l.any (fun i => match jumpKind i with | some (_, r) => r | none => false)
  match s.cx.br with
  | some (_, true, _, _) => if reg then s.modCore (fun k => { k with fbBytes := [], fbFault := none }) else s
  | _ => s

/-! ### Issue -/

/-- Run the slot operations of a bundle in a given order. -/
def runSlots (ex : Meaning) : List Instr → State → Host.Outcome State Fault Refusal
  | [], s => .next s
  | i :: t, s => match ex i s with
    | .next s' => runSlots ex t s'
    | r => r

/-- The order in which the slots of a bundle are run: the S operation after the others, so that an irreversible
operation performs only when no other slot has trapped (R300). -/
def slotOrder (l : List Instr) : List Instr := l.filter (fun i => i.slot != 0) ++ l.filter (fun i => i.slot == 0)

/-- A slot has found an X collision, check 6 of R51. -/
def State.collided (s : State) : Bool := s.cx.causes.any (fun c => c.2.1 == 0x05)

/-- An X collision is reported before any fault of execution (R51): a bundle that meets it does not wait, and nothing else
that its slots have met counts. -/
def State.collisionFirst (s : State) : State :=
  if s.collided then
    { s with cx := { s.cx with stall := none, stalls := 0, fin := false, causes := s.cx.causes.filter (fun c => c.2.1 == 0x05) } }
  else s

/-- The stall cycles of R485: one event for each row of R267 that holds the bundle. -/
def State.countStalls (s : State) (mask : Nat) : State :=
  (List.range 16).foldl (fun t r => if bitOf r mask then t.count (18 + r) 1 else t) s

/-- A bundle that has passed the checks of R51 and whose slots have run: it stalls, traps or issues (R266). -/
def State.issued (s t : State) (b : Bundle) (l : List Instr) : State :=
  let t := t.collisionFirst
  let y := s.core.sync
  -- a bundle that fails check 6 never issues, so it takes no checkpoint (R266, R297)
  if t.collided then State.endBundle s t b.hdr.idle
  else if t.cx.stall.isSome then
    if bitOf rowCkpt t.cx.stalls && !s.core.ckptHere then s.ckptAtPc
    else
      -- the cycle in which a missing load issues is no stall cycle
      let rows := if t.core.req.isSome && t.core.missAt == s.now then t.cx.stalls - t.cx.stalls &&& 4 else t.cx.stalls
      (State.endBundle s t b.hdr.idle).countStalls rows
  else
    let s1 := if b.hdr.ckp then s.ckpAt y else s
    -- TRAP and SYSC have done their work: their bundle has issued
    if t.cx.fin then State.endBundle s1 (s.countBundle t b l) b.hdr.idle
    else if !t.cx.causes.isEmpty then State.endBundle s1 t b.hdr.idle
    else
      let t := if b.hdr.ckp then t.ckpAt y else t
      let t := (l.foldl (fun t i => t.signBranch i) (s.countBundle t b l)).refetch l
      (State.endBundle s1 t b.hdr.idle).modCore (fun k => { k with dbg := { k.dbg with skip := false, step := false } })

/-- Issue a decoded bundle that has passed checks 1 to 5 of R51. An implicit checkpoint ahead of it is taken before check 6
(DESIGN CHOICE, log entry 121). -/
def State.issueGood (ex : Meaning) (s : State) (b : Bundle) (l : List Instr) : Host.Outcome State Fault Refusal :=
  if s.needsCkpt l && !s.core.ckptHere then .next s.ckptAtPc
  else
    let s2 := s.beginBundle b.len b.hdr.mask
    let s3 := { s2 with cx := { s2.cx with post := l.any (fun i => ckptAround i (s.guardOf i)) } }
    match runSlots ex (slotOrder l) s3 with
    | .next t => .next (s.issued t b l)
    | .fault f => .fault f
    | .refused r => .refused r

/-- The trap of a bundle that fails a check of R51; the manual gives these causes no detail, so TRAPINFO is a free value. -/
def State.fetchTrap (s : State) (cause slots : Nat) : State :=
  (s.syncTrap cause slots (Config.freeW64 s.free 700) s.core.sync.pc).tickFree

/-- A bundle of a part would extend past the end of the part (R274, R276). -/
def Core.passesPart (k : Core) (len : Nat) : Bool :=
  k.looping && decide (k.sync.pc < k.sync.loop.part.2) && decide (k.sync.loop.part.2 < k.sync.pc + len)

/-- Bring the bundle at the program counter to issue: its checks in the order of R51, then its slots. LOOPREC of a bundle that
passes the end of its part (R276), which R51 does not place, stands behind the fetch and before the header (log entry 100). -/
def State.issueBundle (ex : Meaning) (s : State) : Host.Outcome State Fault Refusal :=
  let k := s.core
  if k.sync.pc % 4 ≠ 0 then .next (s.fetchTrap 0x04 0)
  else if 2 ^ 48 ≤ k.sync.pc then .next (s.fetchTrap cNOTMAP 0)
  else match k.fetchFault with
    | some c => .next (s.fetchTrap c 0)
    | none =>
      match k.bundle with
      | none =>
        let row := if k.walk.isSome then 1 else 0
        .next ((s.modCore (fun k => { k with stallWhy := 2 ^ row })).countStalls (2 ^ row))
      | some b =>
        if k.passesPart b.len then
          .next (s.syncTrap 0x07 0 (BitVec.ofNat 64 k.sync.loop.recAddr) k.sync.pc)
        else match bundleCause b with
          | some c => .next (s.fetchTrap c.1 c.2)
          | none => s.issueGood ex b (decodeWords b.words).1

/-- Something other than the bundle comes first: a held trap, a save, an asynchronous trap or a stop. -/
def State.issueHeld (s : State) : Bool :=
  let k := s.core
  k.held.isSome || k.yieldPend.isSome || (k.mode == .run && !k.asyncs.isEmpty && !k.performed) || (s.stopWhy s.focus).isSome

/-- The turn of the core in focus in one cycle. -/
def State.coreTurn (ex : Meaning) (s : State) : Host.Outcome State Fault Refusal :=
  let k := s.core
  if k.mode == .saving then .next (s.savingStep s.focus)
  else if k.hasContext && k.dbg.stopped && k.yreq then .next (s.saveBegin s.focus)
  else if !k.running then .next s
  else if k.yieldPend.isSome && k.branches.isEmpty && k.held.isNone then .next (s.saveBegin s.focus)
  else if s.issueHeld || decide (s.now < k.readyAt) then .next s
  else s.issueBundle ex

/-! ### Events of the table that the sequencer raises itself -/

/-- ILLEGAL_ENCODING (R51): the bundle at the program counter of a core fails a check of its header, opcodes, fields or
structure. -/
def execIllegalEncoding (core : Nat) (s : State) : Host.Outcome State Fault Refusal :=
  let t : State := { s with focus := core }
  .next (if !(s.coreAt core).running || (s.coreAt core).held.isSome then s
  else match (s.coreAt core).bundle with
    | none => s
    | some b => match bundleCause b with
      | none => s
      | some c => { t.fetchTrap c.1 c.2 with focus := s.focus })

/-- IDLE_BUNDLE (R21): a header with MASK = 0 issues on the core in focus. -/
def execIdleBundle (hdr : Nat) (s : State) : Host.Outcome State Fault Refusal :=
  let h := readHeader hdr
  if h.mask ≠ 0 ∨ h.rsv ∨ !s.core.running then .next s
  else s.issueGood (fun _ s => .next s) { hdr := h, words := [], len := 4 } []

/-! ### Which event is due next -/

/-- The first element of a list for which something is due. -/
def firstDue {α : Type} (due : α → Bool) (act : α → Host.Outcome State Fault Refusal) :
    List α → Option (Host.Outcome State Fault Refusal)
  | [] => none
  | x :: t => if due x then some (act x) else firstDue due act t

/-- The first of a list of possibilities that holds. -/
def firstOf : List (Unit → Option (Host.Outcome State Fault Refusal)) → Option (Host.Outcome State Fault Refusal)
  | [] => none
  | f :: t => match f () with | some r => some r | none => firstOf t

/-- The cores that the state lists. -/
def State.coreList (s : State) : List Nat := s.cores.map (fun p => p.1)
/-- The clusters that the state lists. -/
def State.clList (s : State) : List Nat := s.cls.map (fun p => p.1)
/-- The guests that the state lists. -/
def State.guestList (s : State) : List Nat := s.guests.map (fun p => p.1)

/-- Time: ticks, windows, frames (R368, R433 to R435, R506). -/
def State.timeEvent (s : State) : Option (Host.Outcome State Fault Refusal) :=
  firstOf [
    (fun _ => if s.ticked < s.time then some (execRegulatorTick s) else none),
    (fun _ => firstDue s.endDue (fun k => execWindowEnd k s) s.frame.acc),
    (fun _ => firstDue s.guardDue (fun k => execWindowGuard k s) s.frame.acc),
    (fun _ => if s.frameDue then some (execFrameStart s) else none),
    (fun _ => if s.timeoutDue then some (execTsyncTimeout s) else none),
    (fun _ => firstDue s.ackLate (fun p => execAbortAckTimeout p s) [0, 1])]

/-- What one core does between its bundles. -/
def State.coreEvent (s : State) (n : Nat) : Option (Host.Outcome State Fault Refusal) :=
  let k := s.coreAt n
  firstOf [
    (fun _ => if k.ckptReady.isSome then some (execCheckpoint n s) else none),
    (fun _ => if (s.branchReady n).isSome then some (execBranchResolution n s) else none),
    (fun _ => if (s.eventFor n).isSome then some (execEventLatchSet n s) else none),
    -- a forced save comes before a held trap of the same cycle (R320)
    (fun _ => if k.forcedDue then some (execForcedSave n s) else none),
    (fun _ => if s.resolutionDue n then some (execBranchResolution n s) else none),
    (fun _ => if s.savewaitDue n then some (execSavewaitEnd n s) else none),
    (fun _ => if k.asyncReady then some (execAsyncTrap n s) else none),
    (fun _ => if s.stopDue n then some (execDebugStop n s) else none),
    (fun _ => if s.returnDue n then some (execLoadDataReturn n s) else none),
    (fun _ => if s.lookupDue n then some (execL2Lookup n s) else none),
    (fun _ => if s.controllerDue n then some (execControllerAccess n s) else none),
    (fun _ => if s.walkDue n then some (execTranslationWalk n s) else none),
    (fun _ => if s.fetchDue n then some (execFetchFill n s) else none),
    (fun _ => if s.storeDue n then some (execStorePerform n s) else none),
    (fun _ => if k.mCompleteDue s.now then some (execMatrixCommandComplete n s) else none),
    (fun _ => if k.mBeginDue s.now then some (execMatrixCommandBegin n s) else none),
    (fun _ => if s.copyDue n false then some (execCopyCommandComplete n 0 s) else none),
    (fun _ => if s.copyDue n true then some (execCopyCommandComplete n 1 s) else none),
    (fun _ => firstDue (s.arrivalDue n) (fun q => execStreamGroupArrival n q s) (k.sync.streams.map (fun p => p.1))),
    (fun _ => firstDue (s.outputDue n) (fun q => execStreamOutputWrite n q s) (k.sync.streams.map (fun p => p.1))),
    (fun _ => if s.capstanDue n then some (execCapstanIssue n s) else none)]

/-- What one cluster does (R336, R342, R346, R482). -/
def State.clusterEvent (s : State) (c : Nat) : Option (Host.Outcome State Fault Refusal) :=
  firstOf [
    (fun _ => if s.barrierDue c then some (execBarrierAccess c s) else none),
    (fun _ => if s.tCompleteDue c then some (execTemporalCommandComplete c s) else none),
    (fun _ => if s.tBeginDue c then some (execTemporalCommandBegin c s) else none),
    (fun _ => if s.grantDue c then some (execTemporalGrant c s) else none),
    (fun _ => firstDue (s.sampleDue c) (fun k => execTraceSample c k s) [0, 1, 2, 3, 4, 5, 6, 7])]

/-- The regulation points (R367, R369). -/
def State.pointEvent (s : State) (b : Nat) : Option (Host.Outcome State Fault Refusal) :=
  let d := b / 512
  let p := b / 16 % 32
  let g := b % 16
  if s.admitDue d p g then some (execRegulationAdmit d p g s)
  else if (s.bucket d p g).raised = 1 then some (execBudget d p g s)
  else none

/-- The node instances of a guest (R417 to R426). -/
def State.nodeEvent (s : State) (g : Nat) (n : Node) : Option (Host.Outcome State Fault Refusal) :=
  let go (k : Nat) (f : Nat → Nat → State → Host.Outcome State Fault Refusal) : Option (Host.Outcome State Fault Refusal) :=
    if n.kind = k ∧ (s.actDue g n.id k).isSome then some (f g n.id s) else none
  firstOf [
    (fun _ => go 2 execEventNode),
    (fun _ => go 4 execHostirqNode),
    (fun _ => if n.kind = 3 ∧ s.spliceDue g n.id then some (execSpliceNode g n.id s) else none),
    (fun _ => go 1 execKernelRecordReady)]

/-- The first node instance that acts. -/
def State.nodesEvent (s : State) (g : Nat) : List Node → Option (Host.Outcome State Fault Refusal)
  | [] => none
  | n :: t => match s.nodeEvent g n with | some r => some r | none => s.nodesEvent g t

/-- The COND node of a stream's walk acts. -/
def State.condDue (s : State) (g k : Nat) : Bool :=
  let q := s.cms g k
  q.run && q.entered && !q.halt && (s.actDue g q.inst 5).isSome

/-- What the command processor and Bowline do for one guest (R413 to R436, R449, R490, R526). An access of the command
processor that waits at point 8 keeps its later ones waiting. -/
def State.guestEvent (s : State) (g : Nat) : Option (Host.Outcome State Fault Refusal) :=
  let x := s.guestAt g
  let streams := x.cms.map (fun p => p.1)
  let cp (f : Option (Host.Outcome State Fault Refusal)) : Option (Host.Outcome State Fault Refusal) := if s.cpWaits g then none else f
  firstOf [
    (fun _ => match x.grps.find? (fun r => r.st == 0 && r.over) with | some r => some (execGroupComplete g r.node r.index s) | none => none),
    (fun _ => if s.passDue g then some (execReplayPass g s) else none),
    (fun _ => cp (s.nodesEvent g x.nodes)),
    (fun _ => cp (firstDue (s.condDue g) (fun k => execCondNode g k s) streams)),
    (fun _ => cp (firstDue (s.enterDue g) (fun k => execNodeEnter g k s) streams)),
    (fun _ => cp (firstDue (s.takeDue g) (fun k => execStreamEntryTake g k s) streams)),
    (fun _ => cp (if (s.placeNext g).isSome then some (execGroupPlacement g s) else none)),
    (fun _ => firstDue (s.timerDue g) (fun v => execIrqTimer g v s) (x.irq.map (fun p => p.1))),
    (fun _ => if (s.collReady g).isSome && bitsOf 7 0 (s.fab.grp.get {} g).memb == 2 ^ s.fab.car
              then some (execCollectiveComplete g [] s) else none),
    (fun _ => if s.collLate g then some (execCollectiveTimeout g s) else none)]

/-- The first of a list for which there is an event. -/
def firstEvent (f : Nat → Option (Host.Outcome State Fault Refusal)) : List Nat → Option (Host.Outcome State Fault Refusal)
  | [] => none
  | x :: t => match f x with | some r => some r | none => firstEvent f t

/-- The event of the machine that is due now, if any: time first, then cores, points, clusters and guests, each in ascending
number; events of one cycle that the manual leaves unordered take this order (log entry 57). -/
def State.dueEvent (s : State) : Option (Host.Outcome State Fault Refusal) :=
  firstOf [
    (fun _ => s.timeEvent),
    (fun _ => firstEvent s.coreEvent s.coreList),
    (fun _ => firstEvent s.pointEvent s.pointKeys),
    (fun _ => firstEvent s.clusterEvent s.clList),
    (fun _ => firstEvent s.guestEvent s.guestList),
    (fun _ => firstEvent (fun p => if s.rekeyDue p then some (execRekey p s) else none) [0, 1]),
    (fun _ => if s.plat.poolScrub.isEmpty then none else some (execFrameScrub s))]

/-- What Bowline goes on with for the guests and the platform. -/
def State.housekeeping (s : State) : Option State :=
  match s.guestList.find? (fun g => (s.advanceGuest g).isSome) with
  | some g => s.advanceGuest g
  | none => s.upkeep

/-! ### The end of a turn and of a cycle -/

/-- A core that has a turn in a cycle: it runs or is being saved. -/
def Core.active (k : Core) : Bool := k.hasContext || k.mode == .saving

/-- The next core after the one in focus that has a turn. -/
def State.nextFocus (s : State) : Option Nat := s.coreList.find? (fun n => decide (s.focus < n) && (s.coreAt n).active)

/-- What one cycle adds to a core that holds a context: CYCLE, the deadline of a yield request, the matrix cycle classes
(R292, R314, R487). A stop moves CYCLE and the deadline alone (R478, R477), and no swap or switchover counts (R352, R504). -/
def State.coreCycle (s : State) (n : Nat) : State :=
  let k := s.coreAt n
  if !k.occupied then s
  else
    let mc (t : Tab Nat) : Tab Nat := t.upd 0 (k.mClass s.now) (fun v => (v + 1) % 2 ^ 64)
    let h := s.plat.res.get 0 n
    let cyc := if !k.hasContext && s.evacuating n then k.cycle else (k.cycle + 1) % 2 ^ 64
    let ydl := if k.yreq then k.ydl - 1 else k.ydl
    if k.dbg.stopped then s.modCoreAt n (fun k => { k with cycle := cyc, ydl := ydl })
    else (s.countAt n 1 1).modCoreAt n (fun k => { k with
      cycle := cyc
      ydl := ydl
      mcyc := if h = k.guest + 1 && k.pmctl.toNat % 16 != 0 then mc k.mcyc else k.mcyc
      hmcyc := if 17 ≤ h && k.hpmctl.toNat % 16 != 0 then mc k.hmcyc else k.hmcyc })

/-- The timebase after one cycle (R505, R506, R509): one count in 8 - CSTEP cycles, corrected by the rate. -/
def State.tickTime (s : State) : State :=
  let limit := s.ccPerCount * 1000000
  let acc := s.tbAcc + (1000000 + s.plat.tsPpm).toNat
  if limit ≤ acc then { s with tb := (s.tb + 1) % 2 ^ 64, tbAcc := acc - limit } else { s with tbAcc := acc }

/-- A cycle ends: every core has had its turn. -/
def State.newCycle (s : State) : State :=
  let t := (s.cls.filter (fun p => !p.2.trc.recs.isEmpty)).foldl (fun t p => t.traceFlush p.1) s
  let t := s.coreList.foldl (fun t n => t.coreCycle n) t
  let t := { t.tickTime with now := s.now + 1 }
  let t := (t.portTurns 0).portTurns 1
  { t with focus := (s.coreList.find? (fun n => (s.coreAt n).active)).getD 0 }

/-- The turn passes to the next core, or the cycle ends. -/
def State.passTurn (s : State) : State :=
  match s.nextFocus with
  | some n => { s with focus := n }
  | none => s.newCycle

/-! ### One step -/

/-- The turn of the core in focus, and the passing of the turn. -/
def State.turn (ex : Meaning) (s : State) : Host.Outcome State Fault Refusal :=
  match s.coreTurn ex with
  | .next t =>
    -- the data of a missing load has returned: the bundle after it may issue in this cycle (R128)
    let more := s.core.missed && t.core.seqNo != s.core.seqNo && t.core.running && decide (t.core.readyAt ≤ s.now)
    .next (if more then t else t.passTurn)
  | .fault f => .fault f
  | .refused r => .refused r

/-- What the machine does when no event from outside stands before it. -/
def State.advance (ex : Meaning) (s : State) : Host.Outcome State Fault Refusal :=
  match s.dueEvent with
  | some r => r
  | none => match s.housekeeping with
    | some t => .next t
    | none => s.turn ex

/-- One step: a status event of a lost line, the oldest event from outside, an event that is due, what Bowline goes on
with, or the turn of the core in focus. A slot operation is no event: it runs in bundles alone. -/
def State.stepWith (ex : Meaning) (s : State) : Host.Outcome State Fault Refusal :=
  match s.memue with
  | e :: t => .next (({ s with memue := t } : State).statusEvent e.1 1 cMEMUE 0 ((s.ownerVa e.1 e.2).getD 0))
  | [] => match s.inputs with
    | i :: t => if i.slot = 8 then ex i { s with inputs := t } else .next { s with inputs := t }
    | [] => s.advance ex

/-- Put the bundle of one instruction into the fetch buffer of core 0 at its program counter, and let that core run with
the checkpoint of a kernel entry standing there (R429), so that the next step fetches and runs exactly it. The
instruction's words follow a header with the instruction's slot and CAP (log entry 2). -/
def State.placeWord (s : State) (nbits w : Nat) : State :=
  { s with
    focus := 0, memue := [], inputs := []
    cores := s.cores.upd {} 0 (fun k => { k with
      mode := .run, fbBase := k.sync.pc, fbBytes := oneSlotBytes (tableSlot nbits w) 8 w, fbFault := none, ckptHere := true, readyAt := 0 }) }

end Sys2Proof.Machine
end

