-- ==== Sys2Proof/Machine/Dispatch.lean ====
section
/-! DEFINITION. The one match that gives each instruction its meaning. -/

namespace Sys2Proof.Machine

/-- The meaning of an instruction or event. -/
def exec (i : Instr) (s : State) : Host.Outcome State Fault Refusal :=
  match i with
  | .snop o => Sys2Proof.Machine.execSnop o s
  | .add o => Sys2Proof.Machine.execAdd o s
  | .sub o => Sys2Proof.Machine.execSub o s
  | .mul o => Sys2Proof.Machine.execMul o s
  | .mulh o => Sys2Proof.Machine.execMulh o s
  | .mulhu o => Sys2Proof.Machine.execMulhu o s
  | .div o => Sys2Proof.Machine.execDiv o s
  | .divu o => Sys2Proof.Machine.execDivu o s
  | .rem o => Sys2Proof.Machine.execRem o s
  | .remu o => Sys2Proof.Machine.execRemu o s
  | .and o => Sys2Proof.Machine.execAnd o s
  | .or o => Sys2Proof.Machine.execOr o s
  | .xor o => Sys2Proof.Machine.execXor o s
  | .shl o => Sys2Proof.Machine.execShl o s
  | .shr o => Sys2Proof.Machine.execShr o s
  | .sra o => Sys2Proof.Machine.execSra o s
  | .min o => Sys2Proof.Machine.execMin o s
  | .max o => Sys2Proof.Machine.execMax o s
  | .minu o => Sys2Proof.Machine.execMinu o s
  | .maxu o => Sys2Proof.Machine.execMaxu o s
  | .clz o => Sys2Proof.Machine.execClz o s
  | .popc o => Sys2Proof.Machine.execPopc o s
  | .sel o => Sys2Proof.Machine.execSel o s
  | .addw o => Sys2Proof.Machine.execAddw o s
  | .lea o => Sys2Proof.Machine.execLea o s
  | .mov o => Sys2Proof.Machine.execMov o s
  | .addi o => Sys2Proof.Machine.execAddi o s
  | .andi o => Sys2Proof.Machine.execAndi o s
  | .ori o => Sys2Proof.Machine.execOri o s
  | .xori o => Sys2Proof.Machine.execXori o s
  | .shli o => Sys2Proof.Machine.execShli o s
  | .shri o => Sys2Proof.Machine.execShri o s
  | .srai o => Sys2Proof.Machine.execSrai o s
  | .muli o => Sys2Proof.Machine.execMuli o s
  | .ceq o => Sys2Proof.Machine.execCeq o s
  | .cne o => Sys2Proof.Machine.execCne o s
  | .clt o => Sys2Proof.Machine.execClt o s
  | .cge o => Sys2Proof.Machine.execCge o s
  | .cltu o => Sys2Proof.Machine.execCltu o s
  | .cgeu o => Sys2Proof.Machine.execCgeu o s
  | .ceqi o => Sys2Proof.Machine.execCeqi o s
  | .cnei o => Sys2Proof.Machine.execCnei o s
  | .clti o => Sys2Proof.Machine.execClti o s
  | .cgei o => Sys2Proof.Machine.execCgei o s
  | .gand o => Sys2Proof.Machine.execGand o s
  | .gor o => Sys2Proof.Machine.execGor o s
  | .gxor o => Sys2Proof.Machine.execGxor o s
  | .gset o => Sys2Proof.Machine.execGset o s
  | .movi o => Sys2Proof.Machine.execMovi o s
  | .movhi o => Sys2Proof.Machine.execMovhi o s
  | .addil o => Sys2Proof.Machine.execAddil o s
  | .fadd o => Sys2Proof.Machine.execFadd o s
  | .fsub o => Sys2Proof.Machine.execFsub o s
  | .fmul o => Sys2Proof.Machine.execFmul o s
  | .fma o => Sys2Proof.Machine.execFma o s
  | .fmin o => Sys2Proof.Machine.execFmin o s
  | .fmax o => Sys2Proof.Machine.execFmax o s
  | .fcvt o => Sys2Proof.Machine.execFcvt o s
  | .fceq o => Sys2Proof.Machine.execFceq o s
  | .fclt o => Sys2Proof.Machine.execFclt o s
  | .fcle o => Sys2Proof.Machine.execFcle o s
  | .ldB o => Sys2Proof.Machine.execLdB o s
  | .ldH o => Sys2Proof.Machine.execLdH o s
  | .ldW o => Sys2Proof.Machine.execLdW o s
  | .ldD o => Sys2Proof.Machine.execLdD o s
  | .ldsB o => Sys2Proof.Machine.execLdsB o s
  | .ldsH o => Sys2Proof.Machine.execLdsH o s
  | .ldsW o => Sys2Proof.Machine.execLdsW o s
  | .stB o => Sys2Proof.Machine.execStB o s
  | .stH o => Sys2Proof.Machine.execStH o s
  | .stW o => Sys2Proof.Machine.execStW o s
  | .stD o => Sys2Proof.Machine.execStD o s
  | .lda o => Sys2Proof.Machine.execLda o s
  | .stl o => Sys2Proof.Machine.execStl o s
  | .amoadd o => Sys2Proof.Machine.execAmoadd o s
  | .amoswp o => Sys2Proof.Machine.execAmoswp o s
  | .amocas o => Sys2Proof.Machine.execAmocas o s
  | .amomin o => Sys2Proof.Machine.execAmomin o s
  | .amomax o => Sys2Proof.Machine.execAmomax o s
  | .amoand o => Sys2Proof.Machine.execAmoand o s
  | .amoor o => Sys2Proof.Machine.execAmoor o s
  | .amoxor o => Sys2Proof.Machine.execAmoxor o s
  | .scld o => Sys2Proof.Machine.execScld o s
  | .scst o => Sys2Proof.Machine.execScst o s
  | .scamo o => Sys2Proof.Machine.execScamo o s
  | .fence o => Sys2Proof.Machine.execFence o s
  | .pfence o => Sys2Proof.Machine.execPfence o s
  | .drain o => Sys2Proof.Machine.execDrain o s
  | .br o => Sys2Proof.Machine.execBr o s
  | .jal o => Sys2Proof.Machine.execJal o s
  | .jr o => Sys2Proof.Machine.execJr o s
  | .jalr o => Sys2Proof.Machine.execJalr o s
  | .loop o => Sys2Proof.Machine.execLoop o s
  | .lexit o => Sys2Proof.Machine.execLexit o s
  | .trap o => Sys2Proof.Machine.execTrap o s
  | .kend o => Sys2Proof.Machine.execKend o s
  | .sysord o => Sys2Proof.Machine.execSysord o s
  | .evadd o => Sys2Proof.Machine.execEvadd o s
  | .claim o => Sys2Proof.Machine.execClaim o s
  | .release o => Sys2Proof.Machine.execRelease o s
  | .gstat o => Sys2Proof.Machine.execGstat o s
  | .notify o => Sys2Proof.Machine.execNotify o s
  | .sysc o => Sys2Proof.Machine.execSysc o s
  | .eret o => Sys2Proof.Machine.execEret o s
  | .ychk o => Sys2Proof.Machine.execYchk o s
  | .yield o => Sys2Proof.Machine.execYield o s
  | .wfe o => Sys2Proof.Machine.execWfe o s
  | .evsig o => Sys2Proof.Machine.execEvsig o s
  | .movc o => Sys2Proof.Machine.execMovc o s
  | .movcw o => Sys2Proof.Machine.execMovcw o s
  | .xsa o => Sys2Proof.Machine.execXsa o s
  | .xsb o => Sys2Proof.Machine.execXsb o s
  | .xsh o => Sys2Proof.Machine.execXsh o s
  | .xsj o => Sys2Proof.Machine.execXsj o s
  | .xsy o => Sys2Proof.Machine.execXsy o s
  | .bar o => Sys2Proof.Machine.execBar o s
  | .bara o => Sys2Proof.Machine.execBara o s
  | .barw o => Sys2Proof.Machine.execBarw o s
  | .bari o => Sys2Proof.Machine.execBari o s
  | .lnch o => Sys2Proof.Machine.execLnch o s
  | .garm o => Sys2Proof.Machine.execGarm o s
  | .hirq o => Sys2Proof.Machine.execHirq o s
  | .pflip o => Sys2Proof.Machine.execPflip o s
  | .bkpt o => Sys2Proof.Machine.execBkpt o s
  | .mark o => Sys2Proof.Machine.execMark o s
  | .vnop o => Sys2Proof.Machine.execVnop o s
  | .vadd o => Sys2Proof.Machine.execVadd o s
  | .vsub o => Sys2Proof.Machine.execVsub o s
  | .vmul o => Sys2Proof.Machine.execVmul o s
  | .vfma o => Sys2Proof.Machine.execVfma o s
  | .vfms o => Sys2Proof.Machine.execVfms o s
  | .vmin o => Sys2Proof.Machine.execVmin o s
  | .vmax o => Sys2Proof.Machine.execVmax o s
  | .vabs o => Sys2Proof.Machine.execVabs o s
  | .vneg o => Sys2Proof.Machine.execVneg o s
  | .vsqd o => Sys2Proof.Machine.execVsqd o s
  | .vmulh o => Sys2Proof.Machine.execVmulh o s
  | .vdot4 o => Sys2Proof.Machine.execVdot4 o s
  | .vand o => Sys2Proof.Machine.execVand o s
  | .vor o => Sys2Proof.Machine.execVor o s
  | .vxor o => Sys2Proof.Machine.execVxor o s
  | .vshl o => Sys2Proof.Machine.execVshl o s
  | .vshr o => Sys2Proof.Machine.execVshr o s
  | .vsra o => Sys2Proof.Machine.execVsra o s
  | .vceq o => Sys2Proof.Machine.execVceq o s
  | .vcne o => Sys2Proof.Machine.execVcne o s
  | .vclt o => Sys2Proof.Machine.execVclt o s
  | .vcle o => Sys2Proof.Machine.execVcle o s
  | .vsel o => Sys2Proof.Machine.execVsel o s
  | .kand o => Sys2Proof.Machine.execKand o s
  | .kor o => Sys2Proof.Machine.execKor o s
  | .kxor o => Sys2Proof.Machine.execKxor o s
  | .knot o => Sys2Proof.Machine.execKnot o s
  | .kpop o => Sys2Proof.Machine.execKpop o s
  | .vcvt o => Sys2Proof.Machine.execVcvt o s
  | .vqblk o => Sys2Proof.Machine.execVqblk o s
  | .vdqblk o => Sys2Proof.Machine.execVdqblk o s
  | .vrnd o => Sys2Proof.Machine.execVrnd o s
  | .vexp2 o => Sys2Proof.Machine.execVexp2 o s
  | .vlog2 o => Sys2Proof.Machine.execVlog2 o s
  | .vrcp o => Sys2Proof.Machine.execVrcp o s
  | .vrsq o => Sys2Proof.Machine.execVrsq o s
  | .vsigm o => Sys2Proof.Machine.execVsigm o s
  | .vtanh o => Sys2Proof.Machine.execVtanh o s
  | .vrsum o => Sys2Proof.Machine.execVrsum o s
  | .vrmax o => Sys2Proof.Machine.execVrmax o s
  | .vrmin o => Sys2Proof.Machine.execVrmin o s
  | .vscan o => Sys2Proof.Machine.execVscan o s
  | .vamax o => Sys2Proof.Machine.execVamax o s
  | .vmov o => Sys2Proof.Machine.execVmov o s
  | .vsq o => Sys2Proof.Machine.execVsq o s
  | .vxs o => Sys2Proof.Machine.execVxs o s
  | .vxab o => Sys2Proof.Machine.execVxab o s
  | .vspl o => Sys2Proof.Machine.execVspl o s
  | .viota o => Sys2Proof.Machine.execViota o s
  | .vtag o => Sys2Proof.Machine.execVtag o s
  | .xprm o => Sys2Proof.Machine.execXprm o s
  | .xpldA o => Sys2Proof.Machine.execXpldA o s
  | .xpldB o => Sys2Proof.Machine.execXpldB o s
  | .xzip o => Sys2Proof.Machine.execXzip o s
  | .xuzp o => Sys2Proof.Machine.execXuzp o s
  | .xcmp o => Sys2Proof.Machine.execXcmp o s
  | .xexp o => Sys2Proof.Machine.execXexp o s
  | .nmap o => Sys2Proof.Machine.execNmap o s
  | .nmapx o => Sys2Proof.Machine.execNmapx o s
  | .npld o => Sys2Proof.Machine.execNpld o s
  | .nmov o => Sys2Proof.Machine.execNmov o s
  | .nxs o => Sys2Proof.Machine.execNxs o s
  | .nli o => Sys2Proof.Machine.execNli o s
  | .mma o => Sys2Proof.Machine.execMma o s
  | .mmaz o => Sys2Proof.Machine.execMmaz o s
  | .mconv o => Sys2Proof.Machine.execMconv o s
  | .mzero o => Sys2Proof.Machine.execMzero o s
  | .mldz o => Sys2Proof.Machine.execMldz o s
  | .mstz o => Sys2Proof.Machine.execMstz o s
  | .mtag o => Sys2Proof.Machine.execMtag o s
  | .mskp o => Sys2Proof.Machine.execMskp o s
  | .mwait o => Sys2Proof.Machine.execMwait o s
  | .tacq o => Sys2Proof.Machine.execTacq o s
  | .trel o => Sys2Proof.Machine.execTrel o s
  | .tldw o => Sys2Proof.Machine.execTldw o s
  | .tlnc o => Sys2Proof.Machine.execTlnc o s
  | .tcap o => Sys2Proof.Machine.execTcap o s
  | .trst o => Sys2Proof.Machine.execTrst o s
  | .cpy o => Sys2Proof.Machine.execCpy o s
  | .cpys o => Sys2Proof.Machine.execCpys o s
  | .cpyt o => Sys2Proof.Machine.execCpyt o s
  | .cpyw o => Sys2Proof.Machine.execCpyw o s
  | .ldblk o => Sys2Proof.Machine.execLdblk o s
  | .evblk o => Sys2Proof.Machine.execEvblk o s
  | .bind o => Sys2Proof.Machine.execBind o s
  | .unbd o => Sys2Proof.Machine.execUnbd o s
  | .gthr o => Sys2Proof.Machine.execGthr o s
  | .sctr o => Sys2Proof.Machine.execSctr o s
  | .cwait o => Sys2Proof.Machine.execCwait o s
  | .cflag o => Sys2Proof.Machine.execCflag o s
  | .csig o => Sys2Proof.Machine.execCsig o s
  | .coll o => Sys2Proof.Machine.execColl o s
  | .hadd o => Sys2Proof.Machine.execHadd o s
  | .hmov o => Sys2Proof.Machine.execHmov o s
  | .hli o => Sys2Proof.Machine.execHli o s
  | .hxs o => Sys2Proof.Machine.execHxs o s
  | .fetchFill core => Sys2Proof.Machine.execFetchFill core s
  | .branchResolution core => Sys2Proof.Machine.execBranchResolution core s
  | .checkpoint core => Sys2Proof.Machine.execCheckpoint core s
  | .storePerform core => Sys2Proof.Machine.execStorePerform core s
  | .loadDataReturn core => Sys2Proof.Machine.execLoadDataReturn core s
  | .asyncTrap core => Sys2Proof.Machine.execAsyncTrap core s
  | .forcedSave core => Sys2Proof.Machine.execForcedSave core s
  | .savewaitEnd core => Sys2Proof.Machine.execSavewaitEnd core s
  | .eventLatchSet core => Sys2Proof.Machine.execEventLatchSet core s
  | .matrixCommandBegin core => Sys2Proof.Machine.execMatrixCommandBegin core s
  | .matrixCommandComplete core => Sys2Proof.Machine.execMatrixCommandComplete core s
  | .copyCommandComplete core q => Sys2Proof.Machine.execCopyCommandComplete core q s
  | .streamGroupArrival core k => Sys2Proof.Machine.execStreamGroupArrival core k s
  | .streamOutputWrite core k => Sys2Proof.Machine.execStreamOutputWrite core k s
  | .temporalGrant cl => Sys2Proof.Machine.execTemporalGrant cl s
  | .temporalCommandBegin cl => Sys2Proof.Machine.execTemporalCommandBegin cl s
  | .temporalCommandComplete cl => Sys2Proof.Machine.execTemporalCommandComplete cl s
  | .barrierAccess cl => Sys2Proof.Machine.execBarrierAccess cl s
  | .capstanIssue core => Sys2Proof.Machine.execCapstanIssue core s
  | .regulationAdmit die point guest => Sys2Proof.Machine.execRegulationAdmit die point guest s
  | .regulatorTick => Sys2Proof.Machine.execRegulatorTick s
  | .budget die point guest => Sys2Proof.Machine.execBudget die point guest s
  | .l2Lookup req => Sys2Proof.Machine.execL2Lookup req s
  | .controllerAccess req => Sys2Proof.Machine.execControllerAccess req s
  | .translationWalk core => Sys2Proof.Machine.execTranslationWalk core s
  | .wpgtAnswer core resume => Sys2Proof.Machine.execWpgtAnswer core resume s
  | .shadowInvalidate guest lo hi => Sys2Proof.Machine.execShadowInvalidate guest lo hi s
  | .channelRefresh die ch => Sys2Proof.Machine.execChannelRefresh die ch s
  | .channelRetirement die ch => Sys2Proof.Machine.execChannelRetirement die ch s
  | .clusterSwap cl => Sys2Proof.Machine.execClusterSwap cl s
  | .clusterRetire cl => Sys2Proof.Machine.execClusterRetire cl s
  | .coreRetire core => Sys2Proof.Machine.execCoreRetire core s
  | .sramRowRepair core row => Sys2Proof.Machine.execSramRowRepair core row s
  | .l2WayRetire way => Sys2Proof.Machine.execL2WayRetire way s
  | .walkerFailover die => Sys2Proof.Machine.execWalkerFailover die s
  | .meshLinkFailure die => Sys2Proof.Machine.execMeshLinkFailure die s
  | .dieLinkLoss link => Sys2Proof.Machine.execDieLinkLoss link s
  | .commandStreamTailWrite guest k v => Sys2Proof.Machine.execCommandStreamTailWrite guest k v s
  | .commandStreamDisable guest k => Sys2Proof.Machine.execCommandStreamDisable guest k s
  | .haltClear guest k => Sys2Proof.Machine.execHaltClear guest k s
  | .streamEntryTake guest k => Sys2Proof.Machine.execStreamEntryTake guest k s
  | .nodeEnter guest k => Sys2Proof.Machine.execNodeEnter guest k s
  | .eventNode guest node => Sys2Proof.Machine.execEventNode guest node s
  | .hostirqNode guest node => Sys2Proof.Machine.execHostirqNode guest node s
  | .spliceNode guest node => Sys2Proof.Machine.execSpliceNode guest node s
  | .condNode guest k => Sys2Proof.Machine.execCondNode guest k s
  | .kernelRecordReady guest rcd => Sys2Proof.Machine.execKernelRecordReady guest rcd s
  | .groupPlacement guest => Sys2Proof.Machine.execGroupPlacement guest s
  | .groupComplete guest rcd grp => Sys2Proof.Machine.execGroupComplete guest rcd grp s
  | .frameStart => Sys2Proof.Machine.execFrameStart s
  | .windowGuard k => Sys2Proof.Machine.execWindowGuard k s
  | .windowEnd k => Sys2Proof.Machine.execWindowEnd k s
  | .contractLoad guest v => Sys2Proof.Machine.execContractLoad guest v s
  | .start guest => Sys2Proof.Machine.execStart guest s
  | .stop guest => Sys2Proof.Machine.execStop guest s
  | .reset guest => Sys2Proof.Machine.execReset guest s
  | .resize guest part => Sys2Proof.Machine.execResize guest part s
  | .generate guest => Sys2Proof.Machine.execGenerate guest s
  | .importKey guest => Sys2Proof.Machine.execImportKey guest s
  | .erase guest => Sys2Proof.Machine.execErase guest s
  | .poolAlloc guest => Sys2Proof.Machine.execPoolAlloc guest s
  | .poolFree pa => Sys2Proof.Machine.execPoolFree pa s
  | .frameScrub => Sys2Proof.Machine.execFrameScrub s
  | .attestation guest => Sys2Proof.Machine.execAttestation guest s
  | .eventCounterAdd guest e v => Sys2Proof.Machine.execEventCounterAdd guest e v s
  | .irqTimer guest vec => Sys2Proof.Machine.execIrqTimer guest vec s
  | .vectorUnmask guest vec => Sys2Proof.Machine.execVectorUnmask guest vec s
  | .hostClaim res => Sys2Proof.Machine.execHostClaim res s
  | .hostRelease res => Sys2Proof.Machine.execHostRelease res s
  | .debugStop core => Sys2Proof.Machine.execDebugStop core s
  | .halt core => Sys2Proof.Machine.execHalt core s
  | .resume core => Sys2Proof.Machine.execResume core s
  | .dbgDataWrite core v => Sys2Proof.Machine.execDbgDataWrite core v s
  | .traceEnable cl v => Sys2Proof.Machine.execTraceEnable cl v s
  | .traceSample cl k => Sys2Proof.Machine.execTraceSample cl k s
  | .pmctlClr core => Sys2Proof.Machine.execPmctlClr core s
  | .counterLowRead core k => Sys2Proof.Machine.execCounterLowRead core k s
  | .mcinv core => Sys2Proof.Machine.execMcinv core s
  | .replayGo guest => Sys2Proof.Machine.execReplayGo guest s
  | .replayAbort guest => Sys2Proof.Machine.execReplayAbort guest s
  | .replayPass guest => Sys2Proof.Machine.execReplayPass guest s
  | .perstN => Sys2Proof.Machine.execPerstN s
  | .dieBringup die pass => Sys2Proof.Machine.execDieBringup die pass s
  | .full => Sys2Proof.Machine.execFull s
  | .thermalTrip => Sys2Proof.Machine.execThermalTrip s
  | .tsync => Sys2Proof.Machine.execTsync s
  | .tsyncTimeout => Sys2Proof.Machine.execTsyncTimeout s
  | .functionLevelReset guest => Sys2Proof.Machine.execFunctionLevelReset guest s
  | .hostWindowAccess guest write addr data => Sys2Proof.Machine.execHostWindowAccess guest write addr data s
  | .signalDetect port => Sys2Proof.Machine.execSignalDetect port s
  | .trainingComplete port => Sys2Proof.Machine.execTrainingComplete port s
  | .trainingTimeout port => Sys2Proof.Machine.execTrainingTimeout port s
  | .rateFallback port => Sys2Proof.Machine.execRateFallback port s
  | .linkReport port rep => Sys2Proof.Machine.execLinkReport port rep s
  | .flitReceive port flit => Sys2Proof.Machine.execFlitReceive port flit s
  | .flitResend port => Sys2Proof.Machine.execFlitResend port s
  | .flitSilence port => Sys2Proof.Machine.execFlitSilence port s
  | .rekey port => Sys2Proof.Machine.execRekey port s
  | .remoteAccess acc => Sys2Proof.Machine.execRemoteAccess acc s
  | .remoteResponse id ok data => Sys2Proof.Machine.execRemoteResponse id ok data s
  | .collectiveComplete guest peers => Sys2Proof.Machine.execCollectiveComplete guest peers s
  | .collectiveTimeout guest => Sys2Proof.Machine.execCollectiveTimeout guest s
  | .fcgrpWrite guest v => Sys2Proof.Machine.execFcgrpWrite guest v s
  | .portDown port why => Sys2Proof.Machine.execPortDown port why s
  | .peerLossNotice news => Sys2Proof.Machine.execPeerLossNotice news s
  | .abortMessage guest news => Sys2Proof.Machine.execAbortMessage guest news s
  | .abortAckTimeout port => Sys2Proof.Machine.execAbortAckTimeout port s
  | .fabricDisable => Sys2Proof.Machine.execFabricDisable s
  | .fabLogRead => Sys2Proof.Machine.execFabLogRead s
  | .windowRewrite win base cfg => Sys2Proof.Machine.execWindowRewrite win base cfg s
  | .windowRevocation car => Sys2Proof.Machine.execWindowRevocation car s
  | .registerWrite space off v => Sys2Proof.Machine.execRegisterWrite space off v s
  | .illegalEncoding core => Sys2Proof.Machine.execIllegalEncoding core s
  | .idleBundle hdr => Sys2Proof.Machine.execIdleBundle hdr s
  | .hostPhysicalAccess write addr data => Sys2Proof.Machine.execHostPhysicalAccess write addr data s
  | .gcMinWrite guest v => Sys2Proof.Machine.execGcMinWrite guest v s
  | .pmcsrWrite d3 => Sys2Proof.Machine.execPmcsrWrite d3 s
  | .ieee11491 ir data => Sys2Proof.Machine.execIeee11491 ir data s
  | .powerLoss => Sys2Proof.Machine.execPowerLoss s
  | .recoveryMailbox data => Sys2Proof.Machine.execRecoveryMailbox data s

end Sys2Proof.Machine
end

