-- ==== Sys2Proof/Machine/Step.lean ====
section
/-! DEFINITION. One step of the machine, with the meanings of `exec`. -/

namespace Sys2Proof.Machine

/-- One step of the machine. -/
def step (s : State) : Host.Outcome State Fault Refusal := s.stepWith exec

/-- The state in which the next step fetches and runs one instruction. -/
def State.withFetchWord (s : State) (nbits w : Nat) : State := s.placeWord nbits w

end Sys2Proof.Machine
end

