-- ==== Sys2Proof/Machine/Views.lean ====
section
/-! DEFINITION. What a read of a memory-mapped register returns (R371, R414, R433, R447 to R451, R475, R483, R489, R508,
R528). The three reads that change the machine are the events POOL_ALLOC, FAB_LOG_READ and COUNTER_LOW_READ; a read of any other register
leaves the state as it is, and this file gives its value. Reserved bits and write-only fields read as 0. -/

namespace Sys2Proof.Machine

/-- A word of single-bit and wider fields: the value of each field and its lowest bit. -/
def word (fs : List (Nat × Nat)) : Nat := fs.foldl (fun w f => w + f.1 * 2 ^ f.2) 0

/-- A register of a regulation point (R371); HELD tells whether a request of the guest is held now. -/
def State.readPoint (s : State) (die p r : Nat) : Nat :=
  if !pointExists p then 0
  else if r < 0x400 then
    let g := r / 0x40
    let b := s.bucket die p g
    match r % 0x40 with
    | 0x00 => (b.level % 2 ^ 32).toNat
    | 0x08 => b.depth
    | 0x10 => b.rate
    | 0x18 => word [(b.mode, 0), (b2n b.shr, 2), (b2n (s.holds die p g), 8), (b.hcnt, 16)]
    | 0x20 => b.hold
    | _ => 0
  else if r < 0x420 then
    ((s.wheels.get (List.replicate 4 (BitVec.allOnes 64)) (32 * die + p)).getD ((r - 0x400) / 8) 0).toNat
  else 0

/-- A frame register (R433): the value last written. -/
def State.readFrame (s : State) (r : Nat) : Nat :=
  let f := s.frame.next
  let w := f.wins.get {} ((r - 0x100) / 0x10)
  if r = 0x000 then word [(f.pydl, 0), (b2n f.en, 63)]
  else if r = 0x008 then f.len
  else if r = 0x010 then s.frame.werr
  else if r < 0x100 ∨ 0x200 ≤ r then 0
  else if r % 0x10 = 0 then word [(w.start, 0), (w.wlen, 24), (w.guard, 48), (w.guest, 56), (b2n w.en, 63)]
  else if r % 0x10 = 8 then w.clmask
  else 0

/-- A register of a contract (R451). -/
def Contract.read (c : Contract) (r : Nat) : Nat :=
  match r with
  | 0x00 => word [(c.gstate, 0), (c.err, 8), (c.cls, 32), (c.maxscope, 40), (c.tenant, 48), (b2n c.en, 63)]
  | 0x08 => word [(c.part, 0), (b2n c.rsz, 63)]
  | 0x10 => word [(c.ways, 0), (b2n c.share, 32)]
  | 0x18 => word [(c.wlen, 16), (c.woff, 32)]
  | 0x20 => word [(c.gen, 0), (c.root, 0)]
  | 0x28 => word [(c.ws.getD 0 0, 0), (c.ws.getD 1 0, 8), (c.ws.getD 2 0, 16), (c.ws.getD 3 0, 24)]
  | 0x30 => word [(c.sfl, 3)]
  | 0x38 => c.sfln
  | 0x40 => word [(c.minwin, 0), (c.mincl, 32), (c.minways, 40), (c.minbw, 48)]
  | 0x48 => word [(c.effwin, 0), (c.effcl, 32), (c.effways, 40), (c.effbw, 48)]
  | 0x50 => word [(c.keySrc, 0), (b2n c.keyValid, 62)]
  | 0x58 => word [(c.dprp, 0), (c.dpra, 12)]
  | _ => if 0x68 ≤ r ∧ r ≤ 0x80 ∧ r % 8 = 0 then c.caps.getD ((r - 0x68) / 8) 0 else 0

/-- A register of a trace unit (R483). -/
def TraceUnit.read (u : TraceUnit) (host : Bool) (r : Nat) : Nat :=
  match r with
  | 0x00 => word [(u.base, 12), (b2n u.en, 63)]
  | 0x08 => word [(u.pages, 0), (b2n u.wrap, 16)]
  | 0x10 => u.ptr
  | 0x18 => word [(u.types, 0), (u.cores, 16), (u.period, 32), (if host then u.gmask else 0, 48)]
  | 0x20 => u.lost
  | _ => 0

/-- The status registers of the debug block of core n in a view: 0 while it does not act on the context there (R475). -/
def State.readDebugStat (s : State) (host : Bool) (n r : Nat) : Nat :=
  let d := (s.coreAt n).dbg
  if (s.dbgView host n).isNone then 0
  else match r with
  | 0x08 => word [(b2n d.stopped, 0), (d.why, 1), (d.code, 16)]
  | 0x10 => d.addr
  | 0x20 => (s.dbgData (s.dbgView host n) n).toNat
  | _ => 0

/-- A register of the debug block of core n in the host's view (R475). -/
def State.readDebugHost (s : State) (n r : Nat) : Nat :=
  match r with
  | 0x00 => word [((s.plat.hostRegs.get 0 (2 * n)).toNat, 0), (s.plat.hostGmask.get 0 n, 16)]
  | 0x18 => (s.plat.hostRegs.get 0 (2 * n + 1)).toNat
  | _ => s.readDebugStat true n r

/-- A register of the debug block of core n in the view of guest g: 0 while it does not hold the trace unit (R475). -/
def State.readDebugGuest (s : State) (g n r : Nat) : Nat :=
  if s.plat.res.get 0 (256 + clOf n) ≠ g + 1 then 0
  else match r with
  | 0x00 => (s.coreAt n).dbg.ctl.toNat
  | 0x18 => (s.coreAt n).dbg.sel.toNat
  | _ => if (s.coreAt n).guest = g then s.readDebugStat false n r else 0

/-- The host's block of the counter bank of core n (R486): the halves of the counters, 0 while the host has no bank there. -/
def State.readHostBank (s : State) (n r : Nat) : Nat :=
  if s.hostBank n && decide (r < 0x40) && r % 8 == 0 then (s.coreAt n).hostBankGet (0x100 + r / 8) else 0

/-- A replay register of guest g (R489). -/
def State.readReplay (s : State) (g r : Nat) : Nat :=
  let p := (s.guestAt g).rpl
  match r with
  | 0x00 => p.node
  | 0x08 => p.sel
  | 0x10 => word [(p.snap, 12)]
  | 0x18 => p.pages
  | 0x20 => p.out
  | 0x28 => word [(p.passes, 0), (b2n p.busy, 16)]
  | 0x30 => word [(p.done, 0), (p.firstmm, 8), (p.reason, 16)]
  | _ => 0

/-- A register of the platform block (R508). -/
def State.readPlatform (s : State) (r : Nat) : Nat :=
  let p := s.plat
  match r with
  | 0x00 => word [(p.stage, 0), (p.dieup, 8), (p.reddie, 12), (b2n p.instr, 32), (b2n p.recov, 33), (b2n p.therm, 34), (b2n p.fatal, 35)]
  | 0x10 => word [(p.chCap, 0), (p.rsz, 16), (p.memtop, 32)]
  | 0x18 => p.memRet
  | 0x20 => word [(b2n p.tsStep, 62), (b2n p.tsEn, 63)]
  | 0x28 => p.tsSec
  | 0x30 => word [(p.tsErr, 0), (b2n p.tsLock, 63)]
  | 0x38 => p.cap
  | 0x40 => word [(p.cstep, 0), (p.avg, 32), (p.tj, 48)]
  | 0x48 => word [(p.chce, 16), (p.clce, 32), (p.rowce, 48)]
  | _ => 0

/-- A register of the fabric block (R528); FAB_LOG as it stands before its read clears it. -/
def State.readFabric (s : State) (r : Nat) : Nat :=
  let f := s.fab
  if r = 0x000 then word [(f.topo, 0), (f.car, 8), (f.ncar, 12), (b2n f.en, 63)]
  else if 0x008 ≤ r ∧ r ≤ 0x020 then (f.root.getD ((r - 8) / 8) 0).toNat
  else if r = 0x028 then f.log.toNat
  else if 0x040 ≤ r ∧ r < 0x0C0 then
    (let p := f.ports.get {} ((r - 0x40) / 0x40)
     match r % 0x40 with
     | 0x00 => word [(p.state, 0), (p.why, 4), (p.peer, 8), (b2n p.peerv, 11), (b2n p.rate, 12)]
     | 0x08 => word [(p.fecc, 0), (p.retry, 32)]
     | o => if 0x10 ≤ o ∧ o < 0x30 then (p.wheel.getD ((o - 0x10) / 8) 0).toNat else 0)
  else if 0x100 ≤ r ∧ r < 0x300 then
    (let w := f.wins.get {} ((r - 0x100) / 0x10)
     if r % 0x10 = 0 then word [(w.base, 21), (b2n w.enc, 61), (b2n w.w, 62), (b2n w.en, 63)]
     else if r % 0x10 = 8 then word [(w.size, 0), (w.guest, 32), (w.tenant, 48)]
     else 0)
  else if 0x300 ≤ r ∧ r < 0x380 then
    (let c := f.grp.get {} ((r - 0x300) / 8)
     word [(c.memb, 0), (c.tmo, 8), (c.seqNo % 2 ^ 32, 16), (b2n c.broken, 63)])
  else 0

/-- A register of the Bowline register space. -/
def State.readBowline (s : State) (off : Nat) : Nat :=
  let blk := off / 0x100000
  let o := off % 0x100000
  if blk < 4 then s.readPoint blk (o / 0x1000) (o % 0x1000)
  else if blk = 0x8 then s.readFrame o
  else if blk = 0x9 then (if o < 0x1000 then (s.gc (o / 0x100)).read (o % 0x100) else 0)
  else if blk = 0xB then
    (if o < 0x800 then (s.clAt (o / 0x40)).trc.read true (o % 0x40)
     else if o < 0x4800 then s.readDebugHost ((o - 0x800) / 0x40) ((o - 0x800) % 0x40)
     else if 0x40000 ≤ o ∧ o < 0x44000 then s.readHostBank ((o - 0x40000) / 0x40) ((o - 0x40000) % 0x40)
     else if 0x80000 ≤ o ∧ o < 0x81000 then s.readReplay ((o - 0x80000) / 0x100) (o % 0x100)
     else 0)
  else if blk = 0xC then s.readPlatform o
  else if blk = 0xD then s.readFabric o
  else 0

/-- A register of command stream k (R414). -/
def Cms.read (q : Cms) (r : Nat) : Nat :=
  match r with
  | 0x00 => word [(q.logn, 0), (q.base, 12), (b2n q.en, 63)]
  | 0x08 => q.tail
  | 0x10 => q.head
  | 0x18 => word [(b2n q.run, 0), (b2n q.halt, 1), (b2n q.arm, 2), (q.errk, 4), (q.cause, 8)]
  | 0x20 => q.epoch
  | 0x28 => q.faddr
  | _ => 0

/-- A word of BAR2 of virtual function g + 1 (R447): the entries of the MSI-X table, then the pending bits of the 64 vectors
(log entry 110). -/
def State.readMsix (s : State) (g off : Nat) : Nat :=
  let irq := (s.guestAt g).irq
  if off < 0x400 then
    let q := irq.get {} (off / 16)
    if off % 16 = 0 then q.addr else word [(q.data, 0), (b2n q.masked, 32)]
  else if off = 0x400 then word ((List.range 64).map (fun k => (b2n (irq.get {} k).waiting, k)))
  else 0

/-- A word of the MSI-X table of the physical function and of the pending bits of its 16 vectors (R493). -/
def State.readPfMsix (s : State) (off : Nat) : Nat :=
  if off < 0x100 then
    let q := s.plat.pfIrq.get {} (off / 16)
    if off % 16 = 0 then q.addr else word [(q.data, 0), (b2n q.masked, 32)]
  else if off = 0x100 then word ((List.range 16).map (fun k => (b2n (s.plat.pfIrq.get {} k).waiting, k)))
  else 0

/-- What the I3C target at 0x3A serves: a read-only mirror of PLAT_STAT and PWR_STAT (R507). -/
def State.i3cRead (s : State) (r : Nat) : Nat := if r = 0x00 ∨ r = 0x40 then s.readPlatform r else 0

/-- What the capabilities of the functions give (R493): TotalVFs, First VF Offset and VF Stride; Max Payload and Max Read
Request in bytes; the MSI-X vectors of a function. -/
def sriov : Nat × Nat × Nat := (16, 1, 1)
/-- Max Payload and Max Read Request in bytes (R493). -/
def pcieSizes : Nat × Nat := (512, 4096)
/-- The MSI-X vectors of function f, 0 being the physical one (R493, R447). -/
def msixVectors (f : Nat) : Nat := if f = 0 then 16 else 64

/-- A register of BAR0 of virtual function g + 1 (R447); the contract view hides the key fields. -/
def State.readVf (s : State) (g off : Nat) : Nat :=
  let x := s.guestAt g
  if off = 0 then s.gstate g
  else if 0x1000 ≤ off ∧ off < 0x1100 then (x.cms.get {} ((off - 0x1000) / 0x40)).read (off % 0x40)
  else if 0x2000 ≤ off ∧ off < 0x2800 then (x.ev.get 0 ((off - 0x2000) / 8)).toNat
  else if off = 0x3000 then word [(x.sevN, 0), (x.sevBase, 12), (b2n x.sevLost, 62), (b2n x.sevEn, 63)]
  else if off = 0x3008 then x.sevTail
  else if off = 0x3010 then x.sevHead
  else if 0x4000 ≤ off ∧ off < 0x4400 then
    (let q := x.irq.get {} ((off - 0x4000) / 0x10)
     if off % 0x10 = 0 then word [(q.icnt, 0), (q.itime, 32)] else if off % 0x10 = 8 then q.pend else 0)
  else if 0x5000 ≤ off ∧ off ≤ 0x5048 then x.gc.read (off - 0x5000)
  else if 0x6000 ≤ off ∧ off < 0x7000 then
    (let p := (off - 0x6000) % 0x400 / 0x20
     let d := (off - 0x6000) / 0x400
     match off % 0x20 with
     | 0x00 => s.readPoint d p (0x40 * g)
     | 0x08 => s.readPoint d p (0x40 * g + 0x18)
     | _ => 0)
  else if off = 0x7000 then x.attNonce
  else if off = 0x7008 then x.attOut
  else if 0x8000 ≤ off ∧ off < 0x8800 then
    (let cl := (off - 0x8000) / 0x40
     -- of a LENT unit its holder reads the frozen values (R463)
     let h := s.plat.res.get 0 (256 + cl)
     if h = g + 1 then (s.clAt cl).trc.read false (off % 0x40)
     else if h = g + 18 then ((s.clAt cl).lent.getD {}).read false (off % 0x40) else 0)
  else if 0x8800 ≤ off ∧ off < 0xC800 then s.readDebugGuest g ((off - 0x8800) / 0x40) ((off - 0x8800) % 0x40)
  else if 0xD000 ≤ off ∧ off < 0xD100 then s.readReplay g (off - 0xD000)
  else if off = 0xE000 then x.hwin
  else 0

end Sys2Proof.Machine
end

