-- ==== Sys2Proof/Safety.lean ====
section
/-! DEFINITION. The terms in which claims about the machine are stated: which steps are safe, which registers two states
agree on, what a state holds when the bundle at a program counter is about to issue, and the invariant of memory. -/

namespace Sys2Proof.Machine

/-- The machine goes on: its next step is neither a fault nor a refusal. -/
def State.goesOn (s : State) : Prop := ∃ t, step s = .next t

/-- Memory is in its canonical form. -/
def State.memOk (s : State) : Prop := Memory.wf s.mem = true

/-! ### Frames -/

/-- The register files of a core (R109 to R111, R146, R147, R184, R190, R237). -/
inductive RegFile where
  | s
  | handler
  | g
  | a
  | b
  | k
  | x
  | w
  | y
  | h
  | j
  deriving DecidableEq, Repr

/-- Two synchronous states agree on every register that `keep` names, by file and physical number, on the age of those that
rotate (R271), and on what later merges read of those that an older result landed over (R149). -/
structure Sync.AgreeOn (keep : RegFile → Nat → Prop) (u v : Sync) : Prop where
  s : ∀ i, keep .s i → v.s.get 0 i = u.s.get 0 i
  handler : ∀ i, keep .handler i → v.hb.get 0 i = u.hb.get 0 i
  g : ∀ i, keep .g i → v.g.get false i = u.g.get false i
  a : ∀ i, keep .a i → v.a.get {} i = u.a.get {} i
  b : ∀ i, keep .b i → v.b.get {} i = u.b.get {} i
  k : ∀ i, keep .k i → v.k.get (BitVec.allOnes 256) i = u.k.get (BitVec.allOnes 256) i
  x : ∀ i, keep .x i → v.x.get 0 i = u.x.get 0 i
  w : ∀ i, keep .w i → v.w.get 0 i = u.w.get 0 i
  y : ∀ i, keep .y i → v.y.get 0 i = u.y.get 0 i
  h : ∀ i, keep .h i → v.h.get 0 i = u.h.get 0 i
  j : ∀ i, keep .j i → v.j.get 0 i = u.j.get 0 i
  agesA : ∀ i, i < 32 → keep .a i → v.ages.get 0 i = u.ages.get 0 i
  agesB : ∀ i, i < 32 → keep .b i → v.ages.get 0 (32 + i) = u.ages.get 0 (32 + i)
  coveredA : ∀ i, i < 32 → keep .a i → ∀ d, v.covered.get d (vKey false i) = u.covered.get d (vKey false i)
  coveredB : ∀ i, i < 32 → keep .b i → ∀ d, v.covered.get d (vKey true i) = u.covered.get d (vKey true i)

/-- Two synchronous states agree on what is no register of a file, but for the random state, WARN and the landing times:
the program counter, rotation, loops, streams, rings, tile states, lane patterns and the tick window. -/
structure Sync.AgreeControl (u v : Sync) : Prop where
  pc : v.pc = u.pc
  rrb : v.rrb = u.rrb
  ldepth : v.ldepth = u.ldepth
  loop : v.loop = u.loop
  streams : v.streams = u.streams
  rings : v.rings = u.rings
  zst : v.zst = u.zst
  zclr : v.zclr = u.zclr
  lp : v.lp = u.lp
  twin : v.twin = u.twin

/-- Nothing differs but the synchronous state of the core in focus: memory, caches, queues, every other core, guest and
device register, and the traps, modes and counters of the core itself stand as before (WARN bits that a bundle sets are
kept beside it as well, R47). In the synchronous state the registers that `keep` names, everything that `AgreeControl`
lists and the random state agree; WARN keeps the bits it has and gains none outside `bits`. -/
def State.Frame (keep : RegFile → Nat → Prop) (bits : List Nat) (s t : State) : Prop :=
  (t = s ∨ ∃ w, t = { s.modSync (fun _ => t.core.sync) with cx := { s.cx with warn := w } }) ∧
    Sync.AgreeOn keep s.core.sync t.core.sync ∧ Sync.AgreeControl s.core.sync t.core.sync ∧
    t.core.sync.rng = s.core.sync.rng ∧
    (∀ n, n ∉ bits → t.core.sync.warn.testBit n = s.core.sync.warn.testBit n) ∧
    (∀ n, s.core.sync.warn.testBit n = true → t.core.sync.warn.testBit n = true) ∧
    (∀ a, memGet t.mem a = memGet s.mem a)

/-- Every register but s register d, in the mode the core is in. -/
def State.allButS (s : State) (d : Nat) (f : RegFile) (i : Nat) : Prop :=
  match f with
  | .s => ¬ (i = d ∧ s.sKey d = kS d)
  | .handler => ¬ (i = d ∧ s.sKey d ≠ kS d)
  | _ => True

/-- Every register but guard e. -/
def allButG (e : Nat) (f : RegFile) (i : Nat) : Prop := match f with | .g => i ≠ e | _ => True

/-- Every register but register r of a vector file. -/
def State.allButV (s : State) (b : Bool) (r : Nat) (f : RegFile) (i : Nat) : Prop :=
  match f with
  | .a => b = true ∨ i ≠ phys s.pre.rrb r
  | .b => b = false ∨ i ≠ phys s.pre.rrb r
  | _ => True

/-- Every register but mask register i. -/
def allButK (k : Nat) (f : RegFile) (i : Nat) : Prop := match f with | .k => i ≠ k | _ => True

/-- Every register. -/
def allRegs (_ : RegFile) (_ : Nat) : Prop := True

/-! ### The bundle about to issue -/

/-- The turn of the core in focus comes next: no event from outside, no event of the machine and no work of Bowline
stands before it, and the core runs a context with nothing held before its next bundle. -/
structure State.AtIssue (s : State) : Prop where
  memue : s.memue = []
  inputs : s.inputs = []
  due : s.dueEvent = none
  chores : s.housekeeping = none
  running : s.core.running = true
  noYield : s.core.yieldPend = none
  noHeld : s.issueHeld = false
  ready : s.core.readyAt ≤ s.now

/-- The bundle b stands at the program counter and passes the address and fetch checks of R51, and it does not pass the
end of a part (R276). -/
structure State.Fetched (s : State) (b : Bundle) : Prop where
  aligned : s.core.sync.pc % 4 = 0
  inSpace : s.core.sync.pc < 2 ^ 48
  bundle : s.core.bundle = some b
  inPart : s.core.passesPart b.len = false

/-- The state in which the slots of a bundle run: they read the state before it (R49). -/
def State.slotState (s : State) (b : Bundle) (l : List Instr) : State :=
  { s.beginBundle b.len b.hdr.mask with
    cx := { (s.beginBundle b.len b.hdr.mask).cx with post := l.any (fun i => ckptAround i (s.guardOf i)) } }

/-- The state after the turn in which a bundle came to issue: the turn passes on, unless the data of a missing load has
just returned and the next bundle may issue in this cycle (R128). -/
def State.afterTurn (s t : State) : State :=
  if s.core.missed && t.core.seqNo != s.core.seqNo && t.core.running && decide (t.core.readyAt ≤ s.now) then t else t.passTurn

/-! ### What accesses are charged -/

/-- A state in which the accesses of a step collect what they are charged (R364, R365). -/
def State.collecting (s : State) : State := { s with pays := .collect [] }

/-- The charges that the accesses up to a state have collected: bucket and units. -/
def State.charges (s : State) : List (Nat × Nat) := match s.pays with | .collect l => l | _ => []

/-- The requests of an agent for the charges of the accesses up to u have passed their points and have been served, and
nothing of the agent stands at a point or waits at the walker (R366, R367, R370, R380). -/
def State.Through (s : State) (o : Payer) (u : State) : Prop :=
  s.pays = .post ∧ s.waiting o = false ∧ s.short o u.charges = []

/-- A state that accesses have left, with what the agent had been granted for them used up. -/
def State.paidUp (u : State) (o : Payer) : State :=
  { u.leaveWalker o with pays := .post, grants := u.grants.filter (fun x => x.payer != o) }

/-! ### Operand B of a vector word -/

/-- Operand B of a vector word of W lane bits is there (R151 to R153): a register, a constant, or the group of an input
stream whose elements have arrived without a failure. -/
def State.BReady (s : State) (b : BitVec 6) (W : Nat) : Prop :=
  b.toNat < 32 ∨ 48 ≤ b.toNat ∨
    (let q := s.pre.streams.get {} (b.toNat - 32)
     let n := W / tagBits q.dfmt
     q.isIn = true ∧ (n ≤ q.buf.length ∨ q.size ≤ q.pos + q.buf.length) ∧ ∀ e ∈ q.buf.take n, e.err = none)

/-- What an instruction takes as operand B: the register, the constant, or the group, which its stream gives up. -/
def State.TakesB (s : State) (sl : Bool) (b : BitVec 6) (W : Nat) (t : State) (o : VOpd) : Prop :=
  s.vB sl b W = (t, some o) ∧
    (b.toNat < 32 → t = s ∧ o = s.vReg sl b.toNat) ∧ (48 ≤ b.toNat → t = s) ∧
    (32 ≤ b.toNat → b.toNat < 48 →
      let q := s.pre.streams.get {} (b.toNat - 32)
      let n := W / tagBits q.dfmt
      o.tag = q.dfmt ∧ t = s.modStream (b.toNat - 32) (fun x => { x with buf := x.buf.drop n, pos := x.pos + n }))

/-! ### Where an access of the S path goes -/

/-- The n bytes at va are aligned to n, lie within one line and translate, without a walk, to the place t (R124, R288); kind 1
is a load, 2 a store, 3 an atomic. -/
def State.Places (s : State) (va kind n : Nat) (t : Tgt) : Prop :=
  va < 2 ^ 48 ∧ 0 < n ∧ (va % n = 0 ∧ va % 128 + n ≤ 128) ∧ s.sResolve va kind = (s, .ok (some t))

/-- The n bytes at va lie at offset o of the core's own scratchpad, in a row that has not failed. -/
def State.OwnSpad (s : State) (va kind n o : Nat) : Prop :=
  s.Places va kind n (.spad s.focus o) ∧ s.core.spadBad o n = false

/-- The answer of the home to a request of the present bundle for the n bytes at va, which translate to t, is there. -/
def State.Answered (s : State) (va kind n : Nat) (t : Tgt) (b : List Nat) : Prop :=
  s.Places va kind n t ∧ s.answer va = some (b, 0) ∧ b.length = n

/-- n bytes of the core's own scratchpad. -/
def State.spadBytes (s : State) (o n : Nat) : List Nat := (List.range n).map (fun i => s.spadGet s.focus (o + i))

/-- The n bytes at va lie in cached memory, in the line l of the core's L1, which is in no failed row (R283). -/
def State.HitsL1 (s : State) (va kind n pa sel : Nat) (l : L1Line) : Prop :=
  s.Places va kind n (.mem pa sel) ∧ s.core.l1Find pa sel = some l ∧ s.core.lineBad l = false ∧ l.data.length = 128

/-- The core in focus with another withholding buffer. -/
def State.setStores (s : State) (l : List Store) : State := s.modCore (fun k => { k with stores := l })

/-- The scratchpad of the core in focus with the bytes b at offset o. -/
def State.putSpad (s : State) (o : Nat) (b : List Nat) : State := s.modCore (fun k => { k with spad := spadPut k.spad o b })

end Sys2Proof.Machine
end

