-- ==== Sys2Proof/Certificates/Slice0/Obligations.lean ====
section
/-! DEFINITION. The statements for the provers, each about the machine as a whole and none about a program: encodings,
the step, the results and frames of the instructions, traps and checkpoints, the events, and the invariants. -/

section

open Sys2Proof Sys2Proof.Machine

/-- R114, R115: every three-register and two-register integer instruction, its guard true, completes and writes sD with
the result of the table; only a zero divisor sets a bit of WARN, DIVZ. -/
def Obligations.IntegerResults : Prop :=
  (∀ (o : OpSR) (s : State), s.guardOn o.g o.n = true →
    let a := s.rs o.a
    let b := s.rs o.b
    let d (v : W64) (lat : Nat) : State := s.ws o.d v lat
    exec (.add o) s = .next (d (BitVec.ofNat 64 (a.toNat + b.toNat)) 1) ∧
    exec (.sub o) s = .next (d (BitVec.ofInt 64 ((a.toNat : Int) - b.toNat)) 1) ∧
    exec (.mul o) s = .next (d (BitVec.ofNat 64 (a.toNat * b.toNat)) 3) ∧
    exec (.mulh o) s = .next (d ((a.signExtend 128 * b.signExtend 128).extractLsb' 64 64) 3) ∧
    exec (.mulhu o) s = .next (d ((a.setWidth 128 * b.setWidth 128).extractLsb' 64 64) 3) ∧
    (b ≠ 0 →
      exec (.div o) s = .next (d (BitVec.ofInt 64 (a.toInt.tdiv b.toInt)) 18) ∧
      exec (.divu o) s = .next (d (BitVec.ofNat 64 (a.toNat / b.toNat)) 18) ∧
      exec (.rem o) s = .next (d (BitVec.ofInt 64 (a.toInt.tmod b.toInt)) 18) ∧
      exec (.remu o) s = .next (d (BitVec.ofNat 64 (a.toNat % b.toNat)) 18)) ∧
    (b = 0 →
      exec (.div o) s = .next ((d (BitVec.allOnes 64) 18).warn wDIVZ true) ∧
      exec (.divu o) s = .next ((d (BitVec.allOnes 64) 18).warn wDIVZ true) ∧
      exec (.rem o) s = .next ((d a 18).warn wDIVZ true) ∧
      exec (.remu o) s = .next ((d a 18).warn wDIVZ true)) ∧
    (a = BitVec.ofInt 64 (-2 ^ 63) → b = BitVec.ofInt 64 (-1) →
      exec (.div o) s = .next (d a 18) ∧ exec (.rem o) s = .next (d 0 18)) ∧
    exec (.and o) s = .next (d (BitVec.ofNat 64 (a.toNat &&& b.toNat)) 1) ∧
    exec (.or o) s = .next (d (BitVec.ofNat 64 (a.toNat ||| b.toNat)) 1) ∧
    exec (.xor o) s = .next (d (BitVec.ofNat 64 (a.toNat ^^^ b.toNat)) 1) ∧
    exec (.shl o) s = .next (d (BitVec.ofNat 64 (a.toNat * 2 ^ (b.toNat % 64))) 1) ∧
    exec (.shr o) s = .next (d (BitVec.ofNat 64 (a.toNat / 2 ^ (b.toNat % 64))) 1) ∧
    exec (.sra o) s = .next (d (BitVec.ofInt 64 (a.toInt / 2 ^ (b.toNat % 64))) 1) ∧
    exec (.min o) s = .next (d (BitVec.ofInt 64 (min a.toInt b.toInt)) 1) ∧
    exec (.max o) s = .next (d (BitVec.ofInt 64 (max a.toInt b.toInt)) 1) ∧
    exec (.minu o) s = .next (d (BitVec.ofNat 64 (min a.toNat b.toNat)) 1) ∧
    exec (.maxu o) s = .next (d (BitVec.ofNat 64 (max a.toNat b.toNat)) 1) ∧
    exec (.addw o) s = .next (d (BitVec.ofInt 64 (BitVec.ofNat 32 (a.toNat + b.toNat)).toInt) 1)) ∧
  (∀ (o : OpSR2) (s : State), s.guardOn o.g o.n = true →
    let a := s.rs o.a
    (∃ n : Nat, exec (.clz o) s = .next (s.ws o.d (BitVec.ofNat 64 n) 1) ∧ n ≤ 64 ∧ a.toNat < 2 ^ (64 - n) ∧
      (n < 64 → 2 ^ (63 - n) ≤ a.toNat)) ∧
    exec (.popc o) s = .next (s.ws o.d (BitVec.ofNat 64 (((List.range 64).map (fun i => a.toNat / 2 ^ i % 2)).sum)) 1) ∧
    exec (.mov o) s = .next (s.ws o.d a 1)) ∧
  (∀ (o : OpSSel) (s : State), s.guardOn o.g o.n = true →
    exec (.sel o) s = .next (s.ws o.d (if s.readG o.x.toNat = true then s.rs o.a else s.rs o.b) 1) ∧
    (o.x = 0 → exec (.sel o) s = .next (s.ws o.d (s.rs o.a) 1))) ∧
  (∀ (o : OpSLea) (s : State), s.guardOn o.g o.n = true →
    exec (.lea o) s = .next (s.ws o.d (BitVec.ofNat 64 ((s.rs o.a).toNat + (s.rs o.b).toNat * 2 ^ o.sh.toNat)) 1))

/-- R116: every immediate instruction, its guard true, completes and writes sD with the result of the table, I being IMM9
sign-extended to 64 bits and the shift amount IMM9[5:0]; IMM9[8:6] of a shift is zero in its word.
R119: MOVI, MOVHI and ADDIL complete and write sD; B and X of their first word are zero, and A of MOVI and MOVHI too; and a MOVHI that reads what a MOVI of an earlier bundle wrote gives
the 64-bit constant of the two immediates. -/
def Obligations.ImmediateAndLongResults : Prop :=
  (
  (∀ (o : OpSI) (s : State), s.guardOn o.g o.n = true →
    let a := s.rs o.a
    exec (.addi o) s = .next (s.ws o.d (BitVec.ofInt 64 (a.toNat + o.i.toInt)) 1) ∧
    exec (.andi o) s = .next (s.ws o.d (a &&& BitVec.ofInt 64 o.i.toInt) 1) ∧
    exec (.ori o) s = .next (s.ws o.d (a ||| BitVec.ofInt 64 o.i.toInt) 1) ∧
    exec (.xori o) s = .next (s.ws o.d (a ^^^ BitVec.ofInt 64 o.i.toInt) 1) ∧
    exec (.muli o) s = .next (s.ws o.d (BitVec.ofInt 64 (a.toNat * o.i.toInt)) 3) ∧
    (o.i.toInt = -64 → ∀ i < 64, (a &&& BitVec.ofInt 64 o.i.toInt).getLsbD i = (decide (6 ≤ i) && a.getLsbD i))) ∧
  (∀ o : OpSSh, ∀ i ∈ [Instr.shli o, .shri o, .srai o], i.encode / 2 ^ 6 % 2 ^ 3 = 0) ∧
  (∀ (o : OpSSh) (s : State), s.guardOn o.g o.n = true →
    let a := s.rs o.a
    exec (.shli o) s = .next (s.ws o.d (BitVec.ofNat 64 (a.toNat * 2 ^ o.i.toNat)) 1) ∧
    exec (.shri o) s = .next (s.ws o.d (BitVec.ofNat 64 (a.toNat / 2 ^ o.i.toNat)) 1) ∧
    exec (.srai o) s = .next (s.ws o.d (BitVec.ofInt 64 (a.toInt / 2 ^ o.i.toNat)) 1))
  ) ∧
  (
  (∀ o : OpSL, (∀ i ∈ [Instr.movi o, .movhi o, .addil o], i.encode % 2 ^ 9 = 0) ∧
    ((Instr.movi o).wf = true → o.a = 0) ∧ ((Instr.movhi o).wf = true → o.a = 0)) ∧
  (∀ (o : OpSL) (s : State), s.guardOn o.g o.n = true →
    exec (.movi o) s = .next (s.ws o.d (BitVec.ofInt 64 o.imm.toInt) 1) ∧
    exec (.movhi o) s = .next (s.ws o.d (BitVec.ofNat 64 (o.imm.toNat * 2 ^ 32 + (s.rs o.d).toNat % 2 ^ 32)) 1) ∧
    exec (.addil o) s = .next (s.ws o.d (BitVec.ofInt 64 ((s.rs o.a).toNat + o.imm.toInt)) 1)) ∧
  (∀ (o p : OpSL) (s t u : State), s.guardOn o.g o.n = true → exec (.movi o) s = .next t → p.d = o.d → o.d ≠ 0 →
    s.overtaken (s.sKey o.d.toNat) 1 = false → u.pre = t.core.sync → u.inHandler = s.inHandler → u.guardOn p.g p.n = true →
    exec (.movhi p) u = .next (u.ws o.d (p.imm ++ o.imm) 1))
  )

/-- R117: every integer compare, its guard true, completes and writes guard GD with the truth of its relation, signed or
unsigned as the table says; with GD = 0 nothing changes. Bit 14 of a compare's word is zero, and X of a register form.
R118: guard logic completes and writes gD; a source is inverted when its bit says so, and both are read at issue, so
that a destination that is also a source gives its old value; the third clause is the rule's example GXOR g2, g2, g3; X is zero in the word. -/
def Obligations.CompareAndGuardResults : Prop :=
  (
  (∀ (o : OpSC) (s : State), s.guardOn o.g o.n = true →
    let a := s.rs o.a
    let b := s.rs o.b
    let gives (i : Instr) (p : Bool) : Prop := exec i s = .next (s.writeG o.e.toNat p 1)
    gives (.ceq o) (decide (a = b)) ∧ gives (.cne o) (decide (a ≠ b)) ∧
    gives (.clt o) (decide (a.toInt < b.toInt)) ∧ gives (.cge o) (decide (b.toInt ≤ a.toInt)) ∧
    gives (.cltu o) (decide (a.toNat < b.toNat)) ∧ gives (.cgeu o) (decide (b.toNat ≤ a.toNat)) ∧
    (o.e = 0 → exec (.ceq o) s = .next s ∧ exec (.cne o) s = .next s ∧ exec (.clt o) s = .next s ∧
      exec (.cge o) s = .next s ∧ exec (.cltu o) s = .next s ∧ exec (.cgeu o) s = .next s)) ∧
  (∀ (o : OpSCI) (s : State), s.guardOn o.g o.n = true →
    let a := s.rs o.a
    let gives (i : Instr) (p : Bool) : Prop := exec i s = .next (s.writeG o.e.toNat p 1)
    gives (.ceqi o) (decide (a.toInt = o.i.toInt)) ∧ gives (.cnei o) (decide (a.toInt ≠ o.i.toInt)) ∧
    gives (.clti o) (decide (a.toInt < o.i.toInt)) ∧ gives (.cgei o) (o.i.toInt ≤ a.toInt) ∧
    (o.e = 0 → exec (.ceqi o) s = .next s ∧ exec (.cnei o) s = .next s ∧ exec (.clti o) s = .next s ∧ exec (.cgei o) s = .next s)) ∧
  (∀ o : OpSC, ∀ i ∈ [Instr.ceq o, .cne o, .clt o, .cge o, .cltu o, .cgeu o], i.encode / 2 ^ 14 % 2 = 0 ∧ i.encode % 2 ^ 4 = 0) ∧
  (∀ o : OpSCI, ∀ i ∈ [Instr.ceqi o, .cnei o, .clti o, .cgei o], i.encode / 2 ^ 14 % 2 = 0)
  ) ∧
  (
  (∀ (o : OpSGl) (s : State), s.guardOn o.g o.n = true →
    let a := if o.p then !s.readG o.f.toNat else s.readG o.f.toNat
    let b := if o.q then !s.readG o.h.toNat else s.readG o.h.toNat
    exec (.gand o) s = .next (s.writeG o.e.toNat (a && b) 1) ∧
    exec (.gor o) s = .next (s.writeG o.e.toNat (a || b) 1) ∧
    exec (.gxor o) s = .next (s.writeG o.e.toNat (xor a b) 1)) ∧
  (∀ (o : OpSGs) (s : State), s.guardOn o.g o.n = true → exec (.gset o) s = .next (s.writeG o.e.toNat o.v 1)) ∧
  (∀ (o : OpSGl) (s : State), s.guardOn o.g o.n = true → o.e = 2 → o.f = 2 → o.h = 3 → o.p = false → o.q = false →
    exec (.gxor o) s = .next (s.writeG 2 (xor (s.readG 2) (s.readG 3)) 1)) ∧
  (∀ o : OpSGl, ∀ i ∈ [Instr.gand o, .gor o, .gxor o], i.encode % 2 ^ 4 = 0)
  )

/-- R120 to R122: a scalar float instruction completes and writes the one rounded result (FMIN and FMAX the operand that
R74 picks, FCVT the converted value) in the low bits of sD, or the truth of the compare in gD; format 11 acts as f32 and
sets FMTRSV, a rounding mode where nothing is rounded sets RNDNA. -/
def Obligations.ScalarFloatResults : Prop :=
  (∀ (o : OpSF) (s : State), s.guardOn o.g o.n = true →
    let f := if o.f = 1 then f16 else if o.f = 2 then bf16 else f32
    let v (x : W64) : Machine.Num := f.decode (x.toNat % 2 ^ f.width)
    let a := v (s.rs o.a)
    let b := v (s.rs o.b)
    let m := RMode.ofCode o.r.toNat
    let d (x : Machine.Num) (m : RMode) : State := (s.ws o.d (BitVec.ofNat 64 (f.round m x)) 4).warn wFMTRSV (o.f == 3)
    exec (.fadd o) s = .next (d (a.add m b) m) ∧
    exec (.fsub o) s = .next (d (a.add m b.neg) m) ∧
    exec (.fmul o) s = .next (d (a.mul b) m) ∧
    exec (.fma o) s = .next (d ((a.mul b).add m (v (s.rs o.d))) m) ∧
    exec (.fmin o) s = .next ((d (Machine.Num.min a b) .rne).warn wRNDNA (o.r != 0)) ∧
    exec (.fmax o) s = .next ((d (Machine.Num.max a b) .rne).warn wRNDNA (o.r != 0))) ∧
  (∀ (o : OpSFcvt) (s : State), s.guardOn o.g o.n = true →
    let f (c : BitVec 2) : FFmt := if c = 1 then f16 else if c = 2 then bf16 else f32
    let m := RMode.ofCode o.r.toNat
    let x := s.rs o.a
    let v := (f o.s).decode (x.toNat % 2 ^ (f o.s).width)
    (o.s = 3 → o.c = 3 → exec (.fcvt o) s = .next ((s.ws o.d x 4).warn wRNDNA (o.r != 0))) ∧
    (o.s = 3 → o.c ≠ 3 → exec (.fcvt o) s = .next (s.ws o.d (BitVec.ofNat 64 ((f o.c).round m (Machine.Num.ofInt x.toInt))) 4)) ∧
    (o.s ≠ 3 → o.c = 3 → exec (.fcvt o) s = .next (s.ws o.d (BitVec.ofNat 64 (toIntTag m 6 v)) 4)) ∧
    (o.s ≠ 3 → o.c ≠ 3 → exec (.fcvt o) s = .next (s.ws o.d (BitVec.ofNat 64 ((f o.c).round m v)) 4))) ∧
  (∀ (o : OpSFc) (s : State), s.guardOn o.g o.n = true →
    let f := if o.f = 1 then f16 else if o.f = 2 then bf16 else f32
    let v (x : W64) : Machine.Num := f.decode (x.toNat % 2 ^ f.width)
    let a := v (s.rs o.a)
    let b := v (s.rs o.b)
    let e (p : Bool) : State := (s.writeG o.e.toNat p 4).warn wFMTRSV (o.f == 3)
    exec (.fceq o) s = .next (e (a.eq b)) ∧
    exec (.fclt o) s = .next (e (a.lt b)) ∧
    exec (.fcle o) s = .next (e (a.lt b || a.eq b)))

/-- R144: the copies from the s file complete; XSA and XSB fill every w-bit element of the destination with the low w bits
of A and set its tag, XSH, XSJ and XSY copy the 64 bits; the bounds are 3 and 1. R179, R194 and R239: VXS, NXS and HXS
write an s register from the other files. -/
def Obligations.CrossFileCopies : Prop :=
  (∀ (o : OpSXv) (s : State), s.guardOn o.g o.n = true →
    ∃ v : VReg, exec (.xsa o) s = .next (s.writeV false o.d.toNat v 3) ∧ exec (.xsb o) s = .next (s.writeV true o.d.toNat v 3) ∧
      v.tag = o.t.toNat ∧
      (o.t.toNat ≤ 14 → ∀ i < 1024 / tagBits o.t.toNat,
        v.bits.toNat / 2 ^ (tagBits o.t.toNat * i) % 2 ^ tagBits o.t.toNat = (s.rs o.a).toNat % 2 ^ tagBits o.t.toNat)) ∧
  (∀ (o : OpSXh) (s : State), s.guardOn o.g o.n = true →
    exec (.xsh o) s = .next (s.writeH false o.d.toNat (s.rs o.a) 1) ∧
    exec (.xsj o) s = .next (s.writeH true o.d.toNat (s.rs o.a) 1) ∧
    exec (.xsy o) s = .next (s.writeY o.d.toNat (s.rs o.a) 1)) ∧
  (∀ (o : OpV2) (s : State), s.guardOn o.g false = true →
    let a := s.vA o.sl o.a o.l (vWidth o.w)
    let e := a.1.headD 0
    exec (.vxs o) s = .next ((s.writeS o.d.toNat
      (if isSignedTag a.2 then BitVec.ofInt 64 (intOf a.2 e) else BitVec.ofNat 64 e) 4).warn wMSKIGN o.m)) ∧
  (∀ (o : OpNX) (s : State), s.guardOn o.g o.n = true →
    exec (.nxs o) s = .next (s.writeS o.d.toNat (s.readY (2 * o.k.toNat + (if o.s then 1 else 0))) 1)) ∧
  (∀ (o : OpCX) (s : State), s.guardOn o.g o.n = true →
    exec (.hxs o) s = .next (s.writeS o.d.toNat (s.readH o.cb o.b.toNat) 2))

/-- R13 to R44: decoding the encoding of any well-formed slot instruction, each operand at every value that the encoding
admits, gives the instruction back. -/
def Obligations.DecodeEncode : Prop :=  ∀ i : Instr, i.wf = true → i.slot < 8 → decodeSlot i.slot i.encode = some i

/-- R38, R39: a word that decodes in a slot is the encoding of a well-formed instruction of that slot, bit for bit, so no
illegal encoding is taken for a legal one and no bit of a legal word is dropped. -/
def Obligations.EncodeDecode : Prop :=
  ∀ (k w : Nat) (i : Instr), decodeSlot k w = some i →
    i.slot = k ∧ i.wf = true ∧ (w < 2 ^ i.bits → i.encode = w)

/-- The words of the worked examples of the manual decode to the instructions they stand for. -/
def Obligations.WordsDecode : Prop :=
  decodeSlot 0 0x0100C220 = some (.add { g := 0, n := false, d := 3, a := 1, b := 2 }) ∧
  decodeSlot 1 0x01048588 = some (.vadd { sl := false, m := false, g := 0, w := 1, d := 4, a := 5, b := 34, l := 0 }) ∧
  decodeSlot 0 0x8000000040010000 = some (.movi { g := 0, n := false, d := 4, a := 0, imm := 0x80000000 }) ∧
  decodeSlot 0 0x0000123441010000 = some (.movhi { g := 0, n := false, d := 4, a := 0, imm := 0x1234 }) ∧
  decodeSlot 0 0x88000A03 = some (.trap { g := 0, n := false, a := 5, c := 3 }) ∧
  decodeSlot 0 0x8B010000 = some (.ychk { g := 0, n := false, e := 2 }) ∧
  decodeSlot 0 0xB0010C00 = some (.lnch { g := 0, n := false, d := 4, a := 6 }) ∧
  decodeSlot 0 0xB2000002 = some (.hirq { g := 0, n := false, v := 2 })

/-- R16 to R20: the bytes of a bundle that holds one instruction, laid out little-endian behind its header, split and decode
to that instruction alone, and their number is the length of the bundle. -/
def Obligations.OneInstructionBundle : Prop :=
  ∀ i : Instr, i.wf = true → i.slot < 8 →
    decodeWords (splitBundle (oneSlotBytes i.slot 8 i.encode)).words = ([i], 0) ∧
    (splitBundle (oneSlotBytes i.slot 8 i.encode)).len = 4 + i.bits / 8 ∧
    (splitBundle (oneSlotBytes i.slot 8 i.encode)).hdr =
      { mask := 2 ^ i.slot, dbg := false, ckp := false, cap := true, idle := 0, rsv := false }

/-- R51, R266, R267: when the core in focus comes to its turn, the bundle at its program counter passes the checks, needs no
checkpoint ahead and its slot operations run without a stop, the step is the run of exactly the decoded instructions, each
by `exec`, S last, from the state before the bundle, followed by the end of the bundle and of the turn. -/
def Obligations.StepRunsBundle : Prop :=
  ∀ (s t : State) (b : Bundle), s.AtIssue → s.Fetched b → bundleCause b = none →
    (s.needsCkpt (decodeWords b.words).1 = false ∨ s.core.ckptHere = true) →
    runSlots exec (slotOrder (decodeWords b.words).1) (s.slotState b (decodeWords b.words).1) = .next t →
    step s = .next (s.afterTurn (s.issued t b (decodeWords b.words).1))

/-- R51: a step whose bundle fails a check takes the trap of the first check that fails: a misaligned or unmapped program
counter, a reserved header bit, an illegal encoding with the slots of its words, a structural conflict with its slots. -/
def Obligations.BundleChecksTrap : Prop :=
  ∀ s : State, s.AtIssue →
    (s.core.sync.pc % 4 ≠ 0 → step s = .next (s.afterTurn (s.fetchTrap 0x04 0))) ∧
    (s.core.sync.pc % 4 = 0 → 2 ^ 48 ≤ s.core.sync.pc → step s = .next (s.afterTurn (s.fetchTrap cNOTMAP 0))) ∧
    (∀ b : Bundle, s.Fetched b →
      (b.hdr.rsv = true → step s = .next (s.afterTurn (s.fetchTrap 0x03 0))) ∧
      (b.hdr.rsv = false → (decodeWords b.words).2 ≠ 0 →
        step s = .next (s.afterTurn (s.fetchTrap 0x01 (decodeWords b.words).2))) ∧
      (b.hdr.rsv = false → (decodeWords b.words).2 = 0 →
        ∀ m, m = illegalSlots (decodeWords b.words).1 b.hdr.cap ||| scopeSlots b.words → m ≠ 0 →
        step s = .next (s.afterTurn (s.fetchTrap 0x02 m))))

/-- R48 conditions 1 to 7: two slots that write one register (s0 and g0 apart), that read one input stream as an operand or
append to one output stream, that read one file through its export port, vector widths that
sum to more than 1,536 bits, a vector operation of width 11, an SC operation without CAP, and a scope code of 6 or 7, also in the SCOPE bits of a copy word whose opcode uses no scope and whose
word is no legal encoding otherwise, are structural conflicts, and every slot concerned is reported. -/
def Obligations.StructuralConflicts : Prop :=
  ∀ (l : List Instr) (cap : Bool),
    (∀ i j : Instr, i ∈ l → j ∈ l → i ≠ j → ∀ k : Nat, k ∈ writeSet i → k ∈ writeSet j → k ≠ kS 0 → k ≠ kG 0 →
      bitOf i.slot (illegalSlots l cap) = true ∧ bitOf j.slot (illegalSlots l cap) = true) ∧
    (∀ i j : Instr, i ∈ l → j ∈ l → i ≠ j → ∀ q : Nat, q ∈ streamReads i → q ∈ streamReads j →
      bitOf i.slot (illegalSlots l cap) = true ∧ bitOf j.slot (illegalSlots l cap) = true) ∧
    (∀ o p : OpVSq, Instr.vsq o ∈ l → .vsq p ∈ l → o ≠ p → o.q = p.q →
      bitOf (Instr.vsq o).slot (illegalSlots l cap) = true ∧ bitOf (Instr.vsq p).slot (illegalSlots l cap) = true) ∧
    (∀ i j : Instr, i ∈ l → j ∈ l → i ≠ j → ∀ p : Nat, p ∈ portReads i → p ∈ portReads j →
      bitOf i.slot (illegalSlots l cap) = true ∧ bitOf j.slot (illegalSlots l cap) = true) ∧
    (∀ i j : Instr, i ∈ l → j ∈ l → i ≠ j → isVector i = true → isVector j = true →
      1536 < 256 * 2 ^ widthField i + 256 * 2 ^ widthField j →
      bitOf i.slot (illegalSlots l cap) = true ∧ bitOf j.slot (illegalSlots l cap) = true) ∧
    (∀ i : Instr, i ∈ l → isVector i = true → widthField i = 3 → bitOf i.slot (illegalSlots l cap) = true) ∧
    (∀ i : Instr, i ∈ l → isSC i = true → cap = false → bitOf i.slot (illegalSlots l cap) = true) ∧
    (∀ (i : Instr) (c : Nat), i ∈ l → scopeField i = some c → 6 ≤ c → bitOf i.slot (illegalSlots l cap) = true) ∧
    (∀ (words : List (Nat × Nat)) (k w : Nat), (k, w) ∈ words → (k = 4 ∨ k = 5) → 6 ≤ w / 2 ^ 27 % 2 ^ 3 → decodeSlot k w = none →
      bitOf k (scopeSlots words) = true)

/-- The machine always goes on: no instruction, no event and no step ends in a fault or a refusal (every error that the
manual describes is a trap, an error status or a status event). -/
def Obligations.MachineGoesOn : Prop :=  (∀ (i : Instr) (s : State), ∃ t, exec i s = .next t) ∧ (∀ s : State, s.goesOn)

/-- R45: a slot operation whose guard is false has no effect. The two kinds that the manual sets apart: a conditional branch
still records that it is not taken and writes no link register; an XPRM whose pattern collides is illegal whatever its
guard (R186). -/
def Obligations.FalseGuardNoEffect : Prop :=
  ∀ (i : Instr) (s : State), i.slot < 8 → s.guardOf i = false →
    match i with
    | .br o => exec i s = .next (s.branchTo (!conditional o.g o.n || o.i.msb) false (s.dispTarget o.i) (s.dispTarget o.i) id)
    | .jal o => exec i s = .next (s.branchTo (!conditional o.g o.n || o.i.msb) false (s.dispTarget o.i) (s.dispTarget o.i) (pushRet s.nextAddr))
    | .jr o => exec i s = .next (if o.a = 30
        then s.branchTo (!s.core.rstack.isEmpty) false (s.core.rstack.headD 0) (s.rs o.a).toNat (fun l => l.drop 1)
        else s.branchTo false false 0 (s.rs o.a).toNat id)
    | .jalr o => exec i s = .next (s.branchTo false false 0 (s.rs o.a).toNat (if o.d = 30 then pushRet s.nextAddr else id))
    | .xprm o => collides (xEntries (s.readX o.p.toNat)) = false → exec i s = .next s
    | _ => exec i s = .next s

/-- Right after reset: no core holds a context, every contract is unloaded with the reset values of its fields, the clock
step is 4 and the platform stands in stage 0, TIME is 0, and memory lists nothing (R433, R446, R451, R502, R505, R508). A value
that the manual does not give here is the model's choice (log entry 3). -/
def Obligations.ResetState : Prop :=
  (∀ n, (State.reset.coreAt n).mode = .idle) ∧
  (∀ g, (State.reset.gc g).en = false ∧ (State.reset.gc g).gstate = 0 ∧ (State.reset.gc g).err = 0 ∧ (State.reset.gc g).keyValid = false) ∧
  State.reset.plat.stage = 0 ∧ State.reset.plat.cstep = 4 ∧ State.reset.plat.therm = false ∧ State.reset.plat.fatal = false ∧
  State.reset.frame.regs.en = false ∧ State.reset.frame.regs.len = 10000 ∧ State.reset.frame.regs.pydl = 20000 ∧
  State.reset.fab.en = false ∧ State.reset.tb = 0 ∧ State.reset.mem = []

/-- Memory is in canonical form at reset. -/
def Obligations.MemoryFormAtReset : Prop := State.reset.memOk

/-- Every step keeps memory in canonical form, from every state in which it has it. -/
def Obligations.MemoryFormKept : Prop := ∀ s t : State, s.memOk → step s = .next t → t.memOk

/-- R109, R110, R311: s0 reads as zero and g0 as true in every state, writes to them are discarded, and in handler mode s28
to s31 name registers of their own, which no write of the other mode changes. -/
def Obligations.HardwiredAndBanked : Prop :=
  ∀ s : State,
    s.readS 0 = 0 ∧ s.readG 0 = true ∧ (∀ v lat, s.writeS 0 v lat = s) ∧ (∀ v lat, s.writeG 0 v lat = s) ∧
    (∀ i v lat, i ≠ 0 → s.core.mode = .handler → 28 ≤ i →
      (s.writeS i v lat).core.sync.s = s.core.sync.s ∧ ∀ j, j ≠ i → (s.writeS i v lat).core.sync.hb.get 0 j = s.core.sync.hb.get 0 j) ∧
    (∀ i v lat, s.core.mode ≠ .handler →
      (s.writeS i v lat).core.sync.hb = s.core.sync.hb ∧ ∀ j, j ≠ i → (s.writeS i v lat).core.sync.s.get 0 j = s.core.sync.s.get 0 j)

/-- R25: a bundle that issues L cycles after a write with latency bound L, or later, reads the value written, in every
register file; `u` is any state whose bundle reads the synchronous state that the write left. No older result of the same
register may still be on its way beyond that bound (the manual fixes no winner then). -/
def Obligations.WritesAreRead : Prop :=
  ∀ (s u : State),
    (∀ i v lat, i ≠ 0 → s.overtaken (s.sKey i) lat = false → u.pre = (s.writeS i v lat).core.sync → u.inHandler = s.inHandler →
      s.issueAt + lat ≤ u.now → u.readS i = v) ∧
    (∀ i v lat, i ≠ 0 → s.overtaken (kG i) lat = false → u.pre = (s.writeG i v lat).core.sync →
      s.issueAt + lat ≤ u.now → u.readG i = v) ∧
    (∀ b r v lat, s.overtaken (vKey b (phys s.pre.rrb r)) lat = false → u.pre = (s.writeV b r v lat).core.sync →
      phys u.pre.rrb r = phys s.pre.rrb r → s.issueAt + lat ≤ u.now → u.readV b r = v) ∧
    (∀ i v lat, s.overtaken (kK i) lat = false → u.pre = (s.writeK i v lat).core.sync → s.issueAt + lat ≤ u.now → u.readK i = v) ∧
    (∀ i v lat, u.pre = (s.writeX i v lat).core.sync → u.readX i = v) ∧
    (∀ i v lat, u.pre = (s.writeW i v lat).core.sync → u.readW i = v) ∧
    (∀ i v lat, s.overtaken (kY i) lat = false → u.pre = (s.writeY i v lat).core.sync → s.issueAt + lat ≤ u.now → u.readY i = v) ∧
    (∀ b i v lat, s.overtaken (hKey b i) lat = false → u.pre = (s.writeH b i v lat).core.sync → s.issueAt + lat ≤ u.now →
      u.readH b i = v)

/-- R123 to R128, R284: a load whose guard is true completes when its bytes lie in a row of the core's own scratchpad, or in
a line of its L1, neither in a failed row, or when the answer of their home is there: sD receives the bytes, those of the
core's own earlier stores over them, little-endian, zero-extended by LD and sign-extended by LDS. One that is not aligned to its size
is performed byte by byte (R125), and completes when each byte's access does; an address beyond the space raises NOTMAP. -/
def Obligations.LoadsComplete : Prop :=
  ∀ (o : OpSI) (s : State), s.guardOn o.g o.n = true →
    let loads (i : Instr) (n : Nat) (ext : Nat → W64) : Prop :=
      let ea := effAddr (s.rs o.a) o.i n
      (∀ off, s.OwnSpad ea.toNat 1 n off →
        exec i s = .next (s.wLoad o.d (ext (ofLe (s.forward (.spad s.focus off) (s.spadBytes off n)))))) ∧
      (∀ pa sel l, s.HitsL1 ea.toNat 1 n pa sel l →
        exec i s = .next (s.wLoad o.d (ext (ofLe (s.forward (.mem pa sel) ((l.data.drop (pa % 128)).take n)))))) ∧
      (∀ pa sel b, s.Answered ea.toNat 1 n (.mem pa sel) b → s.core.l1Find pa sel = none →
        exec i s = .next (s.wLoad o.d (ext (ofLe (s.forward (.mem pa sel) b))))) ∧
      (∀ b : List Nat, ea.toNat % n ≠ 0 → b.length = n → ea.toNat < 2 ^ 48 →
        (∀ j, j < n → s.sLoadPiece (ea.toNat + j) 1 false = (s, .ok [b.getD j 0])) → exec i s = .next (s.wLoad o.d (ext (ofLe b)))) ∧
      (∀ t b, s.sLoad ea.toNat n false = (t, .ok b) → exec i s = .next (t.wLoad o.d (ext (ofLe b)))) ∧
      (2 ^ 48 ≤ ea.toNat → exec i s = .next (s.raise 0 cNOTMAP ea))
    let zero (v : Nat) : W64 := BitVec.ofNat 64 v
    let sign (n v : Nat) : W64 := BitVec.ofInt 64 (BitVec.ofNat n v).toInt
    loads (.ldB o) 1 zero ∧ loads (.ldH o) 2 zero ∧ loads (.ldW o) 4 zero ∧ loads (.ldD o) 8 zero ∧
    loads (.ldsB o) 1 (sign 8) ∧ loads (.ldsH o) 2 (sign 16) ∧ loads (.ldsW o) 4 (sign 32)

/-- R123, R125, R126, R131, R301: a store whose guard is true completes when its bytes translate to memory that needs no
bracket and the withholding buffer has room: the low bytes of sD enter the buffer, withheld until a checkpoint, for the place
to which the effective address translates, each byte by itself when it is not aligned to its size, and no byte of memory, L1 or scratchpad changes. STL does the same with its release
and its scope, which is CLUSTER at least on a scratchpad byte (R385); an acquiring order sets ORDFIT; a misaligned STL raises
MISALIGN. -/
def Obligations.StoresComplete : Prop :=
  (∀ (o : OpSI) (s : State), s.guardOn o.g o.n = true →
    let stores (i : Instr) (n : Nat) : Prop :=
      let ea := effAddr (s.rs o.a) o.i n
      (∀ t, s.Places ea.toNat 2 n t → needsBracket t = false → (2 ≤ t.place.1 → s.replaying s.focus = false) →
        let e : Store := { va := ea.toNat, kind := t.place.1, pa := t.place.2.1, sel := t.place.2.2, seqNo := s.core.seqNo,
                           bytes := toLe n (s.rs o.d).toNat, scope := 0, rel := false }
        (storeLines (s.core.stores ++ [e])).length ≤ 64 →
        exec i s = .next (s.setStores (s.core.stores ++ [e]))) ∧
      (∀ t : Nat → Tgt, ea.toNat % n ≠ 0 →
        (∀ j, j < n → s.sResolve (ea.toNat + j) 2 = (s, .ok (some (t j))) ∧ needsBracket (t j) = false ∧
          (2 ≤ (t j).place.1 → s.replaying s.focus = false)) →
        let e (j : Nat) : Store := { va := ea.toNat + j, kind := (t j).place.1, pa := (t j).place.2.1, sel := (t j).place.2.2
                                     seqNo := s.core.seqNo, bytes := [(s.rs o.d).toNat / 256 ^ j % 256], scope := 0, rel := false }
        let es := (List.range n).map e
        (storeLines (s.core.stores ++ es)).length ≤ 64 → ea.toNat < 2 ^ 48 →
        exec i s = .next (s.setStores (s.core.stores ++ es))) ∧
      (2 ^ 48 ≤ ea.toNat → exec i s = .next (s.raise 0 cNOTMAP ea))
    stores (.stB o) 1 ∧ stores (.stH o) 2 ∧ stores (.stW o) 4 ∧ stores (.stD o) 8) ∧
  (∀ (o : OpSX) (s : State), s.guardOn o.g o.n = true →
    let n := widthBytes o.width
    let a := s.rs o.a
    ((s.rs o.a).toNat % n ≠ 0 → exec (.stl o) s = .next (s.raise 0 cMISALIGN a)) ∧
    (∀ t, a.toNat % n = 0 → s.Places a.toNat 2 n t → needsBracket t = false → (2 ≤ t.place.1 → s.replaying s.focus = false) →
      let e : Store := { va := a.toNat, kind := t.place.1, pa := t.place.2.1, sel := t.place.2.2, seqNo := s.core.seqNo,
                         bytes := toLe n (s.rs o.d).toNat, scope := s.eventScope o.scope.toNat a.toNat, rel := 2 ≤ o.order.toNat }
      (storeLines (s.core.stores ++ [e])).length ≤ 64 →
      exec (.stl o) s = .next
        (((s.setStores (s.core.stores ++ [e])).warnScope o.scope.toNat).warn wORDFIT (o.order.toNat % 2 == 1))))

/-- R130, R132 to R134, R397: LDA and the eight atomics complete, aligned and with nothing of their bundle in the way, on the
core's own scratchpad, on a line of its L1 at CORE scope, and anywhere else once the answer of the home is there: sD receives
the old value (sign-extended from 4 bytes), an atomic writes the new value that its function gives, AMOCAS only when the old
value equals B, a release writes the L1 back first and an acquire acts on the L1 after it, at the scope that the word names,
narrowed, and CLUSTER at least on a scratchpad (R385). A misaligned one raises MISALIGN. -/
def Obligations.AtomicsComplete : Prop :=
  ∀ (o : OpSX) (s : State), s.guardOn o.g o.n = true →
    let n := widthBytes o.width
    let a := s.rs o.a
    let b := (s.rs o.b).toNat % 2 ^ (8 * n)
    let sc := s.eventScope o.scope.toNat a.toNat
    let sgn (v : Nat) : Int := signedOf (8 * n) v
    let value (old : Nat) : W64 := if o.width then BitVec.ofNat 64 old else BitVec.ofInt 64 (BitVec.ofNat 32 old).toInt
    let ends (t : State) (old : Nat) : State := (t.wLoad o.d (value old)).warnScope o.scope.toNat
    let fin (t : State) (old : Nat) : State := (if o.order.toNat % 2 = 1 then t.acquireL1 sc else t).sigB (toLe 8 (value old).toNat)
    let u := if 2 ≤ o.order.toNat ∧ sc ≠ 0 then s.l1Clean s.focus else s
    let alone := s.clear = true ∧ s.core.stores = [] ∧ s.answer a.toNat = none
    let amo (i : Instr) (new : Nat → Option Nat) : Prop :=
      (a.toNat % n ≠ 0 → exec i s = .next (s.raise 0 cMISALIGN a)) ∧
      (∀ off, a.toNat % n = 0 → s.OwnSpad a.toNat 3 n off → alone →
        let old := ofLe (s.spadBytes off n)
        exec i s = .next (fin (ends (match new old with | none => u | some v => u.putSpad off (toLe n v)) old) old)) ∧
      (∀ pa sel l, a.toNat % n = 0 → s.HitsL1 a.toNat 3 n pa sel l → sc = 0 → alone → s.replaying s.focus = false →
        let old := ofLe ((l.data.drop (pa % 128)).take n)
        exec i s = .next (fin (ends (match new old with | none => s | some v => s.l1Patch s.focus pa sel (toLe n v)) old) old)) ∧
      (∀ t d, a.toNat % n = 0 → s.Answered a.toNat 3 n t d → exec i s = .next (fin (ends s (ofLe d)) (ofLe d)))
    (a.toNat % n ≠ 0 → exec (.lda o) s = .next (s.raise 0 cMISALIGN a)) ∧
    (let done (d : List Nat) : State := fin ((ends s (ofLe d)).warn wORDFIT (2 ≤ o.order.toNat)) (ofLe d)
     (∀ off, a.toNat % n = 0 → s.OwnSpad a.toNat 1 n off →
       exec (.lda o) s = .next (done (s.forward (.spad s.focus off) (s.spadBytes off n)))) ∧
     (∀ pa sel l, a.toNat % n = 0 → s.HitsL1 a.toNat 1 n pa sel l → sc = 0 →
       exec (.lda o) s = .next (done (s.forward (.mem pa sel) ((l.data.drop (pa % 128)).take n)))) ∧
     (∀ pa sel d, a.toNat % n = 0 → s.Answered a.toNat 1 n (.mem pa sel) d → sc ≠ 0 →
       exec (.lda o) s = .next (done (s.forward (.mem pa sel) d)))) ∧
    amo (.amoadd o) (fun old => some ((old + b) % 2 ^ (8 * n))) ∧
    amo (.amoswp o) (fun _ => some b) ∧
    amo (.amocas o) (fun old => if old = b then some ((s.rs o.c).toNat % 2 ^ (8 * n)) else none) ∧
    amo (.amomin o) (fun old => some (if sgn old < sgn b then old else b)) ∧
    amo (.amomax o) (fun old => some (if sgn old < sgn b then b else old)) ∧
    amo (.amoand o) (fun old => some (old &&& b)) ∧
    amo (.amoor o) (fun old => some (old ||| b)) ∧
    amo (.amoxor o) (fun old => some (old ^^^ b))

/-- R406, R408, R409: an SC operation of an aligned address, on a core that owns a position of the Capstan, completes once
the answer of its home is there: SCLD and SCAMO write the value to sD and act on the L1 as an acquire at their scope (CLUSTER
at least on a scratchpad, R385), SCST writes no register; an ORDER other than 00 sets ORDFIT. Before the answer, with nothing
in the way and the Capstan at a position of the core, it sends its one request, and on the core's own scratchpad it completes
at once, after the L1 has been written back where it writes. A misaligned address raises MISALIGN, and a
core without a position raises cause 0x85. -/
def Obligations.ScOperationsComplete : Prop :=
  ∀ (o : OpSX) (s : State), s.guardOn o.g o.n = true →
    let n := widthBytes o.width
    let a := s.rs o.a
    let sc := s.eventScope o.scope.toNat a.toNat
    let fin (t : State) : State := (t.warnScope o.scope.toNat).warn wORDFIT (o.order != 0)
    let val (b : List Nat) : W64 := if o.width then BitVec.ofNat 64 (ofLe b) else BitVec.ofInt 64 (BitVec.ofNat 32 (ofLe b)).toInt
    let reads (b : List Nat) : State := fin (((s.wLoad o.d (val b)).acquireL1 sc).sigB (toLe 8 (val b).toNat))
    (∀ i ∈ [Instr.scld o, Instr.scst o, Instr.scamo o],
      (a.toNat % n ≠ 0 → exec i s = .next (s.raise 0 cMISALIGN a)) ∧
      (a.toNat % n = 0 → s.core.noPos = true → exec i s = .next (s.raise 0 0x85 0))) ∧
    (∀ t b, a.toNat % n = 0 → s.core.noPos = false →
      (s.Answered a.toNat 1 n t b → exec (.scld o) s = .next (reads b)) ∧
      (s.Answered a.toNat 2 n t b → exec (.scst o) s = .next (fin s)) ∧
      (s.Answered a.toNat 3 n t b → exec (.scamo o) s = .next (reads b))) ∧
    (∀ t, a.toNat % n = 0 → s.core.noPos = false → s.answer a.toNat = none → s.clear = true → s.core.stores = [] →
      s.replaying s.focus = false → s.core.req = none → s.core.capGo = some s.tb →
      let u := s.modCore (fun k => { k with capLast := some s.tb })
      (∀ p ∈ [(Instr.scld o, 1, 8, 0, 0, 0), (.scst o, 2, 1, 1, (s.rs o.d).toNat % 2 ^ (8 * n), 0),
          (.scamo o, 3, 2, 2, (s.rs o.b).toNat, (s.rs o.c).toNat)],
        s.Places a.toNat p.2.1 n t → (∀ off, t ≠ .spad s.focus off) →
        exec p.1 s = .next (fin ((u.ask { va := a.toNat, tgt := t.place.1, pa := t.place.2.1, sel := t.place.2.2, len := n
                                          op := p.2.2.2.1, fop := p.2.2.1, opnd := p.2.2.2.2.1, cmp := p.2.2.2.2.2, stage := 0
                                          scope := sc, rel := p.2.1 != 1 && sc != 0, sc := 1 + s.tb }).stallOn 2))) ∧
      (∀ off, t = .spad s.focus off →
        let w := u.l1Clean s.focus
        let old := ofLe (s.spadBytes off n)
        let done (v : State) : State := fin (((v.wLoad o.d (val (s.spadBytes off n))).acquireL1 sc).sigB
          (toLe 8 (val (s.spadBytes off n)).toNat))
        (s.OwnSpad a.toNat 1 n off → exec (.scld o) s = .next (done u)) ∧
        (s.OwnSpad a.toNat 2 n off → sc ≠ 0 → exec (.scst o) s = .next (fin (w.putSpad off (toLe n ((s.rs o.d).toNat % 2 ^ (8 * n)))))) ∧
        (s.OwnSpad a.toNat 3 n off → sc ≠ 0 → exec (.scamo o) s = .next (done
          (if old = (s.rs o.b).toNat % 2 ^ (8 * n) then w.putSpad off (toLe n ((s.rs o.c).toNat % 2 ^ (8 * n))) else w)))))

/-- R401, R402, R286, R287: the fences complete. FENCE with RLX sets ORDFIT alone; an acquire acts on the L1, a release
leaves a mark behind the stores before it, so that the L1 is written back in their order. PFENCE without a class in one of
its sets changes nothing; otherwise, with no store of the core outstanding, it writes the L1 back or drops it as the classes
ask and holds the next bundle for the base of 2 cc and the cost of each that it does, added up. DRAIN completes once every earlier command and store of the core has. -/
def Obligations.FencesComplete : Prop :=
  (∀ (o : OpSFence) (s : State), s.guardOn o.g o.n = true →
    let sc := (s.effScope o.scope.toNat).1
    let w := s.warnScope o.scope.toNat
    let mark (t : State) : State := t.setStores (t.core.stores ++
      [{ va := 0, kind := 9, pa := 0, sel := 0, bytes := [], seqNo := t.core.seqNo, scope := sc, rel := true }])
    (o.order = 0 → exec (.fence o) s = .next (w.warn wORDFIT true)) ∧
    (o.order = 1 → exec (.fence o) s = .next ((w.acquireL1 sc).holdNext 0)) ∧
    (o.order = 2 → exec (.fence o) s = .next (if sc = 0 then w else mark w)) ∧
    (o.order = 3 → exec (.fence o) s =
      .next (if sc = 0 then (w.acquireL1 sc).holdNext 0 else mark ((w.acquireL1 sc).holdNext 0))) ∧
    (s.core.draining sc = false → exec (.drain o) s =
      .next (if sc = 0 then w.warn wORDFIT (o.order != 0) else ((w.warn wORDFIT (o.order != 0)).l1Clean s.focus).acquireL1 sc))) ∧
  (∀ (o : OpSPf) (s : State), s.guardOn o.g o.n = true →
    let w := (s.warnScope o.scope.toNat).warn wORDFIT (o.order != 0)
    let dirty := (s.core.l1.filter (fun l => l.dirty.any id)).length
    (o.fromc = 0 ∨ o.toc = 0 → exec (.pfence o) s = .next w) ∧
    (o.fromc ≠ 0 → o.toc ≠ 0 → (bitOf 0 o.fromc.toNat = true → s.core.stores = []) →
      let clean := bitOf 0 o.fromc.toNat = true ∧ 2 ≤ o.toc.toNat
      let drop := bitOf 0 o.toc.toNat = true ∧ 2 ≤ o.fromc.toNat
      let w1 := if clean then w.l1Clean s.focus else w
      let w2 := if drop then (w1.l1DropClean s.focus).refillPinned s.focus else w1
      exec (.pfence o) s = .next (w2.holdNext (1 + (if clean then dirty else 0) + (if drop then 16 else 0)))))

/-- R135 to R137: the branches and jumps complete with a record of their prediction, of whether they are taken and of their
targets, relative to the bundle's address or from a register; an executed JAL writes the address of the next bundle to
s30 and a JALR to sD; a taken call pushes it onto the return stack, and JR s30 is predicted from that stack. -/
def Obligations.BranchesComplete : Prop :=
  ∀ s : State, ∀ taken : Bool,
    let link : W64 := BitVec.ofNat 64 (s.cx.addr + s.cx.len)
    (∀ o : OpSB, s.guardOn o.g o.n = taken →
      let target := (BitVec.ofInt 64 (s.cx.addr + 4 * o.i.toInt)).toNat
      let predicted := (o.g = 0 ∧ o.n = false) ∨ o.i.toInt < 0
      exec (.br o) s = .next (s.branchTo (decide predicted) taken target target id) ∧
      (let t := s.branchTo (decide predicted) taken target target (pushRet (s.cx.addr + s.cx.len))
       exec (.jal o) s = .next (if taken then t.writeS 30 link 1 else t))) ∧
    (∀ o : OpSJr, s.guardOn o.g o.n = taken →
      (o.a = 30 → exec (.jr o) s =
        .next (s.branchTo (!s.core.rstack.isEmpty) taken (s.core.rstack.headD 0) (s.rs o.a).toNat (fun l => l.drop 1))) ∧
      (o.a ≠ 30 → exec (.jr o) s = .next (s.branchTo false taken 0 (s.rs o.a).toNat id))) ∧
    (∀ o : OpSR2, s.guardOn o.g o.n = taken →
      let t := s.branchTo false taken 0 (s.rs o.a).toNat (if o.d = 30 then pushRet (s.cx.addr + s.cx.len) else id)
      exec (.jalr o) s = .next (if taken then t.ws o.d link 1 else t))

/-- R138, R139, R141, R273 to R275: LOOP outside a record and outside handler mode reads the 32 bytes of its record, in
the own scratchpad, in a line of the L1 or from elsewhere, and starts it, or skips it when its trip count is less than STAGES; inside either it raises LOOPNEST, on a misaligned address
MISALIGN, on a bad record LOOPREC. LEXIT in the kernel part of a record sets EXIT and has no effect elsewhere. -/
def Obligations.LoopsComplete : Prop :=
  (∀ (o : OpSLoop) (s : State), s.guardOn o.g o.n = true →
    let a := s.rs o.a + BitVec.ofInt 64 (32 * o.i.toInt)
    ((s.pre.loop.act = true ∨ s.core.mode = .handler) → exec (.loop o) s = .next (s.raise 0 0x06 a)) ∧
    (s.pre.loop.act = false → s.core.mode ≠ .handler →
      (a.toNat % 32 ≠ 0 → exec (.loop o) s = .next (s.raise 0 cMISALIGN a)) ∧
      (∀ t b, a.toNat % 32 = 0 →
        ((∃ off, s.OwnSpad a.toNat 1 32 off ∧ t = s ∧ b = s.forward (.spad s.focus off) (s.spadBytes off 32)) ∨
         (∃ pa sel l, s.HitsL1 a.toNat 1 32 pa sel l ∧ t = s ∧ b = s.forward (.mem pa sel) ((l.data.drop (pa % 128)).take 32)) ∨
         s.sLoad a.toNat 32 false = (t, .ok b)) →
        let w (i : Nat) : Nat := ofLe ((b.drop (8 * i)).take 8)
        (badRecord (w 0) (w 1) (w 2) (w 3) = true → exec (.loop o) s = .next (t.raise 0 0x07 a)) ∧
        (badRecord (w 0) (w 1) (w 2) (w 3) = false →
          ∃ u, exec (.loop o) s = .next u ∧ u = t.startRecord a.toNat (w 0) (w 1) (w 2) (w 3) ∧
            u.core.sync.ldepth = bitsOf 46 43 (w 3) ∧ u.core.sync.loop.recAddr = a.toNat % 2 ^ 48 ∧
            u.core.sync.loop.ret = t.cx.addr + t.cx.len ∧
            (bitOf 37 (w 3) = false →
              (u.core.sync.loop.act = true ↔ bitsOf 41 38 (w 3) ≤ bitsOf 31 0 (w 3)) ∧
              (u.core.sync.loop.skip = true ↔ bitsOf 31 0 (w 3) < bitsOf 41 38 (w 3)) ∧
              (u.core.sync.loop.act = true →
                u.cx.next = some (bitsOf 47 0 (if bitsOf 63 48 (w 0) ≠ 0 then w 0 else w 1)))))))) ∧
  (∀ (o : OpSN) (s : State), s.guardOn o.g o.n = true →
    (s.pre.loop.act = true → s.pre.loop.phase = 1 → s.core.mode ≠ .handler →
      exec (.lexit o) s = .next (s.modSync (fun y => { y with loop := { y.loop with exit := true } }))) ∧
    (s.pre.loop.act = false ∨ s.pre.loop.phase ≠ 1 ∨ s.core.mode = .handler → exec (.lexit o) s = .next s))

/-- R309, R311, R313: taking a trap with a handler enabled, outside handler mode or as an asynchronous trap: the core enters
handler mode 8 cycles later at the handler's address with the shadow of the last checkpoint restored; the trap registers
receive the cause, the checkpoint's address, the faulting bundle, the slots (none for an asynchronous trap) and the detail;
what the checkpoint had not released or committed is cancelled. -/
def Obligations.TrapEntry : Prop :=
  ∀ (s : State) (n : Nat) (r : TrapReq),
    ((s.coreAt n).mode ≠ .handler ∨ r.async = true) → (s.coreAt n).trap.en = true → (r.cause ≠ 0x42 ∨ r.async = true) →
    let k := s.coreAt n
    let t := (s.takeTrap n r).coreAt n
    t.mode = .handler ∧ t.sync = { k.shadow with pc := k.trap.haddr } ∧ t.trapShadow = k.shadow ∧ t.readyAt = s.now + 8 ∧
    t.trap = { k.trap with cause := r.cause, async := r.async, addr := k.ckptAddr % 2 ^ 48, flt := r.flt % 2 ^ 48
                           slots := if r.async then 0 else r.slots, info := r.info } ∧
    (∀ x ∈ t.stores, x.released = true) ∧ (∀ x ∈ t.mq, x.committed = true) ∧ (∀ x ∈ t.cqa, x.committed = true) ∧
    (∀ x ∈ t.cqb, x.committed = true) ∧ (∀ x ∈ t.tq, x.committed = true) ∧ t.branches = [] ∧ t.ckpts = [] ∧ t.rstack = []

/-- R322: TRAP takes the trap of cause 0xE0 + n with sA as its detail and its own bundle as the faulting one, against the
checkpoint at the next bundle, which it takes first, so that ERET goes on there. ERET leaves handler mode for TRAPADDR, and
outside it raises PRIV. -/
def Obligations.TrapAndReturn : Prop :=
  (∀ (o : OpSTrap) (s : State), s.guardOn o.g o.n = true → s.clear = true → s.core.trap.en = true → s.core.mode ≠ .handler →
    ∃ t, exec (.trap o) s = .next t ∧ t.cx.fin = true ∧ t.core.mode = .handler ∧ t.core.sync.pc = s.core.trap.haddr ∧
      t.core.trap.cause = 0xE0 + o.c.toNat ∧ t.core.trap.info = s.rs o.a ∧ t.core.trap.flt = s.cx.addr % 2 ^ 48 ∧
      t.core.trap.slots = 1 ∧ t.core.trap.async = false ∧ t.core.trap.addr = s.fallSync.pc % 2 ^ 48 ∧ t.core.shadow = s.fallSync.landed s.free) ∧
  (∀ (o : OpSN) (s : State), s.guardOn o.g o.n = true →
    (s.core.mode = .handler → ∃ t, exec (.eret o) s = .next t ∧ t.core.mode = .run ∧ t.cx.next = some s.core.trap.addr ∧
      t.core.fbBytes = [] ∧ t.core.sync = s.core.sync ∧ 7 ≤ t.cx.hold) ∧
    (s.core.mode ≠ .handler → ∃ info, exec (.eret o) s = .next (s.raise 0 0x09 info)))

/-- R298, R299, R309: a rollback gives the core the synchronous state of its shadow, and the shadow that a checkpoint takes
is that of its bundle with every earlier result landed, but for the bits of dead registers (R272); so a rollback to the last checkpoint undoes exactly the bundles
after it. A checkpoint releases the stores and commits the commands of the bundles before it and leaves those of its own and
of later bundles as they are, and drops none (R298, R301). Both keep every core's registers outside the synchronous state that no bundle may undo (mode, traps, guest). -/
def Obligations.CheckpointAndRollback : Prop :=
  (∀ (s : State) (n addr q : Nat) (y : Sync),
    let k := (s.takeCkpt n addr q y).coreAt n
    k.shadow = { y with landing := [], a := k.shadow.a, b := k.shadow.b } ∧
    (∀ p < 32, y.dead false p = false → k.shadow.a.get {} p = y.a.get {} p) ∧
    (∀ p < 32, y.dead true p = false → k.shadow.b.get {} p = y.b.get {} p) ∧ k.ckptAddr = addr ∧ k.ckptSeq = q ∧ k.sync = (s.coreAt n).sync ∧
    k.mode = (s.coreAt n).mode ∧ k.guest = (s.coreAt n).guest ∧
    (∀ x ∈ k.stores, x.seqNo < q → x.released = true) ∧ (∀ x ∈ k.mq, x.seqNo < q → x.committed = true) ∧
    (∀ x ∈ k.cqa, x.seqNo < q → x.committed = true) ∧ (∀ x ∈ k.cqb, x.seqNo < q → x.committed = true) ∧
    (∀ x ∈ k.tq, x.seqNo < q → x.committed = true) ∧
    (∀ x ∈ (s.coreAt n).stores, q ≤ x.seqNo → x ∈ k.stores) ∧ k.stores.length = (s.coreAt n).stores.length ∧
    k.stores.map (fun x => (x.seqNo, x.kind, x.pa, x.sel, x.bytes)) =
      (s.coreAt n).stores.map (fun x => (x.seqNo, x.kind, x.pa, x.sel, x.bytes)) ∧
    (∀ x ∈ (s.coreAt n).mq, q ≤ x.seqNo → x ∈ k.mq) ∧ k.mq.length = (s.coreAt n).mq.length ∧
    (∀ x ∈ (s.coreAt n).cqa, q ≤ x.seqNo → x ∈ k.cqa) ∧ k.cqa.length = (s.coreAt n).cqa.length ∧
    (∀ x ∈ (s.coreAt n).cqb, q ≤ x.seqNo → x ∈ k.cqb) ∧ k.cqb.length = (s.coreAt n).cqb.length ∧
    (∀ x ∈ (s.coreAt n).tq, q ≤ x.seqNo → x ∈ k.tq) ∧ k.tq.length = (s.coreAt n).tq.length) ∧
  (∀ (s : State) (n why : Nat),
    let k := (s.rollback n why).coreAt n
    k.sync = (s.coreAt n).shadow ∧ k.shadow = (s.coreAt n).shadow ∧ k.mode = (s.coreAt n).mode ∧ k.trap = (s.coreAt n).trap ∧
    k.stores = (s.coreAt n).stores.filter (fun x => x.released) ∧ k.mq = (s.coreAt n).mq.filter (fun x => x.committed) ∧
    k.cqa = (s.coreAt n).cqa.filter (fun x => x.committed) ∧ k.cqb = (s.coreAt n).cqb.filter (fun x => x.committed))

/-- R321, R322: YCHK gives the request bit; YIELD with a request and outside handler mode asks for the save at the next
bundle and has no effect otherwise; WFE consumes a set latch, ends at once on a yield request and waits otherwise; EVSIG,
with no store outstanding, sends its mask 12 cycles ahead to the cores of the cluster.
R333 to R337, R479 to R481: a barrier instruction whose access the unit has answered completes: sD receives the answer
and the next bundle waits until 4 cycles after it; without an answer it sends its access and waits. BKPT asks for the stop
when its context is debugged with BPEN and has no effect otherwise; MARK makes a record of type 4 with the value of sA, once no other slot of its bundle stalls. -/
def Obligations.WaitsSignalsAndBarriers : Prop :=
  (
  ∀ s : State,
    (∀ o : OpSYc, s.guardOn o.g o.n = true → exec (.ychk o) s = .next (s.writeG o.e.toNat s.core.yreq 1)) ∧
    (∀ o : OpSN, s.guardOn o.g o.n = true →
      (s.core.yreq = true → s.core.mode ≠ .handler →
        exec (.yield o) s = .next (s.modCore (fun k => { k with yieldPend := some k.seqNo }))) ∧
      (s.core.yreq = false ∨ s.core.mode = .handler → exec (.yield o) s = .next s) ∧
      (s.core.latch = true → exec (.wfe o) s = .next (s.modCore (fun k => { k with latch := false }))) ∧
      (s.core.latch = false → s.core.yreq = true → exec (.wfe o) s = .next s) ∧
      (s.core.latch = false → s.core.yreq = false → exec (.wfe o) s = .next (s.stallOn 15))) ∧
    (∀ o : OpSEv, s.guardOn o.g o.n = true → s.clear = true → s.core.stores = [] →
      ∃ t, exec (.evsig o) s = .next t ∧
        (t.clAt (clOf s.focus)).evs = ((s.l1Clean s.focus).clAt (clOf s.focus)).evs ++
          [(s.now + 12, ((s.rs o.a).toNat % 256 ||| o.m.toNat) + 256 * s.gid)])
  ) ∧
  (
  (∀ (o : OpSBar) (s : State) (r : BarReq) (v : Nat), s.guardOn o.g o.n = true → s.clear = true →
    (s.clAt (clOf s.focus)).breqs.find? (fun r => r.core == s.focus % 8) = some r → r.ans = some v →
    ∀ i ∈ [Instr.bar o, Instr.bara o, Instr.barw o, Instr.bari o],
      exec i s = .next (((s.modCl (clOf s.focus) (fun x => { x with breqs := x.breqs.filter (fun r => r.core != s.focus % 8) })).ws o.d
        (BitVec.ofNat 64 v) 1).holdNext (r.ansAt + 3 - s.now))) ∧
  (∀ (o : OpSBar) (s : State), s.guardOn o.g o.n = true → s.clear = true → s.core.stores = [] →
    (s.clAt (clOf s.focus)).breqs.find? (fun r => r.core == s.focus % 8) = none →
    ∀ p ∈ [(Instr.bar o, 0), (Instr.bara o, 1), (Instr.barw o, 2), (Instr.bari o, 3)],
      exec p.1 s = .next ((s.modCl (clOf s.focus) (fun x => { x with breqs := x.breqs ++
        [{ core := s.focus % 8, op := p.2, bar := o.b.toNat, val := (s.rs o.a).toNat, actAt := s.now + 4 }] })).stallOn 15)) ∧
  (∀ (o : OpSBk) (s : State), s.guardOn o.g o.n = true →
    (∀ c, s.dbgFor s.focus = some c → bitOf 0 c.1 = true →
      exec (.bkpt o) s = .next (s.modCore (fun k => { k with dbg := { k.dbg with bk := some (k.seqNo, o.i.toNat) } }))) ∧
    (s.dbgFor s.focus = none → exec (.bkpt o) s = .next s)) ∧
  (∀ (o : OpSLoop) (s : State), s.guardOn o.g o.n = true →
    exec (.mark o) s = .next (if s.cx.stall = none then s.traceB 4 o.i.toNat s.cx.addr (s.rs o.a).toNat else s))
  )

/-- R450: the services of Bowline complete once nothing else of the bundle stands in the way: KEND ends the kernel,
SYSORD returns 0 after the stores of the core, EVADD adds to an event counter, CLAIM and RELEASE return the status of the
claim, GSTAT the state of the guest, NOTIFY whether its event found the ring full, and an unknown service all ones. -/
def Obligations.ServicesComplete : Prop :=
  ∀ (o : OpSR2) (s : State), s.guardOn o.g o.n = true → s.clear = true →
    let a := (s.rs o.a).toNat
    let t := s.l1Clean s.focus
    (∃ u, exec (.kend o) s = .next u ∧ u.core.mode = .saving ∧ u.core.saveKind = 3) ∧
    exec (.gstat o) s = .next (s.ws o.d (BitVec.ofNat 64
      ((s.gc s.gid).tenant * 65536 + (if (s.gc s.gid).en = true then (s.gc s.gid).cls else 0) * 1024 + s.gid * 16 + (s.gc s.gid).gstate)) 1) ∧
    (s.replaying s.focus = false →
      (s.core.stores = [] → exec (.sysord o) s = .next (t.ws o.d 0 1) ∧
        exec (.evadd o) s = .next ((t.evAdd t.gid (a / 2 ^ 56 % 256) (a % 2 ^ 32)).ws o.d 0 1)) ∧
      exec (.claim o) s = .next ((s.guestClaim s.gid (a % 2 ^ 16)).1.ws o.d (BitVec.ofNat 64 (s.guestClaim s.gid (a % 2 ^ 16)).2) 1) ∧
      exec (.release o) s = .next ((s.guestRelease s.gid (a % 2 ^ 16)).1.ws o.d (BitVec.ofNat 64 (s.guestRelease s.gid (a % 2 ^ 16)).2) 1) ∧
      exec (.notify o) s = .next ((s.statusEvent s.gid 7 0 0 a).ws o.d
        (if (s.guestAt s.gid).sevEn && s.sevFull s.gid then 1 else 0) 1) ∧
      (∀ svc : BitVec 9, exec (.sysc { g := o.g, n := o.n, d := o.d, a := o.a, svc := svc }) s =
        .next (s.ws o.d (BitVec.allOnes 64) 1)))

/-- R142, R290: MOVC writes the register's value at issue to sD; MOVCW's value is that of every later bundle. In particular
the trap registers take writes in handler mode alone, WARN is write-1-to-clear with the bits of the same bundle kept,
LDEPTH, RRB, NBASE, the stream words and TWIN keep their fields, and a zero random state becomes 1. -/
def Obligations.ControlRegisters : Prop :=
  ∀ s : State,
    (∀ o : OpSMovc, s.guardOn o.g o.n = true → (crOutside o.c.toNat = true → s.core.branches = []) →
      (o.c.toNat = 0x0E4 → ∀ t < 8, s.core.tileBusy t = false) →
      exec (.movc o) s = .next ((s.ws o.d (BitVec.ofNat 64 (s.crValue s.focus s.pre o.c.toNat)) 2).latchPmc o.c.toNat)) ∧
    (∀ o : OpSLoop, s.guardOn o.g o.n = true → (crOutside o.i.toNat = true → s.core.branches = []) →
      ((0x040 ≤ o.i.toNat ∧ o.i.toNat ≤ 0x07F ∧ o.i.toNat % 4 = 2) → s.core.ringBusy ((o.i.toNat - 0x40) / 4) = false) →
      exec (.movcw o) s = .next (s.crWrite o.i.toNat (s.rs o.a))) ∧
    (∀ v : W64,
      let reads (t : State) (cr : Nat) : Nat := t.crValue s.focus (t.coreAt s.focus).sync cr
      let after (cr : Nat) : Nat := reads (s.crWrite cr v) cr
      (∀ cr, 0x010 ≤ cr → cr ≤ 0x015 → s.core.mode ≠ .handler → s.crWrite cr v = s) ∧
      (s.core.mode = .handler → after 0x011 = v.toNat % 2 ^ 48 ∧ after 0x012 = v.toNat % 2 ^ 48 ∧ after 0x013 = v.toNat % 256 ∧
        after 0x014 = v.toNat ∧ after 0x015 = v.toNat / 4 % 2 ^ 46 * 4 + v.toNat % 2) ∧
      (∀ i < 12, (after 0x016).testBit i = ((s.core.sync.warn.testBit i && !v.toNat.testBit i) || s.cx.warn.testBit i)) ∧
      after 0x022 = v.toNat % 16 ∧ after 0x023 = v.toNat % 16 ∧
      (∀ n < 16, after (0x040 + 4 * n) = v.toNat % 2 ^ 48 / 128 * 128 ∧
        after (0x081 + 4 * n) = v.toNat ∧ after (0x082 + 4 * n) = v.toNat) ∧
      after 0x0D0 = max 1 (v.toNat % 256) ∧
      after 0x0D8 = (if v.toNat % 2 ^ 32 = 0 then 1 else v.toNat % 2 ^ 32))

/-- R441 to R445: the requests of a kernel to the command processor complete once the stores of the core are performed:
LNCH, once the requests of its accesses have passed their points, enters the node at its address and returns 0, or 4 for a
misaligned address, 2 for one that cannot be read and 3 for another or a bad node, whose NEXT is ignored; GARM arms a graph that runs and returns
0, or 4; HIRQ posts its vector; PFLIP exchanges the planes and returns 0, or 1 when the inactive one is not ready. -/
def Obligations.LaunchRequests : Prop :=
  ∀ s : State, s.clear = true → s.core.stores = [] →
    let t := s.l1Clean s.focus
    (∀ o : OpSR2, s.guardOn o.g o.n = true → s.replaying s.focus = false →
      let a := (t.rs o.a).toNat
      let ends (w : State) : Prop := t.Through (cpPayer t.gid) w → exec (.lnch o) s = .next (w.paidUp (cpPayer t.gid))
      (a % 32 ≠ 0 → ends (t.collecting.ws o.d 4 1)) ∧
      (∀ u x, a % 32 = 0 → t.collecting.nodeRead t.gid a = (u, .ok x) →
        let n := { x with bytes := patch x.bytes 8 (List.replicate 8 0) }
        ((n.kind = 1 ∨ n.kind = 2) → nodeOk (u.guestAt t.gid).gc n = true → u.unfinished t.gid < 256 →
          ends ((u.enterNode t.gid t.ownStream 0 n).ws o.d 0 1)) ∧
        ((n.kind ≠ 1 ∧ n.kind ≠ 2 ∨ nodeOk (u.guestAt t.gid).gc n = false) → ends (u.ws o.d 3 1))) ∧
      (∀ u e, a % 32 = 0 → t.collecting.nodeRead t.gid a = (u, .error e) → ends (u.ws o.d 2 1))) ∧
    (∀ o : OpSGarm, s.guardOn o.g o.n = true → s.replaying s.focus = false →
      let a := (t.rs o.a).toNat
      (a % 32 ≠ 0 → exec (.garm o) s = .next (t.ws o.d 4 1)) ∧
      (a % 32 = 0 → (t.cms t.gid o.k.toNat).en = true → (t.cms t.gid o.k.toNat).halt = false → (t.cms t.gid o.k.toNat).run = true →
        (t.cms t.gid o.k.toNat).gHead = a →
        exec (.garm o) s = .next ((t.modCms t.gid o.k.toNat (fun q => { q with arm := true })).ws o.d 0 1))) ∧
    (∀ o : OpSHirq, s.guardOn o.g o.n = true → s.replaying s.focus = false → exec (.hirq o) s = .next (t.irqPost t.gid o.v.toNat)) ∧
    (∀ o : OpSD, s.guardOn o.g o.n = true → t.core.splicing = none →
      (t.core.planeReady = false → exec (.pflip o) s = .next (t.ws o.d 1 1)) ∧
      (t.core.planeReady = true → (∀ r < 16, t.core.ringDiffers r = true → t.core.ringBusy r = false) →
        exec (.pflip o) s = .next (((t.modCore Core.flip).ws o.d 0 1).holdNext 11)))

/-- R161, R162, R164: an element-wise arithmetic or shift instruction, its guard true and its operand B there, completes:
for an integer tag of A every element is the exact result modulo 2^w (VMULH the upper half of the product, a shift by
B mod w), for a float tag it is rounded once by RNE, and a t8 sum and difference follow R92. A working format that the
instruction has no meaning for takes the FMTOP fallback of R158: zeros, and WARN.FMTOP alone. -/
def Obligations.VectorArithmetic : Prop :=
  ∀ (o : OpV3) (s : State), s.guardOn o.g false = true → s.BReady o.b (vWidth o.w) →
    ∃ (t : State) (ob : VOpd), s.TakesB o.sl o.b (vWidth o.w) t ob ∧
    let a := s.vA o.sl o.a o.l (vWidth o.w)
    let T := a.2
    let w := tagBits T
    let n := vWidth o.w / w
    let b := s.vConv o.sl ob T (vWidth o.w)
    let d := s.vConv o.sl (s.vReg o.sl o.d.toNat) T (vWidth o.w)
    let I (l : List Nat) (k : Nat) : Int := intOf T (l.getD k 0)
    let F (l : List Nat) (k : Nat) : Machine.Num := numOf T (l.getD k 0)
    let put (lat : Nat) (e : Nat → Nat) : State := t.vput o.sl o.m o.d.toNat w n T ((List.range n).map e) lat
    let ints (i : Instr) (lat : Nat) (f : Nat → Int) : Prop := T ≤ 6 → exec i s = .next ((put lat (fun k => patOf w (f k))).warns b.2)
    let floats (i : Instr) (f : Nat → Machine.Num) : Prop := isFloatTag T = true →
      exec i s = .next ((put 4 (fun k => (floatFmt T).round .rne (f k))).warns b.2)
    let t8 (i : Instr) (f : Nat → Nat → Nat) : Prop := T = 14 →
      exec i s = .next ((put 3 (fun k => f (a.1.getD k 0) (b.1.getD k 0))).warns b.2)
    let none (i : Instr) (c : Prop) (lat : Nat) : Prop := c →
      exec i s = .next ((t.vput o.sl o.m o.d.toNat w n T (List.replicate n 0) lat).warn wFMTOP true)
    ints (.vadd o) 3 (fun k => I a.1 k + I b.1 k) ∧ floats (.vadd o) (fun k => (F a.1 k).add .rne (F b.1 k)) ∧
    t8 (.vadd o) (fun x y => min (x + y) 255) ∧
    ints (.vsub o) 3 (fun k => I a.1 k - I b.1 k) ∧ floats (.vsub o) (fun k => (F a.1 k).add .rne (F b.1 k).neg) ∧
    t8 (.vsub o) (fun x y => if x = 255 then 255 else if y = 255 then 0 else x - y) ∧
    ints (.vmul o) 3 (fun k => I a.1 k * I b.1 k) ∧ floats (.vmul o) (fun k => (F a.1 k).mul (F b.1 k)) ∧
    (T ≤ 6 → exec (.vfma o) s = .next (((put 3 (fun k => patOf w (I a.1 k * I b.1 k + I d.1 k))).warns b.2).warns d.2) ∧
      exec (.vfms o) s = .next (((put 3 (fun k => patOf w (I a.1 k * I b.1 k - I d.1 k))).warns b.2).warns d.2)) ∧
    (isFloatTag T = true →
      exec (.vfma o) s = .next (((put 4 (fun k => (floatFmt T).round .rne
        (((F a.1 k).mul (F b.1 k)).add .rne (F d.1 k)))).warns b.2).warns d.2) ∧
      exec (.vfms o) s = .next (((put 4 (fun k => (floatFmt T).round .rne
        (((F a.1 k).mul (F b.1 k)).add .rne (F d.1 k).neg))).warns b.2).warns d.2)) ∧
    ints (.vmin o) 3 (fun k => min (I a.1 k) (I b.1 k)) ∧ floats (.vmin o) (fun k => (F a.1 k).min (F b.1 k)) ∧ t8 (.vmin o) min ∧
    ints (.vmax o) 3 (fun k => max (I a.1 k) (I b.1 k)) ∧ floats (.vmax o) (fun k => (F a.1 k).max (F b.1 k)) ∧ t8 (.vmax o) max ∧
    ints (.vsqd o) 3 (fun k => (I a.1 k - I b.1 k) * (I a.1 k - I b.1 k)) ∧
    floats (.vsqd o) (fun k => ((F a.1 k).add .rne (F b.1 k).neg).mul ((F a.1 k).add .rne (F b.1 k).neg)) ∧
    ints (.vmulh o) 3 (fun k => I a.1 k * I b.1 k / 2 ^ w) ∧
    ints (.vsra o) 3 (fun k => I a.1 k / 2 ^ (b.1.getD k 0 % w)) ∧
    (T ≤ 6 → exec (.vshl o) s = .next ((put 3 (fun k => a.1.getD k 0 * 2 ^ (b.1.getD k 0 % w) % 2 ^ w)).warns b.2) ∧
      exec (.vshr o) s = .next ((put 3 (fun k => a.1.getD k 0 / 2 ^ (b.1.getD k 0 % w))).warns b.2)) ∧
    (∀ i ∈ [Instr.vadd o, .vsub o, .vmin o, .vmax o], none i (11 < T ∧ T ≠ 14) (if T ≤ 13 then 4 else 3)) ∧
    (∀ i ∈ [Instr.vmul o, .vfma o, .vfms o, .vsqd o], none i (11 < T) (if T ≤ 13 then 4 else 3)) ∧
    (∀ i ∈ [Instr.vmulh o, .vshl o, .vshr o, .vsra o], none i (6 < T) 3)

/-- R163, R164: VDOT4 on i8 or ui8 completes and adds the four products of each 32-bit lane to D, read as i32 or ui32
whatever its tag, saturated, and tags D so; another tag takes the fallback, tagged i32. VAND, VOR and VXOR complete on every
format, bit by bit; B is converted unless either tag is 12 or 13. -/
def Obligations.VectorDotAndBits : Prop :=
  ∀ (o : OpV3) (s : State), s.guardOn o.g false = true → s.BReady o.b (vWidth o.w) →
    ∃ (t : State) (ob : VOpd), s.TakesB o.sl o.b (vWidth o.w) t ob ∧
    let a := s.vA o.sl o.a o.l (vWidth o.w)
    let T := a.2
    let w := tagBits T
    let n := vWidth o.w / w
    let b := s.vConv o.sl ob T (vWidth o.w)
    let d := elemsOf 32 (vWidth o.w / 32) (s.readV o.sl o.d.toNat).bits.toNat
    let dot (j : Nat) : Int := ([0, 1, 2, 3].map (fun k => intOf T (a.1.getD (4 * j + k) 0) * intOf T (b.1.getD (4 * j + k) 0))).sum
    let put (D : Nat) : State := t.vput o.sl o.m o.d.toNat 32 (vWidth o.w / 32) D
      ((List.range (vWidth o.w / 32)).map (fun j => patOf 32 (satInt D (intOf D (d.getD j 0) + dot j)))) 4
    let bits (i : Instr) (f : Nat → Nat → Nat) : Prop :=
      let raw := T = 12 ∨ T = 13 ∨ ob.tag = 12 ∨ ob.tag = 13
      let put (e : List Nat) : State := t.vput o.sl o.m o.d.toNat w n T ((List.range n).map (fun k => f (a.1.getD k 0) (e.getD k 0))) 3
      (raw → exec i s = .next (put (elemsOf w n ob.bits))) ∧ (¬ raw → exec i s = .next ((put b.1).warns b.2))
    (T = 0 → exec (.vdot4 o) s = .next ((put 4).warns b.2)) ∧ (T = 1 → exec (.vdot4 o) s = .next ((put 5).warns b.2)) ∧
    (1 < T → exec (.vdot4 o) s = .next ((t.vput o.sl o.m o.d.toNat 32 (vWidth o.w / 32) 4
      (List.replicate (vWidth o.w / 32) 0) 4).warn wFMTOP true)) ∧
    bits (.vand o) (fun x y => x &&& y) ∧ bits (.vor o) (fun x y => x ||| y) ∧ bits (.vxor o) (fun x y => x ^^^ y)

/-- R161, R174, R175, R178: VABS, VNEG, VMOV and the special functions complete. VABS and VNEG act on integer and float
elements; VMOV copies every element of every format; a special function of an f16, bf16 or f32 element is the exact function
rounded (for f32 with the significands of R174), with the special values of R175; the other formats take the fallback. -/
def Obligations.VectorUnary : Prop :=
  (∀ (o : OpV2) (s : State), s.guardOn o.g false = true →
    let a := s.vA o.sl o.a o.l (vWidth o.w)
    let T := a.2
    let w := tagBits T
    let n := vWidth o.w / w
    let put (lat : Nat) (f : Nat → Nat) : State := s.vput o.sl o.m o.d.toNat w n T (a.1.map f) lat
    let none (i : Instr) (lat : Nat) : Prop :=
      exec i s = .next ((s.vput o.sl o.m o.d.toNat w n T (List.replicate n 0) lat).warn wFMTOP true)
    (T ≤ 6 → exec (.vabs o) s = .next (put 3 (fun x => patOf w (Int.natAbs (intOf T x)))) ∧
      exec (.vneg o) s = .next (put 3 (fun x => patOf w (-intOf T x)))) ∧
    (isFloatTag T = true → exec (.vabs o) s = .next (put 4 (fun x => (floatFmt T).round .rne (numOf T x).abs)) ∧
      exec (.vneg o) s = .next (put 4 (fun x => (floatFmt T).round .rne (numOf T x).neg))) ∧
    (11 < T → none (.vabs o) (if T ≤ 13 then 4 else 3) ∧ none (.vneg o) (if T ≤ 13 then 4 else 3)) ∧
    exec (.vmov o) s = .next (put 3 id) ∧
    (∀ p ∈ [(Instr.vexp2 o, SpFn.exp2), (.vlog2 o, .log2), (.vrcp o, .rcp), (.vrsq o, .rsq), (.vsigm o, .sigm), (.vtanh o, .tanh)],
      ((T = 7 ∨ T = 8) → exec p.1 s = .next (put 8 (fun x => (floatFmt T).round .rne (p.2.eval (numOf T x))))) ∧
      (T = 9 →
        let ib := if p.2 = .rcp ∨ p.2 = .rsq then 8 else 15
        let ob := if p.2 = .rcp ∨ p.2 = .rsq then 12 else 15
        exec p.1 s = .next (put 8 (fun x => f32.round .rne (roundSig ob (p.2.eval (truncSig ib (f32.decode x))))))) ∧
      (T < 7 ∨ 9 < T → none p.1 8))) ∧
  (∀ fn : SpFn, fn.eval .nan = .nan) ∧
  (∀ e : Int, SpFn.exp2.eval (.inf true) = .fin false 0 0 ∧ SpFn.exp2.eval (.inf false) = .inf false ∧
    (∀ z, SpFn.exp2.eval (.fin z 0 e) = .fin false 1 0) ∧
    SpFn.log2.eval (.inf true) = .nan ∧ (∀ z, SpFn.log2.eval (.fin z 0 e) = .inf true) ∧ (∀ m, m ≠ 0 → SpFn.log2.eval (.fin true m e) = .nan) ∧
    (∀ z, SpFn.rcp.eval (.inf z) = .fin z 0 0 ∧ SpFn.rcp.eval (.fin z 0 e) = .inf z ∧ SpFn.rsq.eval (.fin z 0 e) = .inf z) ∧
    (∀ m, m ≠ 0 → SpFn.rsq.eval (.fin true m e) = .nan) ∧ SpFn.rsq.eval (.inf false) = .fin false 0 0 ∧
    SpFn.sigm.eval (.inf true) = .fin false 0 0 ∧ SpFn.sigm.eval (.inf false) = .fin false 1 0 ∧
    (∀ z, SpFn.sigm.eval (.fin z 0 e) = .fin false 1 (-1)) ∧
    (∀ z, SpFn.tanh.eval (.inf z) = .fin z 1 0 ∧ SpFn.tanh.eval (.fin z 0 e) = .fin z 0 0))

/-- R176, R177: the reductions complete with their value in element 0 and zeros above it, whatever MSK: for integers the
saturated exact sum, the greatest, the least and the greatest magnitude of the contributing elements (the identity when
there is none), for floats the pairwise tree with each node rounded; VSCAN's element k is the saturated exact sum of the
first k + 1 elements, and of floats each sum is rounded in turn. Formats above 11 take the fallback. -/
def Obligations.VectorReductions : Prop :=
  ∀ (o : OpV2) (s : State), s.guardOn o.g false = true →
    let a := s.vA o.sl o.a o.l (vWidth o.w)
    let T := a.2
    let w := tagBits T
    let n := vWidth o.w / w
    let on (k : Nat) : Bool := !o.m || (s.mask0 o.sl).getLsbD k
    let X (k : Nat) : Int := intOf T (a.1.getD k 0)
    let one (v : Nat) : State := s.vput o.sl false o.d.toNat w n T (v :: List.replicate (n - 1) 0) 6
    let sum (k : Nat) : Int := ((List.range k).map (fun j => if on j then X j else 0)).sum
    let floats (i : Instr) (f : Machine.Num → Machine.Num → Machine.Num) (x : Nat → Machine.Num) (unit : Machine.Num) : Prop :=
      isFloatTag T = true →
        exec i s = .next (one ((floatFmt T).round .rne (tree f 10 ((List.range n).map (fun k => if on k then x k else unit)))))
    (T ≤ 6 →
      exec (.vrsum o) s = .next (one (patOf w (satInt T (sum n)))) ∧
      (∃ m : Int, exec (.vrmax o) s = .next (one (patOf w (satInt T m))) ∧ (∀ k < n, on k = true → X k ≤ m) ∧
        (m = tagMin T ∨ ∃ k < n, on k = true ∧ m = X k)) ∧
      (∃ m : Int, exec (.vrmin o) s = .next (one (patOf w (satInt T m))) ∧ (∀ k < n, on k = true → m ≤ X k) ∧
        (m = tagMax T ∨ ∃ k < n, on k = true ∧ m = X k)) ∧
      (∃ m : Int, exec (.vamax o) s = .next (one (patOf w (satInt T m))) ∧ (∀ k < n, on k = true → (X k).natAbs ≤ m) ∧
        (m = 0 ∨ ∃ k < n, on k = true ∧ m = (X k).natAbs)) ∧
      exec (.vscan o) s = .next (s.vput o.sl false o.d.toNat w n T
        ((List.range n).map (fun k => patOf w (satInt T (sum (k + 1))))) 6)) ∧
    (isFloatTag T = true → ∃ p : Nat → Machine.Num,
      let x (k : Nat) : Machine.Num := if on k then numOf T (a.1.getD k 0) else .fin false 0 0
      p 0 = x 0 ∧ (∀ k, p (k + 1) = (floatFmt T).decode ((floatFmt T).round .rne ((p k).add .rne (x (k + 1))))) ∧
      exec (.vscan o) s = .next (s.vput o.sl false o.d.toNat w n T ((List.range n).map (fun k => (floatFmt T).round .rne (p k))) 6)) ∧
    floats (.vrsum o) (fun x y => (floatFmt T).decode ((floatFmt T).round .rne (x.add .rne y))) (fun k => numOf T (a.1.getD k 0))
      (.fin true 0 0) ∧
    floats (.vrmax o) Num.max (fun k => numOf T (a.1.getD k 0)) (.inf true) ∧
    floats (.vrmin o) Num.min (fun k => numOf T (a.1.getD k 0)) (.inf false) ∧
    floats (.vamax o) Num.max (fun k => (numOf T (a.1.getD k 0)).abs) (.fin false 0 0) ∧
    (11 < T → ∀ i ∈ [Instr.vrsum o, .vrmax o, .vrmin o, .vamax o, .vscan o],
      exec i s = .next ((s.vput o.sl o.m o.d.toNat w n T (List.replicate n 0) 6).warn wFMTOP true))

/-- R165 to R168: a vector compare completes and writes its mask: bit k for an element below n is the truth of its relation,
a higher bit is 0; an order of integers by A's tag, of floats with NaN unordered, of t8 as numbers. VSEL takes A or B by
mask 1, the mask operations act on all 256 bits, and KPOP counts them in element 0. -/
def Obligations.VectorComparesAndMasks : Prop :=
  (∀ (o : OpVC) (s : State), s.guardOn o.g false = true → s.BReady o.b (vWidth o.w) →
    ∃ (t : State) (ob : VOpd), s.TakesB o.sl o.b (vWidth o.w) t ob ∧
    let a := s.vA o.sl o.a o.l (vWidth o.w)
    let T := a.2
    let n := vWidth o.w / tagBits T
    let b := s.vConv o.sl ob T (vWidth o.w)
    let mk := (if o.sl then 8 else 0) + o.k.toNat
    let u := t.warn wMSKIGN o.m
    let eq (x y : Nat) : Bool := if isFloatTag T then (numOf T x).eq (numOf T y) else decide (intOf T x = intOf T y)
    let lt (x y : Nat) : Bool := if isFloatTag T then (numOf T x).lt (numOf T y) else decide (intOf T x < intOf T y)
    let mask (i : Instr) (rel : Nat → Nat → Bool) : Prop :=
      ((T ≤ 11 ∨ T = 14) → ∃ m : BitVec 256,
        exec i s = .next ((u.writeK mk m (if 7 ≤ T ∧ T ≤ 13 then 4 else 3)).warns b.2) ∧
        ∀ k < 256, m.getLsbD k = (decide (k < n) && rel (a.1.getD k 0) (b.1.getD k 0))) ∧
      ((T = 12 ∨ T = 13) → exec i s = .next ((u.writeK mk 0 4).warn wFMTOP true))
    mask (.vceq o) eq ∧ mask (.vcne o) (fun x y => !eq x y) ∧ mask (.vclt o) lt ∧ mask (.vcle o) (fun x y => eq x y || lt x y)) ∧
  (∀ (o : OpV3) (s : State), s.guardOn o.g false = true → s.BReady o.b (vWidth o.w) →
    ∃ (t : State) (ob : VOpd), s.TakesB o.sl o.b (vWidth o.w) t ob ∧
    let a := s.vA o.sl o.a o.l (vWidth o.w)
    let b := s.vConv o.sl ob a.2 (vWidth o.w)
    let n := vWidth o.w / tagBits a.2
    let m := s.readK (if o.sl then 9 else 1)
    exec (.vsel o) s = .next ((t.vput o.sl o.m o.d.toNat (tagBits a.2) n a.2
      ((List.range n).map (fun k => if m.getLsbD k = true then a.1.getD k 0 else b.1.getD k 0)) 3).warns b.2)) ∧
  (∀ (o : OpVK) (s : State), s.guardOn o.g false = true →
    let f := if o.sl then 8 else 0
    let x := s.readK (f + o.j.toNat)
    let y := s.readK (f + o.h.toNat)
    let put (v : BitVec 256) : State := ((s.writeK (f + o.k.toNat) v 1).warn wMSKIGN o.m).warn wLPIGN (o.l != 0)
    exec (.kand o) s = .next (put (x &&& y)) ∧ exec (.kor o) s = .next (put (x ||| y)) ∧ exec (.kxor o) s = .next (put (x ^^^ y))) ∧
  (∀ (o : OpVK1) (s : State), s.guardOn o.g false = true →
    let f := if o.sl then 8 else 0
    exec (.knot o) s = .next (((s.writeK (f + o.k.toNat) (~~~ s.readK (f + o.j.toNat)) 1).warn wMSKIGN o.m).warn wLPIGN (o.l != 0))) ∧
  (∀ (o : OpVKp) (s : State), s.guardOn o.g false = true →
    let m := s.readK ((if o.sl then 8 else 0) + o.j.toNat)
    let n := vWidth o.w / 32
    let count := ((List.range 256).map (fun k => if m.getLsbD k = true then 1 else 0)).sum
    exec (.kpop o) s = .next ((s.vput o.sl o.m o.d.toNat 32 n 4 (count :: List.replicate (n - 1) 0) 3).warn wLPIGN (o.l != 0)))

/-- R169, R170, R173: VCVT completes with the elements converted to its target, by RNE between integer formats (a mode sets
RNDNA), by its mode otherwise, and stochastically with one step of the random state for each element; VRND completes with
integral values of the same format; both take the fallback for tags 12 and 13 (VRND for t8 too), and VRND's stochastic mode sets STOCH on every tag (the model's
reading where the tag has no rounding, log entry 114). VTAG keeps the bits and gives the new tag.
R159, R160: an operand whose tag is not A's is converted element by element, by RNE or SAT, with TAGMIX: an integer and a t8
number as its value, a float as its value (NaN gives 0, the canonical NaN or NEV, an infinity the extreme of the format), a
code of an even register by the metadata of the next one, a tag of 13 as ui16; elements beyond the operand's own are 0. Codes
of an odd register, a stream or a constant give zeros and FMTOP, and a format 12 or 13 of A converts nothing (TAGMIX is set then
too by the model's reading, log entry 101). -/
def Obligations.VectorConversions : Prop :=
  (∀ (o : OpVCv) (s : State), s.guardOn o.g false = true →
    let v := s.readV o.sl o.a.toNat
    let T := o.t.toNat
    let w := tagBits T
    let n := vWidth o.w / max (tagBits v.tag) w
    let x := elemsOf (tagBits v.tag) n v.bits.toNat
    let put (l : List Nat) : State := s.vput o.sl o.m o.d.toNat w n T l 4
    let special := T = 12 ∨ T = 13 ∨ v.tag = 12 ∨ v.tag = 13
    let exact := intLike v.tag = true ∧ intLike T = true
    let st := s.core.sync.rng
    (special → exec (.vcvt o) s = .next ((put (List.replicate n 0)).warn wFMTOP true)) ∧
    (¬ special → exact → exec (.vcvt o) s = .next ((put (x.map (convElem .rne v.tag T))).warn wRNDNA (o.r != 0))) ∧
    (¬ special → ¬ exact → o.r.toNat = 4 → exec (.vcvt o) s = .next
      ((put ((List.range n).map (fun k => convElem (.rs (rngSteps (k + 1) st % 2 ^ 16)) v.tag T (x.getD k 0)))).modSync
        (fun y => { y with rng := rngSteps n st }))) ∧
    (¬ special → ¬ exact → o.r.toNat ≠ 4 → exec (.vcvt o) s = .next (put (x.map (convElem (RMode.ofCode o.r.toNat) v.tag T))))) ∧
  (∀ (o : OpVRn) (s : State), s.guardOn o.g false = true →
    let v := s.readV o.sl o.a.toNat
    let w := tagBits v.tag
    let n := vWidth o.w / w
    let x := elemsOf w n v.bits.toNat
    let put (u : State) (l : List Nat) : State := u.vput o.sl o.m o.d.toNat w n v.tag l 4
    let rne := s.warn wSTOCH (o.r.toNat == 4)
    let m := if o.r.toNat = 4 then RMode.rne else RMode.ofCode o.r.toNat
    let integral (b : Nat) : Nat := match numOf v.tag b with
      | .fin neg k e => (floatFmt v.tag).round .rne (.fin neg (roundMul m neg k e 0) 0)
      | y => (floatFmt v.tag).round .rne y
    (v.tag ≤ 6 → exec (.vrnd o) s = .next ((put rne x).warn wRNDNA (o.r != 0))) ∧
    (isFloatTag v.tag = true → exec (.vrnd o) s = .next (put rne (x.map integral))) ∧
    (11 < v.tag → exec (.vrnd o) s = .next ((put rne (List.replicate n 0)).warn wFMTOP true))) ∧
  (∀ (o : OpVTg) (s : State), s.guardOn o.g false = true →
    let a := s.vA o.sl o.a o.l (vWidth o.w)
    exec (.vtag o) s = .next (s.vput o.sl o.m o.d.toNat (tagBits a.2) (vWidth o.w / tagBits a.2) o.t.toNat a.1 1)) ∧
  (∀ (s : State) (sl : Bool) (o : VOpd) (T W : Nat), T ≤ 14 → o.tag ≤ 14 →
    let w := tagBits T
    let n := W / w
    let x (i : Nat) : Nat := o.bits / 2 ^ (tagBits o.tag * i) % 2 ^ tagBits o.tag
    let enc (y : Machine.Num) : Nat :=
      if T ≤ 6 then (match y with
        | .nan => 0
        | .inf neg => patOf w (if neg then tagMin T else tagMax T)
        | .fin neg k e => patOf w (satInt T (roundInt .rne neg k e)))
      else if T = 14 then (match y with
        | .nan => 255
        | .inf neg => if neg then 0 else 255
        | .fin neg k e => if roundInt .rne neg k e < 0 then 0 else if 254 < roundInt .rne neg k e then 255
            else (roundInt .rne neg k e).toNat)
      else (floatFmt T).round .rne y
    let md (r i : Nat) : Nat := (s.readV sl (r + 1)).bits.toNat / 2 ^ (16 * (i / 32)) % 2 ^ 16
    let val (i : Nat) : Machine.Num :=
      if o.tag ≤ 6 then Num.ofInt (intOf o.tag (x i))
      else if o.tag = 12 then e2m1Value (md (o.reg.getD 0) i) (x i)
      else if o.tag = 13 ∨ o.tag = 14 then Num.ofInt (x i : Nat)
      else (floatFmt o.tag).decode (x i)
    let conv (i : Nat) : Nat :=
      if W / tagBits o.tag ≤ i then 0
      else if o.tag = 14 ∧ x i = 255 then
        (if T ≤ 6 then patOf w (tagMax T) else if T = 10 then e4m3.cnan else (floatFmt T).round .rne (.inf false))
      else enc (val i)
    let raw := (List.range n).map (fun i => o.bits / 2 ^ (w * i) % 2 ^ w)
    (o.tag = T → s.vConv sl o T W = (raw, [])) ∧
    (o.tag ≠ T → (T = 12 ∨ T = 13) → s.vConv sl o T W = (raw, [wTAGMIX])) ∧
    (o.tag ≠ T → T ≠ 12 → T ≠ 13 →
      (o.tag ≠ 12 ∨ (∃ r, o.reg = some r ∧ r % 2 = 0) → s.vConv sl o T W = ((List.range n).map conv, [wTAGMIX])) ∧
      (o.tag = 12 → (∀ r, o.reg = some r → r % 2 = 1) → s.vConv sl o T W = (List.replicate n 0, [wTAGMIX, wFMTOP])) ∧
      (∀ j : Int, T ≤ 6 → enc (Num.ofInt j) = patOf w (satInt T j)) ∧
      (isFloatTag T = true → enc .nan = (floatFmt T).cnan ∧ ∀ z,
        (T = 10 → enc (.inf z) = if z then 0xFE else 0x7E) ∧ (T ≠ 10 → (floatFmt T).decode (enc (.inf z)) = .inf z))))

/-- R171, R172: VQBLK completes: of the pair D, D + 1 the blocks that it writes receive the codes and the halfword of their
quantisation (zeros for an integer source), every other block keeps its bits, and the tags become 12 and 13; a block beyond
7 sets FMTOP. VDQBLK completes with the values of the pair's elements from its block on in the target format, zeros with
FMTOP beyond element 255 and for an odd A, and takes the fallback when A is not tagged 12. -/
def Obligations.BlockQuantisation : Prop :=
  (∀ (o : OpVQb) (s : State), s.guardOn o.g false = true →
    let a := s.vA o.sl o.a o.l (vWidth o.w)
    let n := vWidth o.w / tagBits a.2
    let nb := max 1 (n / 32)
    let first := o.o.toNat
    let written (k : Nat) : Prop := first ≤ k ∧ k < first + nb ∧ (o.m = false ∨ (s.mask0 o.sl).getLsbD k = true)
    let x (k i : Nat) : Machine.Num := if 32 * (k - first) + i < n then numOf a.2 (a.1.getD (32 * (k - first) + i) 0) else .fin false 0 0
    let quant (k : Nat) : List Nat × Nat :=
      if isFloatTag a.2 then quantBlock ((List.range 32).map (x k)) else (List.replicate 32 0, 0)
    ∃ codes metas : Line,
      exec (.vqblk o) s = .next (((s.writeVMerged o.sl o.d.toNat { bits := codes, tag := 12 } 4).writeVMerged o.sl (o.d.toNat + 1)
        { bits := metas, tag := 13 } 4).warn wFMTOP (!isFloatTag a.2 || decide (8 < first + nb))) ∧
      ∀ k < 8,
        (written k → codes.toNat / 2 ^ (128 * k) % 2 ^ 128 = packElems 4 (quant k).1 % 2 ^ 128 ∧
          metas.toNat / 2 ^ (16 * k) % 2 ^ 16 = (quant k).2 % 2 ^ 16) ∧
        (¬ written k → codes.toNat / 2 ^ (128 * k) % 2 ^ 128 = s.oldBits o.sl o.d.toNat / 2 ^ (128 * k) % 2 ^ 128 ∧
          metas.toNat / 2 ^ (16 * k) % 2 ^ 16 = s.oldBits o.sl (o.d.toNat + 1) / 2 ^ (16 * k) % 2 ^ 16)) ∧
  (∀ (o : OpVDq) (s : State), s.guardOn o.g false = true →
    let T := if o.t = 0 then 9 else if o.t = 1 then 8 else 7
    let w := tagBits T
    let n := vWidth o.w / w
    let v := s.readV o.sl o.a.toNat
    let codes := patterned (s.lanePat o.sl o.l) (elemsOf 4 256 v.bits.toNat)
    let half (k : Nat) : Nat := (s.readV o.sl (o.a.toNat + 1)).bits.toNat / 2 ^ (16 * (k / 32)) % 2 ^ 16
    let value (i : Nat) : Nat :=
      let k := 32 * o.o.toNat + i
      if 255 < k ∨ o.a.toNat % 2 = 1 then 0 else (floatFmt T).round .rne (e2m1Value (half k) (codes.getD k 0))
    let put (l : List Nat) : State := s.vput o.sl o.m o.d.toNat w n T l 4
    (v.tag ≠ 12 → exec (.vdqblk o) s = .next ((put (List.replicate n 0)).warn wFMTOP true)) ∧
    (v.tag = 12 → exec (.vdqblk o) s = .next ((put ((List.range n).map value)).warn wFMTOP
      (decide (o.a.toNat % 2 = 1) || decide (256 < 32 * o.o.toNat + n)))))

/-- R178, R180, R181, R46: VXAB completes and copies to the other file, VSPL writes element 0 of B into every element and
VIOTA counts up from it; VSQ appends the elements of A, or of its constant, to a bound output stream, in the stream's format, advances its position
and traps on any other stream; VNOP and SNOP complete with no effect but the bits of R46.
What the vector operations share: R149, the write of n elements of w bits to D gives D its tag, zeros above them, the new
elements where MSK is 0 or the mask bit is 1 and elsewhere the old bits, those that the last write in program order gives D;
R156, the elements of A under a lane pattern. -/
def Obligations.VectorMoves : Prop :=
  (∀ (o : OpV2) (s : State), s.guardOn o.g false = true →
    let a := s.vA o.sl o.a o.l (vWidth o.w)
    let w := tagBits a.2
    let n := vWidth o.w / w
    let bits (l : List Nat) : VReg := { bits := BitVec.ofNat 1024 (packElems w l), tag := a.2 }
    (o.m = false → exec (.vxab o) s = .next (s.writeV (!o.sl) o.d.toNat (bits a.1) 2)) ∧
    (o.m = true → exec (.vxab o) s = .next (s.writeVMerged (!o.sl) o.d.toNat (bits ((List.range n).map (fun k =>
      if (s.mask0 o.sl).getLsbD k = true then a.1.getD k 0 else (elemsOf w n (s.oldBits (!o.sl) o.d.toNat)).getD k 0))) 2))) ∧
  (∀ (o : OpVB1) (s : State), s.guardOn o.g false = true → s.BReady o.b (vWidth o.w) →
    ∃ (t : State) (ob : VOpd), s.TakesB o.sl o.b (vWidth o.w) t ob ∧
    let w := tagBits ob.tag
    let n := vWidth o.w / w
    let u := t.warn wLPIGN (o.l != 0)
    let put (l : List Nat) : State := u.vput o.sl o.m o.d.toNat w n ob.tag l 3
    exec (.vspl o) s = .next (put ((List.range n).map (fun _ => ob.bits % 2 ^ w))) ∧
    (ob.tag ≤ 6 → exec (.viota o) s = .next (put ((List.range n).map (fun i => (ob.bits % 2 ^ w + i) % 2 ^ w)))) ∧
    (6 < ob.tag → exec (.viota o) s = .next ((put (List.replicate n 0)).warn wFMTOP true))) ∧
  (∀ (o : OpVSq) (s : State), s.guardOn o.g false = true →
    let q := s.pre.streams.get {} o.q.toNat
    let n := vWidth o.w / tagBits q.dfmt
    (q.isOut = false → exec (.vsq o) s = .next (s.raise (if o.sl then 2 else 1) 0x60 (BitVec.ofNat 64 o.q.toNat))) ∧
    (q.isOut = true → ∀ src : VOpd,
      (o.b.toNat < 48 → let a := s.vA o.sl o.a o.l (vWidth o.w)
        src = { bits := packElems (tagBits a.2) a.1, tag := a.2, reg := some o.a.toNat }) →
      (48 ≤ o.b.toNat → s.vB o.sl o.b (vWidth o.w) = (s, some src)) →
      (s.core.outq.filter (fun e => e.1 == o.q.toNat && e.2.1 == q.epoch)).length + n ≤ 8192 / tagBits q.dfmt →
      let c := s.vConv o.sl src q.dfmt (vWidth o.w)
      let new := ((List.range n).filter (fun i => decide (q.pos + i < q.size))).map
        (fun i => (o.q.toNat, q.epoch, q.pos + i, c.1.getD i 0, s.core.seqNo))
      exec (.vsq o) s = .next ((((s.modStream o.q.toNat (fun x => { x with pos := x.pos + n })).modCore
        (fun k => { k with outq := k.outq ++ new })).warns c.2).warn wMSKIGN o.m))) ∧
  (∀ (o : OpV0) (s : State), s.guardOn o.g false = true → exec (.vnop o) s = .next ((s.warn wMSKIGN o.m).warn wLPIGN (o.l != 0))) ∧
  (∀ (o : OpSN) (s : State), s.guardOn o.g o.n = true → exec (.snop o) s = .next s) ∧
  (∀ (s : State) (sl msk : Bool) (d w n tag : Nat) (e : List Nat) (lat : Nat), 0 < w → w * n ≤ 1024 → e.length = n →
    let p := phys s.pre.rrb d
    (msk = false → s.overtaken (vKey sl p) lat = false) →
    let t := (s.vput sl msk d w n tag e lat).core.sync
    let v := t.vreg sl p
    v.tag = tag ∧ v.bits.toNat < 2 ^ (w * n) ∧
    (∀ k < n, v.bits.toNat / 2 ^ (w * k) % 2 ^ w =
      if msk = false ∨ (s.readK (if sl then 8 else 0)).getLsbD k = true then e.getD k 0 % 2 ^ w
      else s.oldBits sl d / 2 ^ (w * k) % 2 ^ w) ∧
    (∀ q, q ≠ p → t.vreg sl q = s.core.sync.vreg sl q) ∧ (∀ q, t.vreg (!sl) q = s.core.sync.vreg (!sl) q)) ∧
  (∀ (s u : State) (sl : Bool) (d lat : Nat) (v : VReg), u.pre = (s.writeV sl d v lat).core.sync →
    phys u.pre.rrb d = phys s.pre.rrb d → u.pre.dead sl (phys s.pre.rrb d) = false → u.oldBits sl d = v.bits.toNat) ∧
  (∀ (s : State) (sl : Bool) (a : BitVec 5) (l c : BitVec 2),
    let v := s.readV sl a.toNat
    let w := tagBits v.tag
    let W := vWidth c
    let n := W / w
    let x (i : Nat) : Nat := v.bits.toNat / 2 ^ (w * i) % 2 ^ w
    let lp := (s.pre.lp.get 0 (l.toNat - 1 + (if sl then 3 else 0))).toNat
    let m := min 32 n
    let amt := lp / 4 % 32
    let src (p : Nat) : Nat :=
      if lp % 4 = 0 then (p + amt) % m
      else if lp % 4 = 1 then m - 1 - p
      else if lp % 4 = 2 then 8 * (p / 8) + lp / 2 ^ (8 + 3 * (p % 8)) % 8 % min 8 m
      else amt % m
    (l = 0 → s.vA sl a l W = ((List.range n).map x, v.tag)) ∧
    (l ≠ 0 → (s.vA sl a l W).2 = v.tag ∧ (s.vA sl a l W).1.length = n ∧
      ∀ i < n, (s.vA sl a l W).1.getD i 0 = x (i / m * m + src (i % m))))

/-- R183 to R188: the crossbar completes and writes the window of D: XPRM delivers every enabled source lane to its
destination lane and zeros elsewhere; it waits for a pattern that is still on its way, and one that collides raises ILLSCHED,
under a false guard at once; XZIP, XUZP,
XCMP and XEXP interleave, separate, pack and spread elements; XPLD loads a pattern with bit 6 of each byte cleared.
R190 to R193: the bit network completes: NMAP and NMAPX route the bits of a pair by the 64 entries of their pattern, and
NMAPX folds groups of 2^g routed bits by XOR; NPLD loads a pattern from eight y registers, NMOV and NLI write a y register. -/
def Obligations.CrossbarAndBitNetwork : Prop :=
  (
  (∀ (o : OpXP) (s : State),
    let en := xEntries (s.readX o.p.toNat)
    let src := s.xWindow false o.a ++ s.xWindow true o.b
    (s.guardOn o.g o.n = true → s.early (kX o.p.toNat) = true → exec (.xprm o) s = .next (s.stallOn 8)) ∧
    (collides en = true → (s.guardOn o.g o.n = false ∨ s.early (kX o.p.toNat) = false) →
      ∃ info, exec (.xprm o) s = .next (s.raise 6 0x05 info)) ∧
    (s.guardOn o.g o.n = true → collides en = false → s.early (kX o.p.toNat) = false →
      ∃ lanes : List Nat, exec (.xprm o) s = .next (s.xWrite o.f o.d o.a o.b lanes) ∧ lanes.length = 64 ∧
        (∀ i < 128, 128 ≤ en.getD i 0 → lanes.getD (en.getD i 0 % 64) 0 = src.getD i 0) ∧
        (∀ d < 64, (∀ i < 128, 128 ≤ en.getD i 0 → en.getD i 0 % 64 ≠ d) → lanes.getD d 0 = 0))) ∧
  (∀ (o : OpXL) (s : State), s.guardOn o.g o.n = true →
    ∃ p q : Line, exec (.xpldA o) s = .next (s.writeX o.p.toNat p 3) ∧ exec (.xpldB o) s = .next (s.writeX o.p.toNat q 3) ∧
      ∀ i < 128, p.toNat / 2 ^ (8 * i) % 256 = (s.readV false o.a.toNat).bits.toNat / 2 ^ (8 * i) % 256 &&& 0xBF ∧
        q.toNat / 2 ^ (8 * i) % 256 = (s.readV true o.a.toNat).bits.toNat / 2 ^ (8 * i) % 256 &&& 0xBF) ∧
  (∀ (o : OpXZ) (s : State), s.guardOn o.g o.n = true →
    let e := 2 ^ o.e.toNat
    let h := if o.h then 1 else 0
    let a := s.xWindow false o.a
    let b := s.xWindow true o.b
    (∃ l : List Nat, exec (.xzip o) s = .next (s.xWrite o.f o.d o.a o.b l) ∧ l.length = 64 ∧
      ∀ i < 32 / e, ∀ k < e, l.getD (2 * i * e + k) 0 = a.getD ((32 / e * h + i) * e + k) 0 ∧
        l.getD ((2 * i + 1) * e + k) 0 = b.getD ((32 / e * h + i) * e + k) 0) ∧
    (∃ l : List Nat, exec (.xuzp o) s = .next (s.xWrite o.f o.d o.a o.b l) ∧ l.length = 64 ∧
      ∀ j < 64 / e, ∀ k < e, l.getD (j * e + k) 0 = (a ++ b).getD ((2 * j + h) * e + k) 0)) ∧
  (∀ (o : OpXC) (s : State), s.guardOn o.g o.n = true →
    let e := 2 ^ o.e.toNat
    let a := s.xWindow false o.a
    let sel (j : Nat) : Bool := (s.readV true o.b.toNat).bits.getLsbD j
    let before (j : Nat) : Nat := ((List.range j).filter sel).length
    (∃ l : List Nat, exec (.xcmp o) s = .next (s.xWrite o.f o.d o.a o.b l) ∧ l.length = e * before (64 / e) ∧
      ∀ j < 64 / e, sel j = true → ∀ k < e, l.getD (before j * e + k) 0 = a.getD (j * e + k) 0) ∧
    (∃ l : List Nat, exec (.xexp o) s = .next (s.xWrite o.f o.d o.a o.b l) ∧ l.length = 64 ∧
      ∀ j < 64 / e, ∀ k < e, l.getD (j * e + k) 0 = if sel j = true then a.getD (before j * e + k) 0 else 0))
  ) ∧
  (
  (∀ (o : OpNM) (s : State), s.guardOn o.g o.n = true → s.early (kW o.p.toNat) = false →
    let pair : BitVec 128 := s.readY (2 * o.k.toNat + 1) ++ s.readY (2 * o.k.toNat)
    let entry (d : Nat) : Nat := (s.readW o.p.toNat).toNat / 2 ^ (8 * d) % 256
    ∃ v : W64, exec (.nmap o) s = .next (s.writeY o.d.toNat v 2) ∧
      ∀ d < 64, v.getLsbD d = (decide (128 ≤ entry d) && pair.getLsbD (entry d % 128))) ∧
  (∀ (o : OpNMx) (s : State), s.guardOn o.g o.n = true → s.early (kW o.p.toNat) = false →
    let pair : BitVec 128 := s.readY (2 * o.k.toNat + 1) ++ s.readY (2 * o.k.toNat)
    let entry (d : Nat) : Nat := (s.readW o.p.toNat).toNat / 2 ^ (8 * d) % 256
    let t (d : Nat) : Bool := decide (128 ≤ entry d) && pair.getLsbD (entry d % 128)
    let size := 2 ^ o.c.toNat
    ∃ v : W64, exec (.nmapx o) s = .next (s.writeY o.d.toNat v 2) ∧
      (∀ i < 64 / size, v.getLsbD i = decide (((List.range size).filter (fun j => t (i * size + j))).length % 2 = 1)) ∧
      (∀ i, 64 / size ≤ i → v.getLsbD i = false)) ∧
  (∀ (o : OpNP) (s : State), s.guardOn o.g o.n = true →
    ∃ p : BitVec 512, exec (.npld o) s = .next (s.writeW o.p.toNat p 2) ∧
      ∀ d < 64, p.toNat / 2 ^ (8 * d) % 256 =
        (s.readY ((if o.s then 8 else 0) + d / 8)).toNat / 2 ^ (8 * (d % 8)) % 256) ∧
  (∀ (o : OpNV) (s : State), s.guardOn o.g o.n = true →
    exec (.nmov o) s = .next (s.writeY o.d.toNat (s.readY (2 * o.k.toNat + (if o.s then 1 else 0))) 2)) ∧
  (∀ (o : OpNL) (s : State), s.guardOn o.g o.n = true →
    exec (.nli o) s = .next (s.writeY o.d.toNat (BitVec.ofNat 64 (o.i.toNat * 2 ^ (8 * o.b.toNat))) 2))
  )

/-- R213, R214, R217, R503: dispatch takes the first entry of the method table that matches the key, and NOMETHOD is reported with
subcode 0 when none does; of an entry that matches, the subcodes come in the order 1, 2, 6, 7, then 3, 4 and 5 on the tags
after the conversion; otherwise the result names the entry's routine, conversion, target tag (its reserved bits [15:12] ignored, R6, R207) and ring. In reduced service the dense and sparse routines of the absent units are refused with subcode 3. -/
def Obligations.MethodDispatch : Prop :=
  ∀ (k : Core) (reduced : Bool) (kind ta tb mode ra rb : Nat),
    let hit (e : Nat) : Bool := methodMatches (k.method e) kind ta tb mode
    ((∀ e < 64, hit e = false) → k.dispatch reduced kind ta tb mode ra rb = .error (0, 64)) ∧
    (∀ e < 64, hit e = true → (∀ f < e, hit f = false) →
      let w := (k.method e).2
      let act := w / 2 ^ 9 % 4
      let rout := w / 2 ^ 12 % 16
      let ring := w / 2 ^ 16 % 16
      let ctag := w / 2 ^ 20 % 2 ^ 12
      let bad6 := ring = ra ∨ ring = rb ∨ tagSparse ctag ≠ 0 ∨ tagLayout ctag = 3
      let bad7 := tagFmt ctag = 13 ∨ tagFmt ctag = 14 ∨ tagLayout (if act = 2 then ta else tb) = 3
      let refused := routRefuses reduced rout (kind == 2) (if act = 2 then ctag else ta) (if act = 3 then ctag else tb) mode
      (act = 0 → k.dispatch reduced kind ta tb mode ra rb = .error (1, e)) ∧
      (act ≠ 0 → 9 ≤ rout → k.dispatch reduced kind ta tb mode ra rb = .error (2, e)) ∧
      (act ≠ 0 → rout < 9 →
        (2 ≤ act → bad6 → k.dispatch reduced kind ta tb mode ra rb = .error (6, e)) ∧
        (2 ≤ act → ¬ bad6 → bad7 → k.dispatch reduced kind ta tb mode ra rb = .error (7, e)) ∧
        ((act = 1 ∨ ¬ bad6 ∧ ¬ bad7) →
          (reduced = true → rout ∈ [0, 2, 4, 5, 7] → refused = some 3) ∧
          (∀ sub, refused = some sub → k.dispatch reduced kind ta tb mode ra rb = .error (sub, e)) ∧
          (refused = none → k.dispatch reduced kind ta tb mode ra rb = .ok (e, rout, act - 1, ctag, ring)))))

/-- R199, R203, R229 to R235: the matrix commands complete at issue: with their tile free and their rings valid, MMA, MMAZ
and MCONV (with a good shape record) that dispatch finds a routine for, MZERO, MLDZ, MSTZ and MSKP enter the queue of the
engine as one uncommitted command with their fields, the tags, rings and shape in force, and the mode of the newest version
of their tile; MTAG sets the tag of its ring; MWAIT passes when no tile of its mask is busy. A busy tile stalls, an invalid
ring raises RINGDESC, a failed dispatch NOMETHOD with its subcode and entry. -/
def Obligations.MatrixCommandsQueue : Prop :=
  ∀ s : State,
    let free (z : BitVec 3) : Prop := s.core.tileBusy z.toNat = false
    let valid (r : Nat) : Prop := s.ringValid s.focus (s.pre.rings.get {} r) = true
    let ring (r : Nat) : Ring := s.pre.rings.get {} r
    let mode (z : BitVec 3) : Nat := s.core.tileStat s.pre z.toNat % 4
    let queue (c : MCmd) : State := s.modCore (fun k => { k with mq := k.mq ++ [c] })
    let base (op : Nat) : MCmd :=
      { op := op, zd := 0, ra := 0, rb := 0, kb := 0, acc := false, shp := 0, rm := 0, zmode := 0, tagA := 0, tagB := 0, rout := 0, conv := 0,
        ctag := 0, cring := 0, rng := 0, seqNo := s.core.seqNo, issued := s.cx.addr, ready := s.now + 1 }
    (∀ o : OpMM, s.guardOn o.g o.n = true → ∀ p ∈ [(Instr.mma o, 1, 0), (.mmaz o, 2, 1), (.mconv o, 3, 2)],
      (s.core.tileBusy o.zd.toNat = true → s.core.ckptHere = true → exec p.1 s = .next (s.stallOn 6)) ∧
      (free o.zd → ¬ valid o.ra.toNat → exec p.1 s = .next (s.raise 3 0x61 (BitVec.ofNat 64 o.ra.toNat))) ∧
      (free o.zd → valid o.ra.toNat → valid o.rb.toNat → (p.2.2 = 2 → shapeOk (s.core.planeBytes (0x400 + 32 * o.shp.toNat) 32) = true) →
        let found := s.core.dispatch (s.plat.stage == 2) p.2.2 (ring o.ra.toNat).tag (ring o.rb.toNat).tag (mode o.zd) o.ra.toNat o.rb.toNat
        (∀ sub e, found = .error (sub, e) → exec p.1 s = .next (s.raise 3 0x20 (BitVec.ofNat 64 (sub + 256 * e)))) ∧
        (∀ e rout conv ctag cring, found = .ok (e, rout, conv, ctag, cring) → (conv = 0 ∨ valid cring) →
          ∃ (t : State) (c : MCmd), exec p.1 s = .next t ∧ t.core.mq = s.core.mq ++ [c] ∧ c.op = p.2.1 ∧ c.zd = o.zd.toNat ∧
            c.ra = o.ra.toNat ∧ c.rb = o.rb.toNat ∧ c.kb = max 1 o.kb.toNat ∧ c.acc = o.acc ∧ c.zmode = mode o.zd ∧
            c.ringA = ring o.ra.toNat ∧ c.ringB = ring o.rb.toNat ∧ c.tagA = (ring o.ra.toNat).tag ∧ c.tagB = (ring o.rb.toNat).tag ∧
            c.rout = rout ∧ c.conv = conv ∧ c.ctag = ctag ∧ c.ringC = ring cring ∧ c.committed = false ∧ c.seqNo = s.core.seqNo ∧
            (c.ready = s.now + 1 ∨ c.ready = s.now + 5)))) ∧
    (∀ o : OpMZ, s.guardOn o.g o.n = true → free o.zd →
      exec (.mzero o) s = .next (queue { base 4 with zd := o.zd.toNat, zmode := o.zm.toNat })) ∧
    (∀ o : OpML, s.guardOn o.g o.n = true → free o.zd → valid o.ra.toNat →
      let r := ring o.ra.toNat
      exec (.mldz o) s = .next ((queue { base 5 with zd := o.zd.toNat, ra := o.ra.toNat, tagA := r.tag, ringA := r, zmode := mode o.zd }).warn
        wFMTOP (tagFmt r.tag == 13 || tagLayout r.tag == 3))) ∧
    (∀ o : OpMS, s.guardOn o.g o.n = true → free o.zs → valid o.ra.toNat →
      let r := ring o.ra.toNat
      let rm := o.rm.toNat
      let void := tagFmt r.tag = 13 ∨ tagLayout r.tag = 3 ∨ tagSparse r.tag ≠ 0
      let t (rm : Nat) : State := queue
        { base 6 with zd := o.zs.toNat, ra := o.ra.toNat, tagA := r.tag, ringA := r, rm := rm, rng := s.core.sync.rng }
      (void → exec (.mstz o) s = .next ((t rm).warn wFMTOP true)) ∧
      (¬ void → tagFmt r.tag = 12 → exec (.mstz o) s = .next ((t 0).warn wRNDNA (rm != 0))) ∧
      (¬ void → tagFmt r.tag ≠ 12 → rm ≠ 4 → exec (.mstz o) s = .next (t rm)) ∧
      (¬ void → tagFmt r.tag ≠ 12 → rm = 4 →
        exec (.mstz o) s = .next ((t rm).modSync (fun y => { y with rng := rngSteps 4096 s.core.sync.rng })))) ∧
    (∀ o : OpMT, s.guardOn o.g o.n = true →
      exec (.mtag o) s = .next (s.modRing o.ra.toNat (fun r => { r with tag := o.tag.toNat }))) ∧
    (∀ o : OpMK, s.guardOn o.g o.n = true → valid o.ra.toNat →
      exec (.mskp o) s = .next (queue { base 8 with ra := o.ra.toNat, kb := o.kb.toNat, ringA := ring o.ra.toNat })) ∧
    (∀ o : OpMW, s.guardOn o.g o.n = true →
      ((∀ z < 8, bitOf z o.kb.toNat = true → s.core.tileBusy z = false) → exec (.mwait o) s = .next s) ∧
      (∀ z < 8, bitOf z o.kb.toNat = true → s.core.tileBusy z = true → exec (.mwait o) s = .next (s.stallOn 7)))

/-- R342, R345 to R349: the temporal commands complete at issue: TACQ queues a command and, unless the core already holds or
awaits the array, enters its request behind those of earlier cycles and, of its own cycle, of lower cores; TREL, TRST, TLDW, TLNC and TCAP of a core that holds the grant queue their command, a
TLNC with the arrivals of its stream or the ring of its tile. Without a request they raise TEMPNOTHELD with the opcode; a
core that awaits its grant stalls; a TLNC on a dirty array raises TEMPDIRTY. -/
def Obligations.TemporalCommandsQueue : Prop :=
  ∀ s : State,
    let base (op : Nat) : TCmd :=
      { op := op, ra := 0, tag := 0, join := false, fb := false, src := false, twin := s.pre.twin, seqNo := s.core.seqNo, issued := s.cx.addr }
    let queue (c : TCmd) : State := s.modCore (fun k => { k with tq := k.tq ++ [c] })
    let held := s.tHolds s.focus = true ∧ s.tGranted s.focus = true
    let valid (r : Nat) : Prop := s.ringValid s.focus (s.pre.rings.get {} r) = true
    let ring (r : Nat) : Ring := s.pre.rings.get {} r
    (∀ o : OpT0, s.guardOn o.g o.n = true →
      (s.tHolds s.focus = true → exec (.tacq o) s = .next (queue { base 0x10 with noop := true })) ∧
      (s.tHolds s.focus = false → (∀ c ∈ s.core.tq, c.op ≠ 0x11) →
        let a := (s.clAt (clOf s.focus)).arr
        let enters (l : List Nat) : Prop := exec (.tacq o) s = .next ((queue { base 0x10 with begun := true }).modCl (clOf s.focus)
          (fun c => { c with arr := { c.arr with queue := l } }))
        (a.late.2 ≠ s.now ∨ a.late.1 ≤ s.focus % 8 → enters (a.queue ++ [s.focus % 8])) ∧
        (a.late.2 = s.now → s.focus % 8 < a.late.1 →
          enters (a.queue.takeWhile (fun x => x != a.late.1) ++ s.focus % 8 :: a.queue.dropWhile (fun x => x != a.late.1)))) ∧
      (∀ p ∈ [(Instr.trel o, 0x11), (.trst o, 0x15)],
        (held → exec p.1 s = .next (queue (base p.2))) ∧
        (s.tHolds s.focus = false → exec p.1 s = .next (s.raise 3 0x65 (BitVec.ofNat 64 p.2))) ∧
        (s.tHolds s.focus = true → s.tGranted s.focus = false → exec p.1 s = .next (s.stallOn 14)))) ∧
    (∀ o : OpT1, s.guardOn o.g o.n = true →
      let r := ring o.ra.toNat
      let cmd (op : Nat) : TCmd := { base op with ra := o.ra.toNat, tag := r.tag, ring := r }
      (held → valid o.ra.toNat →
        exec (.tldw o) s = .next ((queue (cmd 0x12)).warn wFMTOP (!(tagFmt r.tag == 14 && tagSparse r.tag == 0 && tagLayout r.tag != 3))) ∧
        exec (.tcap o) s = .next ((queue (cmd 0x14)).warn wFMTOP (tagFmt r.tag == 13 || tagLayout r.tag == 3 || tagSparse r.tag != 0))) ∧
      (∀ p ∈ [(Instr.tldw o, 0x12), (.tcap o, 0x14)],
        s.tHolds s.focus = false → exec p.1 s = .next (s.raise 3 0x65 (BitVec.ofNat 64 p.2)))) ∧
    (∀ o : OpTL, s.guardOn o.g o.n = true → held →
      let d := s.tDirty s.focus
      let cmd : TCmd := { base 0x13 with ra := o.ra.toNat, join := o.join, fb := o.fb, src := o.src }
      (d.1 = true → exec (.tlnc o) s = .next (s.raise 3 0x66 (BitVec.ofNat 64 d.2))) ∧
      (d.1 = false → o.src = false → valid o.ra.toNat →
        let r := ring o.ra.toNat
        exec (.tlnc o) s = .next ((queue { cmd with tag := r.tag, ring := r }).warn wFMTOP
          (tagFmt r.tag == 12 || tagFmt r.tag == 13 || tagSparse r.tag != 0 || tagLayout r.tag == 3))) ∧
      (d.1 = false → o.src = true → ∀ t l, s.readStream 3 o.ra.toNat 256 = (t, some l) →
        let f := (s.pre.streams.get {} o.ra.toNat).dfmt
        let void := f = 12 ∨ f = 13
        exec (.tlnc o) s = .next ((t.tIssue { cmd with tag := f, arrivals := l.map (fun v => if f = 12 ∨ f = 13 then 255
          else if f = 14 then v % 256 else convElem .rne f 14 v) }).warn wFMTOP (decide void))))

/-- R237, R254 to R264: the copy commands complete at issue: with a valid ring where they name one, they enter their queue as
one uncommitted command with the address registers, the length, the descriptor, ring or stream in force, and their effective
scope; an order other than REL or RLX on CSIG sets ORDFIT; a GTHR or SCTR of a stream that is not bound to its queue in its
mode carries STREAMFLT, and a COLL of a replay ends the replay. HADD, HMOV and HLI write their register. -/
def Obligations.CopyCommandsQueue : Prop :=
  ∀ (s : State) (cb : Bool),
    let queue (c : CCmd) : State := s.modCore (fun k => if cb then { k with cqb := k.cqb ++ [c] } else { k with cqa := k.cqa ++ [c] })
    let base (op : Nat) : CCmd :=
      { op := op, a := 0, b := 0, q := 0, f := 0, scope := 0, order := 0, len := 0, di := 0, seqNo := s.core.seqNo, issued := s.cx.addr }
    let h (i : BitVec 4) : Nat := (s.readH cb i.toNat).toNat
    let narrowed (sc : BitVec 3) (c : CCmd) : State := (queue { c with scope := (s.effScope sc.toNat).1 }).warnScope sc.toNat
    let valid (r : Nat) : Prop := s.ringValid s.focus (s.pre.rings.get {} r) = true
    (∀ o : OpCH, o.cb = cb → s.guardOn o.g o.n = true →
      exec (.hadd o) s = .next (s.writeH cb o.a.toNat (BitVec.ofInt 64 (h o.b + o.imm.toInt)) 1)) ∧
    (∀ o : OpCM, o.cb = cb → s.guardOn o.g o.n = true → exec (.hmov o) s = .next (s.writeH cb o.a.toNat (s.readH cb o.b.toNat) 1)) ∧
    (∀ o : OpCI, o.cb = cb → s.guardOn o.g o.n = true →
      exec (.hli o) s = .next (s.writeH cb o.a.toNat (BitVec.ofInt 64 o.imm.toInt) 1)) ∧
    (∀ o : OpCC, o.cb = cb → s.guardOn o.g o.n = true →
      exec (.cpy o) s = .next (narrowed o.scope { base 1 with a := h o.a, b := h o.b, len := o.len.toNat })) ∧
    (∀ o : OpCS, o.cb = cb → s.guardOn o.g o.n = true →
      exec (.cpys o) s = .next (narrowed o.scope { base 2 with
        a := h o.a, b := h o.b, di := o.di.toNat, desc := s.core.planeBytes (0x800 + 32 * o.di.toNat) 32 })) ∧
    (∀ o : OpCT, o.cb = cb → s.guardOn o.g o.n = true →
      let ring := s.pre.rings.get {} o.f.toNat
      let cmd (op : Nat) : CCmd := { base op with a := h o.a, f := o.f.toNat, len := o.len.toNat }
      (valid o.f.toNat → exec (.cpyt o) s = .next (narrowed o.scope { cmd 3 with ring := ring }) ∧
        exec (.cpyw o) s = .next (narrowed o.scope { cmd 4 with ring := ring })) ∧
      (¬ valid o.f.toNat → ∀ i ∈ [Instr.cpyt o, .cpyw o],
        exec i s = .next (s.raise (if cb then 5 else 4) 0x61 (BitVec.ofNat 64 o.f.toNat))) ∧
      exec (.ldblk o) s = .next (narrowed o.scope (cmd 5))) ∧
    (∀ o : OpCE, o.cb = cb → s.guardOn o.g o.n = true → exec (.evblk o) s = .next (queue { base 6 with f := o.f.toNat })) ∧
    (∀ o : OpCG, o.cb = cb → s.guardOn o.g o.n = true →
      let q := s.pre.streams.get {} o.q.toNat
      let good (out : Bool) : Prop := q.bnd = (if cb then 2 else 1) ∧ q.gmode = true ∧ q.isOut = out
      let cmd (op : Nat) (res : Option (Nat × Nat)) : CCmd := { base op with
        q := o.q.toNat, a := h o.a, f := o.ix.toNat, len := o.len.toNat, epoch := q.epoch
        desc := toLe 8 q.cbase.toNat ++ toLe 8 q.cdim.toNat ++ toLe 8 q.cstr.toNat ++ toLe 8 q.cblk.toNat, res := res }
      (good false → exec (.gthr o) s = .next (narrowed o.scope (cmd 9 none))) ∧
      (¬ good false → exec (.gthr o) s = .next (narrowed o.scope (cmd 9 (some (0x60, 0))))) ∧
      (good true → exec (.sctr o) s = .next (narrowed o.scope (cmd 10 none))) ∧
      (¬ good true → exec (.sctr o) s = .next (narrowed o.scope (cmd 10 (some (0x60, 0)))))) ∧
    (∀ o : OpCSg, o.cb = cb → s.guardOn o.g o.n = true →
      exec (.csig o) s = .next ((narrowed o.scope { base 13 with
        a := h o.a, b := h o.b, order := o.order.toNat, len := if o.w32 then 4 else 8 }).warn wORDFIT (o.order.toNat % 2 == 1))) ∧
    (∀ o : OpCL, o.cb = cb → s.guardOn o.g o.n = true →
      (s.replaying s.focus = false → exec (.coll o) s = .next (narrowed o.scope { base 14 with
        a := h o.a, b := h o.b, f := o.f.toNat, di := o.di.toNat, len := o.len.toNat })) ∧
      (s.replaying s.focus = true → exec (.coll o) s = .next s.replayRefuse))

/-- R243, R246, R253, R261, R262: BIND of a good description completes: the stream stands at position 0, bound to the queue,
with the description captured; a bad one raises STREAMDESC with the stream's number. UNBD unbinds it and queues its command,
or moves nothing when the stream is bound to the other queue. CWAIT passes once the count is reached and stalls before;
CFLAG gives the truth of the count or of a block's flag; both raise COPYERR on a queue whose ERR is set, unless their bundle
had issued before, with a load that has missed (R128). -/
def Obligations.StreamAndQueueState : Prop :=
  ∀ (s : State) (cb : Bool),
    let slot := if cb then 5 else 4
    (∀ o : OpCBd, o.cb = cb → s.guardOn o.g o.n = true →
      let q := s.pre.streams.get {} o.q.toNat
      let addr := (s.readH cb o.a.toNat).toNat % 2 ^ 48
      let w : W64 := if o.useA then BitVec.ofNat 64 (q.qbase.toNat / 2 ^ 48 * 2 ^ 48 + addr) else q.qbase
      let q1 : Stream := { q with cbase := w, cdim := q.qdim, cstr := q.qstr, cblk := q.qblk }
      (q1.badDesc = true → exec (.bind o) s = .next (s.raise slot 0x64 (BitVec.ofNat 64 o.q.toNat))) ∧
      (q1.badDesc = false → ∃ t, exec (.bind o) s = .next t ∧
        let x := t.core.sync.streams.get {} o.q.toNat
        x.qbase = w ∧ x.cbase = w ∧ x.cdim = q.qdim ∧ x.cstr = q.qstr ∧ x.cblk = q.qblk ∧ x.pos = 0 ∧ x.buf = [] ∧
          x.bnd = (if cb then 2 else 1) ∧
          (∀ j, j ≠ o.q.toNat → t.core.sync.streams.get {} j = s.core.sync.streams.get {} j))) ∧
    (∀ o : OpCU, o.cb = cb → s.guardOn o.g o.n = true →
      let q := s.pre.streams.get {} o.q.toNat
      let other := q.bnd ≠ 0 ∧ q.bnd ≠ (if cb then 2 else 1)
      ∃ (t : State) (c : CCmd), exec (.unbd o) s = .next t ∧ t.core.cq cb = s.core.cq cb ++ [c] ∧ c.op = 8 ∧ c.q = o.q.toNat ∧
        c.epoch = q.epoch ∧ (c.res = if other then some (0x60, 0) else none) ∧
        (¬ other → (t.core.sync.streams.get {} o.q.toNat).bnd = 0 ∧ (t.core.sync.streams.get {} o.q.toNat).buf = []) ∧
        (other → t.core.sync.streams = s.core.sync.streams)) ∧
    (let st := (s.core.seen cb).1
     let reached (n : Nat) : Prop := 0 ≤ (BitVec.ofNat 32 st.ccnt - BitVec.ofNat 32 n).toInt
     let err : W64 := BitVec.ofNat 64 ((if cb then 1 else 0) + 256 * st.ecause)
     (∀ o : OpCW, o.cb = cb → s.guardOn o.g o.n = true →
       (reached o.len.toNat → st.err = false → exec (.cwait o) s = .next s) ∧
       (reached o.len.toNat → st.err = true → exec (.cwait o) s = .next (s.raise slot 0x63 err)) ∧
       (¬ reached o.len.toNat → exec (.cwait o) s = .next (s.stallOn 7))) ∧
     (∀ o : OpCF, o.cb = cb → s.guardOn o.g o.n = true →
       (st.err = true → exec (.cflag o) s = .next (s.raise slot 0x63 err)) ∧
       (st.err = false → o.di.toNat < 16 → exec (.cflag o) s = .next (s.writeG o.f.toNat (decide (reached o.len.toNat)) 1)) ∧
       (st.err = false → 16 ≤ o.di.toNat → exec (.cflag o) s = .next (s.writeG o.f.toNat (bitOf (o.di.toNat - 16) (s.core.seen cb).2) 1))))

/-- R128, R137, R269, R298, R301, R307, R309, R317, R319, R322, R406: the events of a core complete. FETCH_FILL takes the
next bytes from a line of the L1; a resolved branch leaves the list, and a wrong one restores its snapshot with the right
arm 1 cycle after it resolved or when the idle cycles of its bundle end; a checkpoint whose branches have resolved is taken; a
released store leaves the buffer once it is performed, or once the other car has answered it; the data of a missed load fills the L1; an asynchronous cause is taken; a forced save goes back to the shadow;
SAVEWAIT ends with a frame; a signal of the core's guest sets its latch; the Capstan lets its bundle go once. -/
def Obligations.CoreEvents : Prop :=
  ∀ (s : State) (n : Nat),
    let k := s.coreAt n
    (∀ e pa sel l,
      let u := s.modCoreAt n (fun k => { k with fbBase := k.sync.pc, fbBytes := [], fbFault := none })
      s.fetchDue n = true → k.fbUsed = false → k.sync.pc < 2 ^ 48 → inAperture k.sync.pc = false → u.tlb1 n k.sync.pc 0 = some e →
      e.deny 0 = none → e.tgt k.sync.pc = .mem pa sel → k.l1Find pa sel = some l → k.lineBad l = false → l.data.length = 128 →
      ∃ t, exec (.fetchFill n) s = .next t ∧ (t.coreAt n).fbBase = k.sync.pc ∧ (t.coreAt n).fbBytes = l.data.drop (pa % 128)) ∧
    (∀ b r, k.branches = b :: r → b.resolveAt ≤ s.now →
      (b.wrong = true → ∃ t, exec (.branchResolution n) s = .next t ∧ (t.coreAt n).sync = b.snap ∧ (t.coreAt n).rstack = b.rstack ∧
        (t.coreAt n).readyAt = max (b.resolveAt + 1) b.after ∧ (∀ x ∈ (t.coreAt n).branches, x.seqNo < b.seqNo + 1)) ∧
      (b.wrong = false → b.taken = false → ∃ t, exec (.branchResolution n) s = .next t ∧ (t.coreAt n).sync = k.sync ∧
        (t.coreAt n).branches = (b :: r).filter (fun x => x.seqNo != b.seqNo))) ∧
    (∀ c r, k.ckpts = c :: r → (∀ b ∈ k.branches, c.seqNo ≤ b.seqNo) →
      ∃ t, exec (.checkpoint n) s = .next t ∧ (t.coreAt n).shadow = c.snap.landed s.free ∧ (t.coreAt n).ckptAddr = c.addr ∧
        (t.coreAt n).ckptSeq = c.seqNo) ∧
    (∀ x u, s.storeAcked n = none → k.storeFront = some x → s.storeDue n = true → (s.storeUnits n x = 0 ∨ s.served n storeTag = true) →
      s.collecting.storeAt n x = (u, .ok ()) → s.Through (engPayer s n storeTag) u →
      exec (.storePerform n) s = .next (((u.paidUp (engPayer s n storeTag)).useAdm n storeTag).modCoreAt n
        (fun k => { k with stores := k.stores.erase x }))) ∧
    (∀ x ok, s.storeAcked n = some (x, ok) → ∃ t, exec (.storePerform n) s = .next t ∧ (t.coreAt n).stores = k.stores.erase x ∧
      (t.coreAt n).asyncs.length = k.asyncs.length + (if ok = true then 0 else 1)) ∧
    (∀ r : SReq, k.req = some r → r.stage = 3 → r.dueAt ≤ s.now → r.tgt ≠ 0 → r.op = 4 → r.fault = 0 →
      exec (.loadDataReturn n) s = .next ((((s.modCoreAt n (fun k => { k with req := none })).remDone n 0).l1Put n
        { pa := r.pa / 128 * 128, sel := r.sel, data := r.data, dirty := [], va := r.va / 128 * 128 }).modCoreAt n
          (fun k => { k with missed := true, missedFar := true }))) ∧
    (∀ r rest, k.asyncs = r :: rest → k.asyncReady = true →
      exec (.asyncTrap n) s = .next (((if r.cause = cBUDGET then (s.stopMoves n).keepHeld n else s.stopMoves n).modCoreAt n (fun k => { k with asyncs := rest })).takeTrap n
        { r with flt := if r.slots = 1 then r.flt else k.sync.pc, slots := 0, async := true })) ∧
    (k.forcedDue = true → ∃ t, exec (.forcedSave n) s = .next t ∧ (t.coreAt n).mode = .saving ∧
      (k.mode = .run → (t.coreAt n).sync = k.shadow ∧ (t.coreAt n).saveKind = 1) ∧
      (k.mode = .handler → (t.coreAt n).sync = { k.trapShadow with pc := k.trap.addr } ∧
        (t.coreAt n).shadow = (t.coreAt n).sync ∧ (t.coreAt n).saveKind = 2)) ∧
    (k.mode = .savewait → (s.guestAt k.guest).gc.sfln ≠ 0 →
      exec (.savewaitEnd n) s = .next (s.modCoreAt n (fun k => { k with mode := .saving }))) ∧
    (∀ e, s.eventFor n = some e → k.live (e.2 / 256) = true →
      ∃ t, exec (.eventLatchSet n) s = .next t ∧ (t.coreAt n).latch = true ∧ (t.coreAt n).sync = k.sync) ∧
    (s.capstanDue n = true → exec (.capstanIssue n) s = .next (s.modCoreAt n (fun k => { k with capGo := some s.tb })))

/-- R197, R222, R196, R230, R250, R244, R181: the events of a core's engines complete. The front command of the matrix engine
begins and MZERO ends 5 cc later with a zero version in its mode, which becomes the tile's once it is published; the copy
engine performs and settles a command whose requests are served, and counts it once it is published; a group of a stream enters its buffer and appended
elements are written and leave the queue.
R336, R342, R343, R345, R346: the events of a cluster complete. The barrier unit acts on its oldest access and answers;
the array is granted to the head of its queue, scrubbed for 520 cc first when the guest changes; a temporal command begins
with its time, TRST leaves every wire low and the array clean, and a TACQ ends when its request has entered. -/
def Obligations.EngineAndClusterEvents : Prop :=
  (
  ∀ (s : State) (n : Nat),
    let k := s.coreAt n
    (∀ c : MCmd, k.mFront = some c → k.mCanBegin s.now c = true → c.op = 4 → c.doneAt = 0 → c.conv = 0 →
      ∃ t, exec (.matrixCommandBegin n) s = .next t ∧
        ∀ x ∈ (t.coreAt n).mq, x.seqNo = c.seqNo → x.begun = true ∧ x.doneAt = s.now + 5) ∧
    (∀ c : MCmd, k.mPublishable = none → k.mFront = some c → c.begun = true → c.doneAt ≠ 0 → c.doneAt ≤ s.now → c.op = 4 →
      ∃ t, exec (.matrixCommandComplete n) s = .next t ∧
        (t.coreAt n).pend = k.pend.filter (fun p => !(p.1 == c.zd && p.2.writer == c.seqNo)) ++ [(c.zd, { tile := { mode := c.zmode, flags := 0, cells := [], written := false }, writer := c.seqNo })] ∧
        ∀ x ∈ (t.coreAt n).mq, x.seqNo = c.seqNo → x.done = true) ∧
    (∀ (c : MCmd) p, k.mPublishable = some c → c.out = [] → c.op = 4 → k.pend.find? (fun p => p.2.writer == c.seqNo) = some p →
      ∃ t, exec (.matrixCommandComplete n) s = .next t ∧ (t.coreAt n).tiles.get {} p.1 = p.2.tile ∧
        (t.coreAt n).sync.zst.get 0 p.1 = p.2.tile.mode + 4 * k.sync.flagsLeft p.1 (1 + c.seqNo) none p.2.tile.flags ∧
        (t.coreAt n).mq = k.mq.filter (fun x => x.seqNo != c.seqNo)) ∧
    (∀ (cb : Bool) (c : CCmd), k.cPublishable cb = some c → c.res = some (0, 0) →
      ∃ t, exec (.copyCommandComplete n (if cb then 1 else 0)) s = .next t ∧ (t.coreAt n).cq cb = (k.cq cb).drop 1 ∧
        ((t.coreAt n).cstat cb).ccnt = ((k.cstat cb).ccnt + 1) % 2 ^ 32 ∧ ((t.coreAt n).cstat cb).err = (k.cstat cb).err) ∧
    (∀ (cb : Bool) (c : CCmd) u r, k.cPublishable cb = none → k.cEntering cb = none → k.cFront cb = some c → s.cReady n cb c = true →
      (c.need k.halfL1).length ≤ c.moved → s.collecting.cPerform n cb c = (u, r) → r ≠ .wait →
      s.Through (engPayer s n (cTag c.seqNo cb)) u →
      exec (.copyCommandComplete n (if cb then 1 else 0)) s = .next ((u.paidUp (engPayer s n (cTag c.seqNo cb))).cSettle n cb c r)) ∧
    (∀ (j : Nat) (u : State) (b : List Nat),
      let q := k.sync.streams.get {} j
      s.arrivalDue n j = true → (readReqs q.groupRuns = [] ∨ s.served n (fetchTag j) = true) →
      s.collecting.readRuns n (fetchTag j) q.groupRuns = (u, .ok b) → s.Through (engPayer s n (fetchTag j)) u →
      ∃ t, exec (.streamGroupArrival n j) s = .next t ∧
        (t.coreAt n).sync.streams.get {} j = { q with
          buf := q.buf ++ (q.groupElemsOf b).map (fun v => { v := v }), fetched := q.fetched + q.nextGroup.2 }) ∧
    (∀ (j : Nat) (q : Stream) l u, s.outputDue n j = true → k.outGroup j = some (q, l) → (∀ e ∈ k.outHeld, e.stream ≠ j) →
      (runReqs ((joinWrites (q.outRuns l)).map (fun p => (p.1, p.2.length))) = [] ∨ s.served n (writeTag j) = true) →
      s.collecting.writeRows n (writeTag j) (joinWrites (q.outRuns l)) = (u, .ok ()) → s.Through (engPayer s n (writeTag j)) u →
      ∃ t, exec (.streamOutputWrite n j) s = .next t ∧
        ∀ e ∈ (t.coreAt n).outq, e ∉ l)
  ) ∧
  (
  ∀ (s : State) (cl : Nat),
    let c := s.clAt cl
    (∀ r, c.breqs.find? (fun r => !r.acted && decide (r.actAt ≤ s.now)) = some r →
      ∃ t, exec (.barrierAccess cl) s = .next t ∧ (t.clAt cl).bars.get {} r.bar = (c.bars.get {} r.bar).act r ∧
        ∀ x ∈ (t.clAt cl).breqs, x.core = r.core → x.acted = true) ∧
    (∀ x rest, s.grantDue cl = true → c.arr.queue = x :: rest →
      let g := (s.coreAt (8 * cl + x)).guest
      ((c.arr.lastGuest = none ∨ c.arr.lastGuest = some g) →
        ∃ t, exec (.temporalGrant cl) s = .next t ∧ (t.clAt cl).arr.holder = some x ∧ (t.clAt cl).arr.queue = rest ∧
          (t.clAt cl).arr.weights = c.arr.weights) ∧
      (∀ h, c.arr.lastGuest = some h → h ≠ g →
        ∃ t, exec (.temporalGrant cl) s = .next t ∧ (t.clAt cl).arr.holder = none ∧ (t.clAt cl).arr.freeAt = s.now + 520 ∧
          (t.clAt cl).arr.weights = [] ∧ (t.clAt cl).arr.rows = [] ∧ (t.clAt cl).arr.cols = [])) ∧
    (∀ n x, s.tFront cl = some (n, x) → s.tBeginDue cl = true →
      ∃ t, exec (.temporalCommandBegin cl) s = .next t ∧
        ∀ y ∈ (t.coreAt n).tq, y.seqNo = x.seqNo → y.begun = true ∧ y.doneAt = s.now + y.time) ∧
    (∀ n x, c.arr.cut = none → s.tacqDone cl = none → s.tFront cl = some (n, x) → x.begun = true → x.doneAt ≤ s.now → x.op = 0x15 →
      ∃ t, exec (.temporalCommandComplete cl) s = .next t ∧ (t.clAt cl).arr.rows = [] ∧ (t.clAt cl).arr.cols = [] ∧
        (t.clAt cl).arr.dirty = false ∧ (t.clAt cl).arr.weights = c.arr.weights) ∧
    (∀ n, c.arr.cut = none → s.tacqDone cl = some n → exec (.temporalCommandComplete cl) s = .next (s.modCoreAt n (fun k => { k with tq := k.tq.drop 1 })))
  )

/-- R366 to R370, R377 to R381: the events of the memory system complete: a regulation point admits a request that its
bucket covers and debits it, a tick refills a bucket and clears the hold of one that holds nothing, BUDGET is reported once,
the slice answers a request and sends what lacks a controller's service on to the points of that controller, a controller
access answers, a walk takes the entry of the second level, or joins the queue of the walker, or is made once its requests
have passed, WPGT ends with the answer of the host, and an invalidation drops every matching entry. -/
def Obligations.MemoryEvents : Prop :=
  ∀ s : State,
    (∀ die point g h, s.outsideReady die point g = none → s.admittable die point g = some h →
      ∃ t, exec (.regulationAdmit die point g) s = .next t ∧
        t.held = flatFirst (fun x => x == h) HeldReq.admitted s.held ∧
        (t.bucket die point g).level = ((s.bucket die point g).debit h.units).level) ∧
    (∀ (die point g : Nat) (b : Bucket), s.held = [] → s.parked = [] → point < 32 → g < 16 → s.buckets = [(bkey die point g, b)] →
      ∃ t, exec .regulatorTick s = .next t ∧ t.ticked = s.ticked + 1 ∧ (t.bucket die point g).level = min (b.depth : Int) (b.level + b.rate) ∧
        (t.bucket die point g).hcnt = 0 ∧ (t.bucket die point g).held = false) ∧
    (∀ die point g, (s.bucket die point g).raised = 1 → s.heldAt die point g = [] →
      exec (.budget die point g) s = .next ((s.modBucket die point g (fun b => { b with raised := 2 })).statusEvent g 1 cBUDGET 0 (point + 64 * die))) ∧
    (∀ n (r : SReq) u x, (s.coreAt n).req = some r → s.collecting.sPerform n r = (u, x) →
      let o := s.sPayer n
      let answer (b : List Nat) : State := (u.paidUp o).modCoreAt n (fun k => { k with req := some { r with stage := 3, dueAt := s.now, data := b, fault := 0 } })
      (s.lookupDue n = true → ∀ b, x = .ok b → s.Through o u → exec (.l2Lookup n) s = .next (answer b)) ∧
      (s.controllerDue n = true → ∀ b, x = .ok b → s.Through o u → exec (.controllerAccess n) s = .next (answer b)) ∧
      (∀ die point, s.lookupDue n = true → s.pays = .post → s.waiting o = false → s.grants = [] → u.charges = [(bkey die point o.guest, 2)] →
        die < 4 → 16 ≤ point → point < 28 → o.guest < 16 →
        ∃ t, exec (.l2Lookup n) s = .next t ∧ (t.coreAt n).req = some { r with stage := 2, dueAt := s.now, data := [], fault := 0 } ∧
          t.held = s.held ++ [{ die := die, point := point, guest := o.guest, own := o.guest, core := some n, units := 2, since := s.now }])) ∧
    (∀ n w, (s.coreAt n).walk = some w → s.walkDue n = true →
      let g := (s.coreAt n).guest
      let o := s.walkPayer n
      (s.tlb2Hit n w = true → exec (.translationWalk n) s = .next
        ((((s.leaveWalker o).translate n w.va w.kind).1).walkTaken n w ((s.leaveWalker o).translate n w.va w.kind).2)) ∧
      (s.tlb2Hit n w = false → s.walkAsked o = false →
        ∃ t, exec (.translationWalk n) s = .next t ∧ (t.guestAt g).walks =
            (s.guestAt g).walks.filter (fun y => s.wantsWalk y.1) ++ [(o, some (w.va / 4096))] ∧
          (t.coreAt n).walk = some w) ∧
      (∀ u x, s.tlb2Hit n w = false → s.walkAsked o = true → s.joined n w = [] → s.collecting.translate n w.va w.kind = (u, x) → s.Through o u →
        exec (.translationWalk n) s = .next (((u.paidUp o).leaveWalker o).walkTaken n w x))) ∧
    (∀ n w, (s.coreAt n).wpgt = some w →
      (∃ t, exec (.wpgtAnswer n 1) s = .next t ∧ (t.coreAt n).wpgt = none ∧ (t.coreAt n).sync = (s.coreAt n).sync ∧
        (t.coreAt n).mode = (s.coreAt n).mode) ∧
      ((s.coreAt n).mode = .run → (s.coreAt n).trap.en = true →
        ∃ t, exec (.wpgtAnswer n 0) s = .next t ∧ (t.coreAt n).mode = .handler ∧ (t.coreAt n).trap.cause = cPROT ∧
          (t.coreAt n).trap.info = BitVec.ofNat 64 w.1)) ∧
    (∀ g lo hi, ∃ t, exec (.shadowInvalidate g lo hi) s = .next t ∧
      (∀ n, (t.coreAt n).tlb = (s.coreAt n).tlb.filter (fun e => !(e.guest == g && covers lo hi e.va e.bits))) ∧
      (∀ cl, (t.clAt cl).tlb2 = (s.clAt cl).tlb2.filter (fun e => !(e.guest == g && covers lo hi e.va e.bits))) ∧
      t.mem = s.mem)

/-- R351 to R353, R383, R499, R500, R510 to R512: the repairs complete: refresh changes nothing, a channel with room
elsewhere is retired, a cluster is swapped when its die has a spare and retired otherwise, with its contexts asked to save, a
core likewise, a spare row takes the place of a failed one, an L2 way leaves every mask, a failed walker leaves its cache,
and a die without a path stops the machine. -/
def Obligations.RepairEvents : Prop :=
  ∀ s : State,
    (∀ die ch, exec (.channelRefresh die ch) s = .next s) ∧
    (∀ die ch, die < 4 → ch < 12 → s.plat.chRet.contains (12 * die + ch) = false →
      (s.channelFits (12 * die + ch) = false → exec (.channelRetirement die ch) s = .next (s.hostEv 0xC0 (12 * die + ch + 512) 0)) ∧
      (s.channelFits (12 * die + ch) = true → s.memBad = [] → s.loaded = [] →
        ∃ t, exec (.channelRetirement die ch) s = .next t ∧ t.plat.chRet = s.plat.chRet ++ [12 * die + ch] ∧
          t.plat.memRet = s.plat.memRet ||| 2 ^ (12 * die + ch) ∧ t.hostEvs = s.hostEvs ++ [(0xC0, 12 * die + ch, 0)])) ∧
    (∀ cl, cl < 32 → (s.clAt cl).retired = false →
      (∃ t, exec (.clusterRetire cl) s = .next t ∧ (t.clAt cl).pend = 2 ∧
        ∀ n, clOf n = cl → (s.coreAt n).hasContext = true → (t.coreAt n).yreq = true ∧ (t.coreAt n).ydl = 0) ∧
      ((s.clAt cl).pend = 0 → ∃ t, exec (.clusterSwap cl) s = .next t ∧
        (t.clAt cl).pend = (if (s.dieAt (cl / 8)).spareUsed then 2 else 1))) ∧
    (∀ n, n < 256 → (s.coreAt n).retired = false → (s.dieAt (dieOf n)).spareUsed = true →
      ∃ t, exec (.coreRetire n) s = .next t ∧ (t.coreAt n).retiring = true) ∧
    (∀ n row, n < 256 → (s.coreAt n).spareRows < 32 → (∀ w ∈ (s.coreAt n).badWords, w / 128 ≠ row) →
      ∃ t, exec (.sramRowRepair n row) s = .next t ∧ (t.coreAt n).spareRows = (s.coreAt n).spareRows + 1 ∧
        (t.coreAt n).spad = (s.coreAt n).spad) ∧
    (∀ way, way < 32 → bitOf way s.waysOut = false → s.loaded = [] → s.l2 = [] →
      exec (.l2WayRetire way) s = .next { s with waysOut := s.waysOut + 2 ^ way }) ∧
    (∀ die, die < 4 →
      exec (.walkerFailover die) s = .next (s.modDie die (fun d => { d with walkerFailed := true, wcache := [] })) ∧
      exec (.meshLinkFailure die) s = .next (s.modDie die (fun d => { d with meshFailed := true }))) ∧
    (∀ link, link < 4 → s.plat.fatal = false →
      let p := { s.plat with ringLost := s.plat.ringLost ||| 2 ^ link }
      (p.cutOff = false → exec (.dieLinkLoss link) s = .next { s with plat := p }) ∧
      (p.cutOff = true → ∃ t, exec (.dieLinkLoss link) s = .next t ∧ t.plat.fatal = true ∧ t.plat.safeN = true))

/-- R413 to R429, R438: the events of the command streams and of the launch complete: TAIL is clamped to a full ring (behind the host's
earlier accesses that wait, R399), a cleared EN
or HALT ends what it ends, an entry, once the requests of its fetch have passed, starts its graph and a bad one halts the stream, a node is entered and the walk goes on,
EVENT and HOSTIRQ nodes act, a SPLICE sends its list to each of its cores, where it begins after the bundle of the cycle and sets BUSY, and is done when they
have finished, a COND takes its branch, a KERNEL record with a
count becomes READY, the next group is placed on its cluster, and the last group of a record ends it. -/
def Obligations.CommandStreamEvents : Prop :=
  ∀ (s : State) (g k : Nat),
    let q := s.cms g k
    (∀ v,
      ((∀ p ∈ s.parked, p.2.ofHost g = false) → exec (.commandStreamTailWrite g k v) s = .next (s.modCms g k (fun q =>
        { q with tail := (q.head + min ((v % 2 ^ 32 + 2 ^ 32 - q.head) % 2 ^ 32) (2 ^ q.logn)) % 2 ^ 32 }))) ∧
      ((∃ p ∈ s.parked, p.2.ofHost g = true) → ∃ t, exec (.commandStreamTailWrite g k v) s = .next t ∧
        (∃ j, t.parked = s.parked ++ [(j, .tail g k v)]) ∧ ∀ a b, t.cms a b = s.cms a b)) ∧
    exec (.commandStreamDisable g k) s = .next (s.modCms g k (fun q => { q with en := false, leaving := q.run })) ∧
    (q.halt = true → ∃ t, exec (.haltClear g k) s = .next t ∧ (t.cms g k).halt = false ∧ (t.cms g k).run = false ∧
      (t.cms g k).head = q.head) ∧
    (∀ u b, s.takeDue g k = true →
      (s.collecting.modCms g k (fun q => { q with head := (q.head + 1) % 2 ^ 32 })).gRead g (q.slot q.head) 8 = (u, .ok b) →
      (ofLe b % 32 = 0 → ofLe b < 2 ^ 48 → s.Through (cpPayer g) u → ∃ t, exec (.streamEntryTake g k) s = .next t ∧ (t.cms g k).run = true ∧
        (t.cms g k).gHead = ofLe b ∧ (t.cms g k).node = ofLe b ∧ (t.cms g k).epoch = 0) ∧
      (ofLe b % 32 ≠ 0 → let w := u.haltStream g k 2 0 (q.slot q.head)
        s.Through (cpPayer g) w → exec (.streamEntryTake g k) s = .next (w.paidUp (cpPayer g)))) ∧
    (∀ u n, s.enterDue g k = true → q.entered = false → s.collecting.nodeRead g q.node = (u, .ok n) →
      nodeOk (u.guestAt g).gc n = true → (n.kind ≠ 1 ∨ u.unfinished g < 256 ∧ (q.reached ≠ 0 ∨ u.limitQueue g k = false)) → n.kind ≠ 5 →
      n.flag 3 = false → s.Through (cpPayer g) u →
      exec (.nodeEnter g k) s = .next ((((u.enterNode g k q.epoch n).modCms g k
        (fun q => { q with reached := 0, inst := (u.guestAt g).nextId, entered := true })).modCms g k (fun q => q.goTo n.next)).paidUp (cpPayer g))) ∧
    (∀ n, s.enterDue g k = true → q.entered = true → s.nodeAt g q.inst = some n →
      exec (.nodeEnter g k) s = .next (s.modCms g k (fun q => q.goTo n.next))) ∧
    (∀ (p : Cms) (node : Nat), p.leaving = false →
      p.rearmAt node = { p with node := node, epoch := (p.epoch + 1) % 2 ^ 32, entered := false } ∧
      (node ≠ 0 → p.goTo node = { p with node := node, entered := false }) ∧
      (p.arm = true → p.goTo 0 = { p with node := p.gHead, epoch := (p.epoch + 1) % 2 ^ 32, arm := false, entered := false }) ∧
      (p.arm = false → p.goTo 0 = { p with run := false, entered := false })) ∧
    (∀ id n, s.actDue g id 2 = some n → exec (.eventNode g id) s = .next ((s.evAdd g (n.byte 16) (n.field 20 4)).nodeDone g id)) ∧
    (∀ id n, s.actDue g id 4 = some n → exec (.hostirqNode g id) s = .next ((s.irqPost g (n.byte 16 % 64)).nodeDone g id)) ∧
    (∀ id n u, s.actDue g id 3 = some n → n.sent = 0 →
      (∀ l, s.collecting.gRead g (n.field 32 8) (n.field 18 2) = (u, .ok l) →
        let cores := (List.range 256).filter (fun c => bitOf (c / 8) (n.field 20 4) && bitOf (c % 8) (n.byte 17))
        let z := cores.foldl (fun (p : State × Bool) c =>
          let r := p.1.spliceCore g c id (n.byte 16) (n.field 24 4) (n.field 40 8) l
          (r.1, p.2 && r.2)) (u, true)
        let w := z.1.modNode g id (fun x => { x with sent := if z.2 = true then 1 else 2 })
        s.Through (cpPayer g) w → exec (.spliceNode g id) s = .next (w.paidUp (cpPayer g))) ∧
      (∀ e, s.collecting.gRead g (n.field 32 8) (n.field 18 2) = (u, .error e) →
        let w := u.failNode g id 5 cSPLICEBAD
        s.Through (cpPayer g) w → exec (.spliceNode g id) s = .next (w.paidUp (cpPayer g)))) ∧
    (∀ (c node seqNo crc image : Nat) (l : List Nat),
      let r := s.spliceCore g c node seqNo crc image l
      let x : SpliceReq := { node := node, since := s.now, due := s.now + (78 + (l.length + 127) / 128), seqNo := seqNo, crc := crc,
                             image := image, list := l }
      ((s.coreAt c).live g = true → (s.coreAt c).mode = .run ∨ (s.coreAt c).mode = .handler →
        r.1.coreAt c = { s.coreAt c with arriving := (s.coreAt c).arriving ++ [x] } ∧
        ((∀ v ∈ (s.guestAt g).saved, 8 * v.cl + v.core ≠ c) → r.2 = true)) ∧
      ((s.coreAt c).live g = false → r.1.coreAt c = s.coreAt c) ∧ (∀ d, d ≠ c → r.1.coreAt d = s.coreAt d)) ∧
    (∀ (x : Core) (node due seqNo crc image : Nat) (l : List Nat),
      let y := (x.splice node due seqNo crc image l).1
      bitOf 3 y.cfgWord.toNat = true ∧ bitOf 2 y.cfgWord.toNat = false ∧ y.planeAct = x.planeAct ∧
        ∃ p, y.splicing = some p ∧ p.node = node ∧ p.due = due ∧ p.ok = (x.splice node due seqNo crc image l).2) ∧
    (∀ id n, s.actDue g id 3 = some n → n.sent ≠ 0 → s.splicing g id = false →
      exec (.spliceNode g id) s = .next (if n.sent = 1 then s.nodeDone g id else s.failNode g id 5 cSPLICEBAD)) ∧
    (∀ u b n, q.run = true → q.entered = true → q.halt = false → s.actDue g q.inst 5 = some n →
      s.collecting.gRead g (n.field 32 8) 8 = (u, .ok b) → s.Through (cpPayer g) u →
      exec (.condNode g k) s = .next (((u.nodeDone g n.id).modCms g k (fun q =>
        if condHolds (n.byte 16) (ofLe b &&& n.field 48 8) (n.field 24 8) then q.rearmAt (n.field 40 8) else q.goTo n.next)).paidUp (cpPayer g))) ∧
    (∀ id n, s.actDue g id 1 = some n → n.flag 0 = false → n.field 24 4 % 2 ^ 32 ≠ 0 →
      exec (.kernelRecordReady g id) s = .next ((s.modNode g id
        (fun n' => { n' with st := 1, count := n.field 24 4 % 2 ^ 32, order := (s.guestAt g).nextOrder })).modGuest g
        (fun x => { x with nextOrder := x.nextOrder + 1 }))) ∧
    (∀ (p : Nat) n cl, (s.guestAt g).gc.gstate = 2 → p ≤ 7 → (∀ r, p < r → r ≤ 7 → s.placeOne g r = none) →
      (s.guestAt g).grps = [] → s.pick g ((s.guestAt g).queue p) [] = some (n, cl, []) → s.needsImage g n cl = false →
      ¬ (n.placed = 0 ∧ spPages (n.byte 19) < (s.gc g).woff + (s.gc g).wlen) →
      ∃ (t : State) (r : Grp), exec (.groupPlacement g) s = .next t ∧ r ∈ (t.guestAt g).grps ∧ r.node = n.id ∧ r.index = n.placed ∧
        r.cl = cl ∧ r.members.length = n.members.length) ∧
    (∀ id index r, (s.guestAt g).grps.find? (fun r => r.node == id && r.index == index && r.st == 0 && r.over) = some r →
      ∃ t, exec (.groupComplete g id index) s = .next t ∧
        (t.guestAt g).grps = (s.guestAt g).grps.filter (fun q => !(q.node == id && q.index == index)))

/-- R433 to R435, R446, R451 to R458: frames and contracts: a due frame start brings the written registers into force and
checks its windows, a window's guard band asks its cores to yield and its end forces them; loading a good contract makes the
guest LOADED with its effective minima, START lets it run with a valid key and gives ERR 8 without one, STOP asks its cores
to yield, RESET begins, a function level reset is a RESET, and a resize asks the cores of the leaving clusters to yield. -/
def Obligations.FrameAndGuestEvents : Prop :=
  ∀ (s : State) (g : Nat),
    (s.frameDue = true → s.plat.tsJump = 0 → s.plat.full = false →
      ∃ t, exec .frameStart s = .next t ∧ t.frame.regs = s.frame.next ∧ t.frame.next = s.frame.next ∧ t.frame.startAt = s.time ∧
        t.frame.guard = [] ∧ t.frame.ended = [] ∧ t.frame.acc = s.frame.next.check.1 ∧ t.tb = s.tb ∧ t.ticked = s.ticked) ∧
    (∀ k, s.guardDue k = true → ∃ t, exec (.windowGuard k) s = .next t ∧ t.frame.guard = s.frame.guard ++ [k] ∧
      ∀ c ∈ s.windowCores k, (s.coreAt c).mode = .run → (t.coreAt c).yreq = true) ∧
    (∀ k, s.endDue k = true → ∃ t, exec (.windowEnd k) s = .next t ∧ t.frame.ended = s.frame.ended ++ [k] ∧
      ∀ c ∈ s.windowCores k, (s.coreAt c).yreq = true → (t.coreAt c).ydl = 0) ∧
    (∀ v, (s.gc g).en = false →
      let u := s.modGc g (fun c => c.ctlFields v)
      (u.loadErr g = 0 → ∃ t, exec (.contractLoad g v) s = .next t ∧ (t.gc g).en = true ∧ (t.gc g).gstate = 1 ∧ (t.gc g).err = 0) ∧
      (u.loadErr g ≠ 0 → exec (.contractLoad g v) s = .next (u.modGc g (fun c => { c with err := u.loadErr g })))) ∧
    (((s.gc g).gstate = 1 ∨ (s.gc g).gstate = 4) →
      ((s.gc g).keyValid = true → exec (.start g) s = .next (s.modGc g (fun c => { c with gstate := 2 }))) ∧
      ((s.gc g).keyValid = false → exec (.start g) s = .next (s.modGc g (fun c => { c with err := 8 })))) ∧
    ((s.gc g).gstate = 2 →
      ((s.gc g).rsz = true → exec (.stop g) s = .next (s.modGuest g (fun x => { x with stopWait := true }))) ∧
      ((s.gc g).rsz = false → ∃ t, exec (.stop g) s = .next t ∧ (t.gc g).gstate = 3)) ∧
    ((s.gc g).gstate ≠ 0 → (s.gc g).gstate ≠ 5 →
      exec (.functionLevelReset g) s = exec (.reset g) s ∧
      ∃ t, exec (.reset g) s = .next t ∧ (t.gc g).gstate = 5 ∧ (t.guestAt g).nodes = [] ∧ (t.guestAt g).grps = [] ∧
        (t.guestAt g).saved = []) ∧
    (∀ part, (s.gc g).en = true → (s.gc g).gstate ≠ 5 →
      ∃ t, exec (.resize g part) s = .next t ∧ (t.gc g).rsz = true ∧ (t.guestAt g).newPart = part % 2 ^ 32) ∧
    (∀ v, s.plat.instr = false →
      ∃ t, exec (.gcMinWrite g v) s = .next t ∧ (t.gc g).minbw = bitsOf 63 48 v ∧ (t.gc g).minways = bitsOf 45 40 v ∧
        (t.gc g).mincl = bitsOf 37 32 v ∧ (t.gc g).minwin = bitsOf 16 0 v)

/-- R447, R449, R459 to R463: keys, frames of the pool, attestation, counters, vectors and resources: GENERATE and ERASE of a
guest that neither runs nor stops leave a valid key of 64 bytes and none; IMPORT leaves what the unwrap gives; an allocation
takes the first clean frame or waits, a freed frame joins the scrub queue once, and a scrubbed one reads as zero bytes; an
attestation of a loaded guest without signatures left reports DETAIL 1; a value adds to an event counter; a timer sends its
vector, an unmasked vector the message it holds; the host's claims and releases change the state of a resource. -/
def Obligations.KeyAndPoolEvents : Prop :=
  ∀ (s : State) (g : Nat),
    (s.keyBusy g = false →
      (∃ t, exec (.generate g) s = .next t ∧ (t.gc g).keyValid = true ∧ (t.gc g).key.length = 64 ∧ t.plat.nonce = s.plat.nonce + 1) ∧
      (∃ t, exec (.erase g) s = .next t ∧ (t.gc g).keyValid = false ∧ (t.gc g).key = List.replicate 64 0 ∧ ∀ l ∈ t.l2, l.sel ≠ g) ∧
      (∃ (t : State) (b : List Nat), exec (.importKey g) s = .next t ∧ (t.gc g).keyValid = (Config.keyUnwrap b).isSome ∧
        (t.gc g).key = match Config.keyUnwrap b with | some k => fixBytes 64 k | none => [])) ∧
    (∀ pa r, s.plat.poolClean = pa :: r →
      ∃ t, exec (.poolAlloc g) s = .next t ∧ t.plat.poolClean = r ∧ (t.guestAt g).frames = (s.guestAt g).frames ++ [pa] ∧
        t.plat.pollOut = s.plat.pollOut ++ [(g, pa)]) ∧
    (s.plat.poolClean = [] → exec (.poolAlloc g) s = .next { s with plat := { s.plat with poolWait := s.plat.poolWait ++ [g] } }) ∧
    (∀ pa, s.plat.poolClean.contains (frameOf pa) = false → s.plat.poolScrub.contains (frameOf pa) = false →
      ∃ t, exec (.poolFree pa) s = .next t ∧ t.plat.poolScrub = s.plat.poolScrub ++ [frameOf pa] ∧
        (∀ h, ∀ f ∈ (t.guestAt h).frames, f ≠ frameOf pa) ∧ ∀ l ∈ t.l2, frameOf l.pa ≠ frameOf pa) ∧
    (∀ f r, s.plat.poolScrub = f :: r → s.plat.poolWait = [] →
      ∃ t, exec .frameScrub s = .next t ∧ t.plat.poolScrub = r ∧ t.plat.poolClean = s.plat.poolClean ++ [f] ∧
        (∀ a, f ≤ a → a < f + 2 ^ 21 → memGet t.mem a = 0) ∧
        (∀ a, ¬ (f ≤ a ∧ a < f + 2 ^ 21) → memGet t.mem a = memGet s.mem a)) ∧
    ((s.gc g).en = true → 2 ^ 30 ≤ s.plat.hss →
      exec (.attestation g) s = .next (s.statusEvent g 6 0 1 (s.guestAt g).attOut)) ∧
    (∀ u nonce, (s.gc g).en = true → s.plat.hss < 2 ^ 30 → (s.guestAt g).lastImg = 0 →
      s.gRead g (s.guestAt g).attNonce 32 = (u, .ok nonce) →
      let w := { u with plat := { u.plat with hss := u.plat.hss + 1 } }
      let body := u.reportBody g nonce []
      let r := w.gWrite g (s.guestAt g).attOut (body ++ hssBytes s.plat.hss body)
      body.length = 224 + nonce.length ∧ body.take 4 = [1, 0, g, (u.gc g).cls] ∧
      exec (.attestation g) s = .next (match r.2 with
        | .ok () => r.1.statusEvent g 6 0 0 (s.guestAt g).attOut
        | .error e => r.1.statusEvent g 1 e.1 0 e.2)) ∧
    (∀ e v, e < 256 → ∃ t, exec (.eventCounterAdd g e v) s = .next t ∧
      (t.guestAt g).ev.get 0 e = (s.guestAt g).ev.get 0 e + BitVec.ofNat 64 v) ∧
    (∀ v, s.timerDue g v = true → exec (.irqTimer g v) s = .next (s.sendMsg g v)) ∧
    (∀ v, ∃ t, exec (.vectorUnmask g v) s = .next t ∧ ((t.guestAt g).irq.get {} v).masked = false ∧
      t.msgs = s.msgs ++ (if ((s.guestAt g).irq.get {} v).waiting then [(g + 1, v)] else [])) ∧
    (∀ id, id < 256 →
      let h := s.plat.res.get 0 id
      (∃ t, exec (.hostClaim id) s = .next t ∧ t.plat.res.get 0 id = (if h = 0 then 17 else if h < 17 then h + 17 else h)) ∧
      (∃ t, exec (.hostRelease id) s = .next t ∧ t.plat.res.get 0 id = (if h = 17 then 0 else if 18 ≤ h then h - 17 else h)))

/-- R475 to R484, R219, R489, R490: debug, trace, counters and replay: a due stop takes its checkpoint first and then stops
with its reason, HALT asks for a stop, RESUME starts fetching again, a data write changes a register of a stopped core and
its shadow; a trace unit starts at PTR 0, a SAMPLE puts the record of R482 of a core that runs a context into the unit that traces it, and its time moves on, counters are cleared and latched for
their holder, MCINV empties the method cache; a replay starts on its cluster with its counters claimed, an abort is noted,
a pass enters its node as a READY record of its own with the banks of its members cleared and enabled, and
its end reports and starts the next one or ends the replay; a pass that cannot find its record ends the replay with REASON 4
(the model's choice, log entry 129). -/
def Obligations.DebugEvents : Prop :=
  ∀ (s : State) (n : Nat),
    let k := s.coreAt n
    (∀ why, s.stopWhy n = some why → s.stopDue n = true →
      (k.dbg.ck = false → exec (.debugStop n) s =
        .next ((s.ckptBase n k.sync.pc k.seqNo k.sync).modCoreAt n (fun k => { k with dbg := { k.dbg with ck := true } }))) ∧
      (k.dbg.ck = true → (s.clAt (clOf n)).trc.en = false → ∃ t, exec (.debugStop n) s = .next t ∧ (t.coreAt n).dbg.stopped = true ∧
        (t.coreAt n).dbg.why = why ∧ (t.coreAt n).dbg.addr = k.sync.pc ∧ (t.coreAt n).sync = k.sync)) ∧
    ((s.dbgFor n).isSome = true → k.dbg.stopped = false →
      exec (.halt n) s = .next (s.modCoreAt n (fun k => { k with dbg := { k.dbg with haltReq := true } }))) ∧
    (∀ c, s.dbgFor n = some c → k.dbg.stopped = true →
      (∃ t, exec (.resume n) s = .next t ∧ (t.coreAt n).dbg.stopped = false ∧ (t.coreAt n).fbBytes = [] ∧ (t.coreAt n).sync = k.sync ∧
        (t.coreAt n).dbg.step = true) ∧
      (∀ v, bitsOf 31 28 c.2 ≠ 9 → ∃ t, exec (.dbgDataWrite n v) s = .next t ∧
        (t.coreAt n).sync = k.sync.dbgPut (k.mode == .handler) (bitsOf 31 28 c.2) (bitsOf 24 16 c.2) (bitsOf 4 0 c.2) (BitVec.ofNat 64 v) ∧
        (t.coreAt n).shadow = (t.coreAt n).sync.landed t.free)) ∧
    (∀ cl v, cl < 32 → bitOf 63 v = true → ∃ t, exec (.traceEnable cl v) s = .next t ∧ (t.clAt cl).trc.en = true ∧
      (t.clAt cl).trc.ptr = 0 ∧ (t.clAt cl).trc.base = bitsOf 47 12 v) ∧
    (∀ cl j, cl < 32 → j < 8 → s.sampleDue cl j = true → (s.coreAt (8 * cl + j)).hasContext = false →
      exec (.traceSample cl j) s = .next (s.modCl cl (fun c => { c with trc := { c.trc with nextAt := c.trc.nextAt.set j (s.now + c.trc.period) } }))) ∧
    (∀ cl j, cl < 32 → j < 8 → s.sampleDue cl j = true → (s.coreAt (8 * cl + j)).hasContext = true →
      let c := s.coreAt (8 * cl + j)
      let u := (s.clAt cl).trc
      let holder := s.plat.res.get 0 (256 + cl)
      let up := s.portUp 0 = true ∨ s.portUp 1 = true
      let flags := (if c.mode = .handler then 1 else 0) + (if c.sync.loop.act = true then 2 else 0)
      let record := [5, flags] ++ toLe 2 ((if up then s.fab.car else 0) * 256 + (8 * cl + j) + c.guest * 4096) ++
        toLe 2 (c.mClass s.now) ++ [0, 0] ++ toLe 8 c.sync.pc ++ toLe 8 c.cycle ++ toLe 8 (c.sampleData s.now)
      bitOf 5 u.types = true → (17 ≤ holder → bitOf c.guest u.gmask = true) → (holder < 17 → holder = c.guest + 1) →
      exec (.traceSample cl j) s = .next (s.modCl cl (fun x => { x with trc := { x.trc with
        nextAt := x.trc.nextAt.set j (s.now + x.trc.period), recs := x.trc.recs ++ [(j, c.guest, record)] } }))) ∧
    (n < 256 → s.plat.res.get 0 n ≠ 0 → s.hostBank n = false →
      exec (.pmctlClr n) s = .next (s.modCoreAt n Core.clearCounters) ∧
      ∀ i < 4, exec (.counterLowRead n i) s = .next (s.modCoreAt n (fun k => { k with pmc := latchIn k.pmc i }))) ∧
    (n < 256 → exec (.mcinv n) s = .next (s.modCoreAt n (fun k => { k with mcache := [] }))) ∧
    (∀ g, g < 16 → (s.rplAt g).busy = false →
      let u := s.modRpl g (fun r => { r with
        reason := 0, firstmm := 0, done := 0, pass := 0, abort := false, sigs := [], sigs1 := [], shots := [], winPages := 0 })
      ∀ v node cl, u.nodeRead g (s.rplAt g).node = (v, .ok node) → v.replayable g node = true → v.replayCluster g node = some cl →
        (∀ c ∈ node.coresOn cl, (v.guestClaim g c).2 = 0) →
        ∃ t, exec (.replayGo g) s = .next t ∧ (t.rplAt g).busy = true ∧ (t.rplAt g).cl = cl ∧ (t.rplAt g).pass = (v.rplAt g).pass) ∧
    (∀ g, (s.rplAt g).busy = true → exec (.replayAbort g) s = .next (s.modRpl g (fun r => { r with abort := true }))) ∧
    (∀ g p v node, s.nodeRead g (s.rplAt g).node = (v, .ok node) → v.replayable g node = true →
      let cores := node.coresOn (s.rplAt g).cl
      (p = 1 → cores.length * (s.gc g).wlen ≤ (s.rplAt g).pages) →
      let t := s.passStart g p
      (t.rplAt g).pass = p ∧ (t.rplAt g).sigs = [] ∧
        (∃ m, (t.guestAt g).nodes.filter (fun x => x.replay) = [m] ∧ m.bytes = node.bytes ∧ m.st = 1 ∧ m.count = 1) ∧
        (∀ c ∈ cores, (t.coreAt c).mcyc = [] ∧ (t.coreAt c).pmctl = 0xF ∧ ∀ i < 4, ((t.coreAt c).pmc.get {} i).count = 0) ∧
        ((s.rplAt g).busy = true → (s.rplAt g).pass = 0 → p = 1 → exec (.replayPass g) s = .next t)) ∧
    (∀ g n, s.passDue g = true → (s.rplAt g).pass ≠ 0 → s.replayNode g = some n →
      let t := s.passEnd g n
      ((t.rplAt g).busy = true → exec (.replayPass g) s = .next (t.passStart g ((s.rplAt g).pass + 1))) ∧
      ((t.rplAt g).busy = false → exec (.replayPass g) s = .next t)) ∧
    (∀ g, s.passDue g = true → (s.rplAt g).pass ≠ 0 → s.replayNode g = none → exec (.replayPass g) s = .next (s.replayStop g 4))

/-- R6, R21, R51, R462, R493 to R495, R501 to R507, R509: the events of the platform and the host complete: a reset or a loss
of power keeps what non-volatile storage holds and returns everything else to its reset state, the firmware of the first accepted slot starts, the dies are brought up in ascending
order with their repair maps and the first that passes brings reduced service, FULL waits for a frame, a thermal trip sets THERM and the slowest step, TSYNC locks and limits the
rate, a lost edge unlocks; an access of the host moves its bytes, a power state is refused while a guest runs, IDCODE and
BYPASS shift out what the standard gives, recovery answers its mailbox, and in it and in stage 0 nothing else answers; a register write changes its register; the bundle at the pc of
a core is reported with its first failing check, and an empty bundle ends at its length. -/
def Obligations.PlatformEvents : Prop :=
  ∀ s : State,
    (∀ i ∈ [Instr.perstN, .powerLoss],
      ∃ t, exec i s = .next t ∧ t.plat.hss = s.plat.hss ∧ t.plat.nonce = s.plat.nonce ∧ t.plat.chRet = s.plat.chRet ∧
        t.mem = State.reset.mem ∧ t.cores = State.reset.cores ∧ t.guests = State.reset.guests ∧ t.plat.stage = State.reset.plat.stage ∧
        t.tb = 0 ∧ t.frame = State.reset.frame) ∧
    ((∀ x, s.plat.slotA = some x → s.plat.accepts x = true → s.plat.bootSlot = some x) ∧
      (∀ y, s.plat.slotB = some y → s.plat.accepts y = true → (∀ x, s.plat.slotA = some x → s.plat.accepts x = false) →
        s.plat.bootSlot = some y)) ∧
    (∀ x, s.plat.stage = 0 → s.plat.bootSlot = some x →
      (∃ t, exec (.dieBringup 0 1) s = .next t ∧ t.plat.stage = 2 ∧ t.plat.reddie = 0 ∧ t.plat.cstep = 4 ∧ t.plat.dieTried = 1 ∧
        t.plat.dieup = s.plat.dieup ||| 1 ∧ t.plat.memtop = x.memtop ∧ t.plat.rsz = x.rsz ∧ t.plat.chCap = x.cap) ∧
      (∀ p, p ≠ 1 → ∃ t, exec (.dieBringup 0 p) s = .next t ∧ t.plat.stage = 1 ∧ t.plat.dieTried = 1 ∧ t.plat.dieup = s.plat.dieup)) ∧
    (∀ die, 0 < die → s.plat.stage = 0 → ∀ p, exec (.dieBringup die p) s = .next s) ∧
    (∀ die, die < 4 → s.plat.stage = 1 ∨ s.plat.stage = 2 →
      (die ≠ s.plat.dieTried → ∀ p, exec (.dieBringup die p) s = .next s) ∧
      (die = s.plat.dieTried →
        (∃ t, exec (.dieBringup die 1) s = .next t ∧ t.plat.stage = 2 ∧ t.plat.dieTried = die + 1 ∧
          t.plat.dieup = s.plat.dieup ||| 2 ^ die ∧ (s.plat.stage = 1 → t.plat.reddie = die ∧ t.plat.cstep = 4) ∧
          (s.plat.stage = 2 → t.plat.reddie = s.plat.reddie) ∧
          ∀ n rows, s.plat.sramMap = [(n, rows)] → dieOf n = die → (t.coreAt n).spareRows = rows) ∧
        (∀ p, p ≠ 1 → ∃ t, exec (.dieBringup die p) s = .next t ∧ t.plat.dieup = s.plat.dieup ∧ t.plat.stage = s.plat.stage ∧
          t.plat.dieTried = die + 1))) ∧
    (s.plat.stage = 2 → s.plat.dieup % 16 = 15 → exec .full s = .next { s with plat := { s.plat with full := true } }) ∧
    (∃ t, exec .thermalTrip s = .next t ∧ t.plat.cstep = 4 ∧ t.plat.therm = true ∧ t.plat.safeN = true ∧ 125 ≤ t.plat.tj ∧
      ((s.plat.pfIrq.get {} 0).masked = false → t.msgs = s.msgs ++ [(0, 0)]) ∧
      ((s.plat.pfIrq.get {} 0).masked = true → t.msgs = s.msgs ∧ (t.plat.pfIrq.get {} 0).waiting = true)) ∧
    (s.plat.tsEn = true → ∃ t, exec .tsync s = .next t ∧ t.plat.tsLock = true ∧ t.plat.tsLast = s.time ∧ -200 ≤ t.plat.tsPpm ∧
      t.plat.tsPpm ≤ 200) ∧
    (s.plat.tsLock = true → s.plat.tsLast + 3000000 ≤ s.time → exec .tsyncTimeout s = .next { s with plat := { s.plat with tsLock := false } }) ∧
    ((s.plat.stage = 0 ∨ s.plat.stage = 7) →
      (∀ g w addr d, exec (.hostWindowAccess g w addr d) s = .next s) ∧ (∀ w addr d, exec (.hostPhysicalAccess w addr d) s = .next s) ∧
      ∀ sp off v, exec (.registerWrite sp off v) s = .next s) ∧
    (∀ g w addr d, s.plat.stage ≠ 0 → s.plat.stage ≠ 7 → ∃ i, exec (.hostWindowAccess g w addr d) s = .next { s with parked := s.parked ++ [(i, .host g (w == 1) addr d)] } ∧
      ∀ p ∈ s.parked, p.1 < i) ∧
    (∀ g i addr d u b, s.outsideReady 0 8 g = some (i, .host g false addr d) →
      s.collecting.gRead g (bitsOf 47 36 (s.guestAt g).hwin * 2 ^ 36 + addr % 2 ^ 36) d.length = (u, .ok b) → s.Through (outPayer g i) u →
      ∃ t, exec (.regulationAdmit 0 8 g) s = .next t ∧ t.plat.hostOut = some b ∧ t.parked = s.parked.filter (fun q => q.1 != i)) ∧
    (∀ g i addr d u, s.outsideReady 0 8 g = some (i, .host g true addr d) →
      s.collecting.gWrite g (bitsOf 47 36 (s.guestAt g).hwin * 2 ^ 36 + addr % 2 ^ 36) d = (u, .ok ()) → s.Through (outPayer g i) u →
      ∃ t, exec (.regulationAdmit 0 8 g) s = .next t ∧ t.mem = u.mem ∧ t.l2 = u.l2 ∧ t.parked = s.parked.filter (fun q => q.1 != i)) ∧
    (∀ addr d b, s.plat.stage ≠ 0 → s.plat.stage ≠ 7 → s.hostRead addr d.length = some b →
      exec (.hostPhysicalAccess 0 addr d) s = .next { s with plat := { s.plat with hostOut := some b } }) ∧
    (∀ d3, (∀ p ∈ s.guests, p.2.gc.gstate ≠ 2 ∧ p.2.gc.gstate ≠ 3 ∧ p.2.gc.gstate ≠ 5) →
      exec (.pmcsrWrite d3) s = .next { s with plat := { s.plat with d3 := d3 == 1 } }) ∧
    (∃ t, exec (.ieee11491 0 (List.replicate 32 0)) s = .next t ∧ t.plat.jtagOut.length = 32 ∧ t.plat.jtagOut.headD 0 = 1) ∧
    (∀ d, ∃ t, exec (.ieee11491 1 d) s = .next t ∧ t.plat.jtagOut = (0 :: d).take d.length) ∧
    (∀ d, (s.plat.stage = 0 ∧ s.plat.bootSlot = none ∨ s.plat.stage = 7) → ∃ t, exec (.recoveryMailbox d) s = .next t ∧ t.plat.stage = 7 ∧ t.plat.recov = true ∧
      t.plat.mailOut = Config.mailboxAnswer d ∧ t.plat.safeN = true) ∧
    (∀ v, v < 2 ^ 64 → s.plat.stage ≠ 0 → s.plat.stage ≠ 7 → exec (.registerWrite 0 0xC00038 v) s = .next { s with plat := { s.plat with cap := v % 2 ^ 16 } }) ∧
    (∀ sp off v, off % 8 ≠ 0 → exec (.registerWrite sp off v) s = .next s) ∧
    (∀ n b c, (s.coreAt n).running = true → (s.coreAt n).held = none → (s.coreAt n).bundle = some b → bundleCause b = some c →
      exec (.illegalEncoding n) s = .next { ({ s with focus := n } : State).fetchTrap c.1 c.2 with focus := s.focus }) ∧
    (∀ h, (readHeader h).mask = 0 → (readHeader h).rsv = false → s.core.running = true → s.needsCkpt [] = false →
      ∃ t, exec (.idleBundle h) s = .next t ∧ t = s.issued (s.slotState { hdr := readHeader h, words := [], len := 4 } [])
        { hdr := readHeader h, words := [], len := 4 } [])

/-- R513 to R520, R530, R531: the events of a port complete: a signal starts training, its end sends the link report, a failed
lock lowers the rate, a report that fits and verifies brings the port UP with its keys and with sequence numbers that start at
0 again, before what waits the flits that a rekey sends again, one that does not fit or verify takes it DOWN, a good flit in
turn moves the expected number on, and one for another car is forwarded, a bad one counts, kept flits are to be sent again, a
rekey returns to ATTEST, and silence, a timeout or a failure take the port DOWN with its reason: the accesses over the link or to
cars no longer reachable fail. A flit begins with its type, its slot, its number and the number expected (the layout of what it
carries is the model's choice, log entry 115). -/
def Obligations.FabricEvents : Prop :=
  ∀ (s : State) (p : Nat),
    let q := s.portAt p
    (s.fab.en = true → q.state = 0 →
      exec (.signalDetect p) s = .next (s.modPort p (fun x => { x with state := 1, peerv := false, rate := false }))) ∧
    (q.state = 1 → ∃ t, exec (.trainingComplete p) s = .next t ∧ (t.portAt p).state = 2 ∧ (t.portAt p).rate = true ∧
      t.plat.nonce = s.plat.nonce + 1 ∧ ∃ l, t.flits = s.flits ++ l ∧ l ≠ [] ∧ ∀ f ∈ l, f.1 = p) ∧
    (q.state ≠ 0 → exec (.rateFallback p) s = .next (s.modPort p (fun x => { x with rate := false }))) ∧
    (q.state = 1 → exec (.trainingTimeout p) s = .next (s.downPort p 4)) ∧
    (q.state = 3 → exec (.flitSilence p) s = .next (s.downPort p 2)) ∧
    (∀ why, q.state ≠ 0 → exec (.portDown p why) s = .next (s.downPort p why)) ∧
    (∀ why,
      let u := s.modPort p (fun x => { x with
        state := 0, why := why, rate := false, kept := [], outq := [], again := [], txKey := [], rxKey := [], txSalt := [], rxSalt := []
        peerv := false, fails := 0 })
      let t := s.downPort p why
      (s.portOpen p = false → t = u) ∧
      (s.portOpen p = true → s.fab.colls = [] → s.guests = [] →
        (t.portAt p).state = 0 ∧ (t.portAt p).why = why ∧ (t.portAt p).kept = [] ∧ t.mem = s.mem ∧
        t.hostEvs = s.hostEvs ++ (s.reachable.filter (fun c => !u.reachable.contains c)).map (fun c => (cPEERLOST, c, 0)) ∧
        t.fab.reqs = s.fab.reqs.map (fun r =>
          if r.ans = none ∧ ((r.car ∈ s.reachable ∧ r.car ∉ u.reachable) ∨
            (r.sent = true ∧ s.fab.linkOf p ∈ u.fab.path s.fab.car r.port r.car)) then { r with ans := some (false, []) } else r))) ∧
    (∀ r : LinkRep, q.state = 2 →
      let fits := s.fab.neighbour p = some r.car ∧ r.topo = s.fab.topo ∧ r.ncar = s.fab.ncar
      let good := r.sigOk = true ∧ r.rootHash = s.fab.rootBytes ∧ r.fwHash = fwBytes ∧ (r.car < s.fab.car → r.cipher ≠ [])
      (fits → good → ∃ t, exec (.linkReport p r) s = .next t ∧
        let x := t.portAt p
        let low := s.fab.car < r.car
        let secret := if low then Config.kemShared s.plat.nonce r.kem else Config.kemOpen q.draw r.cipher
        let k := if low then linkBytes secret q.nonce r.nonce else linkBytes secret r.nonce q.nonce
        x.state = 3 ∧ x.peer = r.car ∧ x.peerv = true ∧ x.txSeq = 0 ∧ x.rxSeq = 0 ∧ x.kept = [] ∧
        x.txKey = (if low then k.take 32 else (k.drop 32).take 32) ∧ x.rxKey = (if low then (k.drop 32).take 32 else k.take 32) ∧
        (q.kept.map (fun y => y.2)).filter (fun m => m.type != 0) ++ q.outq <+: x.outq) ∧
      (¬ fits → exec (.linkReport p r) s = .next (s.downPort p 3)) ∧
      (fits → ¬ good → exec (.linkReport p r) s = .next (s.downPort p 5))) ∧
    (∀ f : Flit, 3 ≤ q.state →
      (f.good = true → f.type ≤ 4 →
        (f.seqNo % 2 ^ 24 = q.rxSeq % 2 ^ 24 → ∃ t, exec (.flitReceive p f) s = .next t ∧ t.portAt p = q.receive f ∧
          (t.portAt p).rxSeq = q.rxSeq + 1 ∧ (t.portAt p).fails = 0 ∧
          (f.type ≠ 0 → f.payload.getD 0 0 ≠ s.fab.car → s.portOpen (1 - p) = true → (t.portAt (1 - p)).outq =
            (s.portAt (1 - p)).outq ++ [{ type := f.type, owner := f.payload.getD 2 0, payload := f.payload }])) ∧
        (f.seqNo % 2 ^ 24 ≠ q.rxSeq % 2 ^ 24 → exec (.flitReceive p f) s = .next (s.modPort p (fun x => x.receive f)) ∧
          (q.receive f).rxSeq = q.rxSeq)) ∧
      (f.good = false → q.fails < 7 → exec (.flitReceive p f) s = .next (s.modPort p (fun x => { x with fails := x.fails + 1 }))) ∧
      (f.good = false → 7 ≤ q.fails → exec (.flitReceive p f) s = .next (s.downPort p 1))) ∧
    (3 ≤ q.state → exec (.flitResend p) s = .next (s.modPort p (fun x => { x with again := x.kept.map (fun y => y.1) }))) ∧
    (∀ (n slot : Nat) (m : FlitMsg), (q.bytes n slot m).take 8 = [m.type, slot] ++ toLe 3 n ++ toLe 3 q.rxSeq ∧
      (q.txKey = [] → (q.bytes n slot m).drop 8 = (List.range 232).map (fun i => m.payload.getD i 0) ++ List.replicate 16 0)) ∧
    (q.state = 3 → ∃ t, exec (.rekey p) s = .next t ∧ (t.portAt p).state = 2) ∧
    (∃ t, exec .fabricDisable s = .next t ∧ ((s.portAt 0).state = 0 → (s.portAt 1).state = 0 → t.fab = { s.fab with en := false })) ∧
    (∃ t, exec .fabLogRead s = .next t ∧ t.fab.log = 0 ∧ t.mem = s.mem) ∧
    ((∃ a ∈ s.fab.aborts, s.routeTo a.1 = some p ∧ a.2.2.2 + 1000 ≤ s.time) →
      exec (.abortAckTimeout p) s = .next (s.downPort p 1)) ∧
    ((∀ a ∈ s.fab.aborts, s.routeTo a.1 = some p → s.time < a.2.2.2 + 1000) → exec (.abortAckTimeout p) s = .next s)

/-- R514, R522 to R531: the events of remote traffic complete: an access that fails a check of its window is answered with it, an
admitted good one is performed at the place that its check gave it and answered, a message for a car waits at the port toward
it, a response reaches its request, the inputs of a collective combine into its result, which goes on, and participants that
disagree abort it, a late one or an abort ends it with its cause and marks the group broken, a written register or window takes
its fields, a lost link is noted with the cars behind it, one that is UP again is forgotten (log entry 115), and a revocation
changes nothing here. -/
def Obligations.RemoteEvents : Prop :=
  ∀ s : State,
    (∀ (car type owner : Nat) (b : List Nat),
      (s.routeTo car = none → s.sendTo car type owner b = s) ∧
      (∀ p, s.routeTo car = some p → s.sendTo car type owner b =
        s.modPort p (fun q => { q with outq := q.outq ++ flitsOf type owner car s.fab.car b }))) ∧
    (∀ (a : RemAcc) y b, s.respond a y b = s.sendTo a.car 2 a.tenant (toLe 8 a.id ++ [y] ++ b)) ∧
    (∀ (a : RemAcc) y, s.winCheck a.tenant a.win a.off a.len (a.kind != 0) = some y →
      exec (.remoteAccess a) s = .next (s.respond a y [])) ∧
    (∀ a : RemAcc, s.winCheck a.tenant a.win a.off a.len (a.kind != 0) = none →
      let f := s.fab.wins.get {} a.win
      let sel := if f.enc = true ∨ (s.gc f.guest).cls = 3 then f.guest else 16
      ∃ i, exec (.remoteAccess a) s = .next { s with parked := s.parked ++ [(i, .car a (f.base * 2 ^ 21 + a.off) f.guest sel)] } ∧
        ∀ p ∈ s.parked, p.1 < i) ∧
    (∀ die g i (a : RemAcc) pa h sel u,
      s.outsideReady die 8 g = some (i, .car a pa h sel) →
      (∀ b, s.collecting.serve a (pa, h, sel) = (u, some b) → s.Through (outPayer g i) (u.respond a 0 b) →
        ∃ t, exec (.regulationAdmit die 8 g) s = .next t ∧ t.fab = (u.respond a 0 b).fab ∧ t.mem = u.mem ∧ t.l2 = u.l2 ∧
          t.parked = s.parked.filter (fun q => q.1 != i)) ∧
      (s.collecting.serve a (pa, h, sel) = (u, none) → s.Through (outPayer g i) (u.respond a 7 []) →
        ∃ t, exec (.regulationAdmit die 8 g) s = .next t ∧ t.fab = (u.respond a 7 []).fab)) ∧
    (∀ id (r : RemReq) data, s.fab.reqs.find? (fun r => r.id == id && r.ans.isNone) = some r →
      (∃ t, exec (.remoteResponse id 1 data) s = .next t ∧ (∀ x ∈ t.fab.reqs, x.id = id → x.ans = some (true, data)) ∧ t.fab.log = s.fab.log) ∧
      (∀ ok, ok ≠ 1 → ∃ t, exec (.remoteResponse id ok data) s = .next t ∧ ∀ x ∈ t.fab.reqs, x.id = id → x.ans = some (false, []))) ∧
    (∀ g (c : Coll) (peers : List PeerInput), s.collReady g = some c →
      let memb := (List.range 8).filter (fun x => bitOf x (s.fab.grp.get {} g).memb)
      let data (x : Nat) : List Nat := if x = s.fab.car then c.inp else ((peers.find? (fun p => p.car == x)).map (fun p => p.data)).getD []
      let agrees (p : PeerInput) : Prop := p.kind = c.kind ∧ p.len = c.len ∧ p.di = c.di ∧ p.data.length = c.len
      let first := ∀ x < s.fab.car, bitOf x (s.fab.grp.get {} g).memb = false
      (∀ x ∈ memb, x ≠ s.fab.car → ∃ p ∈ peers, p.car = x) →
      let l := memb.map (fun x => (x, data x))
      let ends (t : State) : State := t.modCoreAt c.core (fun k => k.modC c.queueB c.seqNo (fun x =>
        { x with pos := 2, desc := collCombine c.kind c.len c.di l }))
      ((∀ p ∈ peers, p.car ∈ memb → p.car ≠ s.fab.car → agrees p) →
        (first → exec (.collectiveComplete g peers) s = .next (ends s)) ∧
        (¬ first → exec (.collectiveComplete g peers) s = .next (ends (s.collSend c l)))) ∧
      ((∃ p ∈ peers, p.car ∈ memb ∧ p.car ≠ s.fab.car ∧ ¬ agrees p) →
        exec (.collectiveComplete g peers) s = .next ((s.abortColl c cFABERR).collTell g c.num 6))) ∧
    (∀ g (c : Coll), s.fab.colls.find? (fun c => c.guest == g) = some c →
      exec (.collectiveTimeout g) s = .next (if s.collFirst g then (s.abortColl c cFABERR).collTell g c.num 6 else s.abortColl c cFABERR)) ∧
    (∀ g v, s.fab.colls = [] → ∃ t, exec (.fcgrpWrite g v) s = .next t ∧ (t.fab.grp.get {} g).memb = bitsOf 7 0 v ∧
      (t.fab.grp.get {} g).broken = false ∧ (t.fab.grp.get {} g).seqNo = 0 ∧
      (t.fab.grp.get {} g).tmo = (if bitsOf 15 8 v = 0 then 1 else bitsOf 15 8 v)) ∧
    (∀ link, exec (.peerLossNotice ⟨link, true⟩) s = .next { s with fab := { s.fab with lost := s.fab.lost.filter (fun l => l != link) } }) ∧
    (∀ link, link ∉ s.fab.lost → link ≠ s.fab.linkOf 0 → link ≠ s.fab.linkOf 1 → s.fab.reqs = [] → s.fab.colls = [] → s.guests = [] →
      ∃ t, exec (.peerLossNotice ⟨link, false⟩) s = .next t ∧ t.fab.lost = s.fab.lost ++ [link] ∧
        t.hostEvs = s.hostEvs ++ (s.reachable.filter (fun c => !t.reachable.contains c)).map (fun c => (cPEERLOST, c, 0))) ∧
    (∀ link, link ∈ s.fab.lost ∨ link = s.fab.linkOf 0 ∨ link = s.fab.linkOf 1 → exec (.peerLossNotice ⟨link, false⟩) s = .next s) ∧
    (∀ g k car, ∃ t, exec (.abortMessage g ⟨k, car⟩) s = .next t ∧ (t.fab.grp.get {} g).broken = true ∧
      (∀ p, s.routeTo car = some p → (t.portAt p).outq = (s.portAt p).outq ++
        flitsOf 4 0xFF car s.fab.car ([2, (s.gc g).tenant, (s.fab.grp.get {} g).memb] ++ toLe 4 k)) ∧
      ((∀ c ∈ s.fab.colls, c.guest = g → c.num ≠ k) → (s.fab.grp.get {} g).seqNo ≤ k →
        (t.fab.grp.get {} g).done = (s.fab.grp.get {} g).done ++ [(k, cABORTRESET)])) ∧
    (∀ w base cfg, w < 32 → ∃ t, exec (.windowRewrite w base cfg) s = .next t ∧
      let f := t.fab.wins.get {} w
      f.en = bitOf 63 base ∧ f.w = bitOf 62 base ∧ f.enc = bitOf 61 base ∧ f.base = bitsOf 51 21 base ∧ f.tenant = bitsOf 55 48 cfg ∧
        f.guest = bitsOf 35 32 cfg ∧ f.size = bitsOf 19 0 cfg) ∧
    (∀ car, exec (.windowRevocation car) s = .next s)

/-- R112, R149, R183, R190, R237: the register frames. Whenever an instruction of these gives a next state, its guard true or
not, nothing differs but its destination register (s0 and g0 take nothing), the bits of WARN that are named, and landing
times: every other register of every file, the ages, rotation, loops, streams, rings, the random state, all of memory, and
every other core and device stay. A vector word whose operand B is a stream does so beside the stream that it pops, and has
no effect but the stall or the trap of its stream when the group is not there; XPRM, NMAP and NMAPX may stall on a pattern
that is being written. -/
def Obligations.RegisterFrame : Prop :=
  ∀ s : State,
    let frame (keep : RegFile → Nat → Prop) (bits : List Nat) (i : Instr) : Prop := ∀ t, exec i s = .next t → s.Frame keep bits t
    let other (f : RegFile) (r : Nat) (e : RegFile) (i : Nat) : Prop := e = f → i ≠ r
    (∀ o : OpSR, (∀ i ∈ [Instr.add o, .sub o, .mul o, .mulh o, .mulhu o, .and o, .or o, .xor o, .shl o, .shr o, .sra o, .min o,
        .max o, .minu o, .maxu o, .addw o], frame (s.allButS o.d.toNat) [] i) ∧
      (∀ i ∈ [Instr.div o, .divu o, .rem o, .remu o], frame (s.allButS o.d.toNat) [wDIVZ] i)) ∧
    (∀ o : OpSR2, ∀ i ∈ [Instr.clz o, .popc o, .mov o], frame (s.allButS o.d.toNat) [] i) ∧
    (∀ o : OpSSel, frame (s.allButS o.d.toNat) [] (.sel o)) ∧ (∀ o : OpSLea, frame (s.allButS o.d.toNat) [] (.lea o)) ∧
    (∀ o : OpSI, ∀ i ∈ [Instr.addi o, .andi o, .ori o, .xori o, .muli o], frame (s.allButS o.d.toNat) [] i) ∧
    (∀ o : OpSSh, ∀ i ∈ [Instr.shli o, .shri o, .srai o], frame (s.allButS o.d.toNat) [] i) ∧
    (∀ o : OpSL, ∀ i ∈ [Instr.movi o, .movhi o, .addil o], frame (s.allButS o.d.toNat) [] i) ∧
    (∀ o : OpSC, ∀ i ∈ [Instr.ceq o, .cne o, .clt o, .cge o, .cltu o, .cgeu o], frame (allButG o.e.toNat) [] i) ∧
    (∀ o : OpSCI, ∀ i ∈ [Instr.ceqi o, .cnei o, .clti o, .cgei o], frame (allButG o.e.toNat) [] i) ∧
    (∀ o : OpSGl, ∀ i ∈ [Instr.gand o, .gor o, .gxor o], frame (allButG o.e.toNat) [] i) ∧
    (∀ o : OpSGs, frame (allButG o.e.toNat) [] (.gset o)) ∧
    (∀ o : OpSF, (∀ i ∈ [Instr.fadd o, .fsub o, .fmul o, .fma o], frame (s.allButS o.d.toNat) [wFMTRSV] i) ∧
      (∀ i ∈ [Instr.fmin o, .fmax o], frame (s.allButS o.d.toNat) [wFMTRSV, wRNDNA] i)) ∧
    (∀ o : OpSFcvt, frame (s.allButS o.d.toNat) [wRNDNA] (.fcvt o)) ∧
    (∀ o : OpSFc, ∀ i ∈ [Instr.fceq o, .fclt o, .fcle o], frame (allButG o.e.toNat) [wFMTRSV] i) ∧
    (∀ o : OpSXv, frame (s.allButV false o.d.toNat) [] (.xsa o) ∧ frame (s.allButV true o.d.toNat) [] (.xsb o)) ∧
    (∀ o : OpSXh, frame (other .h o.d.toNat) [] (.xsh o) ∧ frame (other .j o.d.toNat) [] (.xsj o) ∧ frame (other .y o.d.toNat) [] (.xsy o)) ∧
    (∀ (o : OpV3) (u : State) (ob : Option VOpd), s.guardOn o.g false = true → s.vB o.sl o.b (vWidth o.w) = (u, ob) →
      (ob = none → (∃ row, u = s.stallOn row) ∨ ∃ info, u = s.raise (if o.sl then 2 else 1) 0x60 info) ∧
      (ob ≠ none → o.b.toNat < 32 ∨ 48 ≤ o.b.toNat → u = s) ∧
      (ob ≠ none → 32 ≤ o.b.toNat → o.b.toNat < 48 → ∃ f, u = s.modStream (o.b.toNat - 32) f) ∧
      ∀ i ∈ [Instr.vadd o, .vsub o, .vmul o, .vfma o, .vfms o, .vmin o, .vmax o, .vsqd o, .vmulh o, .vdot4 o, .vand o, .vor o, .vxor o,
          .vshl o, .vshr o, .vsra o, .vsel o], ∀ t, exec i s = .next t →
        (ob = none → t = u) ∧ (ob ≠ none → u.Frame (u.allButV o.sl o.d.toNat) [wTAGMIX, wFMTOP] t)) ∧
    (∀ o : OpVC, o.b.toNat < 32 ∨ 48 ≤ o.b.toNat → ∀ i ∈ [Instr.vceq o, .vcne o, .vclt o, .vcle o],
      frame (allButK ((if o.sl then 8 else 0) + o.k.toNat)) [wTAGMIX, wFMTOP, wMSKIGN] i) ∧
    (∀ o : OpVK, ∀ i ∈ [Instr.kand o, .kor o, .kxor o], frame (allButK ((if o.sl then 8 else 0) + o.k.toNat)) [wMSKIGN, wLPIGN] i) ∧
    (∀ o : OpVK1, frame (allButK ((if o.sl then 8 else 0) + o.k.toNat)) [wMSKIGN, wLPIGN] (.knot o)) ∧
    (∀ o : OpVKp, frame (s.allButV o.sl o.d.toNat) [wLPIGN] (.kpop o)) ∧
    (∀ o : OpV2, (∀ i ∈ [Instr.vabs o, .vneg o, .vexp2 o, .vlog2 o, .vrcp o, .vrsq o, .vsigm o, .vtanh o, .vrsum o, .vrmax o, .vrmin o,
        .vamax o, .vscan o, .vmov o], frame (s.allButV o.sl o.d.toNat) [wFMTOP] i) ∧
      frame (s.allButV (!o.sl) o.d.toNat) [] (.vxab o) ∧ frame (s.allButS o.d.toNat) [wMSKIGN] (.vxs o)) ∧
    (∀ o : OpVTg, frame (s.allButV o.sl o.d.toNat) [] (.vtag o)) ∧
    (∀ o : OpVCv, o.r.toNat ≠ 4 → frame (s.allButV o.sl o.d.toNat) [wFMTOP, wRNDNA] (.vcvt o)) ∧
    (∀ o : OpVRn, frame (s.allButV o.sl o.d.toNat) [wFMTOP, wRNDNA, wSTOCH] (.vrnd o)) ∧
    (∀ o : OpVQb, frame (fun f i => s.allButV o.sl o.d.toNat f i ∧ s.allButV o.sl (o.d.toNat + 1) f i) [wFMTOP] (.vqblk o)) ∧
    (∀ o : OpVDq, frame (s.allButV o.sl o.d.toNat) [wFMTOP] (.vdqblk o)) ∧
    (∀ o : OpVB1, o.b.toNat < 32 ∨ 48 ≤ o.b.toNat →
      frame (s.allButV o.sl o.d.toNat) [wLPIGN] (.vspl o) ∧ frame (s.allButV o.sl o.d.toNat) [wLPIGN, wFMTOP] (.viota o)) ∧
    (∀ o : OpXP, collides (xEntries (s.readX o.p.toNat)) = false → ∀ t, exec (.xprm o) s = .next t →
      t = s.stallOn 8 ∨ s.Frame (s.allButV o.f o.d.toNat) [] t) ∧
    (∀ o : OpXL, frame (other .x o.p.toNat) [] (.xpldA o) ∧ frame (other .x o.p.toNat) [] (.xpldB o)) ∧
    (∀ o : OpXZ, frame (s.allButV o.f o.d.toNat) [] (.xzip o) ∧ frame (s.allButV o.f o.d.toNat) [] (.xuzp o)) ∧
    (∀ o : OpXC, frame (s.allButV o.f o.d.toNat) [] (.xcmp o) ∧ frame (s.allButV o.f o.d.toNat) [] (.xexp o)) ∧
    (∀ (o : OpNM) t, exec (.nmap o) s = .next t → t = s.stallOn 8 ∨ s.Frame (other .y o.d.toNat) [] t) ∧
    (∀ (o : OpNMx) t, exec (.nmapx o) s = .next t → t = s.stallOn 8 ∨ s.Frame (other .y o.d.toNat) [] t) ∧
    (∀ o : OpNP, frame (other .w o.p.toNat) [] (.npld o)) ∧ (∀ o : OpNV, frame (other .y o.d.toNat) [] (.nmov o)) ∧
    (∀ o : OpNX, frame (s.allButS o.d.toNat) [] (.nxs o)) ∧ (∀ o : OpNL, frame (other .y o.d.toNat) [] (.nli o)) ∧
    (∀ o : OpCH, frame (other (if o.cb then .j else .h) o.a.toNat) [] (.hadd o)) ∧
    (∀ o : OpCM, frame (other (if o.cb then .j else .h) o.a.toNat) [] (.hmov o)) ∧
    (∀ o : OpCI, frame (other (if o.cb then .j else .h) o.a.toNat) [] (.hli o)) ∧
    (∀ o : OpCX, frame (s.allButS o.d.toNat) [] (.hxs o))

/-- R126, R195, R222, R250, R301, R396: the frames of what stores. A command of an engine changes no byte of memory, of a
scratchpad or of an L1 as it issues, no buffered store, no register and no other core: it only enters its queue. A released
store to a scratchpad writes its bytes at the place that the buffer holds and no other byte of any scratchpad or of memory; a
plain one that hits the L1 changes that line alone. -/
def Obligations.MemoryFrame : Prop :=
  ∀ s : State,
    let quiet (i : Instr) : Prop := ∀ t, exec i s = .next t →
      (∀ a, memGet t.mem a = memGet s.mem a) ∧ (∀ c a, t.spadGet c a = s.spadGet c a) ∧ t.l2 = s.l2 ∧ t.core.l1 = s.core.l1 ∧
      t.core.stores = s.core.stores ∧ (∀ n, n ≠ s.focus → t.coreAt n = s.coreAt n) ∧
      Sync.AgreeOn allRegs s.core.sync t.core.sync ∧ Sync.AgreeControl s.core.sync t.core.sync
    (∀ o : OpMM, quiet (.mma o) ∧ quiet (.mmaz o) ∧ quiet (.mconv o)) ∧ (∀ o : OpMZ, quiet (.mzero o)) ∧ (∀ o : OpML, quiet (.mldz o)) ∧
    (∀ o : OpMS, quiet (.mstz o)) ∧ (∀ o : OpMK, quiet (.mskp o)) ∧ (∀ o : OpMW, quiet (.mwait o)) ∧
    (∀ o : OpT0, quiet (.tacq o) ∧ quiet (.trel o) ∧ quiet (.trst o)) ∧ (∀ o : OpT1, quiet (.tldw o) ∧ quiet (.tcap o)) ∧
    (∀ o : OpTL, o.src = false → quiet (.tlnc o)) ∧ (∀ o : OpCC, quiet (.cpy o)) ∧ (∀ o : OpCS, quiet (.cpys o)) ∧
    (∀ o : OpCT, quiet (.cpyt o) ∧ quiet (.cpyw o) ∧ quiet (.ldblk o)) ∧ (∀ o : OpCE, quiet (.evblk o)) ∧
    (∀ o : OpCG, quiet (.gthr o) ∧ quiet (.sctr o)) ∧ (∀ o : OpCW, quiet (.cwait o)) ∧ (∀ o : OpCSg, quiet (.csig o)) ∧
    (∀ o : OpCL, s.replaying s.focus = false → quiet (.coll o)) ∧
    (∀ n x r, (s.coreAt n).stores = x :: r → x.released = true → x.rel = false → (∀ y ∈ x :: r, y.sent = false) →
      s.pays = .post → s.waiting (engPayer s n storeTag) = false →
      (∀ c o, x.kind = 0 → placeTgt x.kind x.pa x.sel = .spad c o →
        (c = n ∨ s.short (engPayer s n storeTag) [(netKey c, 1)] = []) →
        ∃ t, exec (.storePerform n) s = .next t ∧ (t.coreAt n).stores = r ∧
          (∀ i < x.bytes.length, t.spadGet c (o + i) = x.bytes.getD i 0 % 256) ∧
          (∀ k a, k ≠ c ∨ a < o ∨ o + x.bytes.length ≤ a → t.spadGet k a = s.spadGet k a) ∧
          (∀ a, memGet t.mem a = memGet s.mem a) ∧ t.l2 = s.l2 ∧ (∀ k, (t.coreAt k).l1 = (s.coreAt k).l1)) ∧
      (∀ l, x.plain = true → (s.coreAt n).mode ≠ .stopped → s.replaying n = false → (s.coreAt n).l1Find x.pa x.sel = some l →
        ∃ t l', exec (.storePerform n) s = .next t ∧ (t.coreAt n).stores = r ∧ (t.coreAt n).l1Find x.pa x.sel = some l' ∧
          l'.data = patch l.data (x.pa % 128) x.bytes ∧ l'.pins = l.pins ∧
          (∀ pa sel, ¬ (pa / 128 = x.pa / 128 ∧ sel = x.sel) → (t.coreAt n).l1Find pa sel = (s.coreAt n).l1Find pa sel) ∧
          (∀ a, memGet t.mem a = memGet s.mem a) ∧ t.l2 = s.l2 ∧ (∀ c a, t.spadGet c a = s.spadGet c a)))

end
end

