-- ==== Sys2Proof/Laws/Charges.lean ====
section
/-! SUPPORT. What the regulation of accesses does: once the requests of an agent have gone through, the step makes its
accesses and uses up what was granted; while one stands at a point or waits for its slots, nothing changes. -/

namespace Sys2Proof.Machine

/-- Accesses whose requests have gone through are made, and leave what they leave (R364 to R370). -/
theorem regulated_through {α : Type} (s : State) (o : Payer) (wait : α → Bool) (f : State → State × α)
    (h : s.Through o (f s.collecting).1) (hw : wait (f s.collecting).2 = false) :
    s.regulated o wait f = ((f s.collecting).1.paidUp o, some (f s.collecting).2) := by
  obtain ⟨hp, hn, hs⟩ := h
  unfold State.regulated
  rw [hp, show ({ s with pays := .collect [] } : State) = s.collecting from rfl]
  generalize f s.collecting = r at *
  obtain ⟨u, x⟩ := r
  cases hu : u.pays <;> simp only [State.charges, hu] at hs <;> simp [hn, hs, hw, hu, State.paidUp]

/-- While a request of the agent stands at a point, its accesses are not made (R367). -/
theorem regulated_waiting {α : Type} (s : State) (o : Payer) (wait : α → Bool) (f : State → State × α) (hp : s.pays = .post)
    (h : s.waiting o = true) : s.regulated o wait f = (s, none) := by
  simp [State.regulated, hp, h]

/-- A step of the command processor whose requests have gone through is taken (R364). -/
theorem cpGate_through (s : State) (g : Nat) (f : State → State) (h : s.Through (cpPayer g) (f s.collecting)) :
    s.cpGate g f = (f s.collecting).paidUp (cpPayer g) := by
  unfold State.cpGate
  rw [regulated_through s (cpPayer g) _ (fun t => (f t, ())) h rfl]

@[simp] theorem paidUp_mem (u : State) (o : Payer) : (u.paidUp o).mem = u.mem := by
  unfold State.paidUp State.leaveWalker; split <;> rfl

@[simp] theorem paidUp_l2 (u : State) (o : Payer) : (u.paidUp o).l2 = u.l2 := by
  unfold State.paidUp State.leaveWalker; split <;> rfl

@[simp] theorem paidUp_cores (u : State) (o : Payer) : (u.paidUp o).cores = u.cores := by
  unfold State.paidUp State.leaveWalker; split <;> rfl

@[simp] theorem paidUp_cls (u : State) (o : Payer) : (u.paidUp o).cls = u.cls := by
  unfold State.paidUp State.leaveWalker; split <;> rfl

@[simp] theorem paidUp_pays (u : State) (o : Payer) : (u.paidUp o).pays = .post := rfl

@[simp] theorem paidUp_fab (u : State) (o : Payer) : (u.paidUp o).fab = u.fab := by
  unfold State.paidUp State.leaveWalker; split <;> rfl

@[simp] theorem paidUp_now (u : State) (o : Payer) : (u.paidUp o).now = u.now := by
  unfold State.paidUp State.leaveWalker; split <;> rfl

/-- The elements that have arrived without a failure are taken (R244). -/
theorem take_arrived (q : Stream) (n : Nat) (hn : n ≤ q.buf.length ∨ q.size ≤ q.pos + q.buf.length)
    (he : ∀ e ∈ q.buf.take n, e.err = none) : ∃ l, q.take n = some l ∧ l.find? (fun e => e.err.isSome) = none := by
  unfold Stream.take
  split
  · exact ⟨_, rfl, by rw [List.find?_eq_none]; intro e h; simp [he e h]⟩
  · rename_i hl
    rw [List.take_of_length_le (by omega)] at he
    refine ⟨_, if_pos (by omega), ?_⟩
    rw [List.find?_eq_none]
    intro e h
    obtain h | h := List.mem_append.mp h
    · simp [he e h]
    · simp [(List.mem_replicate.mp h).2]

/-- A stream whose group is there is read (R151 to R153). -/
theorem readStream_ready (s : State) (slot k n : Nat) (q : Stream) (hq : s.pre.streams.get {} k = q) (hin : q.isIn = true)
    (hn : n ≤ q.buf.length ∨ q.size ≤ q.pos + q.buf.length) (he : ∀ e ∈ q.buf.take n, e.err = none) :
    (s.readStream slot k n).2.isSome = true := by
  obtain ⟨l, hl, hf⟩ := take_arrived q n hn he
  unfold State.readStream
  simp only [hq, hin, hl, hf]
  rfl

/-- Operand B of a vector word that is there is read. -/
theorem vB_ready (s : State) (sl : Bool) (b : BitVec 6) (W : Nat) (h : s.BReady b W) : (s.vB sl b W).2.isSome = true := by
  unfold State.vB
  dsimp only
  split
  · rfl
  · split
    · obtain h | h | ⟨hin, hn, he⟩ := h
      · omega
      · omega
      · simp only [Option.isSome_map]
        exact readStream_ready s _ _ _ _ rfl hin hn he
    · rfl

end Sys2Proof.Machine
end

