-- ==== Sys2Proof/Laws/Coding.lean ====
section
/-! SUPPORT. Packing and unpacking of words: every field that a word names fits its place, so packing and unpacking undo
each other. -/

namespace Sys2Proof

/-- The fields of a list all fit their widths. -/
abbrev Fits (fs : List (Nat × Nat)) : Prop := ∀ f ∈ fs, f.1 < 2 ^ f.2

theorem fits_cons {v n : Nat} {t : List (Nat × Nat)} : Fits ((v, n) :: t) ↔ v < 2 ^ n ∧ Fits t := by
  simp [Fits]

theorem fits_nil : Fits [] := by simp [Fits]

/-- A packed word is no longer than its fields together. -/
theorem pack_lt : ∀ {fs : List (Nat × Nat)}, Fits fs → pack fs < 2 ^ (fs.map Prod.snd).sum
  | [], _ => by simp [pack]
  | (v, n) :: t, h => by
    have h1 := fits_cons.1 h
    have h2 := pack_lt h1.2
    have h3 : (v + 1) * 2 ^ (t.map Prod.snd).sum ≤ 2 ^ n * 2 ^ (t.map Prod.snd).sum := Nat.mul_le_mul_right _ h1.1
    simp only [pack, List.map_cons, List.sum_cons, Nat.pow_add]
    rw [Nat.add_mul, Nat.one_mul] at h3
    omega

/-- Unpacking what has been packed gives the fields back: no bit of a word is dropped. -/
theorem unpack_pack_add : ∀ {fs : List (Nat × Nat)} (hi : Nat), Fits fs →
    unpack (fs.map Prod.snd) (hi * 2 ^ (fs.map Prod.snd).sum + pack fs) = fs.map Prod.fst
  | [], _, _ => rfl
  | (v, n) :: t, hi, h => by
    have h1 := fits_cons.1 h
    have h2 := pack_lt h1.2
    have h3 := unpack_pack_add (hi * 2 ^ n + v) h1.2
    have hp : 0 < 2 ^ (t.map Prod.snd).sum := Nat.two_pow_pos _
    have e : hi * 2 ^ (((v, n) :: t).map Prod.snd).sum + pack ((v, n) :: t) =
        (hi * 2 ^ n + v) * 2 ^ (t.map Prod.snd).sum + pack t := by
      simp only [pack, List.map_cons, List.sum_cons, Nat.pow_add]; ring
    rw [e]
    simp only [List.map_cons, unpack]
    rw [h3, Nat.mul_comm, Nat.mul_add_div hp, Nat.div_eq_of_lt h2, Nat.add_zero, Nat.mul_comm hi, Nat.mul_add_mod,
      Nat.mod_eq_of_lt h1.1]

/-- Unpacking what has been packed gives the fields back. -/
theorem unpack_pack {fs : List (Nat × Nat)} (h : Fits fs) : unpack (fs.map Prod.snd) (pack fs) = fs.map Prod.fst := by
  simpa using unpack_pack_add 0 h

/-- Packing what has been unpacked gives the word back: every bit of a word is in one field. -/
theorem pack_unpack : ∀ (ns : List Nat) (w : Nat), w < 2 ^ ns.sum → pack ((unpack ns w).zip ns) = w
  | [], w, h => by simp [pack, unpack] at *; omega
  | n :: t, w, h => by
    have hp : 0 < 2 ^ t.sum := Nat.two_pow_pos _
    have e : ∀ (ns : List Nat) (w : Nat), unpack ns (w % 2 ^ ns.sum) = unpack ns w := by
      intro ns
      induction ns with
      | nil => intro w; rfl
      | cons n t ih =>
        intro w
        simp only [unpack, List.sum_cons]
        rw [← ih (w % 2 ^ (n + t.sum)), ← ih w, Nat.mod_mod_of_dvd _ (Nat.pow_dvd_pow 2 (Nat.le_add_left _ _)),
          Nat.pow_add, Nat.mul_comm, Nat.mod_mul_right_div_self, Nat.mod_mod]
    have l : ∀ (ns : List Nat) (w : Nat), ((unpack ns w).zip ns).map Prod.snd = ns := by
      intro ns
      induction ns with
      | nil => intro w; rfl
      | cons n t ih => intro w; simp [unpack, ih]
    have h2 := pack_unpack t (w % 2 ^ t.sum) (Nat.mod_lt _ hp)
    rw [e] at h2
    have hv : w / 2 ^ t.sum < 2 ^ n := by
      rw [Nat.div_lt_iff_lt_mul hp, ← Nat.pow_add]; simpa using h
    simp only [unpack, List.zip_cons_cons, pack, l, h2, Nat.mod_eq_of_lt hv]
    exact Nat.div_add_mod' w _

theorem lt_two_pow_of_le {v n m : Nat} (h : v < 2 ^ n) (hm : n ≤ m) : v < 2 ^ m :=
  Nat.lt_of_lt_of_le h (Nat.pow_le_pow_right (by decide) hm)

theorem bool_toNat_fits (b : Bool) : b.toNat < 2 := by cases b <;> decide

/-! ### The fields of each layout fit -/

theorem fits_SN (op : Nat) (o : OpSN) (hop : op < 2 ^ 8) : Fits (fieldsSN op o) := by
  simp only [fieldsSN, fits_cons]
  refine ⟨?_, ?_, ?_, ?_, ?_⟩
  all_goals first | exact fits_nil | exact BitVec.isLt _ | assumption | exact bool_toNat_fits _ | decide

theorem fits_SR (op : Nat) (o : OpSR) (hop : op < 2 ^ 8) : Fits (fieldsSR op o) := by
  simp only [fieldsSR, fits_cons]
  refine ⟨?_, ?_, ?_, ?_, ?_, ?_, ?_, ?_⟩
  all_goals first | exact fits_nil | exact BitVec.isLt _ | assumption | exact bool_toNat_fits _ | decide

theorem fits_SR2 (op : Nat) (k : Nat) (o : OpSR2) (hop : op < 2 ^ 8) (hk : k < 2 ^ 9) : Fits (fieldsSR2 op k o) := by
  simp only [fieldsSR2, fits_cons]
  refine ⟨?_, ?_, ?_, ?_, ?_, ?_, ?_⟩
  all_goals first | exact fits_nil | exact BitVec.isLt _ | assumption | exact bool_toNat_fits _ | decide

theorem fits_SSel (op : Nat) (o : OpSSel) (hop : op < 2 ^ 8) : Fits (fieldsSSel op o) := by
  simp only [fieldsSSel, fits_cons]
  refine ⟨?_, ?_, ?_, ?_, ?_, ?_, ?_, ?_⟩
  all_goals first | exact fits_nil | exact BitVec.isLt _ | assumption | exact bool_toNat_fits _ | decide

theorem fits_SLea (op : Nat) (o : OpSLea) (hop : op < 2 ^ 8) : Fits (fieldsSLea op o) := by
  simp only [fieldsSLea, fits_cons]
  refine ⟨?_, ?_, ?_, ?_, ?_, ?_, ?_, ?_, ?_⟩
  all_goals first | exact fits_nil | exact BitVec.isLt _ | assumption | exact bool_toNat_fits _ | decide

theorem fits_SI (op : Nat) (o : OpSI) (hop : op < 2 ^ 8) : Fits (fieldsSI op o) := by
  simp only [fieldsSI, fits_cons]
  refine ⟨?_, ?_, ?_, ?_, ?_, ?_, ?_⟩
  all_goals first | exact fits_nil | exact BitVec.isLt _ | assumption | exact bool_toNat_fits _ | decide

theorem fits_SSh (op : Nat) (o : OpSSh) (hop : op < 2 ^ 8) : Fits (fieldsSSh op o) := by
  simp only [fieldsSSh, fits_cons]
  refine ⟨?_, ?_, ?_, ?_, ?_, ?_, ?_, ?_⟩
  all_goals first | exact fits_nil | exact BitVec.isLt _ | assumption | exact bool_toNat_fits _ | decide

theorem fits_SC (op : Nat) (o : OpSC) (hop : op < 2 ^ 8) : Fits (fieldsSC op o) := by
  simp only [fieldsSC, fits_cons]
  refine ⟨?_, ?_, ?_, ?_, ?_, ?_, ?_, ?_, ?_⟩
  all_goals first | exact fits_nil | exact BitVec.isLt _ | assumption | exact bool_toNat_fits _ | decide

theorem fits_SCI (op : Nat) (o : OpSCI) (hop : op < 2 ^ 8) : Fits (fieldsSCI op o) := by
  simp only [fieldsSCI, fits_cons]
  refine ⟨?_, ?_, ?_, ?_, ?_, ?_, ?_, ?_⟩
  all_goals first | exact fits_nil | exact BitVec.isLt _ | assumption | exact bool_toNat_fits _ | decide

theorem fits_SGl (op : Nat) (o : OpSGl) (hop : op < 2 ^ 8) : Fits (fieldsSGl op o) := by
  simp only [fieldsSGl, fits_cons]
  refine ⟨?_, ?_, ?_, ?_, ?_, ?_, ?_, ?_, ?_, ?_, ?_⟩
  all_goals first | exact fits_nil | exact BitVec.isLt _ | assumption | exact bool_toNat_fits _ | decide

theorem fits_SGs (op : Nat) (o : OpSGs) (hop : op < 2 ^ 8) : Fits (fieldsSGs op o) := by
  simp only [fieldsSGs, fits_cons]
  refine ⟨?_, ?_, ?_, ?_, ?_, ?_, ?_⟩
  all_goals first | exact fits_nil | exact BitVec.isLt _ | assumption | exact bool_toNat_fits _ | decide

theorem fits_SL (op : Nat) (o : OpSL) (hop : op < 2 ^ 8) : Fits (fieldsSL op o) := by
  simp only [fieldsSL, fits_cons]
  refine ⟨?_, ?_, ?_, ?_, ?_, ?_, ?_, ?_⟩
  all_goals first | exact fits_nil | exact BitVec.isLt _ | assumption | exact bool_toNat_fits _ | decide

theorem fits_SF (op : Nat) (o : OpSF) (hop : op < 2 ^ 8) : Fits (fieldsSF op o) := by
  simp only [fieldsSF, fits_cons]
  refine ⟨?_, ?_, ?_, ?_, ?_, ?_, ?_, ?_, ?_⟩
  all_goals first | exact fits_nil | exact BitVec.isLt _ | assumption | exact bool_toNat_fits _ | decide

theorem fits_SFcvt (op : Nat) (o : OpSFcvt) (hop : op < 2 ^ 8) : Fits (fieldsSFcvt op o) := by
  simp only [fieldsSFcvt, fits_cons]
  refine ⟨?_, ?_, ?_, ?_, ?_, ?_, ?_, ?_, ?_, ?_, ?_⟩
  all_goals first | exact fits_nil | exact BitVec.isLt _ | assumption | exact bool_toNat_fits _ | decide

theorem fits_SFc (op : Nat) (o : OpSFc) (hop : op < 2 ^ 8) : Fits (fieldsSFc op o) := by
  simp only [fieldsSFc, fits_cons]
  refine ⟨?_, ?_, ?_, ?_, ?_, ?_, ?_, ?_, ?_, ?_⟩
  all_goals first | exact fits_nil | exact BitVec.isLt _ | assumption | exact bool_toNat_fits _ | decide

theorem fits_SX (op : Nat) (o : OpSX) (hop : op < 2 ^ 8) : Fits (fieldsSX op o) := by
  simp only [fieldsSX, fits_cons]
  refine ⟨?_, ?_, ?_, ?_, ?_, ?_, ?_, ?_, ?_, ?_, ?_, ?_, ?_, ?_⟩
  all_goals first | exact fits_nil | exact BitVec.isLt _ | assumption | exact bool_toNat_fits _ | decide

theorem fits_SFence (op : Nat) (o : OpSFence) (hop : op < 2 ^ 8) : Fits (fieldsSFence op o) := by
  simp only [fieldsSFence, fits_cons]
  refine ⟨?_, ?_, ?_, ?_, ?_, ?_, ?_, ?_, ?_⟩
  all_goals first | exact fits_nil | exact BitVec.isLt _ | assumption | exact bool_toNat_fits _ | decide

theorem fits_SPf (op : Nat) (o : OpSPf) (hop : op < 2 ^ 8) : Fits (fieldsSPf op o) := by
  simp only [fieldsSPf, fits_cons]
  refine ⟨?_, ?_, ?_, ?_, ?_, ?_, ?_, ?_, ?_, ?_, ?_⟩
  all_goals first | exact fits_nil | exact BitVec.isLt _ | assumption | exact bool_toNat_fits _ | decide

theorem fits_SB (op : Nat) (o : OpSB) (hop : op < 2 ^ 8) : Fits (fieldsSB op o) := by
  simp only [fieldsSB, fits_cons]
  refine ⟨?_, ?_, ?_, ?_, ?_⟩
  all_goals first | exact fits_nil | exact BitVec.isLt _ | assumption | exact bool_toNat_fits _ | decide

theorem fits_SJr (op : Nat) (o : OpSJr) (hop : op < 2 ^ 8) : Fits (fieldsSJr op o) := by
  simp only [fieldsSJr, fits_cons]
  refine ⟨?_, ?_, ?_, ?_, ?_, ?_, ?_⟩
  all_goals first | exact fits_nil | exact BitVec.isLt _ | assumption | exact bool_toNat_fits _ | decide

theorem fits_SLoop (op : Nat) (o : OpSLoop) (hop : op < 2 ^ 8) : Fits (fieldsSLoop op o) := by
  simp only [fieldsSLoop, fits_cons]
  refine ⟨?_, ?_, ?_, ?_, ?_, ?_, ?_⟩
  all_goals first | exact fits_nil | exact BitVec.isLt _ | assumption | exact bool_toNat_fits _ | decide

theorem fits_STrap (op : Nat) (o : OpSTrap) (hop : op < 2 ^ 8) : Fits (fieldsSTrap op o) := by
  simp only [fieldsSTrap, fits_cons]
  refine ⟨?_, ?_, ?_, ?_, ?_, ?_, ?_, ?_⟩
  all_goals first | exact fits_nil | exact BitVec.isLt _ | assumption | exact bool_toNat_fits _ | decide

theorem fits_SYc (op : Nat) (o : OpSYc) (hop : op < 2 ^ 8) : Fits (fieldsSYc op o) := by
  simp only [fieldsSYc, fits_cons]
  refine ⟨?_, ?_, ?_, ?_, ?_, ?_⟩
  all_goals first | exact fits_nil | exact BitVec.isLt _ | assumption | exact bool_toNat_fits _ | decide

theorem fits_SEv (op : Nat) (o : OpSEv) (hop : op < 2 ^ 8) : Fits (fieldsSEv op o) := by
  simp only [fieldsSEv, fits_cons]
  refine ⟨?_, ?_, ?_, ?_, ?_, ?_, ?_, ?_⟩
  all_goals first | exact fits_nil | exact BitVec.isLt _ | assumption | exact bool_toNat_fits _ | decide

theorem fits_SMovc (op : Nat) (o : OpSMovc) (hop : op < 2 ^ 8) : Fits (fieldsSMovc op o) := by
  simp only [fieldsSMovc, fits_cons]
  refine ⟨?_, ?_, ?_, ?_, ?_, ?_, ?_⟩
  all_goals first | exact fits_nil | exact BitVec.isLt _ | assumption | exact bool_toNat_fits _ | decide

theorem fits_SXv (op : Nat) (o : OpSXv) (hop : op < 2 ^ 8) : Fits (fieldsSXv op o) := by
  simp only [fieldsSXv, fits_cons]
  refine ⟨?_, ?_, ?_, ?_, ?_, ?_, ?_, ?_, ?_⟩
  all_goals first | exact fits_nil | exact BitVec.isLt _ | assumption | exact bool_toNat_fits _ | decide

theorem fits_SXh (op : Nat) (o : OpSXh) (hop : op < 2 ^ 8) : Fits (fieldsSXh op o) := by
  simp only [fieldsSXh, fits_cons]
  refine ⟨?_, ?_, ?_, ?_, ?_, ?_, ?_, ?_⟩
  all_goals first | exact fits_nil | exact BitVec.isLt _ | assumption | exact bool_toNat_fits _ | decide

theorem fits_SBar (op : Nat) (o : OpSBar) (hop : op < 2 ^ 8) : Fits (fieldsSBar op o) := by
  simp only [fieldsSBar, fits_cons]
  refine ⟨?_, ?_, ?_, ?_, ?_, ?_, ?_, ?_⟩
  all_goals first | exact fits_nil | exact BitVec.isLt _ | assumption | exact bool_toNat_fits _ | decide

theorem fits_SGarm (op : Nat) (o : OpSGarm) (hop : op < 2 ^ 8) : Fits (fieldsSGarm op o) := by
  simp only [fieldsSGarm, fits_cons]
  refine ⟨?_, ?_, ?_, ?_, ?_, ?_, ?_, ?_⟩
  all_goals first | exact fits_nil | exact BitVec.isLt _ | assumption | exact bool_toNat_fits _ | decide

theorem fits_SHirq (op : Nat) (o : OpSHirq) (hop : op < 2 ^ 8) : Fits (fieldsSHirq op o) := by
  simp only [fieldsSHirq, fits_cons]
  refine ⟨?_, ?_, ?_, ?_, ?_, ?_⟩
  all_goals first | exact fits_nil | exact BitVec.isLt _ | assumption | exact bool_toNat_fits _ | decide

theorem fits_SD (op : Nat) (o : OpSD) (hop : op < 2 ^ 8) : Fits (fieldsSD op o) := by
  simp only [fieldsSD, fits_cons]
  refine ⟨?_, ?_, ?_, ?_, ?_, ?_⟩
  all_goals first | exact fits_nil | exact BitVec.isLt _ | assumption | exact bool_toNat_fits _ | decide

theorem fits_SBk (op : Nat) (o : OpSBk) (hop : op < 2 ^ 8) : Fits (fieldsSBk op o) := by
  simp only [fieldsSBk, fits_cons]
  refine ⟨?_, ?_, ?_, ?_, ?_, ?_⟩
  all_goals first | exact fits_nil | exact BitVec.isLt _ | assumption | exact bool_toNat_fits _ | decide

theorem fits_SSvc (op : Nat) (o : OpSSvc) (hop : op < 2 ^ 8) : Fits (fieldsSSvc op o) := by
  simp only [fieldsSSvc, fits_cons]
  refine ⟨?_, ?_, ?_, ?_, ?_, ?_, ?_⟩
  all_goals first | exact fits_nil | exact BitVec.isLt _ | assumption | exact bool_toNat_fits _ | decide

theorem fits_V0 (op : Nat) (o : OpV0) (hop : op < 2 ^ 7) : Fits (fieldsV0 op o) := by
  simp only [fieldsV0, fits_cons]
  refine ⟨?_, ?_, ?_, ?_, ?_, ?_, ?_⟩
  all_goals first | exact fits_nil | exact BitVec.isLt _ | assumption | exact bool_toNat_fits _ | decide

theorem fits_V3 (op : Nat) (o : OpV3) (hop : op < 2 ^ 7) : Fits (fieldsV3 op o) := by
  simp only [fieldsV3, fits_cons]
  refine ⟨?_, ?_, ?_, ?_, ?_, ?_, ?_, ?_, ?_⟩
  all_goals first | exact fits_nil | exact BitVec.isLt _ | assumption | exact bool_toNat_fits _ | decide

theorem fits_V2 (op : Nat) (o : OpV2) (hop : op < 2 ^ 7) : Fits (fieldsV2 op o) := by
  simp only [fieldsV2, fits_cons]
  refine ⟨?_, ?_, ?_, ?_, ?_, ?_, ?_, ?_, ?_⟩
  all_goals first | exact fits_nil | exact BitVec.isLt _ | assumption | exact bool_toNat_fits _ | decide

theorem fits_VC (op : Nat) (o : OpVC) (hop : op < 2 ^ 7) : Fits (fieldsVC op o) := by
  simp only [fieldsVC, fits_cons]
  refine ⟨?_, ?_, ?_, ?_, ?_, ?_, ?_, ?_, ?_, ?_⟩
  all_goals first | exact fits_nil | exact BitVec.isLt _ | assumption | exact bool_toNat_fits _ | decide

theorem fits_VK (op : Nat) (o : OpVK) (hop : op < 2 ^ 7) : Fits (fieldsVK op o) := by
  simp only [fieldsVK, fits_cons]
  refine ⟨?_, ?_, ?_, ?_, ?_, ?_, ?_, ?_, ?_, ?_, ?_, ?_⟩
  all_goals first | exact fits_nil | exact BitVec.isLt _ | assumption | exact bool_toNat_fits _ | decide

theorem fits_VK1 (op : Nat) (o : OpVK1) (hop : op < 2 ^ 7) : Fits (fieldsVK1 op o) := by
  simp only [fieldsVK1, fits_cons]
  refine ⟨?_, ?_, ?_, ?_, ?_, ?_, ?_, ?_, ?_, ?_, ?_⟩
  all_goals first | exact fits_nil | exact BitVec.isLt _ | assumption | exact bool_toNat_fits _ | decide

theorem fits_VKp (op : Nat) (o : OpVKp) (hop : op < 2 ^ 7) : Fits (fieldsVKp op o) := by
  simp only [fieldsVKp, fits_cons]
  refine ⟨?_, ?_, ?_, ?_, ?_, ?_, ?_, ?_, ?_, ?_⟩
  all_goals first | exact fits_nil | exact BitVec.isLt _ | assumption | exact bool_toNat_fits _ | decide

theorem fits_VCv (op : Nat) (o : OpVCv) (hop : op < 2 ^ 7) : Fits (fieldsVCv op o) := by
  simp only [fieldsVCv, fits_cons]
  refine ⟨?_, ?_, ?_, ?_, ?_, ?_, ?_, ?_, ?_, ?_, ?_⟩
  all_goals first | exact fits_nil | exact BitVec.isLt _ | assumption | exact bool_toNat_fits _ | decide | (have h := o.r.isLt; omega)

theorem fits_VQb (op : Nat) (o : OpVQb) (hop : op < 2 ^ 7) : Fits (fieldsVQb op o) := by
  simp only [fieldsVQb, fits_cons]
  refine ⟨?_, ?_, ?_, ?_, ?_, ?_, ?_, ?_, ?_, ?_⟩
  all_goals first | exact fits_nil | exact BitVec.isLt _ | assumption | exact bool_toNat_fits _ | decide

theorem fits_VDq (op : Nat) (o : OpVDq) (hop : op < 2 ^ 7) : Fits (fieldsVDq op o) := by
  simp only [fieldsVDq, fits_cons]
  refine ⟨?_, ?_, ?_, ?_, ?_, ?_, ?_, ?_, ?_, ?_, ?_⟩
  all_goals first | exact fits_nil | exact BitVec.isLt _ | assumption | exact bool_toNat_fits _ | decide

theorem fits_VRn (op : Nat) (o : OpVRn) (hop : op < 2 ^ 7) : Fits (fieldsVRn op o) := by
  simp only [fieldsVRn, fits_cons]
  refine ⟨?_, ?_, ?_, ?_, ?_, ?_, ?_, ?_, ?_, ?_⟩
  all_goals first | exact fits_nil | exact BitVec.isLt _ | assumption | exact bool_toNat_fits _ | decide | (have h := o.r.isLt; omega)

theorem fits_VSq (op : Nat) (o : OpVSq) (hop : op < 2 ^ 7) : Fits (fieldsVSq op o) := by
  simp only [fieldsVSq, fits_cons]
  refine ⟨?_, ?_, ?_, ?_, ?_, ?_, ?_, ?_, ?_, ?_⟩
  all_goals first | exact fits_nil | exact BitVec.isLt _ | assumption | exact bool_toNat_fits _ | decide

theorem fits_VB1 (op : Nat) (o : OpVB1) (hop : op < 2 ^ 7) : Fits (fieldsVB1 op o) := by
  simp only [fieldsVB1, fits_cons]
  refine ⟨?_, ?_, ?_, ?_, ?_, ?_, ?_, ?_, ?_⟩
  all_goals first | exact fits_nil | exact BitVec.isLt _ | assumption | exact bool_toNat_fits _ | decide

theorem fits_VTg (op : Nat) (o : OpVTg) (hop : op < 2 ^ 7) : Fits (fieldsVTg op o) := by
  simp only [fieldsVTg, fits_cons]
  refine ⟨?_, ?_, ?_, ?_, ?_, ?_, ?_, ?_, ?_, ?_⟩
  all_goals first | exact fits_nil | exact BitVec.isLt _ | assumption | exact bool_toNat_fits _ | decide

theorem fits_XP (op : Nat) (o : OpXP) (hop : op < 2 ^ 8) : Fits (fieldsXP op o) := by
  simp only [fieldsXP, fits_cons]
  refine ⟨?_, ?_, ?_, ?_, ?_, ?_, ?_, ?_, ?_⟩
  all_goals first | exact fits_nil | exact BitVec.isLt _ | assumption | exact bool_toNat_fits _ | decide

theorem fits_XL (op : Nat) (df : Bool) (o : OpXL) (hop : op < 2 ^ 8) : Fits (fieldsXL op df o) := by
  cases df <;> simp only [fieldsXL, fits_cons, if_true, if_false, Bool.false_eq_true]
  all_goals
    refine ⟨?_, ?_, ?_, ?_, ?_, ?_, ?_, ?_⟩
  all_goals first | exact fits_nil | exact BitVec.isLt _ | assumption | exact bool_toNat_fits _ | decide

theorem fits_XZ (op : Nat) (o : OpXZ) (hop : op < 2 ^ 8) : Fits (fieldsXZ op o) := by
  simp only [fieldsXZ, fits_cons]
  refine ⟨?_, ?_, ?_, ?_, ?_, ?_, ?_, ?_, ?_, ?_⟩
  all_goals first | exact fits_nil | exact BitVec.isLt _ | assumption | exact bool_toNat_fits _ | decide

theorem fits_XC (op : Nat) (o : OpXC) (hop : op < 2 ^ 8) : Fits (fieldsXC op o) := by
  simp only [fieldsXC, fits_cons]
  refine ⟨?_, ?_, ?_, ?_, ?_, ?_, ?_, ?_, ?_, ?_⟩
  all_goals first | exact fits_nil | exact BitVec.isLt _ | assumption | exact bool_toNat_fits _ | decide

theorem fits_NM (op : Nat) (o : OpNM) (hop : op < 2 ^ 8) : Fits (fieldsNM op o) := by
  simp only [fieldsNM, fits_cons]
  refine ⟨?_, ?_, ?_, ?_, ?_, ?_, ?_, ?_, ?_⟩
  all_goals first | exact fits_nil | exact BitVec.isLt _ | assumption | exact bool_toNat_fits _ | decide

theorem fits_NMx (op : Nat) (o : OpNMx) (hop : op < 2 ^ 8) : Fits (fieldsNMx op o) := by
  simp only [fieldsNMx, fits_cons]
  refine ⟨?_, ?_, ?_, ?_, ?_, ?_, ?_, ?_, ?_, ?_⟩
  all_goals first | exact fits_nil | exact BitVec.isLt _ | assumption | exact bool_toNat_fits _ | decide

theorem fits_NP (op : Nat) (o : OpNP) (hop : op < 2 ^ 8) : Fits (fieldsNP op o) := by
  simp only [fieldsNP, fits_cons]
  refine ⟨?_, ?_, ?_, ?_, ?_, ?_, ?_, ?_⟩
  all_goals first | exact fits_nil | exact BitVec.isLt _ | assumption | exact bool_toNat_fits _ | decide

theorem fits_NV (op : Nat) (o : OpNV) (hop : op < 2 ^ 8) : Fits (fieldsNV op o) := by
  simp only [fieldsNV, fits_cons]
  refine ⟨?_, ?_, ?_, ?_, ?_, ?_, ?_, ?_, ?_⟩
  all_goals first | exact fits_nil | exact BitVec.isLt _ | assumption | exact bool_toNat_fits _ | decide

theorem fits_NX (op : Nat) (o : OpNX) (hop : op < 2 ^ 8) : Fits (fieldsNX op o) := by
  simp only [fieldsNX, fits_cons]
  refine ⟨?_, ?_, ?_, ?_, ?_, ?_, ?_, ?_⟩
  all_goals first | exact fits_nil | exact BitVec.isLt _ | assumption | exact bool_toNat_fits _ | decide

theorem fits_NL (op : Nat) (o : OpNL) (hop : op < 2 ^ 8) : Fits (fieldsNL op o) := by
  simp only [fieldsNL, fits_cons]
  refine ⟨?_, ?_, ?_, ?_, ?_, ?_, ?_, ?_, ?_⟩
  all_goals first | exact fits_nil | exact BitVec.isLt _ | assumption | exact bool_toNat_fits _ | decide

theorem fits_MM (op : Nat) (o : OpMM) (hop : op < 2 ^ 8) : Fits (fieldsMM op o) := by
  simp only [fieldsMM, fits_cons]
  refine ⟨?_, ?_, ?_, ?_, ?_, ?_, ?_, ?_, ?_, ?_, ?_, ?_⟩
  all_goals first | exact fits_nil | exact BitVec.isLt _ | assumption | exact bool_toNat_fits _ | decide

theorem fits_MZ (op : Nat) (o : OpMZ) (hop : op < 2 ^ 8) : Fits (fieldsMZ op o) := by
  simp only [fieldsMZ, fits_cons]
  refine ⟨?_, ?_, ?_, ?_, ?_, ?_, ?_, ?_⟩
  all_goals first | exact fits_nil | exact BitVec.isLt _ | assumption | exact bool_toNat_fits _ | decide

theorem fits_ML (op : Nat) (o : OpML) (hop : op < 2 ^ 8) : Fits (fieldsML op o) := by
  simp only [fieldsML, fits_cons]
  refine ⟨?_, ?_, ?_, ?_, ?_, ?_, ?_, ?_⟩
  all_goals first | exact fits_nil | exact BitVec.isLt _ | assumption | exact bool_toNat_fits _ | decide

theorem fits_MS (op : Nat) (o : OpMS) (hop : op < 2 ^ 8) : Fits (fieldsMS op o) := by
  simp only [fieldsMS, fits_cons]
  refine ⟨?_, ?_, ?_, ?_, ?_, ?_, ?_, ?_, ?_, ?_⟩
  all_goals first | exact fits_nil | exact BitVec.isLt _ | assumption | exact bool_toNat_fits _ | decide

theorem fits_MT (op : Nat) (o : OpMT) (hop : op < 2 ^ 8) : Fits (fieldsMT op o) := by
  simp only [fieldsMT, fits_cons]
  refine ⟨?_, ?_, ?_, ?_, ?_, ?_, ?_, ?_, ?_, ?_⟩
  all_goals first | exact fits_nil | exact BitVec.isLt _ | assumption | exact bool_toNat_fits _ | decide | (have h := o.tag.isLt; omega)

theorem fits_MK (op : Nat) (o : OpMK) (hop : op < 2 ^ 8) : Fits (fieldsMK op o) := by
  simp only [fieldsMK, fits_cons]
  refine ⟨?_, ?_, ?_, ?_, ?_, ?_, ?_, ?_, ?_⟩
  all_goals first | exact fits_nil | exact BitVec.isLt _ | assumption | exact bool_toNat_fits _ | decide

theorem fits_MW (op : Nat) (o : OpMW) (hop : op < 2 ^ 8) : Fits (fieldsMW op o) := by
  simp only [fieldsMW, fits_cons]
  refine ⟨?_, ?_, ?_, ?_, ?_, ?_, ?_⟩
  all_goals first | exact fits_nil | exact BitVec.isLt _ | assumption | exact bool_toNat_fits _ | decide

theorem fits_T0 (op : Nat) (o : OpT0) (hop : op < 2 ^ 8) : Fits (fieldsT0 op o) := by
  simp only [fieldsT0, fits_cons]
  refine ⟨?_, ?_, ?_, ?_, ?_, ?_, ?_⟩
  all_goals first | exact fits_nil | exact BitVec.isLt _ | assumption | exact bool_toNat_fits _ | decide

theorem fits_T1 (op : Nat) (o : OpT1) (hop : op < 2 ^ 8) : Fits (fieldsT1 op o) := by
  simp only [fieldsT1, fits_cons]
  refine ⟨?_, ?_, ?_, ?_, ?_, ?_, ?_, ?_, ?_⟩
  all_goals first | exact fits_nil | exact BitVec.isLt _ | assumption | exact bool_toNat_fits _ | decide

theorem fits_TL (op : Nat) (o : OpTL) (hop : op < 2 ^ 8) : Fits (fieldsTL op o) := by
  simp only [fieldsTL, fits_cons]
  refine ⟨?_, ?_, ?_, ?_, ?_, ?_, ?_, ?_, ?_, ?_, ?_, ?_⟩
  all_goals first | exact fits_nil | exact BitVec.isLt _ | assumption | exact bool_toNat_fits _ | decide

theorem fits_CC (op : Nat) (o : OpCC) (hop : op < 2 ^ 8) : Fits (fieldsCC op o) := by
  simp only [fieldsCC, fits_cons]
  refine ⟨?_, ?_, ?_, ?_, ?_, ?_, ?_, ?_, ?_, ?_, ?_⟩
  all_goals first | exact fits_nil | exact BitVec.isLt _ | assumption | exact bool_toNat_fits _ | decide

theorem fits_CS (op : Nat) (o : OpCS) (hop : op < 2 ^ 8) : Fits (fieldsCS op o) := by
  simp only [fieldsCS, fits_cons]
  refine ⟨?_, ?_, ?_, ?_, ?_, ?_, ?_, ?_, ?_, ?_, ?_⟩
  all_goals first | exact fits_nil | exact BitVec.isLt _ | assumption | exact bool_toNat_fits _ | decide

theorem fits_CT (op : Nat) (o : OpCT) (hop : op < 2 ^ 8) : Fits (fieldsCT op o) := by
  simp only [fieldsCT, fits_cons]
  refine ⟨?_, ?_, ?_, ?_, ?_, ?_, ?_, ?_, ?_, ?_, ?_⟩
  all_goals first | exact fits_nil | exact BitVec.isLt _ | assumption | exact bool_toNat_fits _ | decide

theorem fits_CE (op : Nat) (o : OpCE) (hop : op < 2 ^ 8) : Fits (fieldsCE op o) := by
  simp only [fieldsCE, fits_cons]
  refine ⟨?_, ?_, ?_, ?_, ?_, ?_, ?_⟩
  all_goals first | exact fits_nil | exact BitVec.isLt _ | assumption | exact bool_toNat_fits _ | decide

theorem fits_CBd (op : Nat) (o : OpCBd) (hop : op < 2 ^ 8) : Fits (fieldsCBd op o) := by
  simp only [fieldsCBd, fits_cons]
  refine ⟨?_, ?_, ?_, ?_, ?_, ?_, ?_, ?_, ?_⟩
  all_goals first | exact fits_nil | exact BitVec.isLt _ | assumption | exact bool_toNat_fits _ | decide

theorem fits_CU (op : Nat) (o : OpCU) (hop : op < 2 ^ 8) : Fits (fieldsCU op o) := by
  simp only [fieldsCU, fits_cons]
  refine ⟨?_, ?_, ?_, ?_, ?_, ?_, ?_, ?_⟩
  all_goals first | exact fits_nil | exact BitVec.isLt _ | assumption | exact bool_toNat_fits _ | decide

theorem fits_CG (op : Nat) (o : OpCG) (hop : op < 2 ^ 8) : Fits (fieldsCG op o) := by
  simp only [fieldsCG, fits_cons]
  refine ⟨?_, ?_, ?_, ?_, ?_, ?_, ?_, ?_, ?_, ?_, ?_, ?_⟩
  all_goals first | exact fits_nil | exact BitVec.isLt _ | assumption | exact bool_toNat_fits _ | decide

theorem fits_CW (op : Nat) (o : OpCW) (hop : op < 2 ^ 8) : Fits (fieldsCW op o) := by
  simp only [fieldsCW, fits_cons]
  refine ⟨?_, ?_, ?_, ?_, ?_, ?_⟩
  all_goals first | exact fits_nil | exact BitVec.isLt _ | assumption | exact bool_toNat_fits _ | decide

theorem fits_CF (op : Nat) (o : OpCF) (hop : op < 2 ^ 8) : Fits (fieldsCF op o) := by
  simp only [fieldsCF, fits_cons]
  refine ⟨?_, ?_, ?_, ?_, ?_, ?_, ?_, ?_, ?_⟩
  all_goals first | exact fits_nil | exact BitVec.isLt _ | assumption | exact bool_toNat_fits _ | decide

theorem fits_CSg (op : Nat) (o : OpCSg) (hop : op < 2 ^ 8) : Fits (fieldsCSg op o) := by
  simp only [fieldsCSg, fits_cons]
  refine ⟨?_, ?_, ?_, ?_, ?_, ?_, ?_, ?_, ?_, ?_, ?_, ?_⟩
  all_goals first | exact fits_nil | exact BitVec.isLt _ | assumption | exact bool_toNat_fits _ | decide

theorem fits_CL (op : Nat) (o : OpCL) (hop : op < 2 ^ 8) : Fits (fieldsCL op o) := by
  simp only [fieldsCL, fits_cons]
  refine ⟨?_, ?_, ?_, ?_, ?_, ?_, ?_, ?_, ?_, ?_, ?_, ?_⟩
  all_goals first | exact fits_nil | exact BitVec.isLt _ | assumption | exact bool_toNat_fits _ | decide

theorem fits_CH (op : Nat) (o : OpCH) (hop : op < 2 ^ 8) : Fits (fieldsCH op o) := by
  simp only [fieldsCH, fits_cons]
  refine ⟨?_, ?_, ?_, ?_, ?_, ?_, ?_, ?_, ?_⟩
  all_goals first | exact fits_nil | exact BitVec.isLt _ | assumption | exact bool_toNat_fits _ | decide

theorem fits_CM (op : Nat) (o : OpCM) (hop : op < 2 ^ 8) : Fits (fieldsCM op o) := by
  simp only [fieldsCM, fits_cons]
  refine ⟨?_, ?_, ?_, ?_, ?_, ?_, ?_, ?_⟩
  all_goals first | exact fits_nil | exact BitVec.isLt _ | assumption | exact bool_toNat_fits _ | decide

theorem fits_CI (op : Nat) (o : OpCI) (hop : op < 2 ^ 8) : Fits (fieldsCI op o) := by
  simp only [fieldsCI, fits_cons]
  refine ⟨?_, ?_, ?_, ?_, ?_, ?_, ?_, ?_⟩
  all_goals first | exact fits_nil | exact BitVec.isLt _ | assumption | exact bool_toNat_fits _ | decide

theorem fits_CX (op : Nat) (o : OpCX) (hop : op < 2 ^ 8) : Fits (fieldsCX op o) := by
  simp only [fieldsCX, fits_cons]
  refine ⟨?_, ?_, ?_, ?_, ?_, ?_, ?_, ?_⟩
  all_goals first | exact fits_nil | exact BitVec.isLt _ | assumption | exact bool_toNat_fits _ | decide

end Sys2Proof
end

