-- ==== Sys2Proof/Laws/Tables.lean ====
section
/-! SUPPORT. Reads after writes of the finite tables that hold every register file. -/

namespace Sys2Proof

variable {α : Type}

@[simp] theorem Tab.get_set_self (d : α) : ∀ (t : Tab α) (k : Nat) (v : α), (t.set k v).get d k = v
  | [], k, v => by simp [Tab.set, Tab.get]
  | (j, w) :: t, k, v => by
    simp only [Tab.set]
    split
    · simp [Tab.get]
    · split
      · simp [Tab.get]
      · simp [Tab.get, *, Tab.get_set_self d t k v]

theorem Tab.get_set_ne (d : α) : ∀ (t : Tab α) (k : Nat) (v : α) (j : Nat), j ≠ k → (t.set k v).get d j = t.get d j
  | [], k, v, j, h => by simp [Tab.set, Tab.get, Ne.symm h]
  | (i, w) :: t, k, v, j, h => by
    simp only [Tab.set]
    split
    · simp [Tab.get, Ne.symm h]
    · split
      · rename_i h2; simp [Tab.get, h2, Ne.symm h]
      · simp only [Tab.get, Tab.get_set_ne d t k v j h]

/-- A read after a write. -/
theorem Tab.get_set (d : α) (t : Tab α) (k : Nat) (v : α) (j : Nat) :
    (t.set k v).get d j = if j = k then v else t.get d j := by
  split
  · next h => rw [h, Tab.get_set_self]
  · next h => exact Tab.get_set_ne d t k v j h

@[simp] theorem Tab.get_del_self (d : α) : ∀ (t : Tab α) (k : Nat), (t.del k).get d k = d
  | [], k => rfl
  | (j, w) :: t, k => by
    have ih := Tab.get_del_self d t k
    simp only [Tab.del, List.filter_cons] at *
    by_cases h : j = k
    · simp [h, ih]
    · simp [h, Tab.get, ih]

theorem Tab.get_del_ne (d : α) : ∀ (t : Tab α) (k j : Nat), j ≠ k → (t.del k).get d j = t.get d j
  | [], k, j, _ => rfl
  | (i, w) :: t, k, j, h => by
    have ih := Tab.get_del_ne d t k j h
    simp only [Tab.del, List.filter_cons] at *
    by_cases h1 : i = k
    · simp [h1, ih, Tab.get, Ne.symm h]
    · simp only [bne_iff_ne, ne_eq, h1, not_false_eq_true, if_true, Tab.get, ih]

/-- A read after a removal. -/
theorem Tab.get_del (d : α) (t : Tab α) (k j : Nat) : (t.del k).get d j = if j = k then d else t.get d j := by
  split
  · next h => rw [h, Tab.get_del_self]
  · next h => exact Tab.get_del_ne d t k j h

@[simp] theorem Tab.get_upd_self (d : α) (t : Tab α) (k : Nat) (f : α → α) : (t.upd d k f).get d k = f (t.get d k) := by
  simp [Tab.upd]

theorem Tab.get_upd_ne (d : α) (t : Tab α) (k : Nat) (f : α → α) (j : Nat) (h : j ≠ k) :
    (t.upd d k f).get d j = t.get d j := by
  simp [Tab.upd, Tab.get_set_ne d t k _ j h]

end Sys2Proof
end

