-- ==== Sys2Proof/Laws/State.lean ====
section
/-! SUPPORT. What the updates of a part of the state leave alone, field by field, and what they make of the part they
change. -/

namespace Sys2Proof.Machine

/-! ### modCoreAt -/

@[simp] theorem modCoreAt_now (s : State) (n : Nat) (f : Core → Core) : (s.modCoreAt n f).now = s.now := rfl
@[simp] theorem modCoreAt_tb (s : State) (n : Nat) (f : Core → Core) : (s.modCoreAt n f).tb = s.tb := rfl
@[simp] theorem modCoreAt_tbAcc (s : State) (n : Nat) (f : Core → Core) : (s.modCoreAt n f).tbAcc = s.tbAcc := rfl
@[simp] theorem modCoreAt_ticked (s : State) (n : Nat) (f : Core → Core) : (s.modCoreAt n f).ticked = s.ticked := rfl
@[simp] theorem modCoreAt_focus (s : State) (n : Nat) (f : Core → Core) : (s.modCoreAt n f).focus = s.focus := rfl
@[simp] theorem modCoreAt_cls (s : State) (n : Nat) (f : Core → Core) : (s.modCoreAt n f).cls = s.cls := rfl
@[simp] theorem modCoreAt_dies (s : State) (n : Nat) (f : Core → Core) : (s.modCoreAt n f).dies = s.dies := rfl
@[simp] theorem modCoreAt_buckets (s : State) (n : Nat) (f : Core → Core) : (s.modCoreAt n f).buckets = s.buckets := rfl
@[simp] theorem modCoreAt_wheels (s : State) (n : Nat) (f : Core → Core) : (s.modCoreAt n f).wheels = s.wheels := rfl
@[simp] theorem modCoreAt_held (s : State) (n : Nat) (f : Core → Core) : (s.modCoreAt n f).held = s.held := rfl
@[simp] theorem modCoreAt_l2 (s : State) (n : Nat) (f : Core → Core) : (s.modCoreAt n f).l2 = s.l2 := rfl
@[simp] theorem modCoreAt_waysOut (s : State) (n : Nat) (f : Core → Core) : (s.modCoreAt n f).waysOut = s.waysOut := rfl
@[simp] theorem modCoreAt_mem (s : State) (n : Nat) (f : Core → Core) : (s.modCoreAt n f).mem = s.mem := rfl
@[simp] theorem modCoreAt_memKey (s : State) (n : Nat) (f : Core → Core) : (s.modCoreAt n f).memKey = s.memKey := rfl
@[simp] theorem modCoreAt_memBad (s : State) (n : Nat) (f : Core → Core) : (s.modCoreAt n f).memBad = s.memBad := rfl
@[simp] theorem modCoreAt_memue (s : State) (n : Nat) (f : Core → Core) : (s.modCoreAt n f).memue = s.memue := rfl
@[simp] theorem modCoreAt_guests (s : State) (n : Nat) (f : Core → Core) : (s.modCoreAt n f).guests = s.guests := rfl
@[simp] theorem modCoreAt_frame (s : State) (n : Nat) (f : Core → Core) : (s.modCoreAt n f).frame = s.frame := rfl
@[simp] theorem modCoreAt_plat (s : State) (n : Nat) (f : Core → Core) : (s.modCoreAt n f).plat = s.plat := rfl
@[simp] theorem modCoreAt_fab (s : State) (n : Nat) (f : Core → Core) : (s.modCoreAt n f).fab = s.fab := rfl
@[simp] theorem modCoreAt_inputs (s : State) (n : Nat) (f : Core → Core) : (s.modCoreAt n f).inputs = s.inputs := rfl
@[simp] theorem modCoreAt_grants (s : State) (n : Nat) (f : Core → Core) : (s.modCoreAt n f).grants = s.grants := rfl
@[simp] theorem modCoreAt_pays (s : State) (n : Nat) (f : Core → Core) : (s.modCoreAt n f).pays = s.pays := rfl
@[simp] theorem modCoreAt_memLog (s : State) (n : Nat) (f : Core → Core) : (s.modCoreAt n f).memLog = s.memLog := rfl
@[simp] theorem modCoreAt_l2Draws (s : State) (n : Nat) (f : Core → Core) : (s.modCoreAt n f).l2Draws = s.l2Draws := rfl
@[simp] theorem modCoreAt_invals (s : State) (n : Nat) (f : Core → Core) : (s.modCoreAt n f).invals = s.invals := rfl
@[simp] theorem modCoreAt_parked (s : State) (n : Nat) (f : Core → Core) : (s.modCoreAt n f).parked = s.parked := rfl
@[simp] theorem modCoreAt_hostEvs (s : State) (n : Nat) (f : Core → Core) : (s.modCoreAt n f).hostEvs = s.hostEvs := rfl
@[simp] theorem modCoreAt_msgs (s : State) (n : Nat) (f : Core → Core) : (s.modCoreAt n f).msgs = s.msgs := rfl
@[simp] theorem modCoreAt_flits (s : State) (n : Nat) (f : Core → Core) : (s.modCoreAt n f).flits = s.flits := rfl
@[simp] theorem modCoreAt_free (s : State) (n : Nat) (f : Core → Core) : (s.modCoreAt n f).free = s.free := rfl
@[simp] theorem modCoreAt_cx (s : State) (n : Nat) (f : Core → Core) : (s.modCoreAt n f).cx = s.cx := rfl

/-! ### modCore -/

@[simp] theorem modCore_now (s : State) (f : Core → Core) : (s.modCore f).now = s.now := rfl
@[simp] theorem modCore_tb (s : State) (f : Core → Core) : (s.modCore f).tb = s.tb := rfl
@[simp] theorem modCore_tbAcc (s : State) (f : Core → Core) : (s.modCore f).tbAcc = s.tbAcc := rfl
@[simp] theorem modCore_ticked (s : State) (f : Core → Core) : (s.modCore f).ticked = s.ticked := rfl
@[simp] theorem modCore_focus (s : State) (f : Core → Core) : (s.modCore f).focus = s.focus := rfl
@[simp] theorem modCore_cls (s : State) (f : Core → Core) : (s.modCore f).cls = s.cls := rfl
@[simp] theorem modCore_dies (s : State) (f : Core → Core) : (s.modCore f).dies = s.dies := rfl
@[simp] theorem modCore_buckets (s : State) (f : Core → Core) : (s.modCore f).buckets = s.buckets := rfl
@[simp] theorem modCore_wheels (s : State) (f : Core → Core) : (s.modCore f).wheels = s.wheels := rfl
@[simp] theorem modCore_held (s : State) (f : Core → Core) : (s.modCore f).held = s.held := rfl
@[simp] theorem modCore_l2 (s : State) (f : Core → Core) : (s.modCore f).l2 = s.l2 := rfl
@[simp] theorem modCore_waysOut (s : State) (f : Core → Core) : (s.modCore f).waysOut = s.waysOut := rfl
@[simp] theorem modCore_mem (s : State) (f : Core → Core) : (s.modCore f).mem = s.mem := rfl
@[simp] theorem modCore_memKey (s : State) (f : Core → Core) : (s.modCore f).memKey = s.memKey := rfl
@[simp] theorem modCore_memBad (s : State) (f : Core → Core) : (s.modCore f).memBad = s.memBad := rfl
@[simp] theorem modCore_memue (s : State) (f : Core → Core) : (s.modCore f).memue = s.memue := rfl
@[simp] theorem modCore_guests (s : State) (f : Core → Core) : (s.modCore f).guests = s.guests := rfl
@[simp] theorem modCore_frame (s : State) (f : Core → Core) : (s.modCore f).frame = s.frame := rfl
@[simp] theorem modCore_plat (s : State) (f : Core → Core) : (s.modCore f).plat = s.plat := rfl
@[simp] theorem modCore_fab (s : State) (f : Core → Core) : (s.modCore f).fab = s.fab := rfl
@[simp] theorem modCore_inputs (s : State) (f : Core → Core) : (s.modCore f).inputs = s.inputs := rfl
@[simp] theorem modCore_grants (s : State) (f : Core → Core) : (s.modCore f).grants = s.grants := rfl
@[simp] theorem modCore_pays (s : State) (f : Core → Core) : (s.modCore f).pays = s.pays := rfl
@[simp] theorem modCore_memLog (s : State) (f : Core → Core) : (s.modCore f).memLog = s.memLog := rfl
@[simp] theorem modCore_l2Draws (s : State) (f : Core → Core) : (s.modCore f).l2Draws = s.l2Draws := rfl
@[simp] theorem modCore_invals (s : State) (f : Core → Core) : (s.modCore f).invals = s.invals := rfl
@[simp] theorem modCore_parked (s : State) (f : Core → Core) : (s.modCore f).parked = s.parked := rfl
@[simp] theorem modCore_hostEvs (s : State) (f : Core → Core) : (s.modCore f).hostEvs = s.hostEvs := rfl
@[simp] theorem modCore_msgs (s : State) (f : Core → Core) : (s.modCore f).msgs = s.msgs := rfl
@[simp] theorem modCore_flits (s : State) (f : Core → Core) : (s.modCore f).flits = s.flits := rfl
@[simp] theorem modCore_free (s : State) (f : Core → Core) : (s.modCore f).free = s.free := rfl
@[simp] theorem modCore_cx (s : State) (f : Core → Core) : (s.modCore f).cx = s.cx := rfl

/-! ### modSync -/

@[simp] theorem modSync_now (s : State) (f : Sync → Sync) : (s.modSync f).now = s.now := rfl
@[simp] theorem modSync_tb (s : State) (f : Sync → Sync) : (s.modSync f).tb = s.tb := rfl
@[simp] theorem modSync_tbAcc (s : State) (f : Sync → Sync) : (s.modSync f).tbAcc = s.tbAcc := rfl
@[simp] theorem modSync_ticked (s : State) (f : Sync → Sync) : (s.modSync f).ticked = s.ticked := rfl
@[simp] theorem modSync_focus (s : State) (f : Sync → Sync) : (s.modSync f).focus = s.focus := rfl
@[simp] theorem modSync_cls (s : State) (f : Sync → Sync) : (s.modSync f).cls = s.cls := rfl
@[simp] theorem modSync_dies (s : State) (f : Sync → Sync) : (s.modSync f).dies = s.dies := rfl
@[simp] theorem modSync_buckets (s : State) (f : Sync → Sync) : (s.modSync f).buckets = s.buckets := rfl
@[simp] theorem modSync_wheels (s : State) (f : Sync → Sync) : (s.modSync f).wheels = s.wheels := rfl
@[simp] theorem modSync_held (s : State) (f : Sync → Sync) : (s.modSync f).held = s.held := rfl
@[simp] theorem modSync_l2 (s : State) (f : Sync → Sync) : (s.modSync f).l2 = s.l2 := rfl
@[simp] theorem modSync_waysOut (s : State) (f : Sync → Sync) : (s.modSync f).waysOut = s.waysOut := rfl
@[simp] theorem modSync_mem (s : State) (f : Sync → Sync) : (s.modSync f).mem = s.mem := rfl
@[simp] theorem modSync_memKey (s : State) (f : Sync → Sync) : (s.modSync f).memKey = s.memKey := rfl
@[simp] theorem modSync_memBad (s : State) (f : Sync → Sync) : (s.modSync f).memBad = s.memBad := rfl
@[simp] theorem modSync_memue (s : State) (f : Sync → Sync) : (s.modSync f).memue = s.memue := rfl
@[simp] theorem modSync_guests (s : State) (f : Sync → Sync) : (s.modSync f).guests = s.guests := rfl
@[simp] theorem modSync_frame (s : State) (f : Sync → Sync) : (s.modSync f).frame = s.frame := rfl
@[simp] theorem modSync_plat (s : State) (f : Sync → Sync) : (s.modSync f).plat = s.plat := rfl
@[simp] theorem modSync_fab (s : State) (f : Sync → Sync) : (s.modSync f).fab = s.fab := rfl
@[simp] theorem modSync_inputs (s : State) (f : Sync → Sync) : (s.modSync f).inputs = s.inputs := rfl
@[simp] theorem modSync_grants (s : State) (f : Sync → Sync) : (s.modSync f).grants = s.grants := rfl
@[simp] theorem modSync_pays (s : State) (f : Sync → Sync) : (s.modSync f).pays = s.pays := rfl
@[simp] theorem modSync_memLog (s : State) (f : Sync → Sync) : (s.modSync f).memLog = s.memLog := rfl
@[simp] theorem modSync_l2Draws (s : State) (f : Sync → Sync) : (s.modSync f).l2Draws = s.l2Draws := rfl
@[simp] theorem modSync_invals (s : State) (f : Sync → Sync) : (s.modSync f).invals = s.invals := rfl
@[simp] theorem modSync_parked (s : State) (f : Sync → Sync) : (s.modSync f).parked = s.parked := rfl
@[simp] theorem modSync_hostEvs (s : State) (f : Sync → Sync) : (s.modSync f).hostEvs = s.hostEvs := rfl
@[simp] theorem modSync_msgs (s : State) (f : Sync → Sync) : (s.modSync f).msgs = s.msgs := rfl
@[simp] theorem modSync_flits (s : State) (f : Sync → Sync) : (s.modSync f).flits = s.flits := rfl
@[simp] theorem modSync_free (s : State) (f : Sync → Sync) : (s.modSync f).free = s.free := rfl
@[simp] theorem modSync_cx (s : State) (f : Sync → Sync) : (s.modSync f).cx = s.cx := rfl

/-! ### modStream -/

@[simp] theorem modStream_now (s : State) (q : Nat) (f : Stream → Stream) : (s.modStream q f).now = s.now := rfl
@[simp] theorem modStream_tb (s : State) (q : Nat) (f : Stream → Stream) : (s.modStream q f).tb = s.tb := rfl
@[simp] theorem modStream_tbAcc (s : State) (q : Nat) (f : Stream → Stream) : (s.modStream q f).tbAcc = s.tbAcc := rfl
@[simp] theorem modStream_ticked (s : State) (q : Nat) (f : Stream → Stream) : (s.modStream q f).ticked = s.ticked := rfl
@[simp] theorem modStream_focus (s : State) (q : Nat) (f : Stream → Stream) : (s.modStream q f).focus = s.focus := rfl
@[simp] theorem modStream_cls (s : State) (q : Nat) (f : Stream → Stream) : (s.modStream q f).cls = s.cls := rfl
@[simp] theorem modStream_dies (s : State) (q : Nat) (f : Stream → Stream) : (s.modStream q f).dies = s.dies := rfl
@[simp] theorem modStream_buckets (s : State) (q : Nat) (f : Stream → Stream) : (s.modStream q f).buckets = s.buckets := rfl
@[simp] theorem modStream_wheels (s : State) (q : Nat) (f : Stream → Stream) : (s.modStream q f).wheels = s.wheels := rfl
@[simp] theorem modStream_held (s : State) (q : Nat) (f : Stream → Stream) : (s.modStream q f).held = s.held := rfl
@[simp] theorem modStream_l2 (s : State) (q : Nat) (f : Stream → Stream) : (s.modStream q f).l2 = s.l2 := rfl
@[simp] theorem modStream_waysOut (s : State) (q : Nat) (f : Stream → Stream) : (s.modStream q f).waysOut = s.waysOut := rfl
@[simp] theorem modStream_mem (s : State) (q : Nat) (f : Stream → Stream) : (s.modStream q f).mem = s.mem := rfl
@[simp] theorem modStream_memKey (s : State) (q : Nat) (f : Stream → Stream) : (s.modStream q f).memKey = s.memKey := rfl
@[simp] theorem modStream_memBad (s : State) (q : Nat) (f : Stream → Stream) : (s.modStream q f).memBad = s.memBad := rfl
@[simp] theorem modStream_memue (s : State) (q : Nat) (f : Stream → Stream) : (s.modStream q f).memue = s.memue := rfl
@[simp] theorem modStream_guests (s : State) (q : Nat) (f : Stream → Stream) : (s.modStream q f).guests = s.guests := rfl
@[simp] theorem modStream_frame (s : State) (q : Nat) (f : Stream → Stream) : (s.modStream q f).frame = s.frame := rfl
@[simp] theorem modStream_plat (s : State) (q : Nat) (f : Stream → Stream) : (s.modStream q f).plat = s.plat := rfl
@[simp] theorem modStream_fab (s : State) (q : Nat) (f : Stream → Stream) : (s.modStream q f).fab = s.fab := rfl
@[simp] theorem modStream_inputs (s : State) (q : Nat) (f : Stream → Stream) : (s.modStream q f).inputs = s.inputs := rfl
@[simp] theorem modStream_grants (s : State) (q : Nat) (f : Stream → Stream) : (s.modStream q f).grants = s.grants := rfl
@[simp] theorem modStream_pays (s : State) (q : Nat) (f : Stream → Stream) : (s.modStream q f).pays = s.pays := rfl
@[simp] theorem modStream_memLog (s : State) (q : Nat) (f : Stream → Stream) : (s.modStream q f).memLog = s.memLog := rfl
@[simp] theorem modStream_l2Draws (s : State) (q : Nat) (f : Stream → Stream) : (s.modStream q f).l2Draws = s.l2Draws := rfl
@[simp] theorem modStream_invals (s : State) (q : Nat) (f : Stream → Stream) : (s.modStream q f).invals = s.invals := rfl
@[simp] theorem modStream_parked (s : State) (q : Nat) (f : Stream → Stream) : (s.modStream q f).parked = s.parked := rfl
@[simp] theorem modStream_hostEvs (s : State) (q : Nat) (f : Stream → Stream) : (s.modStream q f).hostEvs = s.hostEvs := rfl
@[simp] theorem modStream_msgs (s : State) (q : Nat) (f : Stream → Stream) : (s.modStream q f).msgs = s.msgs := rfl
@[simp] theorem modStream_flits (s : State) (q : Nat) (f : Stream → Stream) : (s.modStream q f).flits = s.flits := rfl
@[simp] theorem modStream_free (s : State) (q : Nat) (f : Stream → Stream) : (s.modStream q f).free = s.free := rfl
@[simp] theorem modStream_cx (s : State) (q : Nat) (f : Stream → Stream) : (s.modStream q f).cx = s.cx := rfl

/-! ### modRing -/

@[simp] theorem modRing_now (s : State) (n : Nat) (f : Ring → Ring) : (s.modRing n f).now = s.now := rfl
@[simp] theorem modRing_tb (s : State) (n : Nat) (f : Ring → Ring) : (s.modRing n f).tb = s.tb := rfl
@[simp] theorem modRing_tbAcc (s : State) (n : Nat) (f : Ring → Ring) : (s.modRing n f).tbAcc = s.tbAcc := rfl
@[simp] theorem modRing_ticked (s : State) (n : Nat) (f : Ring → Ring) : (s.modRing n f).ticked = s.ticked := rfl
@[simp] theorem modRing_focus (s : State) (n : Nat) (f : Ring → Ring) : (s.modRing n f).focus = s.focus := rfl
@[simp] theorem modRing_cls (s : State) (n : Nat) (f : Ring → Ring) : (s.modRing n f).cls = s.cls := rfl
@[simp] theorem modRing_dies (s : State) (n : Nat) (f : Ring → Ring) : (s.modRing n f).dies = s.dies := rfl
@[simp] theorem modRing_buckets (s : State) (n : Nat) (f : Ring → Ring) : (s.modRing n f).buckets = s.buckets := rfl
@[simp] theorem modRing_wheels (s : State) (n : Nat) (f : Ring → Ring) : (s.modRing n f).wheels = s.wheels := rfl
@[simp] theorem modRing_held (s : State) (n : Nat) (f : Ring → Ring) : (s.modRing n f).held = s.held := rfl
@[simp] theorem modRing_l2 (s : State) (n : Nat) (f : Ring → Ring) : (s.modRing n f).l2 = s.l2 := rfl
@[simp] theorem modRing_waysOut (s : State) (n : Nat) (f : Ring → Ring) : (s.modRing n f).waysOut = s.waysOut := rfl
@[simp] theorem modRing_mem (s : State) (n : Nat) (f : Ring → Ring) : (s.modRing n f).mem = s.mem := rfl
@[simp] theorem modRing_memKey (s : State) (n : Nat) (f : Ring → Ring) : (s.modRing n f).memKey = s.memKey := rfl
@[simp] theorem modRing_memBad (s : State) (n : Nat) (f : Ring → Ring) : (s.modRing n f).memBad = s.memBad := rfl
@[simp] theorem modRing_memue (s : State) (n : Nat) (f : Ring → Ring) : (s.modRing n f).memue = s.memue := rfl
@[simp] theorem modRing_guests (s : State) (n : Nat) (f : Ring → Ring) : (s.modRing n f).guests = s.guests := rfl
@[simp] theorem modRing_frame (s : State) (n : Nat) (f : Ring → Ring) : (s.modRing n f).frame = s.frame := rfl
@[simp] theorem modRing_plat (s : State) (n : Nat) (f : Ring → Ring) : (s.modRing n f).plat = s.plat := rfl
@[simp] theorem modRing_fab (s : State) (n : Nat) (f : Ring → Ring) : (s.modRing n f).fab = s.fab := rfl
@[simp] theorem modRing_inputs (s : State) (n : Nat) (f : Ring → Ring) : (s.modRing n f).inputs = s.inputs := rfl
@[simp] theorem modRing_grants (s : State) (n : Nat) (f : Ring → Ring) : (s.modRing n f).grants = s.grants := rfl
@[simp] theorem modRing_pays (s : State) (n : Nat) (f : Ring → Ring) : (s.modRing n f).pays = s.pays := rfl
@[simp] theorem modRing_memLog (s : State) (n : Nat) (f : Ring → Ring) : (s.modRing n f).memLog = s.memLog := rfl
@[simp] theorem modRing_l2Draws (s : State) (n : Nat) (f : Ring → Ring) : (s.modRing n f).l2Draws = s.l2Draws := rfl
@[simp] theorem modRing_invals (s : State) (n : Nat) (f : Ring → Ring) : (s.modRing n f).invals = s.invals := rfl
@[simp] theorem modRing_parked (s : State) (n : Nat) (f : Ring → Ring) : (s.modRing n f).parked = s.parked := rfl
@[simp] theorem modRing_hostEvs (s : State) (n : Nat) (f : Ring → Ring) : (s.modRing n f).hostEvs = s.hostEvs := rfl
@[simp] theorem modRing_msgs (s : State) (n : Nat) (f : Ring → Ring) : (s.modRing n f).msgs = s.msgs := rfl
@[simp] theorem modRing_flits (s : State) (n : Nat) (f : Ring → Ring) : (s.modRing n f).flits = s.flits := rfl
@[simp] theorem modRing_free (s : State) (n : Nat) (f : Ring → Ring) : (s.modRing n f).free = s.free := rfl
@[simp] theorem modRing_cx (s : State) (n : Nat) (f : Ring → Ring) : (s.modRing n f).cx = s.cx := rfl

/-! ### modCl -/

@[simp] theorem modCl_now (s : State) (i : Nat) (f : Cluster → Cluster) : (s.modCl i f).now = s.now := rfl
@[simp] theorem modCl_tb (s : State) (i : Nat) (f : Cluster → Cluster) : (s.modCl i f).tb = s.tb := rfl
@[simp] theorem modCl_tbAcc (s : State) (i : Nat) (f : Cluster → Cluster) : (s.modCl i f).tbAcc = s.tbAcc := rfl
@[simp] theorem modCl_ticked (s : State) (i : Nat) (f : Cluster → Cluster) : (s.modCl i f).ticked = s.ticked := rfl
@[simp] theorem modCl_focus (s : State) (i : Nat) (f : Cluster → Cluster) : (s.modCl i f).focus = s.focus := rfl
@[simp] theorem modCl_cores (s : State) (i : Nat) (f : Cluster → Cluster) : (s.modCl i f).cores = s.cores := rfl
@[simp] theorem modCl_dies (s : State) (i : Nat) (f : Cluster → Cluster) : (s.modCl i f).dies = s.dies := rfl
@[simp] theorem modCl_buckets (s : State) (i : Nat) (f : Cluster → Cluster) : (s.modCl i f).buckets = s.buckets := rfl
@[simp] theorem modCl_wheels (s : State) (i : Nat) (f : Cluster → Cluster) : (s.modCl i f).wheels = s.wheels := rfl
@[simp] theorem modCl_held (s : State) (i : Nat) (f : Cluster → Cluster) : (s.modCl i f).held = s.held := rfl
@[simp] theorem modCl_l2 (s : State) (i : Nat) (f : Cluster → Cluster) : (s.modCl i f).l2 = s.l2 := rfl
@[simp] theorem modCl_waysOut (s : State) (i : Nat) (f : Cluster → Cluster) : (s.modCl i f).waysOut = s.waysOut := rfl
@[simp] theorem modCl_mem (s : State) (i : Nat) (f : Cluster → Cluster) : (s.modCl i f).mem = s.mem := rfl
@[simp] theorem modCl_memKey (s : State) (i : Nat) (f : Cluster → Cluster) : (s.modCl i f).memKey = s.memKey := rfl
@[simp] theorem modCl_memBad (s : State) (i : Nat) (f : Cluster → Cluster) : (s.modCl i f).memBad = s.memBad := rfl
@[simp] theorem modCl_memue (s : State) (i : Nat) (f : Cluster → Cluster) : (s.modCl i f).memue = s.memue := rfl
@[simp] theorem modCl_guests (s : State) (i : Nat) (f : Cluster → Cluster) : (s.modCl i f).guests = s.guests := rfl
@[simp] theorem modCl_frame (s : State) (i : Nat) (f : Cluster → Cluster) : (s.modCl i f).frame = s.frame := rfl
@[simp] theorem modCl_plat (s : State) (i : Nat) (f : Cluster → Cluster) : (s.modCl i f).plat = s.plat := rfl
@[simp] theorem modCl_fab (s : State) (i : Nat) (f : Cluster → Cluster) : (s.modCl i f).fab = s.fab := rfl
@[simp] theorem modCl_inputs (s : State) (i : Nat) (f : Cluster → Cluster) : (s.modCl i f).inputs = s.inputs := rfl
@[simp] theorem modCl_grants (s : State) (i : Nat) (f : Cluster → Cluster) : (s.modCl i f).grants = s.grants := rfl
@[simp] theorem modCl_pays (s : State) (i : Nat) (f : Cluster → Cluster) : (s.modCl i f).pays = s.pays := rfl
@[simp] theorem modCl_memLog (s : State) (i : Nat) (f : Cluster → Cluster) : (s.modCl i f).memLog = s.memLog := rfl
@[simp] theorem modCl_l2Draws (s : State) (i : Nat) (f : Cluster → Cluster) : (s.modCl i f).l2Draws = s.l2Draws := rfl
@[simp] theorem modCl_invals (s : State) (i : Nat) (f : Cluster → Cluster) : (s.modCl i f).invals = s.invals := rfl
@[simp] theorem modCl_parked (s : State) (i : Nat) (f : Cluster → Cluster) : (s.modCl i f).parked = s.parked := rfl
@[simp] theorem modCl_hostEvs (s : State) (i : Nat) (f : Cluster → Cluster) : (s.modCl i f).hostEvs = s.hostEvs := rfl
@[simp] theorem modCl_msgs (s : State) (i : Nat) (f : Cluster → Cluster) : (s.modCl i f).msgs = s.msgs := rfl
@[simp] theorem modCl_flits (s : State) (i : Nat) (f : Cluster → Cluster) : (s.modCl i f).flits = s.flits := rfl
@[simp] theorem modCl_free (s : State) (i : Nat) (f : Cluster → Cluster) : (s.modCl i f).free = s.free := rfl
@[simp] theorem modCl_cx (s : State) (i : Nat) (f : Cluster → Cluster) : (s.modCl i f).cx = s.cx := rfl

/-! ### modDie -/

@[simp] theorem modDie_now (s : State) (d : Nat) (f : Die → Die) : (s.modDie d f).now = s.now := rfl
@[simp] theorem modDie_tb (s : State) (d : Nat) (f : Die → Die) : (s.modDie d f).tb = s.tb := rfl
@[simp] theorem modDie_tbAcc (s : State) (d : Nat) (f : Die → Die) : (s.modDie d f).tbAcc = s.tbAcc := rfl
@[simp] theorem modDie_ticked (s : State) (d : Nat) (f : Die → Die) : (s.modDie d f).ticked = s.ticked := rfl
@[simp] theorem modDie_focus (s : State) (d : Nat) (f : Die → Die) : (s.modDie d f).focus = s.focus := rfl
@[simp] theorem modDie_cores (s : State) (d : Nat) (f : Die → Die) : (s.modDie d f).cores = s.cores := rfl
@[simp] theorem modDie_cls (s : State) (d : Nat) (f : Die → Die) : (s.modDie d f).cls = s.cls := rfl
@[simp] theorem modDie_buckets (s : State) (d : Nat) (f : Die → Die) : (s.modDie d f).buckets = s.buckets := rfl
@[simp] theorem modDie_wheels (s : State) (d : Nat) (f : Die → Die) : (s.modDie d f).wheels = s.wheels := rfl
@[simp] theorem modDie_held (s : State) (d : Nat) (f : Die → Die) : (s.modDie d f).held = s.held := rfl
@[simp] theorem modDie_l2 (s : State) (d : Nat) (f : Die → Die) : (s.modDie d f).l2 = s.l2 := rfl
@[simp] theorem modDie_waysOut (s : State) (d : Nat) (f : Die → Die) : (s.modDie d f).waysOut = s.waysOut := rfl
@[simp] theorem modDie_mem (s : State) (d : Nat) (f : Die → Die) : (s.modDie d f).mem = s.mem := rfl
@[simp] theorem modDie_memKey (s : State) (d : Nat) (f : Die → Die) : (s.modDie d f).memKey = s.memKey := rfl
@[simp] theorem modDie_memBad (s : State) (d : Nat) (f : Die → Die) : (s.modDie d f).memBad = s.memBad := rfl
@[simp] theorem modDie_memue (s : State) (d : Nat) (f : Die → Die) : (s.modDie d f).memue = s.memue := rfl
@[simp] theorem modDie_guests (s : State) (d : Nat) (f : Die → Die) : (s.modDie d f).guests = s.guests := rfl
@[simp] theorem modDie_frame (s : State) (d : Nat) (f : Die → Die) : (s.modDie d f).frame = s.frame := rfl
@[simp] theorem modDie_plat (s : State) (d : Nat) (f : Die → Die) : (s.modDie d f).plat = s.plat := rfl
@[simp] theorem modDie_fab (s : State) (d : Nat) (f : Die → Die) : (s.modDie d f).fab = s.fab := rfl
@[simp] theorem modDie_inputs (s : State) (d : Nat) (f : Die → Die) : (s.modDie d f).inputs = s.inputs := rfl
@[simp] theorem modDie_grants (s : State) (d : Nat) (f : Die → Die) : (s.modDie d f).grants = s.grants := rfl
@[simp] theorem modDie_pays (s : State) (d : Nat) (f : Die → Die) : (s.modDie d f).pays = s.pays := rfl
@[simp] theorem modDie_memLog (s : State) (d : Nat) (f : Die → Die) : (s.modDie d f).memLog = s.memLog := rfl
@[simp] theorem modDie_l2Draws (s : State) (d : Nat) (f : Die → Die) : (s.modDie d f).l2Draws = s.l2Draws := rfl
@[simp] theorem modDie_invals (s : State) (d : Nat) (f : Die → Die) : (s.modDie d f).invals = s.invals := rfl
@[simp] theorem modDie_parked (s : State) (d : Nat) (f : Die → Die) : (s.modDie d f).parked = s.parked := rfl
@[simp] theorem modDie_hostEvs (s : State) (d : Nat) (f : Die → Die) : (s.modDie d f).hostEvs = s.hostEvs := rfl
@[simp] theorem modDie_msgs (s : State) (d : Nat) (f : Die → Die) : (s.modDie d f).msgs = s.msgs := rfl
@[simp] theorem modDie_flits (s : State) (d : Nat) (f : Die → Die) : (s.modDie d f).flits = s.flits := rfl
@[simp] theorem modDie_free (s : State) (d : Nat) (f : Die → Die) : (s.modDie d f).free = s.free := rfl
@[simp] theorem modDie_cx (s : State) (d : Nat) (f : Die → Die) : (s.modDie d f).cx = s.cx := rfl

/-! ### modGuest -/

@[simp] theorem modGuest_now (s : State) (g : Nat) (f : Guest → Guest) : (s.modGuest g f).now = s.now := rfl
@[simp] theorem modGuest_tb (s : State) (g : Nat) (f : Guest → Guest) : (s.modGuest g f).tb = s.tb := rfl
@[simp] theorem modGuest_tbAcc (s : State) (g : Nat) (f : Guest → Guest) : (s.modGuest g f).tbAcc = s.tbAcc := rfl
@[simp] theorem modGuest_ticked (s : State) (g : Nat) (f : Guest → Guest) : (s.modGuest g f).ticked = s.ticked := rfl
@[simp] theorem modGuest_focus (s : State) (g : Nat) (f : Guest → Guest) : (s.modGuest g f).focus = s.focus := rfl
@[simp] theorem modGuest_cores (s : State) (g : Nat) (f : Guest → Guest) : (s.modGuest g f).cores = s.cores := rfl
@[simp] theorem modGuest_cls (s : State) (g : Nat) (f : Guest → Guest) : (s.modGuest g f).cls = s.cls := rfl
@[simp] theorem modGuest_dies (s : State) (g : Nat) (f : Guest → Guest) : (s.modGuest g f).dies = s.dies := rfl
@[simp] theorem modGuest_buckets (s : State) (g : Nat) (f : Guest → Guest) : (s.modGuest g f).buckets = s.buckets := rfl
@[simp] theorem modGuest_wheels (s : State) (g : Nat) (f : Guest → Guest) : (s.modGuest g f).wheels = s.wheels := rfl
@[simp] theorem modGuest_held (s : State) (g : Nat) (f : Guest → Guest) : (s.modGuest g f).held = s.held := rfl
@[simp] theorem modGuest_l2 (s : State) (g : Nat) (f : Guest → Guest) : (s.modGuest g f).l2 = s.l2 := rfl
@[simp] theorem modGuest_waysOut (s : State) (g : Nat) (f : Guest → Guest) : (s.modGuest g f).waysOut = s.waysOut := rfl
@[simp] theorem modGuest_mem (s : State) (g : Nat) (f : Guest → Guest) : (s.modGuest g f).mem = s.mem := rfl
@[simp] theorem modGuest_memKey (s : State) (g : Nat) (f : Guest → Guest) : (s.modGuest g f).memKey = s.memKey := rfl
@[simp] theorem modGuest_memBad (s : State) (g : Nat) (f : Guest → Guest) : (s.modGuest g f).memBad = s.memBad := rfl
@[simp] theorem modGuest_memue (s : State) (g : Nat) (f : Guest → Guest) : (s.modGuest g f).memue = s.memue := rfl
@[simp] theorem modGuest_frame (s : State) (g : Nat) (f : Guest → Guest) : (s.modGuest g f).frame = s.frame := rfl
@[simp] theorem modGuest_plat (s : State) (g : Nat) (f : Guest → Guest) : (s.modGuest g f).plat = s.plat := rfl
@[simp] theorem modGuest_fab (s : State) (g : Nat) (f : Guest → Guest) : (s.modGuest g f).fab = s.fab := rfl
@[simp] theorem modGuest_inputs (s : State) (g : Nat) (f : Guest → Guest) : (s.modGuest g f).inputs = s.inputs := rfl
@[simp] theorem modGuest_grants (s : State) (g : Nat) (f : Guest → Guest) : (s.modGuest g f).grants = s.grants := rfl
@[simp] theorem modGuest_pays (s : State) (g : Nat) (f : Guest → Guest) : (s.modGuest g f).pays = s.pays := rfl
@[simp] theorem modGuest_memLog (s : State) (g : Nat) (f : Guest → Guest) : (s.modGuest g f).memLog = s.memLog := rfl
@[simp] theorem modGuest_l2Draws (s : State) (g : Nat) (f : Guest → Guest) : (s.modGuest g f).l2Draws = s.l2Draws := rfl
@[simp] theorem modGuest_invals (s : State) (g : Nat) (f : Guest → Guest) : (s.modGuest g f).invals = s.invals := rfl
@[simp] theorem modGuest_parked (s : State) (g : Nat) (f : Guest → Guest) : (s.modGuest g f).parked = s.parked := rfl
@[simp] theorem modGuest_hostEvs (s : State) (g : Nat) (f : Guest → Guest) : (s.modGuest g f).hostEvs = s.hostEvs := rfl
@[simp] theorem modGuest_msgs (s : State) (g : Nat) (f : Guest → Guest) : (s.modGuest g f).msgs = s.msgs := rfl
@[simp] theorem modGuest_flits (s : State) (g : Nat) (f : Guest → Guest) : (s.modGuest g f).flits = s.flits := rfl
@[simp] theorem modGuest_free (s : State) (g : Nat) (f : Guest → Guest) : (s.modGuest g f).free = s.free := rfl
@[simp] theorem modGuest_cx (s : State) (g : Nat) (f : Guest → Guest) : (s.modGuest g f).cx = s.cx := rfl

/-! ### modBucket -/

@[simp] theorem modBucket_now (s : State) (d p g : Nat) (f : Bucket → Bucket) : (s.modBucket d p g f).now = s.now := rfl
@[simp] theorem modBucket_tb (s : State) (d p g : Nat) (f : Bucket → Bucket) : (s.modBucket d p g f).tb = s.tb := rfl
@[simp] theorem modBucket_tbAcc (s : State) (d p g : Nat) (f : Bucket → Bucket) : (s.modBucket d p g f).tbAcc = s.tbAcc := rfl
@[simp] theorem modBucket_ticked (s : State) (d p g : Nat) (f : Bucket → Bucket) : (s.modBucket d p g f).ticked = s.ticked := rfl
@[simp] theorem modBucket_focus (s : State) (d p g : Nat) (f : Bucket → Bucket) : (s.modBucket d p g f).focus = s.focus := rfl
@[simp] theorem modBucket_cores (s : State) (d p g : Nat) (f : Bucket → Bucket) : (s.modBucket d p g f).cores = s.cores := rfl
@[simp] theorem modBucket_cls (s : State) (d p g : Nat) (f : Bucket → Bucket) : (s.modBucket d p g f).cls = s.cls := rfl
@[simp] theorem modBucket_dies (s : State) (d p g : Nat) (f : Bucket → Bucket) : (s.modBucket d p g f).dies = s.dies := rfl
@[simp] theorem modBucket_wheels (s : State) (d p g : Nat) (f : Bucket → Bucket) : (s.modBucket d p g f).wheels = s.wheels := rfl
@[simp] theorem modBucket_held (s : State) (d p g : Nat) (f : Bucket → Bucket) : (s.modBucket d p g f).held = s.held := rfl
@[simp] theorem modBucket_l2 (s : State) (d p g : Nat) (f : Bucket → Bucket) : (s.modBucket d p g f).l2 = s.l2 := rfl
@[simp] theorem modBucket_waysOut (s : State) (d p g : Nat) (f : Bucket → Bucket) : (s.modBucket d p g f).waysOut = s.waysOut := rfl
@[simp] theorem modBucket_mem (s : State) (d p g : Nat) (f : Bucket → Bucket) : (s.modBucket d p g f).mem = s.mem := rfl
@[simp] theorem modBucket_memKey (s : State) (d p g : Nat) (f : Bucket → Bucket) : (s.modBucket d p g f).memKey = s.memKey := rfl
@[simp] theorem modBucket_memBad (s : State) (d p g : Nat) (f : Bucket → Bucket) : (s.modBucket d p g f).memBad = s.memBad := rfl
@[simp] theorem modBucket_memue (s : State) (d p g : Nat) (f : Bucket → Bucket) : (s.modBucket d p g f).memue = s.memue := rfl
@[simp] theorem modBucket_guests (s : State) (d p g : Nat) (f : Bucket → Bucket) : (s.modBucket d p g f).guests = s.guests := rfl
@[simp] theorem modBucket_frame (s : State) (d p g : Nat) (f : Bucket → Bucket) : (s.modBucket d p g f).frame = s.frame := rfl
@[simp] theorem modBucket_plat (s : State) (d p g : Nat) (f : Bucket → Bucket) : (s.modBucket d p g f).plat = s.plat := rfl
@[simp] theorem modBucket_fab (s : State) (d p g : Nat) (f : Bucket → Bucket) : (s.modBucket d p g f).fab = s.fab := rfl
@[simp] theorem modBucket_inputs (s : State) (d p g : Nat) (f : Bucket → Bucket) : (s.modBucket d p g f).inputs = s.inputs := rfl
@[simp] theorem modBucket_grants (s : State) (d p g : Nat) (f : Bucket → Bucket) : (s.modBucket d p g f).grants = s.grants := rfl
@[simp] theorem modBucket_pays (s : State) (d p g : Nat) (f : Bucket → Bucket) : (s.modBucket d p g f).pays = s.pays := rfl
@[simp] theorem modBucket_memLog (s : State) (d p g : Nat) (f : Bucket → Bucket) : (s.modBucket d p g f).memLog = s.memLog := rfl
@[simp] theorem modBucket_l2Draws (s : State) (d p g : Nat) (f : Bucket → Bucket) : (s.modBucket d p g f).l2Draws = s.l2Draws := rfl
@[simp] theorem modBucket_invals (s : State) (d p g : Nat) (f : Bucket → Bucket) : (s.modBucket d p g f).invals = s.invals := rfl
@[simp] theorem modBucket_parked (s : State) (d p g : Nat) (f : Bucket → Bucket) : (s.modBucket d p g f).parked = s.parked := rfl
@[simp] theorem modBucket_hostEvs (s : State) (d p g : Nat) (f : Bucket → Bucket) : (s.modBucket d p g f).hostEvs = s.hostEvs := rfl
@[simp] theorem modBucket_msgs (s : State) (d p g : Nat) (f : Bucket → Bucket) : (s.modBucket d p g f).msgs = s.msgs := rfl
@[simp] theorem modBucket_flits (s : State) (d p g : Nat) (f : Bucket → Bucket) : (s.modBucket d p g f).flits = s.flits := rfl
@[simp] theorem modBucket_free (s : State) (d p g : Nat) (f : Bucket → Bucket) : (s.modBucket d p g f).free = s.free := rfl
@[simp] theorem modBucket_cx (s : State) (d p g : Nat) (f : Bucket → Bucket) : (s.modBucket d p g f).cx = s.cx := rfl

/-! ### debit and post -/

@[simp] theorem debit_now (s : State) (d p g u : Nat) : (s.debit d p g u).now = s.now := rfl
@[simp] theorem debit_tb (s : State) (d p g u : Nat) : (s.debit d p g u).tb = s.tb := rfl
@[simp] theorem debit_tbAcc (s : State) (d p g u : Nat) : (s.debit d p g u).tbAcc = s.tbAcc := rfl
@[simp] theorem debit_ticked (s : State) (d p g u : Nat) : (s.debit d p g u).ticked = s.ticked := rfl
@[simp] theorem debit_focus (s : State) (d p g u : Nat) : (s.debit d p g u).focus = s.focus := rfl
@[simp] theorem debit_cores (s : State) (d p g u : Nat) : (s.debit d p g u).cores = s.cores := rfl
@[simp] theorem debit_cls (s : State) (d p g u : Nat) : (s.debit d p g u).cls = s.cls := rfl
@[simp] theorem debit_dies (s : State) (d p g u : Nat) : (s.debit d p g u).dies = s.dies := rfl
@[simp] theorem debit_wheels (s : State) (d p g u : Nat) : (s.debit d p g u).wheels = s.wheels := rfl
@[simp] theorem debit_l2 (s : State) (d p g u : Nat) : (s.debit d p g u).l2 = s.l2 := rfl
@[simp] theorem debit_waysOut (s : State) (d p g u : Nat) : (s.debit d p g u).waysOut = s.waysOut := rfl
@[simp] theorem debit_mem (s : State) (d p g u : Nat) : (s.debit d p g u).mem = s.mem := rfl
@[simp] theorem debit_memKey (s : State) (d p g u : Nat) : (s.debit d p g u).memKey = s.memKey := rfl
@[simp] theorem debit_memBad (s : State) (d p g u : Nat) : (s.debit d p g u).memBad = s.memBad := rfl
@[simp] theorem debit_memue (s : State) (d p g u : Nat) : (s.debit d p g u).memue = s.memue := rfl
@[simp] theorem debit_guests (s : State) (d p g u : Nat) : (s.debit d p g u).guests = s.guests := rfl
@[simp] theorem debit_frame (s : State) (d p g u : Nat) : (s.debit d p g u).frame = s.frame := rfl
@[simp] theorem debit_plat (s : State) (d p g u : Nat) : (s.debit d p g u).plat = s.plat := rfl
@[simp] theorem debit_fab (s : State) (d p g u : Nat) : (s.debit d p g u).fab = s.fab := rfl
@[simp] theorem debit_inputs (s : State) (d p g u : Nat) : (s.debit d p g u).inputs = s.inputs := rfl
@[simp] theorem debit_grants (s : State) (d p g u : Nat) : (s.debit d p g u).grants = s.grants := rfl
@[simp] theorem debit_memLog (s : State) (d p g u : Nat) : (s.debit d p g u).memLog = s.memLog := rfl
@[simp] theorem debit_l2Draws (s : State) (d p g u : Nat) : (s.debit d p g u).l2Draws = s.l2Draws := rfl
@[simp] theorem debit_invals (s : State) (d p g u : Nat) : (s.debit d p g u).invals = s.invals := rfl
@[simp] theorem debit_parked (s : State) (d p g u : Nat) : (s.debit d p g u).parked = s.parked := rfl
@[simp] theorem debit_hostEvs (s : State) (d p g u : Nat) : (s.debit d p g u).hostEvs = s.hostEvs := rfl
@[simp] theorem debit_msgs (s : State) (d p g u : Nat) : (s.debit d p g u).msgs = s.msgs := rfl
@[simp] theorem debit_flits (s : State) (d p g u : Nat) : (s.debit d p g u).flits = s.flits := rfl
@[simp] theorem debit_free (s : State) (d p g u : Nat) : (s.debit d p g u).free = s.free := rfl
@[simp] theorem debit_cx (s : State) (d p g u : Nat) : (s.debit d p g u).cx = s.cx := rfl
@[simp] theorem debit_held (s : State) (d p g u : Nat) : (s.debit d p g u).held = s.held := rfl
@[simp] theorem debit_pays (s : State) (d p g u : Nat) : (s.debit d p g u).pays = s.pays := rfl

@[simp] theorem post_now (s : State) (c : Option Nat) (d p g u : Nat) : (s.post c d p g u).now = s.now := rfl
@[simp] theorem post_tb (s : State) (c : Option Nat) (d p g u : Nat) : (s.post c d p g u).tb = s.tb := rfl
@[simp] theorem post_tbAcc (s : State) (c : Option Nat) (d p g u : Nat) : (s.post c d p g u).tbAcc = s.tbAcc := rfl
@[simp] theorem post_ticked (s : State) (c : Option Nat) (d p g u : Nat) : (s.post c d p g u).ticked = s.ticked := rfl
@[simp] theorem post_focus (s : State) (c : Option Nat) (d p g u : Nat) : (s.post c d p g u).focus = s.focus := rfl
@[simp] theorem post_cores (s : State) (c : Option Nat) (d p g u : Nat) : (s.post c d p g u).cores = s.cores := rfl
@[simp] theorem post_cls (s : State) (c : Option Nat) (d p g u : Nat) : (s.post c d p g u).cls = s.cls := rfl
@[simp] theorem post_dies (s : State) (c : Option Nat) (d p g u : Nat) : (s.post c d p g u).dies = s.dies := rfl
@[simp] theorem post_wheels (s : State) (c : Option Nat) (d p g u : Nat) : (s.post c d p g u).wheels = s.wheels := rfl
@[simp] theorem post_l2 (s : State) (c : Option Nat) (d p g u : Nat) : (s.post c d p g u).l2 = s.l2 := rfl
@[simp] theorem post_waysOut (s : State) (c : Option Nat) (d p g u : Nat) : (s.post c d p g u).waysOut = s.waysOut := rfl
@[simp] theorem post_mem (s : State) (c : Option Nat) (d p g u : Nat) : (s.post c d p g u).mem = s.mem := rfl
@[simp] theorem post_memKey (s : State) (c : Option Nat) (d p g u : Nat) : (s.post c d p g u).memKey = s.memKey := rfl
@[simp] theorem post_memBad (s : State) (c : Option Nat) (d p g u : Nat) : (s.post c d p g u).memBad = s.memBad := rfl
@[simp] theorem post_memue (s : State) (c : Option Nat) (d p g u : Nat) : (s.post c d p g u).memue = s.memue := rfl
@[simp] theorem post_guests (s : State) (c : Option Nat) (d p g u : Nat) : (s.post c d p g u).guests = s.guests := rfl
@[simp] theorem post_frame (s : State) (c : Option Nat) (d p g u : Nat) : (s.post c d p g u).frame = s.frame := rfl
@[simp] theorem post_plat (s : State) (c : Option Nat) (d p g u : Nat) : (s.post c d p g u).plat = s.plat := rfl
@[simp] theorem post_fab (s : State) (c : Option Nat) (d p g u : Nat) : (s.post c d p g u).fab = s.fab := rfl
@[simp] theorem post_inputs (s : State) (c : Option Nat) (d p g u : Nat) : (s.post c d p g u).inputs = s.inputs := rfl
@[simp] theorem post_grants (s : State) (c : Option Nat) (d p g u : Nat) : (s.post c d p g u).grants = s.grants := rfl
@[simp] theorem post_memLog (s : State) (c : Option Nat) (d p g u : Nat) : (s.post c d p g u).memLog = s.memLog := rfl
@[simp] theorem post_l2Draws (s : State) (c : Option Nat) (d p g u : Nat) : (s.post c d p g u).l2Draws = s.l2Draws := rfl
@[simp] theorem post_invals (s : State) (c : Option Nat) (d p g u : Nat) : (s.post c d p g u).invals = s.invals := rfl
@[simp] theorem post_parked (s : State) (c : Option Nat) (d p g u : Nat) : (s.post c d p g u).parked = s.parked := rfl
@[simp] theorem post_hostEvs (s : State) (c : Option Nat) (d p g u : Nat) : (s.post c d p g u).hostEvs = s.hostEvs := rfl
@[simp] theorem post_msgs (s : State) (c : Option Nat) (d p g u : Nat) : (s.post c d p g u).msgs = s.msgs := rfl
@[simp] theorem post_flits (s : State) (c : Option Nat) (d p g u : Nat) : (s.post c d p g u).flits = s.flits := rfl
@[simp] theorem post_free (s : State) (c : Option Nat) (d p g u : Nat) : (s.post c d p g u).free = s.free := rfl
@[simp] theorem post_cx (s : State) (c : Option Nat) (d p g u : Nat) : (s.post c d p g u).cx = s.cx := rfl
@[simp] theorem post_buckets (s : State) (c : Option Nat) (d p g u : Nat) : (s.post c d p g u).buckets = s.buckets := rfl
@[simp] theorem post_pays (s : State) (c : Option Nat) (d p g u : Nat) : (s.post c d p g u).pays = s.pays := rfl

/-! ### charge -/

@[simp] theorem charge_now (s : State) (d p g u : Nat) : (s.charge d p g u).now = s.now := by
  unfold State.charge; split <;> rfl
@[simp] theorem charge_tb (s : State) (d p g u : Nat) : (s.charge d p g u).tb = s.tb := by
  unfold State.charge; split <;> rfl
@[simp] theorem charge_tbAcc (s : State) (d p g u : Nat) : (s.charge d p g u).tbAcc = s.tbAcc := by
  unfold State.charge; split <;> rfl
@[simp] theorem charge_ticked (s : State) (d p g u : Nat) : (s.charge d p g u).ticked = s.ticked := by
  unfold State.charge; split <;> rfl
@[simp] theorem charge_focus (s : State) (d p g u : Nat) : (s.charge d p g u).focus = s.focus := by
  unfold State.charge; split <;> rfl
@[simp] theorem charge_cores (s : State) (d p g u : Nat) : (s.charge d p g u).cores = s.cores := by
  unfold State.charge; split <;> rfl
@[simp] theorem charge_cls (s : State) (d p g u : Nat) : (s.charge d p g u).cls = s.cls := by
  unfold State.charge; split <;> rfl
@[simp] theorem charge_dies (s : State) (d p g u : Nat) : (s.charge d p g u).dies = s.dies := by
  unfold State.charge; split <;> rfl
@[simp] theorem charge_wheels (s : State) (d p g u : Nat) : (s.charge d p g u).wheels = s.wheels := by
  unfold State.charge; split <;> rfl
@[simp] theorem charge_l2 (s : State) (d p g u : Nat) : (s.charge d p g u).l2 = s.l2 := by
  unfold State.charge; split <;> rfl
@[simp] theorem charge_waysOut (s : State) (d p g u : Nat) : (s.charge d p g u).waysOut = s.waysOut := by
  unfold State.charge; split <;> rfl
@[simp] theorem charge_mem (s : State) (d p g u : Nat) : (s.charge d p g u).mem = s.mem := by
  unfold State.charge; split <;> rfl
@[simp] theorem charge_memKey (s : State) (d p g u : Nat) : (s.charge d p g u).memKey = s.memKey := by
  unfold State.charge; split <;> rfl
@[simp] theorem charge_memBad (s : State) (d p g u : Nat) : (s.charge d p g u).memBad = s.memBad := by
  unfold State.charge; split <;> rfl
@[simp] theorem charge_memue (s : State) (d p g u : Nat) : (s.charge d p g u).memue = s.memue := by
  unfold State.charge; split <;> rfl
@[simp] theorem charge_guests (s : State) (d p g u : Nat) : (s.charge d p g u).guests = s.guests := by
  unfold State.charge; split <;> rfl
@[simp] theorem charge_frame (s : State) (d p g u : Nat) : (s.charge d p g u).frame = s.frame := by
  unfold State.charge; split <;> rfl
@[simp] theorem charge_plat (s : State) (d p g u : Nat) : (s.charge d p g u).plat = s.plat := by
  unfold State.charge; split <;> rfl
@[simp] theorem charge_fab (s : State) (d p g u : Nat) : (s.charge d p g u).fab = s.fab := by
  unfold State.charge; split <;> rfl
@[simp] theorem charge_inputs (s : State) (d p g u : Nat) : (s.charge d p g u).inputs = s.inputs := by
  unfold State.charge; split <;> rfl
@[simp] theorem charge_grants (s : State) (d p g u : Nat) : (s.charge d p g u).grants = s.grants := by
  unfold State.charge; split <;> rfl
@[simp] theorem charge_memLog (s : State) (d p g u : Nat) : (s.charge d p g u).memLog = s.memLog := by
  unfold State.charge; split <;> rfl
@[simp] theorem charge_l2Draws (s : State) (d p g u : Nat) : (s.charge d p g u).l2Draws = s.l2Draws := by
  unfold State.charge; split <;> rfl
@[simp] theorem charge_invals (s : State) (d p g u : Nat) : (s.charge d p g u).invals = s.invals := by
  unfold State.charge; split <;> rfl
@[simp] theorem charge_parked (s : State) (d p g u : Nat) : (s.charge d p g u).parked = s.parked := by
  unfold State.charge; split <;> rfl
@[simp] theorem charge_hostEvs (s : State) (d p g u : Nat) : (s.charge d p g u).hostEvs = s.hostEvs := by
  unfold State.charge; split <;> rfl
@[simp] theorem charge_msgs (s : State) (d p g u : Nat) : (s.charge d p g u).msgs = s.msgs := by
  unfold State.charge; split <;> rfl
@[simp] theorem charge_flits (s : State) (d p g u : Nat) : (s.charge d p g u).flits = s.flits := by
  unfold State.charge; split <;> rfl
@[simp] theorem charge_free (s : State) (d p g u : Nat) : (s.charge d p g u).free = s.free := by
  unfold State.charge; split <;> rfl
@[simp] theorem charge_cx (s : State) (d p g u : Nat) : (s.charge d p g u).cx = s.cx := by
  unfold State.charge; split <;> rfl

/-! ### tickFree -/

@[simp] theorem tickFree_now (s : State) : (s.tickFree).now = s.now := rfl
@[simp] theorem tickFree_tb (s : State) : (s.tickFree).tb = s.tb := rfl
@[simp] theorem tickFree_tbAcc (s : State) : (s.tickFree).tbAcc = s.tbAcc := rfl
@[simp] theorem tickFree_ticked (s : State) : (s.tickFree).ticked = s.ticked := rfl
@[simp] theorem tickFree_focus (s : State) : (s.tickFree).focus = s.focus := rfl
@[simp] theorem tickFree_cores (s : State) : (s.tickFree).cores = s.cores := rfl
@[simp] theorem tickFree_cls (s : State) : (s.tickFree).cls = s.cls := rfl
@[simp] theorem tickFree_dies (s : State) : (s.tickFree).dies = s.dies := rfl
@[simp] theorem tickFree_buckets (s : State) : (s.tickFree).buckets = s.buckets := rfl
@[simp] theorem tickFree_wheels (s : State) : (s.tickFree).wheels = s.wheels := rfl
@[simp] theorem tickFree_held (s : State) : (s.tickFree).held = s.held := rfl
@[simp] theorem tickFree_l2 (s : State) : (s.tickFree).l2 = s.l2 := rfl
@[simp] theorem tickFree_waysOut (s : State) : (s.tickFree).waysOut = s.waysOut := rfl
@[simp] theorem tickFree_mem (s : State) : (s.tickFree).mem = s.mem := rfl
@[simp] theorem tickFree_memKey (s : State) : (s.tickFree).memKey = s.memKey := rfl
@[simp] theorem tickFree_memBad (s : State) : (s.tickFree).memBad = s.memBad := rfl
@[simp] theorem tickFree_memue (s : State) : (s.tickFree).memue = s.memue := rfl
@[simp] theorem tickFree_guests (s : State) : (s.tickFree).guests = s.guests := rfl
@[simp] theorem tickFree_frame (s : State) : (s.tickFree).frame = s.frame := rfl
@[simp] theorem tickFree_plat (s : State) : (s.tickFree).plat = s.plat := rfl
@[simp] theorem tickFree_fab (s : State) : (s.tickFree).fab = s.fab := rfl
@[simp] theorem tickFree_inputs (s : State) : (s.tickFree).inputs = s.inputs := rfl
@[simp] theorem tickFree_grants (s : State) : (s.tickFree).grants = s.grants := rfl
@[simp] theorem tickFree_pays (s : State) : (s.tickFree).pays = s.pays := rfl
@[simp] theorem tickFree_memLog (s : State) : (s.tickFree).memLog = s.memLog := rfl
@[simp] theorem tickFree_l2Draws (s : State) : (s.tickFree).l2Draws = s.l2Draws := rfl
@[simp] theorem tickFree_invals (s : State) : (s.tickFree).invals = s.invals := rfl
@[simp] theorem tickFree_parked (s : State) : (s.tickFree).parked = s.parked := rfl
@[simp] theorem tickFree_hostEvs (s : State) : (s.tickFree).hostEvs = s.hostEvs := rfl
@[simp] theorem tickFree_msgs (s : State) : (s.tickFree).msgs = s.msgs := rfl
@[simp] theorem tickFree_flits (s : State) : (s.tickFree).flits = s.flits := rfl
@[simp] theorem tickFree_cx (s : State) : (s.tickFree).cx = s.cx := rfl

/-! ### raise -/

@[simp] theorem raise_now (s : State) (slot cause : Nat) (info : W64) : (s.raise slot cause info).now = s.now := rfl
@[simp] theorem raise_tb (s : State) (slot cause : Nat) (info : W64) : (s.raise slot cause info).tb = s.tb := rfl
@[simp] theorem raise_tbAcc (s : State) (slot cause : Nat) (info : W64) : (s.raise slot cause info).tbAcc = s.tbAcc := rfl
@[simp] theorem raise_ticked (s : State) (slot cause : Nat) (info : W64) : (s.raise slot cause info).ticked = s.ticked := rfl
@[simp] theorem raise_focus (s : State) (slot cause : Nat) (info : W64) : (s.raise slot cause info).focus = s.focus := rfl
@[simp] theorem raise_cores (s : State) (slot cause : Nat) (info : W64) : (s.raise slot cause info).cores = s.cores := rfl
@[simp] theorem raise_cls (s : State) (slot cause : Nat) (info : W64) : (s.raise slot cause info).cls = s.cls := rfl
@[simp] theorem raise_dies (s : State) (slot cause : Nat) (info : W64) : (s.raise slot cause info).dies = s.dies := rfl
@[simp] theorem raise_buckets (s : State) (slot cause : Nat) (info : W64) : (s.raise slot cause info).buckets = s.buckets := rfl
@[simp] theorem raise_wheels (s : State) (slot cause : Nat) (info : W64) : (s.raise slot cause info).wheels = s.wheels := rfl
@[simp] theorem raise_held (s : State) (slot cause : Nat) (info : W64) : (s.raise slot cause info).held = s.held := rfl
@[simp] theorem raise_l2 (s : State) (slot cause : Nat) (info : W64) : (s.raise slot cause info).l2 = s.l2 := rfl
@[simp] theorem raise_waysOut (s : State) (slot cause : Nat) (info : W64) : (s.raise slot cause info).waysOut = s.waysOut := rfl
@[simp] theorem raise_mem (s : State) (slot cause : Nat) (info : W64) : (s.raise slot cause info).mem = s.mem := rfl
@[simp] theorem raise_memKey (s : State) (slot cause : Nat) (info : W64) : (s.raise slot cause info).memKey = s.memKey := rfl
@[simp] theorem raise_memBad (s : State) (slot cause : Nat) (info : W64) : (s.raise slot cause info).memBad = s.memBad := rfl
@[simp] theorem raise_memue (s : State) (slot cause : Nat) (info : W64) : (s.raise slot cause info).memue = s.memue := rfl
@[simp] theorem raise_guests (s : State) (slot cause : Nat) (info : W64) : (s.raise slot cause info).guests = s.guests := rfl
@[simp] theorem raise_frame (s : State) (slot cause : Nat) (info : W64) : (s.raise slot cause info).frame = s.frame := rfl
@[simp] theorem raise_plat (s : State) (slot cause : Nat) (info : W64) : (s.raise slot cause info).plat = s.plat := rfl
@[simp] theorem raise_fab (s : State) (slot cause : Nat) (info : W64) : (s.raise slot cause info).fab = s.fab := rfl
@[simp] theorem raise_inputs (s : State) (slot cause : Nat) (info : W64) : (s.raise slot cause info).inputs = s.inputs := rfl
@[simp] theorem raise_grants (s : State) (slot cause : Nat) (info : W64) : (s.raise slot cause info).grants = s.grants := rfl
@[simp] theorem raise_pays (s : State) (slot cause : Nat) (info : W64) : (s.raise slot cause info).pays = s.pays := rfl
@[simp] theorem raise_memLog (s : State) (slot cause : Nat) (info : W64) : (s.raise slot cause info).memLog = s.memLog := rfl
@[simp] theorem raise_l2Draws (s : State) (slot cause : Nat) (info : W64) : (s.raise slot cause info).l2Draws = s.l2Draws := rfl
@[simp] theorem raise_invals (s : State) (slot cause : Nat) (info : W64) : (s.raise slot cause info).invals = s.invals := rfl
@[simp] theorem raise_parked (s : State) (slot cause : Nat) (info : W64) : (s.raise slot cause info).parked = s.parked := rfl
@[simp] theorem raise_hostEvs (s : State) (slot cause : Nat) (info : W64) : (s.raise slot cause info).hostEvs = s.hostEvs := rfl
@[simp] theorem raise_msgs (s : State) (slot cause : Nat) (info : W64) : (s.raise slot cause info).msgs = s.msgs := rfl
@[simp] theorem raise_flits (s : State) (slot cause : Nat) (info : W64) : (s.raise slot cause info).flits = s.flits := rfl
@[simp] theorem raise_free (s : State) (slot cause : Nat) (info : W64) : (s.raise slot cause info).free = s.free := rfl

/-! ### stallOn -/

@[simp] theorem stallOn_now (s : State) (row : Nat) : (s.stallOn row).now = s.now := rfl
@[simp] theorem stallOn_tb (s : State) (row : Nat) : (s.stallOn row).tb = s.tb := rfl
@[simp] theorem stallOn_tbAcc (s : State) (row : Nat) : (s.stallOn row).tbAcc = s.tbAcc := rfl
@[simp] theorem stallOn_ticked (s : State) (row : Nat) : (s.stallOn row).ticked = s.ticked := rfl
@[simp] theorem stallOn_focus (s : State) (row : Nat) : (s.stallOn row).focus = s.focus := rfl
@[simp] theorem stallOn_cores (s : State) (row : Nat) : (s.stallOn row).cores = s.cores := rfl
@[simp] theorem stallOn_cls (s : State) (row : Nat) : (s.stallOn row).cls = s.cls := rfl
@[simp] theorem stallOn_dies (s : State) (row : Nat) : (s.stallOn row).dies = s.dies := rfl
@[simp] theorem stallOn_buckets (s : State) (row : Nat) : (s.stallOn row).buckets = s.buckets := rfl
@[simp] theorem stallOn_wheels (s : State) (row : Nat) : (s.stallOn row).wheels = s.wheels := rfl
@[simp] theorem stallOn_held (s : State) (row : Nat) : (s.stallOn row).held = s.held := rfl
@[simp] theorem stallOn_l2 (s : State) (row : Nat) : (s.stallOn row).l2 = s.l2 := rfl
@[simp] theorem stallOn_waysOut (s : State) (row : Nat) : (s.stallOn row).waysOut = s.waysOut := rfl
@[simp] theorem stallOn_mem (s : State) (row : Nat) : (s.stallOn row).mem = s.mem := rfl
@[simp] theorem stallOn_memKey (s : State) (row : Nat) : (s.stallOn row).memKey = s.memKey := rfl
@[simp] theorem stallOn_memBad (s : State) (row : Nat) : (s.stallOn row).memBad = s.memBad := rfl
@[simp] theorem stallOn_memue (s : State) (row : Nat) : (s.stallOn row).memue = s.memue := rfl
@[simp] theorem stallOn_guests (s : State) (row : Nat) : (s.stallOn row).guests = s.guests := rfl
@[simp] theorem stallOn_frame (s : State) (row : Nat) : (s.stallOn row).frame = s.frame := rfl
@[simp] theorem stallOn_plat (s : State) (row : Nat) : (s.stallOn row).plat = s.plat := rfl
@[simp] theorem stallOn_fab (s : State) (row : Nat) : (s.stallOn row).fab = s.fab := rfl
@[simp] theorem stallOn_inputs (s : State) (row : Nat) : (s.stallOn row).inputs = s.inputs := rfl
@[simp] theorem stallOn_grants (s : State) (row : Nat) : (s.stallOn row).grants = s.grants := rfl
@[simp] theorem stallOn_pays (s : State) (row : Nat) : (s.stallOn row).pays = s.pays := rfl
@[simp] theorem stallOn_memLog (s : State) (row : Nat) : (s.stallOn row).memLog = s.memLog := rfl
@[simp] theorem stallOn_l2Draws (s : State) (row : Nat) : (s.stallOn row).l2Draws = s.l2Draws := rfl
@[simp] theorem stallOn_invals (s : State) (row : Nat) : (s.stallOn row).invals = s.invals := rfl
@[simp] theorem stallOn_parked (s : State) (row : Nat) : (s.stallOn row).parked = s.parked := rfl
@[simp] theorem stallOn_hostEvs (s : State) (row : Nat) : (s.stallOn row).hostEvs = s.hostEvs := rfl
@[simp] theorem stallOn_msgs (s : State) (row : Nat) : (s.stallOn row).msgs = s.msgs := rfl
@[simp] theorem stallOn_flits (s : State) (row : Nat) : (s.stallOn row).flits = s.flits := rfl
@[simp] theorem stallOn_free (s : State) (row : Nat) : (s.stallOn row).free = s.free := rfl

/-! ### holdNext -/

@[simp] theorem holdNext_now (s : State) (n : Nat) : (s.holdNext n).now = s.now := rfl
@[simp] theorem holdNext_tb (s : State) (n : Nat) : (s.holdNext n).tb = s.tb := rfl
@[simp] theorem holdNext_tbAcc (s : State) (n : Nat) : (s.holdNext n).tbAcc = s.tbAcc := rfl
@[simp] theorem holdNext_ticked (s : State) (n : Nat) : (s.holdNext n).ticked = s.ticked := rfl
@[simp] theorem holdNext_focus (s : State) (n : Nat) : (s.holdNext n).focus = s.focus := rfl
@[simp] theorem holdNext_cores (s : State) (n : Nat) : (s.holdNext n).cores = s.cores := rfl
@[simp] theorem holdNext_cls (s : State) (n : Nat) : (s.holdNext n).cls = s.cls := rfl
@[simp] theorem holdNext_dies (s : State) (n : Nat) : (s.holdNext n).dies = s.dies := rfl
@[simp] theorem holdNext_buckets (s : State) (n : Nat) : (s.holdNext n).buckets = s.buckets := rfl
@[simp] theorem holdNext_wheels (s : State) (n : Nat) : (s.holdNext n).wheels = s.wheels := rfl
@[simp] theorem holdNext_held (s : State) (n : Nat) : (s.holdNext n).held = s.held := rfl
@[simp] theorem holdNext_l2 (s : State) (n : Nat) : (s.holdNext n).l2 = s.l2 := rfl
@[simp] theorem holdNext_waysOut (s : State) (n : Nat) : (s.holdNext n).waysOut = s.waysOut := rfl
@[simp] theorem holdNext_mem (s : State) (n : Nat) : (s.holdNext n).mem = s.mem := rfl
@[simp] theorem holdNext_memKey (s : State) (n : Nat) : (s.holdNext n).memKey = s.memKey := rfl
@[simp] theorem holdNext_memBad (s : State) (n : Nat) : (s.holdNext n).memBad = s.memBad := rfl
@[simp] theorem holdNext_memue (s : State) (n : Nat) : (s.holdNext n).memue = s.memue := rfl
@[simp] theorem holdNext_guests (s : State) (n : Nat) : (s.holdNext n).guests = s.guests := rfl
@[simp] theorem holdNext_frame (s : State) (n : Nat) : (s.holdNext n).frame = s.frame := rfl
@[simp] theorem holdNext_plat (s : State) (n : Nat) : (s.holdNext n).plat = s.plat := rfl
@[simp] theorem holdNext_fab (s : State) (n : Nat) : (s.holdNext n).fab = s.fab := rfl
@[simp] theorem holdNext_inputs (s : State) (n : Nat) : (s.holdNext n).inputs = s.inputs := rfl
@[simp] theorem holdNext_grants (s : State) (n : Nat) : (s.holdNext n).grants = s.grants := rfl
@[simp] theorem holdNext_pays (s : State) (n : Nat) : (s.holdNext n).pays = s.pays := rfl
@[simp] theorem holdNext_memLog (s : State) (n : Nat) : (s.holdNext n).memLog = s.memLog := rfl
@[simp] theorem holdNext_l2Draws (s : State) (n : Nat) : (s.holdNext n).l2Draws = s.l2Draws := rfl
@[simp] theorem holdNext_invals (s : State) (n : Nat) : (s.holdNext n).invals = s.invals := rfl
@[simp] theorem holdNext_parked (s : State) (n : Nat) : (s.holdNext n).parked = s.parked := rfl
@[simp] theorem holdNext_hostEvs (s : State) (n : Nat) : (s.holdNext n).hostEvs = s.hostEvs := rfl
@[simp] theorem holdNext_msgs (s : State) (n : Nat) : (s.holdNext n).msgs = s.msgs := rfl
@[simp] theorem holdNext_flits (s : State) (n : Nat) : (s.holdNext n).flits = s.flits := rfl
@[simp] theorem holdNext_free (s : State) (n : Nat) : (s.holdNext n).free = s.free := rfl

/-! ### hostEv -/

@[simp] theorem hostEv_now (s : State) (c d a : Nat) : (s.hostEv c d a).now = s.now := rfl
@[simp] theorem hostEv_tb (s : State) (c d a : Nat) : (s.hostEv c d a).tb = s.tb := rfl
@[simp] theorem hostEv_tbAcc (s : State) (c d a : Nat) : (s.hostEv c d a).tbAcc = s.tbAcc := rfl
@[simp] theorem hostEv_ticked (s : State) (c d a : Nat) : (s.hostEv c d a).ticked = s.ticked := rfl
@[simp] theorem hostEv_focus (s : State) (c d a : Nat) : (s.hostEv c d a).focus = s.focus := rfl
@[simp] theorem hostEv_cores (s : State) (c d a : Nat) : (s.hostEv c d a).cores = s.cores := rfl
@[simp] theorem hostEv_cls (s : State) (c d a : Nat) : (s.hostEv c d a).cls = s.cls := rfl
@[simp] theorem hostEv_dies (s : State) (c d a : Nat) : (s.hostEv c d a).dies = s.dies := rfl
@[simp] theorem hostEv_buckets (s : State) (c d a : Nat) : (s.hostEv c d a).buckets = s.buckets := rfl
@[simp] theorem hostEv_wheels (s : State) (c d a : Nat) : (s.hostEv c d a).wheels = s.wheels := rfl
@[simp] theorem hostEv_held (s : State) (c d a : Nat) : (s.hostEv c d a).held = s.held := rfl
@[simp] theorem hostEv_l2 (s : State) (c d a : Nat) : (s.hostEv c d a).l2 = s.l2 := rfl
@[simp] theorem hostEv_waysOut (s : State) (c d a : Nat) : (s.hostEv c d a).waysOut = s.waysOut := rfl
@[simp] theorem hostEv_mem (s : State) (c d a : Nat) : (s.hostEv c d a).mem = s.mem := rfl
@[simp] theorem hostEv_memKey (s : State) (c d a : Nat) : (s.hostEv c d a).memKey = s.memKey := rfl
@[simp] theorem hostEv_memBad (s : State) (c d a : Nat) : (s.hostEv c d a).memBad = s.memBad := rfl
@[simp] theorem hostEv_memue (s : State) (c d a : Nat) : (s.hostEv c d a).memue = s.memue := rfl
@[simp] theorem hostEv_guests (s : State) (c d a : Nat) : (s.hostEv c d a).guests = s.guests := rfl
@[simp] theorem hostEv_frame (s : State) (c d a : Nat) : (s.hostEv c d a).frame = s.frame := rfl
@[simp] theorem hostEv_plat (s : State) (c d a : Nat) : (s.hostEv c d a).plat = s.plat := rfl
@[simp] theorem hostEv_fab (s : State) (c d a : Nat) : (s.hostEv c d a).fab = s.fab := rfl
@[simp] theorem hostEv_inputs (s : State) (c d a : Nat) : (s.hostEv c d a).inputs = s.inputs := rfl
@[simp] theorem hostEv_grants (s : State) (c d a : Nat) : (s.hostEv c d a).grants = s.grants := rfl
@[simp] theorem hostEv_pays (s : State) (c d a : Nat) : (s.hostEv c d a).pays = s.pays := rfl
@[simp] theorem hostEv_memLog (s : State) (c d a : Nat) : (s.hostEv c d a).memLog = s.memLog := rfl
@[simp] theorem hostEv_l2Draws (s : State) (c d a : Nat) : (s.hostEv c d a).l2Draws = s.l2Draws := rfl
@[simp] theorem hostEv_invals (s : State) (c d a : Nat) : (s.hostEv c d a).invals = s.invals := rfl
@[simp] theorem hostEv_parked (s : State) (c d a : Nat) : (s.hostEv c d a).parked = s.parked := rfl
@[simp] theorem hostEv_msgs (s : State) (c d a : Nat) : (s.hostEv c d a).msgs = s.msgs := rfl
@[simp] theorem hostEv_flits (s : State) (c d a : Nat) : (s.hostEv c d a).flits = s.flits := rfl
@[simp] theorem hostEv_free (s : State) (c d a : Nat) : (s.hostEv c d a).free = s.free := rfl
@[simp] theorem hostEv_cx (s : State) (c d a : Nat) : (s.hostEv c d a).cx = s.cx := rfl

/-! ### hostIrq -/

@[simp] theorem hostIrq_now (s : State) (v : Nat) : (s.hostIrq v).now = s.now := rfl
@[simp] theorem hostIrq_tb (s : State) (v : Nat) : (s.hostIrq v).tb = s.tb := rfl
@[simp] theorem hostIrq_tbAcc (s : State) (v : Nat) : (s.hostIrq v).tbAcc = s.tbAcc := rfl
@[simp] theorem hostIrq_ticked (s : State) (v : Nat) : (s.hostIrq v).ticked = s.ticked := rfl
@[simp] theorem hostIrq_focus (s : State) (v : Nat) : (s.hostIrq v).focus = s.focus := rfl
@[simp] theorem hostIrq_cores (s : State) (v : Nat) : (s.hostIrq v).cores = s.cores := rfl
@[simp] theorem hostIrq_cls (s : State) (v : Nat) : (s.hostIrq v).cls = s.cls := rfl
@[simp] theorem hostIrq_dies (s : State) (v : Nat) : (s.hostIrq v).dies = s.dies := rfl
@[simp] theorem hostIrq_buckets (s : State) (v : Nat) : (s.hostIrq v).buckets = s.buckets := rfl
@[simp] theorem hostIrq_wheels (s : State) (v : Nat) : (s.hostIrq v).wheels = s.wheels := rfl
@[simp] theorem hostIrq_held (s : State) (v : Nat) : (s.hostIrq v).held = s.held := rfl
@[simp] theorem hostIrq_l2 (s : State) (v : Nat) : (s.hostIrq v).l2 = s.l2 := rfl
@[simp] theorem hostIrq_waysOut (s : State) (v : Nat) : (s.hostIrq v).waysOut = s.waysOut := rfl
@[simp] theorem hostIrq_mem (s : State) (v : Nat) : (s.hostIrq v).mem = s.mem := rfl
@[simp] theorem hostIrq_memKey (s : State) (v : Nat) : (s.hostIrq v).memKey = s.memKey := rfl
@[simp] theorem hostIrq_memBad (s : State) (v : Nat) : (s.hostIrq v).memBad = s.memBad := rfl
@[simp] theorem hostIrq_memue (s : State) (v : Nat) : (s.hostIrq v).memue = s.memue := rfl
@[simp] theorem hostIrq_guests (s : State) (v : Nat) : (s.hostIrq v).guests = s.guests := rfl
@[simp] theorem hostIrq_frame (s : State) (v : Nat) : (s.hostIrq v).frame = s.frame := rfl
theorem hostIrq_plat (s : State) (v : Nat) (h : (s.plat.pfIrq.get {} v).masked = false) : (s.hostIrq v).plat = s.plat := by
  simp [State.hostIrq, h]
theorem hostIrq_msgs (s : State) (v : Nat) (h : (s.plat.pfIrq.get {} v).masked = false) :
    (s.hostIrq v).msgs = s.msgs ++ [(0, v)] := by
  simp [State.hostIrq, h]
@[simp] theorem hostIrq_plat_stage (s : State) (v : Nat) : (s.hostIrq v).plat.stage = s.plat.stage := by
  unfold State.hostIrq; dsimp only; split <;> rfl
@[simp] theorem hostIrq_fab (s : State) (v : Nat) : (s.hostIrq v).fab = s.fab := rfl
@[simp] theorem hostIrq_inputs (s : State) (v : Nat) : (s.hostIrq v).inputs = s.inputs := rfl
@[simp] theorem hostIrq_grants (s : State) (v : Nat) : (s.hostIrq v).grants = s.grants := rfl
@[simp] theorem hostIrq_pays (s : State) (v : Nat) : (s.hostIrq v).pays = s.pays := rfl
@[simp] theorem hostIrq_memLog (s : State) (v : Nat) : (s.hostIrq v).memLog = s.memLog := rfl
@[simp] theorem hostIrq_l2Draws (s : State) (v : Nat) : (s.hostIrq v).l2Draws = s.l2Draws := rfl
@[simp] theorem hostIrq_invals (s : State) (v : Nat) : (s.hostIrq v).invals = s.invals := rfl
@[simp] theorem hostIrq_parked (s : State) (v : Nat) : (s.hostIrq v).parked = s.parked := rfl
@[simp] theorem hostIrq_hostEvs (s : State) (v : Nat) : (s.hostIrq v).hostEvs = s.hostEvs := rfl
@[simp] theorem hostIrq_flits (s : State) (v : Nat) : (s.hostIrq v).flits = s.flits := rfl
@[simp] theorem hostIrq_free (s : State) (v : Nat) : (s.hostIrq v).free = s.free := rfl
@[simp] theorem hostIrq_cx (s : State) (v : Nat) : (s.hostIrq v).cx = s.cx := rfl

/-! ### replayEnd -/

@[simp] theorem replayEnd_now (s : State) (g r : Nat) : (s.replayEnd g r).now = s.now := rfl
@[simp] theorem replayEnd_tb (s : State) (g r : Nat) : (s.replayEnd g r).tb = s.tb := rfl
@[simp] theorem replayEnd_tbAcc (s : State) (g r : Nat) : (s.replayEnd g r).tbAcc = s.tbAcc := rfl
@[simp] theorem replayEnd_ticked (s : State) (g r : Nat) : (s.replayEnd g r).ticked = s.ticked := rfl
@[simp] theorem replayEnd_focus (s : State) (g r : Nat) : (s.replayEnd g r).focus = s.focus := rfl
@[simp] theorem replayEnd_cores (s : State) (g r : Nat) : (s.replayEnd g r).cores = s.cores := rfl
@[simp] theorem replayEnd_cls (s : State) (g r : Nat) : (s.replayEnd g r).cls = s.cls := rfl
@[simp] theorem replayEnd_dies (s : State) (g r : Nat) : (s.replayEnd g r).dies = s.dies := rfl
@[simp] theorem replayEnd_buckets (s : State) (g r : Nat) : (s.replayEnd g r).buckets = s.buckets := rfl
@[simp] theorem replayEnd_wheels (s : State) (g r : Nat) : (s.replayEnd g r).wheels = s.wheels := rfl
@[simp] theorem replayEnd_held (s : State) (g r : Nat) : (s.replayEnd g r).held = s.held := rfl
@[simp] theorem replayEnd_l2 (s : State) (g r : Nat) : (s.replayEnd g r).l2 = s.l2 := rfl
@[simp] theorem replayEnd_waysOut (s : State) (g r : Nat) : (s.replayEnd g r).waysOut = s.waysOut := rfl
@[simp] theorem replayEnd_mem (s : State) (g r : Nat) : (s.replayEnd g r).mem = s.mem := rfl
@[simp] theorem replayEnd_memKey (s : State) (g r : Nat) : (s.replayEnd g r).memKey = s.memKey := rfl
@[simp] theorem replayEnd_memBad (s : State) (g r : Nat) : (s.replayEnd g r).memBad = s.memBad := rfl
@[simp] theorem replayEnd_memue (s : State) (g r : Nat) : (s.replayEnd g r).memue = s.memue := rfl
@[simp] theorem replayEnd_frame (s : State) (g r : Nat) : (s.replayEnd g r).frame = s.frame := rfl
@[simp] theorem replayEnd_plat (s : State) (g r : Nat) : (s.replayEnd g r).plat = s.plat := rfl
@[simp] theorem replayEnd_fab (s : State) (g r : Nat) : (s.replayEnd g r).fab = s.fab := rfl
@[simp] theorem replayEnd_inputs (s : State) (g r : Nat) : (s.replayEnd g r).inputs = s.inputs := rfl
@[simp] theorem replayEnd_grants (s : State) (g r : Nat) : (s.replayEnd g r).grants = s.grants := rfl
@[simp] theorem replayEnd_pays (s : State) (g r : Nat) : (s.replayEnd g r).pays = s.pays := rfl
@[simp] theorem replayEnd_memLog (s : State) (g r : Nat) : (s.replayEnd g r).memLog = s.memLog := rfl
@[simp] theorem replayEnd_l2Draws (s : State) (g r : Nat) : (s.replayEnd g r).l2Draws = s.l2Draws := rfl
@[simp] theorem replayEnd_invals (s : State) (g r : Nat) : (s.replayEnd g r).invals = s.invals := rfl
@[simp] theorem replayEnd_parked (s : State) (g r : Nat) : (s.replayEnd g r).parked = s.parked := rfl
@[simp] theorem replayEnd_hostEvs (s : State) (g r : Nat) : (s.replayEnd g r).hostEvs = s.hostEvs := rfl
@[simp] theorem replayEnd_msgs (s : State) (g r : Nat) : (s.replayEnd g r).msgs = s.msgs := rfl
@[simp] theorem replayEnd_flits (s : State) (g r : Nat) : (s.replayEnd g r).flits = s.flits := rfl
@[simp] theorem replayEnd_free (s : State) (g r : Nat) : (s.replayEnd g r).free = s.free := rfl
@[simp] theorem replayEnd_cx (s : State) (g r : Nat) : (s.replayEnd g r).cx = s.cx := rfl

/-! ### evAdd -/

@[simp] theorem evAdd_now (s : State) (g e v : Nat) : (s.evAdd g e v).now = s.now := rfl
@[simp] theorem evAdd_tb (s : State) (g e v : Nat) : (s.evAdd g e v).tb = s.tb := rfl
@[simp] theorem evAdd_tbAcc (s : State) (g e v : Nat) : (s.evAdd g e v).tbAcc = s.tbAcc := rfl
@[simp] theorem evAdd_ticked (s : State) (g e v : Nat) : (s.evAdd g e v).ticked = s.ticked := rfl
@[simp] theorem evAdd_focus (s : State) (g e v : Nat) : (s.evAdd g e v).focus = s.focus := rfl
@[simp] theorem evAdd_cores (s : State) (g e v : Nat) : (s.evAdd g e v).cores = s.cores := rfl
@[simp] theorem evAdd_cls (s : State) (g e v : Nat) : (s.evAdd g e v).cls = s.cls := rfl
@[simp] theorem evAdd_dies (s : State) (g e v : Nat) : (s.evAdd g e v).dies = s.dies := rfl
@[simp] theorem evAdd_buckets (s : State) (g e v : Nat) : (s.evAdd g e v).buckets = s.buckets := rfl
@[simp] theorem evAdd_wheels (s : State) (g e v : Nat) : (s.evAdd g e v).wheels = s.wheels := rfl
@[simp] theorem evAdd_held (s : State) (g e v : Nat) : (s.evAdd g e v).held = s.held := rfl
@[simp] theorem evAdd_l2 (s : State) (g e v : Nat) : (s.evAdd g e v).l2 = s.l2 := rfl
@[simp] theorem evAdd_waysOut (s : State) (g e v : Nat) : (s.evAdd g e v).waysOut = s.waysOut := rfl
@[simp] theorem evAdd_mem (s : State) (g e v : Nat) : (s.evAdd g e v).mem = s.mem := rfl
@[simp] theorem evAdd_memKey (s : State) (g e v : Nat) : (s.evAdd g e v).memKey = s.memKey := rfl
@[simp] theorem evAdd_memBad (s : State) (g e v : Nat) : (s.evAdd g e v).memBad = s.memBad := rfl
@[simp] theorem evAdd_memue (s : State) (g e v : Nat) : (s.evAdd g e v).memue = s.memue := rfl
@[simp] theorem evAdd_frame (s : State) (g e v : Nat) : (s.evAdd g e v).frame = s.frame := rfl
@[simp] theorem evAdd_plat (s : State) (g e v : Nat) : (s.evAdd g e v).plat = s.plat := rfl
@[simp] theorem evAdd_fab (s : State) (g e v : Nat) : (s.evAdd g e v).fab = s.fab := rfl
@[simp] theorem evAdd_inputs (s : State) (g e v : Nat) : (s.evAdd g e v).inputs = s.inputs := rfl
@[simp] theorem evAdd_grants (s : State) (g e v : Nat) : (s.evAdd g e v).grants = s.grants := rfl
@[simp] theorem evAdd_pays (s : State) (g e v : Nat) : (s.evAdd g e v).pays = s.pays := rfl
@[simp] theorem evAdd_memLog (s : State) (g e v : Nat) : (s.evAdd g e v).memLog = s.memLog := rfl
@[simp] theorem evAdd_l2Draws (s : State) (g e v : Nat) : (s.evAdd g e v).l2Draws = s.l2Draws := rfl
@[simp] theorem evAdd_invals (s : State) (g e v : Nat) : (s.evAdd g e v).invals = s.invals := rfl
@[simp] theorem evAdd_parked (s : State) (g e v : Nat) : (s.evAdd g e v).parked = s.parked := rfl
@[simp] theorem evAdd_hostEvs (s : State) (g e v : Nat) : (s.evAdd g e v).hostEvs = s.hostEvs := rfl
@[simp] theorem evAdd_msgs (s : State) (g e v : Nat) : (s.evAdd g e v).msgs = s.msgs := rfl
@[simp] theorem evAdd_flits (s : State) (g e v : Nat) : (s.evAdd g e v).flits = s.flits := rfl
@[simp] theorem evAdd_free (s : State) (g e v : Nat) : (s.evAdd g e v).free = s.free := rfl
@[simp] theorem evAdd_cx (s : State) (g e v : Nat) : (s.evAdd g e v).cx = s.cx := rfl

/-! ### The parts after a change -/

@[simp] theorem coreAt_modCoreAt_self (s : State) (n : Nat) (f : Core → Core) : (s.modCoreAt n f).coreAt n = f (s.coreAt n) := by
  simp [State.modCoreAt, State.coreAt]

theorem coreAt_modCoreAt_ne (s : State) (n m : Nat) (f : Core → Core) (h : m ≠ n) : (s.modCoreAt n f).coreAt m = s.coreAt m := by
  simp [State.modCoreAt, State.coreAt, Tab.get_set_ne _ _ _ _ _ h]

@[simp] theorem core_modCore (s : State) (f : Core → Core) : (s.modCore f).core = f s.core := by
  simp [State.modCore, State.core, State.modCoreAt, State.coreAt]

theorem coreAt_modCore_ne (s : State) (m : Nat) (f : Core → Core) (h : m ≠ s.focus) : (s.modCore f).coreAt m = s.coreAt m :=
  coreAt_modCoreAt_ne s s.focus m f h

@[simp] theorem core_modSync (s : State) (f : Sync → Sync) : (s.modSync f).core = { s.core with sync := f s.core.sync } :=
  core_modCore s _

@[simp] theorem clAt_modCl_self (s : State) (i : Nat) (f : Cluster → Cluster) : (s.modCl i f).clAt i = f (s.clAt i) := by
  simp [State.modCl, State.clAt]

theorem clAt_modCl_ne (s : State) (i j : Nat) (f : Cluster → Cluster) (h : j ≠ i) : (s.modCl i f).clAt j = s.clAt j := by
  simp [State.modCl, State.clAt, Tab.get_set_ne _ _ _ _ _ h]

@[simp] theorem dieAt_modDie_self (s : State) (i : Nat) (f : Die → Die) : (s.modDie i f).dieAt i = f (s.dieAt i) := by
  simp [State.modDie, State.dieAt]

@[simp] theorem guestAt_modGuest_self (s : State) (g : Nat) (f : Guest → Guest) : (s.modGuest g f).guestAt g = f (s.guestAt g) := by
  simp [State.modGuest, State.guestAt]

theorem guestAt_modGuest_ne (s : State) (g h : Nat) (f : Guest → Guest) (hn : h ≠ g) : (s.modGuest g f).guestAt h = s.guestAt h := by
  simp [State.modGuest, State.guestAt, Tab.get_set_ne _ _ _ _ _ hn]

@[simp] theorem core_modGuest (s : State) (g : Nat) (f : Guest → Guest) : (s.modGuest g f).core = s.core := rfl
@[simp] theorem core_modCl (s : State) (i : Nat) (f : Cluster → Cluster) : (s.modCl i f).core = s.core := rfl
@[simp] theorem core_raise (s : State) (k c : Nat) (i : W64) : (s.raise k c i).core = s.core := rfl
@[simp] theorem core_stallOn (s : State) (r : Nat) : (s.stallOn r).core = s.core := rfl
@[simp] theorem core_holdNext (s : State) (n : Nat) : (s.holdNext n).core = s.core := rfl
@[simp] theorem core_tickFree (s : State) : s.tickFree.core = s.core := rfl

theorem modCore_modCore (s : State) (f g : Core → Core) : (s.modCore f).modCore g = s.modCore (fun k => g (f k)) := by
  have h : ∀ (t : Tab Core) (n : Nat) (a b : Core), (t.set n a).set n b = t.set n b := by
    intro t n a b
    induction t with
    | nil => simp [Tab.set]
    | cons c t ih =>
      obtain ⟨j, w⟩ := c
      simp only [Tab.set]
      split
      · simp [Tab.set]
      · split
        · simp [Tab.set]
        · rename_i h1 h2; simp [Tab.set, h1, h2, ih]
  simp [State.modCore, State.modCoreAt, State.coreAt, h]

theorem modSync_modSync (s : State) (f g : Sync → Sync) : (s.modSync f).modSync g = s.modSync (fun y => g (f y)) :=
  modCore_modCore s _ _

end Sys2Proof.Machine
end

