-- ==== Sys2Proof/Laws/Registers.lean ====
section
/-! SUPPORT. What the writes of registers and of WARN can do: each changes its register and nothing else. -/

namespace Sys2Proof.Machine

/-! ### Frames compose -/

theorem modSync_const (s : State) (f : Sync → Sync) : s.modSync f = s.modSync (fun _ => f s.core.sync) := rfl

theorem Sync.AgreeOn.refl (keep : RegFile → Nat → Prop) (y : Sync) : Sync.AgreeOn keep y y := by
  constructor <;> intros <;> rfl

theorem Sync.AgreeControl.refl (y : Sync) : Sync.AgreeControl y y := by constructor <;> rfl

theorem Sync.AgreeOn.trans {keep : RegFile → Nat → Prop} {x y z : Sync} (h : Sync.AgreeOn keep x y) (h' : Sync.AgreeOn keep y z) :
    Sync.AgreeOn keep x z where
  s := fun i k => (h'.s i k).trans (h.s i k)
  handler := fun i k => (h'.handler i k).trans (h.handler i k)
  g := fun i k => (h'.g i k).trans (h.g i k)
  a := fun i k => (h'.a i k).trans (h.a i k)
  b := fun i k => (h'.b i k).trans (h.b i k)
  k := fun i k => (h'.k i k).trans (h.k i k)
  x := fun i k => (h'.x i k).trans (h.x i k)
  w := fun i k => (h'.w i k).trans (h.w i k)
  y := fun i k => (h'.y i k).trans (h.y i k)
  h := fun i k => (h'.h i k).trans (h.h i k)
  j := fun i k => (h'.j i k).trans (h.j i k)
  agesA := fun i l k => (h'.agesA i l k).trans (h.agesA i l k)
  agesB := fun i l k => (h'.agesB i l k).trans (h.agesB i l k)
  coveredA := fun i l k d => (h'.coveredA i l k d).trans (h.coveredA i l k d)
  coveredB := fun i l k d => (h'.coveredB i l k d).trans (h.coveredB i l k d)

theorem Sync.AgreeControl.trans {x y z : Sync} (h : Sync.AgreeControl x y) (h' : Sync.AgreeControl y z) : Sync.AgreeControl x z where
  pc := h'.pc.trans h.pc
  rrb := h'.rrb.trans h.rrb
  ldepth := h'.ldepth.trans h.ldepth
  loop := h'.loop.trans h.loop
  streams := h'.streams.trans h.streams
  rings := h'.rings.trans h.rings
  zst := h'.zst.trans h.zst
  zclr := h'.zclr.trans h.zclr
  lp := h'.lp.trans h.lp
  twin := h'.twin.trans h.twin

theorem modSync_cx_core (s : State) (y : Sync) (c : BCtx) :
    (({ s.modSync (fun _ => y) with cx := c } : State)).core = { s.core with sync := y } :=
  core_modSync s (fun _ => y)

/-- What a frame asks of a state with another synchronous state y and other WARN bits of the bundle. -/
theorem frame_mk {keep : RegFile → Nat → Prop} {bits : List Nat} {s : State} (y : Sync) (w : Nat)
    (ha : Sync.AgreeOn keep s.core.sync y) (hc : Sync.AgreeControl s.core.sync y) (hr : y.rng = s.core.sync.rng)
    (hw : ∀ n, n ∉ bits → y.warn.testBit n = s.core.sync.warn.testBit n)
    (hk : ∀ n, s.core.sync.warn.testBit n = true → y.warn.testBit n = true) :
    s.Frame keep bits { s.modSync (fun _ => y) with cx := { s.cx with warn := w } } := by
  have e := modSync_cx_core s y { s.cx with warn := w }
  unfold State.Frame
  rw [e]
  exact ⟨.inr ⟨w, rfl⟩, ha, hc, hr, hw, hk, fun _ => rfl⟩

/-- A frame that changes the synchronous state to y. -/
theorem frame_of (keep : RegFile → Nat → Prop) (bits : List Nat) (s : State) (f : Sync → Sync)
    (ha : Sync.AgreeOn keep s.core.sync (f s.core.sync)) (hc : Sync.AgreeControl s.core.sync (f s.core.sync))
    (hr : (f s.core.sync).rng = s.core.sync.rng) (hw : (f s.core.sync).warn = s.core.sync.warn) :
    s.Frame keep bits (s.modSync f) :=
  frame_mk (f s.core.sync) s.cx.warn ha hc hr (fun n _ => by rw [hw]) (fun n h => by rw [hw]; exact h)

/-- Nothing changes. -/
theorem frame_refl (keep : RegFile → Nat → Prop) (bits : List Nat) (s : State) : s.Frame keep bits s :=
  ⟨.inl rfl, Sync.AgreeOn.refl _ _, Sync.AgreeControl.refl _, rfl, fun _ _ => rfl, fun _ h => h, fun _ => rfl⟩

/-- Frames compose. -/
theorem frame_trans {keep : RegFile → Nat → Prop} {bits : List Nat} {s t u : State} (h : s.Frame keep bits t)
    (h' : t.Frame keep bits u) : s.Frame keep bits u := by
  obtain ⟨e, ha, hc, hr, hw, hk, hm⟩ := h
  obtain ⟨e', ha', hc', hr', hw', hk', hm'⟩ := h'
  refine ⟨?_, ha.trans ha', hc.trans hc', hr'.trans hr, fun n hn => (hw' n hn).trans (hw n hn), fun n hn => hk' n (hk n hn),
    fun a => (hm' a).trans (hm a)⟩
  rcases e with rfl | ⟨w, e⟩
  · exact e'
  · rcases e' with rfl | ⟨w', e'⟩
    · exact .inr ⟨w, e⟩
    · refine .inr ⟨w', e'.trans ?_⟩
      generalize u.core.sync = y
      subst_vars
      rw [e]
      have e2 : ({ s.modSync (fun _ => t.core.sync) with cx := { s.cx with warn := w } } : State).modSync (fun _ => y) =
          { (s.modSync (fun _ => t.core.sync)).modSync (fun _ => y) with cx := { s.cx with warn := w } } := rfl
      rw [e2, modSync_modSync]

/-- A frame allows whatever a narrower one does. -/
theorem frame_mono {keep keep' : RegFile → Nat → Prop} {bits bits' : List Nat} {s t : State} (h : s.Frame keep bits t)
    (hk : ∀ f i, keep' f i → keep f i) (hb : ∀ n, n ∈ bits → n ∈ bits') : s.Frame keep' bits' t := by
  obtain ⟨e, ha, hc, hr, hw, hs, hm⟩ := h
  exact ⟨e, ⟨fun i k => ha.s i (hk _ _ k), fun i k => ha.handler i (hk _ _ k), fun i k => ha.g i (hk _ _ k),
    fun i k => ha.a i (hk _ _ k), fun i k => ha.b i (hk _ _ k), fun i k => ha.k i (hk _ _ k), fun i k => ha.x i (hk _ _ k),
    fun i k => ha.w i (hk _ _ k), fun i k => ha.y i (hk _ _ k), fun i k => ha.h i (hk _ _ k), fun i k => ha.j i (hk _ _ k),
    fun i l k => ha.agesA i l (hk _ _ k), fun i l k => ha.agesB i l (hk _ _ k),
    fun i l k => ha.coveredA i l (hk _ _ k), fun i l k => ha.coveredB i l (hk _ _ k)⟩, hc, hr,
    fun n hn => hw n (fun c => hn (hb n c)), hs, hm⟩

/-! ### The writes -/

/-- Writing s register i changes that register alone, in the bank that the mode names (R109, R311). -/
theorem writeS_frame (s : State) (i : Nat) (v : W64) (lat : Nat) (bits : List Nat) :
    s.Frame (s.allButS i) bits (s.writeS i v lat) := by
  unfold State.writeS
  split
  · exact frame_refl _ _ _
  · refine frame_of _ _ _ _ ?_ ?_ ?_ ?_
    · constructor <;> intro j
      all_goals first
        | (intro _ hk; intros; simp only [Sync.landSet]; split <;> rfl)
        | (intro hk; simp only [Sync.landSet]; split <;> first | rfl | (refine Tab.get_set_ne _ _ _ _ _ ?_; simp_all [State.allButS]))
    all_goals (try constructor) <;> simp only [Sync.landSet] <;> split <;> rfl

/-- Writing guard i changes that guard alone (R110). -/
theorem writeG_frame (s : State) (i : Nat) (v : Bool) (lat : Nat) (bits : List Nat) :
    s.Frame (allButG i) bits (s.writeG i v lat) := by
  unfold State.writeG
  split
  · exact frame_refl _ _ _
  · refine frame_of _ _ _ _ ?_ ?_ rfl rfl
    · constructor <;> intro j
      all_goals first
        | (intro _ hk; intros; rfl)
        | (intro hk; first | rfl | exact Tab.get_set_ne _ _ _ _ _ hk)
    · constructor <;> rfl

theorem phys_lt (rrb r : Nat) : phys rrb r < 32 := by
  unfold phys
  split
  · omega
  · have := Nat.mod_lt (r - 16 + rrb) (show 0 < 16 by decide); omega

/-- A change of what later merges read of vector register p reaches no other register. -/
theorem covered_ne {b : Bool} {p : Nat} (hp : p < 32) (v : VReg) (y : Tab VReg) (late : Bool) (b' : Bool) {i : Nat} (hi : i < 32)
    (h : b' = b → i ≠ p) (d : VReg) :
    (if late = true then y.set (vKey b p) v else y.del (vKey b p)).get d (vKey b' i) = y.get d (vKey b' i) := by
  have hne : vKey b' i ≠ vKey b p := by
    intro e
    cases b <;> cases b' <;> simp [vKey, kA, kB] at e h <;> omega
  cases late
  · exact Tab.get_del_ne _ _ _ _ hne
  · exact Tab.get_set_ne _ _ _ _ _ hne

theorem vput_agree (b : Bool) (p : Nat) (hp : p < 32) (v v' : VReg) (late : Bool) (y : Sync) (l : Tab Nat)
    (keep : RegFile → Nat → Prop) (ha : ∀ i, keep .a i → b = true ∨ i ≠ p) (hb : ∀ i, keep .b i → b = false ∨ i ≠ p) :
    Sync.AgreeOn keep y
      (let z := { y with covered := if late = true then y.covered.set (vKey b p) v else y.covered.del (vKey b p) }
       { (if b then { z with b := z.b.set p v', ages := z.ages.del (32 + p) }
          else { z with a := z.a.set p v', ages := z.ages.del p }) with landing := l }) := by
  cases b
  · have ha' : ∀ i, keep .a i → i ≠ p := fun i h => (ha i h).resolve_left (by decide)
    exact {
      s := fun _ _ => rfl, handler := fun _ _ => rfl, g := fun _ _ => rfl, b := fun _ _ => rfl, k := fun _ _ => rfl
      x := fun _ _ => rfl, w := fun _ _ => rfl, y := fun _ _ => rfl, h := fun _ _ => rfl, j := fun _ _ => rfl
      a := fun i h => Tab.get_set_ne _ _ _ _ _ (ha' i h)
      agesA := fun i _ h => Tab.get_del_ne _ _ _ _ (ha' i h)
      agesB := fun i _ _ => Tab.get_del_ne _ _ _ _ (by omega)
      coveredA := fun i hi h d => covered_ne hp v _ late false hi (fun _ => ha' i h) d
      coveredB := fun i hi _ d => covered_ne hp v _ late true hi (fun e => by cases e) d }
  · have hb' : ∀ i, keep .b i → i ≠ p := fun i h => (hb i h).resolve_left (by decide)
    exact {
      s := fun _ _ => rfl, handler := fun _ _ => rfl, g := fun _ _ => rfl, a := fun _ _ => rfl, k := fun _ _ => rfl
      x := fun _ _ => rfl, w := fun _ _ => rfl, y := fun _ _ => rfl, h := fun _ _ => rfl, j := fun _ _ => rfl
      b := fun i h => Tab.get_set_ne _ _ _ _ _ (hb' i h)
      agesA := fun i l _ => Tab.get_del_ne _ _ _ _ (by omega)
      agesB := fun i _ h => Tab.get_del_ne _ _ _ _ (by have := hb' i h; omega)
      coveredA := fun i hi _ d => covered_ne hp v _ late false hi (fun e => by cases e) d
      coveredB := fun i hi h d => covered_ne hp v _ late true hi (fun _ => hb' i h) d }

theorem vput_control (b : Bool) (p : Nat) (v' : VReg) (y : Sync) (l : Tab Nat) (c : Tab VReg) :
    Sync.AgreeControl y
      (let z := { y with covered := c }
       { (if b then { z with b := z.b.set p v', ages := z.ages.del (32 + p) }
          else { z with a := z.a.set p v', ages := z.ages.del p }) with landing := l }) := by
  cases b <;> constructor <;> rfl

/-- Writing a vector register changes that register alone, and its age (R150, R272). -/
theorem writeV_frame (s : State) (b : Bool) (r : Nat) (v : VReg) (lat : Nat) (bits : List Nat) :
    s.Frame (s.allButV b r) bits (s.writeV b r v lat) := by
  unfold State.writeV
  refine frame_of _ _ _ _ ?_ ?_ ?_ ?_
  · exact vput_agree b _ (phys_lt _ _) _ _ _ _ _ _ (fun i h => h) (fun i h => h)
  · exact vput_control b _ _ _ _ _
  · cases b <;> rfl
  · cases b <;> rfl

/-- The same of a write that merges an earlier result (R149). -/
theorem writeVMerged_frame (s : State) (b : Bool) (r : Nat) (v : VReg) (lat : Nat) (bits : List Nat) :
    s.Frame (s.allButV b r) bits (s.writeVMerged b r v lat) := by
  unfold State.writeVMerged
  refine frame_of _ _ _ _ ?_ ?_ ?_ ?_
  · exact vput_agree b _ (phys_lt _ _) v _ false _ _ _ (fun i h => h) (fun i h => h)
  · exact vput_control b _ _ _ _ _
  · cases b <;> rfl
  · cases b <;> rfl

/-- Writing a mask register changes that register alone. -/
theorem writeK_frame (s : State) (i : Nat) (v : BitVec 256) (lat : Nat) (bits : List Nat) :
    s.Frame (allButK i) bits (s.writeK i v lat) := by
  unfold State.writeK
  refine frame_of _ _ _ _ ?_ ?_ rfl rfl
  · constructor <;> intro j
    all_goals first
      | (intro _ hk; intros; rfl)
      | (intro hk; first | rfl | exact Tab.get_set_ne _ _ _ _ _ hk)
  · constructor <;> rfl

/-- Every register but number i of the files that a predicate names. -/
def allButIn (p : RegFile → Prop) (i : Nat) (f : RegFile) (j : Nat) : Prop := p f → j ≠ i

theorem writeX_frame (s : State) (i : Nat) (v : Line) (lat : Nat) (bits : List Nat) :
    s.Frame (allButIn (· = .x) i) bits (s.writeX i v lat) := by
  refine frame_of _ _ _ _ ?_ ?_ rfl rfl
  · constructor <;> intro j
    all_goals first
      | (intro _ hk; intros; rfl)
      | (intro hk; first | rfl | exact Tab.get_set_ne _ _ _ _ _ (hk rfl))
  · constructor <;> rfl

theorem writeW_frame (s : State) (i : Nat) (v : BitVec 512) (lat : Nat) (bits : List Nat) :
    s.Frame (allButIn (· = .w) i) bits (s.writeW i v lat) := by
  refine frame_of _ _ _ _ ?_ ?_ rfl rfl
  · constructor <;> intro j
    all_goals first
      | (intro _ hk; intros; rfl)
      | (intro hk; first | rfl | exact Tab.get_set_ne _ _ _ _ _ (hk rfl))
  · constructor <;> rfl

theorem writeY_frame (s : State) (i : Nat) (v : W64) (lat : Nat) (bits : List Nat) :
    s.Frame (allButIn (· = .y) i) bits (s.writeY i v lat) := by
  unfold State.writeY
  refine frame_of _ _ _ _ ?_ ?_ rfl rfl
  · constructor <;> intro j
    all_goals first
      | (intro _ hk; intros; rfl)
      | (intro hk; first | rfl | exact Tab.get_set_ne _ _ _ _ _ (hk rfl))
  · constructor <;> rfl

theorem writeH_frame (s : State) (b : Bool) (i : Nat) (v : W64) (lat : Nat) (bits : List Nat) :
    s.Frame (allButIn (· = if b then .j else .h) i) bits (s.writeH b i v lat) := by
  unfold State.writeH
  cases b
  all_goals
    refine frame_of _ _ _ _ ?_ ?_ ?_ ?_
    · constructor <;> intro j
      all_goals first
        | (intro _ hk; intros; rfl)
        | (intro hk; first | rfl | exact Tab.get_set_ne _ _ _ _ _ (hk rfl))
    · constructor <;> rfl
    · rfl
    · rfl

/-- Setting a bit of WARN changes that bit alone (R46, R47). -/
theorem warn_frame (s : State) (bit : Nat) (c : Bool) (keep : RegFile → Nat → Prop) (bits : List Nat) (h : bit ∈ bits) :
    s.Frame keep bits (s.warn bit c) := by
  unfold State.warn
  split
  · refine frame_mk { s.core.sync with warn := setBit bit s.core.sync.warn } (setBit bit s.cx.warn) ?_ ?_ rfl ?_ ?_
    · constructor <;> intros <;> rfl
    · constructor <;> rfl
    · intro n hn
      have hne : bit ≠ n := by rintro rfl; exact hn h
      simp [setBit, Nat.testBit_or, Nat.testBit_two_pow_of_ne hne]
    · intro n hn
      simp [setBit, Nat.testBit_or, hn]
  · exact frame_refl _ _ _

/-- Setting a list of bits of WARN. -/
theorem warns_frame (s : State) (l : List Nat) (keep : RegFile → Nat → Prop) (bits : List Nat) (h : ∀ b ∈ l, b ∈ bits) :
    s.Frame keep bits (s.warns l) := by
  unfold State.warns
  induction l generalizing s with
  | nil => exact frame_refl _ _ _
  | cons b l ih =>
    exact frame_trans (warn_frame s b true keep bits (h b (by simp))) (ih (s.warn b true) (fun c hc => h c (by simp [hc])))

end Sys2Proof.Machine
end

