-- ==== Sys2Proof/Laws/Frames.lean ====
section
/-! SUPPORT. What the shared operations of the slots can do: a slot operation gives the state of its effect or the state it
had, and a vector result changes its destination alone. -/

namespace Sys2Proof.Machine

/-- A scalar operation stays in the frame of its effect (R45, R112). -/
theorem sOp_frame {keep : RegFile → Nat → Prop} {bits : List Nat} (s : State) (g : BitVec 4) (n : Bool) (f : State → State)
    (h : s.Frame keep bits (f s)) (t : State) (e : sOp s g n f = .next t) : s.Frame keep bits t := by
  unfold sOp at e
  cases e
  split
  · exact h
  · exact frame_refl _ _ _

/-- A vector operation stays in the frame of its effect. -/
theorem vOp_frame {keep : RegFile → Nat → Prop} {bits : List Nat} (s : State) (g : BitVec 4) (f : State → State)
    (h : s.Frame keep bits (f s)) (t : State) (e : vOp s g f = .next t) : s.Frame keep bits t := by
  unfold vOp at e
  cases e
  split
  · exact h
  · exact frame_refl _ _ _

/-- An operation of the X, N, M or C slots stays in the frame of its effect. -/
theorem xnOp_frame {keep : RegFile → Nat → Prop} {bits : List Nat} (s : State) (g : BitVec 4) (n : Bool) (f : State → State)
    (h : s.Frame keep bits (f s)) (t : State) (e : xnOp s g n f = .next t) : s.Frame keep bits t := by
  unfold xnOp at e
  cases e
  split
  · exact h
  · exact frame_refl _ _ _

/-- A vector result changes register d of the file alone (R148, R149). -/
theorem vput_frame (s : State) (sl m : Bool) (d w n tag : Nat) (e : List Nat) (lat : Nat) (bits : List Nat) :
    s.Frame (s.allButV sl d) bits (s.vput sl m d w n tag e lat) := by
  unfold State.vput
  split
  · exact writeVMerged_frame ..
  · exact writeV_frame ..

/-- The fallback changes register d and FMTOP (R158). -/
theorem fmtop_frame (s : State) (sl m : Bool) (d w n tag lat : Nat) (bits : List Nat) (h : wFMTOP ∈ bits) :
    s.Frame (s.allButV sl d) bits (s.fmtop sl m d w n tag lat) :=
  frame_trans (vput_frame ..) (warn_frame _ _ _ _ _ h)

/-- Converting an operand sets TAGMIX and FMTOP alone (R159, R160). -/
theorem vConv_bits (s : State) (sl : Bool) (o : VOpd) (dst W : Nat) :
    ∀ b ∈ (s.vConv sl o dst W).2, b ∈ [wTAGMIX, wFMTOP] := by
  unfold State.vConv
  intro b
  repeat' split
  all_goals simp
  all_goals tauto

end Sys2Proof.Machine
end

