-- ==== Sys2Proof/Laws/Memory.lean ====
section
/-! SUPPORT. Memory: every operation keeps the canonical form, and reads after writes. -/

namespace Sys2Proof.Machine

/-- The canonical form, said of a list: addresses rise strictly and no entry is the default. -/
theorem memory_wf_iff : ∀ m : List Host.Cell,
    Memory.wf m = true ↔ m.Pairwise (fun p q => p.1 < q.1) ∧ ∀ p ∈ m, p.2 ≠ memDefault
  | [] => by simp [Memory.wf]
  | [(a, v)] => by simp [Memory.wf]
  | (a, v) :: (b, w) :: t => by
    have ih := memory_wf_iff ((b, w) :: t)
    simp only [Memory.wf, Bool.and_eq_true, bne_iff_ne, ne_eq, decide_eq_true_eq] at *
    rw [ih]
    simp only [List.pairwise_cons, List.forall_mem_cons]
    constructor
    · rintro ⟨⟨h1, h2⟩, ⟨h3, h4⟩, h5, h6⟩
      exact ⟨⟨⟨h2, fun p hp => Nat.lt_trans h2 (h3 p hp)⟩, h3, h4⟩, h1, h5, h6⟩
    · rintro ⟨⟨⟨h2, _⟩, h3, h4⟩, h1, h5, h6⟩
      exact ⟨⟨h1, h2⟩, ⟨h3, h4⟩, h5, h6⟩

theorem memory_wf_nil : Memory.wf [] = true := rfl

/-- An address below every listed one reads as the default. -/
theorem memGet_below (k : Nat) : ∀ m : List Host.Cell, (∀ p ∈ m, k < p.1) → memGet m k = memDefault
  | [], _ => rfl
  | (a, v) :: t, h => by
    have h1 := h (a, v) List.mem_cons_self
    simp only [memGet]
    rw [if_neg (Nat.ne_of_gt h1)]
    exact memGet_below k t (fun p hp => h p (List.mem_cons_of_mem _ hp))

/-- What a write of one byte lists: the old entries of other addresses, and the new one. -/
theorem mem_memPut (k : Nat) (v : Byte) : ∀ (m : List Host.Cell) (p : Host.Cell), p ∈ memPut m k v →
    p ∈ m ∨ (p = (k, v) ∧ v ≠ memDefault)
  | [], p, h => by
    simp only [memPut] at h
    split at h
    · simp at h
    · rename_i hv; simp at h; exact .inr ⟨h, hv⟩
  | (a, w) :: t, p, h => by
    simp only [memPut] at h
    split at h
    · split at h
      · exact .inl h
      · rename_i hv
        rcases List.mem_cons.1 h with h | h
        · exact .inr ⟨h, hv⟩
        · exact .inl h
    · split at h
      · split at h
        · exact .inl (List.mem_cons_of_mem _ h)
        · rename_i hv
          rcases List.mem_cons.1 h with h | h
          · exact .inr ⟨h, hv⟩
          · exact .inl (List.mem_cons_of_mem _ h)
      · rcases List.mem_cons.1 h with h | h
        · exact .inl (h ▸ List.mem_cons_self)
        · rcases mem_memPut k v t p h with h | h
          · exact .inl (List.mem_cons_of_mem _ h)
          · exact .inr h

/-- Writing a byte keeps the canonical form. -/
theorem memory_wf_memPut (k : Nat) (v : Byte) : ∀ m : List Host.Cell, Memory.wf m = true → Memory.wf (memPut m k v) = true := by
  intro m h
  rw [memory_wf_iff] at h ⊢
  refine ⟨?_, fun p hp => ?_⟩
  · induction m with
    | nil => simp only [memPut]; split <;> simp
    | cons c t ih =>
      obtain ⟨a, w⟩ := c
      obtain ⟨h1, h2⟩ := h
      rw [List.pairwise_cons] at h1
      simp only [memPut]
      split
      · split
        · exact List.pairwise_cons.2 h1
        · rename_i hk _
          refine List.pairwise_cons.2 ⟨fun p hp => ?_, List.pairwise_cons.2 h1⟩
          rcases List.mem_cons.1 hp with hp | hp
          · rw [hp]; exact hk
          · exact Nat.lt_trans hk (h1.1 p hp)
      · split
        · rename_i hk
          split
          · exact h1.2
          · exact List.pairwise_cons.2 ⟨fun p hp => hk ▸ h1.1 p hp, h1.2⟩
        · rename_i hk hne
          refine List.pairwise_cons.2 ⟨fun p hp => ?_, ih ⟨h1.2, fun p hp => h2 p (List.mem_cons_of_mem _ hp)⟩⟩
          rcases mem_memPut k v t p hp with hp | hp
          · exact h1.1 p hp
          · rw [hp.1]; exact Nat.lt_of_le_of_ne (Nat.not_lt.1 hk) hne
  · rcases mem_memPut k v m p hp with hp | hp
    · exact h.2 p hp
    · rw [hp.1]; exact hp.2

/-- Writing bytes keeps the canonical form. -/
theorem memory_wf_memWrite : ∀ (b : List Nat) (m : List Host.Cell) (a : Nat),
    Memory.wf m = true → Memory.wf (memWrite m a b) = true
  | [], _, _, h => h
  | c :: t, m, a, h => memory_wf_memWrite t _ (a + 1) (memory_wf_memPut a (BitVec.ofNat 8 c) m h)

/-- Clearing a range keeps the canonical form. -/
theorem memory_wf_memClear (m : List Host.Cell) (lo n : Nat) (h : Memory.wf m = true) : Memory.wf (memClear m lo n) = true := by
  rw [memory_wf_iff] at h ⊢
  exact ⟨h.1.filter _, fun p hp => h.2 p (List.mem_of_mem_filter hp)⟩

/-- A read after a write of one byte, in memory of canonical form. -/
theorem memGet_memPut (k : Nat) (v : Byte) : ∀ (m : List Host.Cell) (_ : Memory.wf m = true) (j : Nat),
    memGet (memPut m k v) j = if j = k then v else memGet m j := by
  intro m h j
  rw [memory_wf_iff] at h
  induction m with
  | nil =>
    simp only [memPut]
    split
    · rename_i hv; split <;> simp [memGet, hv]
    · simp only [memGet, eq_comm]
  | cons c t ih =>
    obtain ⟨a, w⟩ := c
    obtain ⟨h1, h2⟩ := h
    rw [List.pairwise_cons] at h1
    have ih := ih ⟨h1.2, fun p hp => h2 p (List.mem_cons_of_mem _ hp)⟩
    simp only [memPut]
    split
    · rename_i hk
      split
      · rename_i hv
        split
        · rename_i hj
          rw [hj, hv]
          exact memGet_below k _ (fun p hp => (List.mem_cons.1 hp).elim (fun e => e ▸ hk) (fun e => Nat.lt_trans hk (h1.1 p e)))
        · rfl
      · rw [show memGet ((k, v) :: (a, w) :: t) j = if k = j then v else memGet ((a, w) :: t) j from rfl]
        simp only [eq_comm]
    · split
      · rename_i hk
        subst hk
        split
        · rename_i hv
          split
          · rename_i hj; rw [hj, hv]; exact memGet_below a t h1.1
          · rename_i hj; simp [memGet, Ne.symm hj]
        · rename_i hv
          simp only [memGet]
          by_cases hj : a = j
          · simp [hj]
          · simp [hj, Ne.symm hj]
      · rename_i hk hne
        simp only [memGet]
        by_cases hj : a = j
        · subst hj; simp [hne]
        · simp only [hj, if_false]; exact ih

/-- A read after a write of bytes. -/
theorem memGet_memWrite : ∀ (b : List Nat) (m : List Host.Cell) (a : Nat) (_ : Memory.wf m = true) (j : Nat),
    memGet (memWrite m a b) j = if a ≤ j ∧ j < a + b.length then BitVec.ofNat 8 (b.getD (j - a) 0) else memGet m j
  | [], m, a, _, j => by
    have : ¬ (a ≤ j ∧ j < a) := by omega
    simp [memWrite, this]
  | c :: t, m, a, h, j => by
    simp only [memWrite, memGet_memWrite t _ (a + 1) (memory_wf_memPut a _ m h) j, memGet_memPut a _ m h j, List.length_cons]
    by_cases h1 : j = a
    · subst h1
      have h2 : ¬ (j + 1 ≤ j ∧ j < j + 1 + t.length) := by omega
      have h3 : j ≤ j ∧ j < j + (t.length + 1) := by omega
      rw [if_neg h2, if_pos rfl, if_pos h3]; simp
    · by_cases h2 : a + 1 ≤ j ∧ j < a + 1 + t.length
      · have h3 : a ≤ j ∧ j < a + (t.length + 1) := by omega
        have h4 : j - a = j - (a + 1) + 1 := by omega
        rw [if_pos h2, if_pos h3, h4, List.getD_cons_succ]
      · have h3 : ¬ (a ≤ j ∧ j < a + (t.length + 1)) := by omega
        rw [if_neg h2, if_neg h1, if_neg h3]

/-- A byte outside a cleared range is unchanged, and a byte in it reads as the default. -/
theorem memGet_memClear (lo n j : Nat) : ∀ m : List Host.Cell,
    memGet (memClear m lo n) j = if lo ≤ j ∧ j < lo + n then memDefault else memGet m j
  | [] => by simp [memClear, memGet]
  | (a, v) :: t => by
    have ih := memGet_memClear lo n j t
    simp only [memClear, List.filter_cons] at *
    by_cases h1 : lo ≤ a ∧ a < lo + n
    · rw [if_neg (by simp only [Bool.not_eq_true', Bool.and_eq_false_iff, decide_eq_false_iff_not]; omega), ih]
      by_cases h2 : lo ≤ j ∧ j < lo + n
      · simp [h2]
      · have : a ≠ j := by rintro rfl; exact h2 h1
        simp [h2, memGet, this]
    · rw [if_pos (by simp only [Bool.not_eq_true', Bool.and_eq_false_iff, decide_eq_false_iff_not]; omega)]
      simp only [memGet, ih]
      by_cases h3 : a = j
      · subst h3; simp [h1]
      · simp [h3]

/-- The memory of the reset state has the canonical form. -/
theorem reset_memory_wf : Memory.wf State.reset.mem = true := rfl

end Sys2Proof.Machine
end

