-- ==== Sys2Proof/Laws/PerInstr.lean ====
section
/-! SUPPORT. One family of facts about every instruction as syntax: each field of its word fits its place, and a slot
operation's word has 32 or 64 bits (R17). -/

namespace Sys2Proof.Laws.Encoding

/-- Every field of the instruction's word fits its width, and the word of a slot operation has 32 or 64 bits (R17). -/
def Statement (i : Instr) : Prop := Fits i.fields ∧ (i.slot < 8 → i.bits = 32 ∨ i.bits = 64)

theorem snop (o : OpSN) : Statement (.snop o) :=
  ⟨fits_SN 0x0 o (by decide), fun _ => .inl rfl⟩
theorem add (o : OpSR) : Statement (.add o) :=
  ⟨fits_SR 0x1 o (by decide), fun _ => .inl rfl⟩
theorem sub (o : OpSR) : Statement (.sub o) :=
  ⟨fits_SR 0x2 o (by decide), fun _ => .inl rfl⟩
theorem mul (o : OpSR) : Statement (.mul o) :=
  ⟨fits_SR 0x3 o (by decide), fun _ => .inl rfl⟩
theorem mulh (o : OpSR) : Statement (.mulh o) :=
  ⟨fits_SR 0x4 o (by decide), fun _ => .inl rfl⟩
theorem mulhu (o : OpSR) : Statement (.mulhu o) :=
  ⟨fits_SR 0x5 o (by decide), fun _ => .inl rfl⟩
theorem div (o : OpSR) : Statement (.div o) :=
  ⟨fits_SR 0x6 o (by decide), fun _ => .inl rfl⟩
theorem divu (o : OpSR) : Statement (.divu o) :=
  ⟨fits_SR 0x7 o (by decide), fun _ => .inl rfl⟩
theorem rem (o : OpSR) : Statement (.rem o) :=
  ⟨fits_SR 0x8 o (by decide), fun _ => .inl rfl⟩
theorem remu (o : OpSR) : Statement (.remu o) :=
  ⟨fits_SR 0x9 o (by decide), fun _ => .inl rfl⟩
theorem and (o : OpSR) : Statement (.and o) :=
  ⟨fits_SR 0xa o (by decide), fun _ => .inl rfl⟩
theorem or (o : OpSR) : Statement (.or o) :=
  ⟨fits_SR 0xb o (by decide), fun _ => .inl rfl⟩
theorem xor (o : OpSR) : Statement (.xor o) :=
  ⟨fits_SR 0xc o (by decide), fun _ => .inl rfl⟩
theorem shl (o : OpSR) : Statement (.shl o) :=
  ⟨fits_SR 0xd o (by decide), fun _ => .inl rfl⟩
theorem shr (o : OpSR) : Statement (.shr o) :=
  ⟨fits_SR 0xe o (by decide), fun _ => .inl rfl⟩
theorem sra (o : OpSR) : Statement (.sra o) :=
  ⟨fits_SR 0xf o (by decide), fun _ => .inl rfl⟩
theorem min (o : OpSR) : Statement (.min o) :=
  ⟨fits_SR 0x10 o (by decide), fun _ => .inl rfl⟩
theorem max (o : OpSR) : Statement (.max o) :=
  ⟨fits_SR 0x11 o (by decide), fun _ => .inl rfl⟩
theorem minu (o : OpSR) : Statement (.minu o) :=
  ⟨fits_SR 0x12 o (by decide), fun _ => .inl rfl⟩
theorem maxu (o : OpSR) : Statement (.maxu o) :=
  ⟨fits_SR 0x13 o (by decide), fun _ => .inl rfl⟩
theorem clz (o : OpSR2) : Statement (.clz o) :=
  ⟨fits_SR2 0x14 0 o (by decide) (by decide), fun _ => .inl rfl⟩
theorem popc (o : OpSR2) : Statement (.popc o) :=
  ⟨fits_SR2 0x15 0 o (by decide) (by decide), fun _ => .inl rfl⟩
theorem sel (o : OpSSel) : Statement (.sel o) :=
  ⟨fits_SSel 0x16 o (by decide), fun _ => .inl rfl⟩
theorem addw (o : OpSR) : Statement (.addw o) :=
  ⟨fits_SR 0x17 o (by decide), fun _ => .inl rfl⟩
theorem lea (o : OpSLea) : Statement (.lea o) :=
  ⟨fits_SLea 0x18 o (by decide), fun _ => .inl rfl⟩
theorem mov (o : OpSR2) : Statement (.mov o) :=
  ⟨fits_SR2 0x19 0 o (by decide) (by decide), fun _ => .inl rfl⟩
theorem addi (o : OpSI) : Statement (.addi o) :=
  ⟨fits_SI 0x20 o (by decide), fun _ => .inl rfl⟩
theorem andi (o : OpSI) : Statement (.andi o) :=
  ⟨fits_SI 0x21 o (by decide), fun _ => .inl rfl⟩
theorem ori (o : OpSI) : Statement (.ori o) :=
  ⟨fits_SI 0x22 o (by decide), fun _ => .inl rfl⟩
theorem xori (o : OpSI) : Statement (.xori o) :=
  ⟨fits_SI 0x23 o (by decide), fun _ => .inl rfl⟩
theorem shli (o : OpSSh) : Statement (.shli o) :=
  ⟨fits_SSh 0x24 o (by decide), fun _ => .inl rfl⟩
theorem shri (o : OpSSh) : Statement (.shri o) :=
  ⟨fits_SSh 0x25 o (by decide), fun _ => .inl rfl⟩
theorem srai (o : OpSSh) : Statement (.srai o) :=
  ⟨fits_SSh 0x26 o (by decide), fun _ => .inl rfl⟩
theorem muli (o : OpSI) : Statement (.muli o) :=
  ⟨fits_SI 0x27 o (by decide), fun _ => .inl rfl⟩
theorem ceq (o : OpSC) : Statement (.ceq o) :=
  ⟨fits_SC 0x30 o (by decide), fun _ => .inl rfl⟩
theorem cne (o : OpSC) : Statement (.cne o) :=
  ⟨fits_SC 0x31 o (by decide), fun _ => .inl rfl⟩
theorem clt (o : OpSC) : Statement (.clt o) :=
  ⟨fits_SC 0x32 o (by decide), fun _ => .inl rfl⟩
theorem cge (o : OpSC) : Statement (.cge o) :=
  ⟨fits_SC 0x33 o (by decide), fun _ => .inl rfl⟩
theorem cltu (o : OpSC) : Statement (.cltu o) :=
  ⟨fits_SC 0x34 o (by decide), fun _ => .inl rfl⟩
theorem cgeu (o : OpSC) : Statement (.cgeu o) :=
  ⟨fits_SC 0x35 o (by decide), fun _ => .inl rfl⟩
theorem ceqi (o : OpSCI) : Statement (.ceqi o) :=
  ⟨fits_SCI 0x36 o (by decide), fun _ => .inl rfl⟩
theorem cnei (o : OpSCI) : Statement (.cnei o) :=
  ⟨fits_SCI 0x37 o (by decide), fun _ => .inl rfl⟩
theorem clti (o : OpSCI) : Statement (.clti o) :=
  ⟨fits_SCI 0x38 o (by decide), fun _ => .inl rfl⟩
theorem cgei (o : OpSCI) : Statement (.cgei o) :=
  ⟨fits_SCI 0x39 o (by decide), fun _ => .inl rfl⟩
theorem gand (o : OpSGl) : Statement (.gand o) :=
  ⟨fits_SGl 0x3a o (by decide), fun _ => .inl rfl⟩
theorem gor (o : OpSGl) : Statement (.gor o) :=
  ⟨fits_SGl 0x3b o (by decide), fun _ => .inl rfl⟩
theorem gxor (o : OpSGl) : Statement (.gxor o) :=
  ⟨fits_SGl 0x3c o (by decide), fun _ => .inl rfl⟩
theorem gset (o : OpSGs) : Statement (.gset o) :=
  ⟨fits_SGs 0x3d o (by decide), fun _ => .inl rfl⟩
theorem movi (o : OpSL) : Statement (.movi o) :=
  ⟨fits_SL 0x40 o (by decide), fun _ => .inr rfl⟩
theorem movhi (o : OpSL) : Statement (.movhi o) :=
  ⟨fits_SL 0x41 o (by decide), fun _ => .inr rfl⟩
theorem addil (o : OpSL) : Statement (.addil o) :=
  ⟨fits_SL 0x42 o (by decide), fun _ => .inr rfl⟩
theorem fadd (o : OpSF) : Statement (.fadd o) :=
  ⟨fits_SF 0x48 o (by decide), fun _ => .inl rfl⟩
theorem fsub (o : OpSF) : Statement (.fsub o) :=
  ⟨fits_SF 0x49 o (by decide), fun _ => .inl rfl⟩
theorem fmul (o : OpSF) : Statement (.fmul o) :=
  ⟨fits_SF 0x4a o (by decide), fun _ => .inl rfl⟩
theorem fma (o : OpSF) : Statement (.fma o) :=
  ⟨fits_SF 0x4b o (by decide), fun _ => .inl rfl⟩
theorem fmin (o : OpSF) : Statement (.fmin o) :=
  ⟨fits_SF 0x4c o (by decide), fun _ => .inl rfl⟩
theorem fmax (o : OpSF) : Statement (.fmax o) :=
  ⟨fits_SF 0x4d o (by decide), fun _ => .inl rfl⟩
theorem fcvt (o : OpSFcvt) : Statement (.fcvt o) :=
  ⟨fits_SFcvt 0x4e o (by decide), fun _ => .inl rfl⟩
theorem fceq (o : OpSFc) : Statement (.fceq o) :=
  ⟨fits_SFc 0x4f o (by decide), fun _ => .inl rfl⟩
theorem fclt (o : OpSFc) : Statement (.fclt o) :=
  ⟨fits_SFc 0x50 o (by decide), fun _ => .inl rfl⟩
theorem fcle (o : OpSFc) : Statement (.fcle o) :=
  ⟨fits_SFc 0x51 o (by decide), fun _ => .inl rfl⟩
theorem ldB (o : OpSI) : Statement (.ldB o) :=
  ⟨fits_SI 0x60 o (by decide), fun _ => .inl rfl⟩
theorem ldH (o : OpSI) : Statement (.ldH o) :=
  ⟨fits_SI 0x61 o (by decide), fun _ => .inl rfl⟩
theorem ldW (o : OpSI) : Statement (.ldW o) :=
  ⟨fits_SI 0x62 o (by decide), fun _ => .inl rfl⟩
theorem ldD (o : OpSI) : Statement (.ldD o) :=
  ⟨fits_SI 0x63 o (by decide), fun _ => .inl rfl⟩
theorem ldsB (o : OpSI) : Statement (.ldsB o) :=
  ⟨fits_SI 0x64 o (by decide), fun _ => .inl rfl⟩
theorem ldsH (o : OpSI) : Statement (.ldsH o) :=
  ⟨fits_SI 0x65 o (by decide), fun _ => .inl rfl⟩
theorem ldsW (o : OpSI) : Statement (.ldsW o) :=
  ⟨fits_SI 0x66 o (by decide), fun _ => .inl rfl⟩
theorem stB (o : OpSI) : Statement (.stB o) :=
  ⟨fits_SI 0x68 o (by decide), fun _ => .inl rfl⟩
theorem stH (o : OpSI) : Statement (.stH o) :=
  ⟨fits_SI 0x69 o (by decide), fun _ => .inl rfl⟩
theorem stW (o : OpSI) : Statement (.stW o) :=
  ⟨fits_SI 0x6a o (by decide), fun _ => .inl rfl⟩
theorem stD (o : OpSI) : Statement (.stD o) :=
  ⟨fits_SI 0x6b o (by decide), fun _ => .inl rfl⟩
theorem lda (o : OpSX) : Statement (.lda o) :=
  ⟨fits_SX 0x6c o (by decide), fun _ => .inr rfl⟩
theorem stl (o : OpSX) : Statement (.stl o) :=
  ⟨fits_SX 0x6d o (by decide), fun _ => .inr rfl⟩
theorem amoadd (o : OpSX) : Statement (.amoadd o) :=
  ⟨fits_SX 0x70 o (by decide), fun _ => .inr rfl⟩
theorem amoswp (o : OpSX) : Statement (.amoswp o) :=
  ⟨fits_SX 0x71 o (by decide), fun _ => .inr rfl⟩
theorem amocas (o : OpSX) : Statement (.amocas o) :=
  ⟨fits_SX 0x72 o (by decide), fun _ => .inr rfl⟩
theorem amomin (o : OpSX) : Statement (.amomin o) :=
  ⟨fits_SX 0x73 o (by decide), fun _ => .inr rfl⟩
theorem amomax (o : OpSX) : Statement (.amomax o) :=
  ⟨fits_SX 0x74 o (by decide), fun _ => .inr rfl⟩
theorem amoand (o : OpSX) : Statement (.amoand o) :=
  ⟨fits_SX 0x75 o (by decide), fun _ => .inr rfl⟩
theorem amoor (o : OpSX) : Statement (.amoor o) :=
  ⟨fits_SX 0x76 o (by decide), fun _ => .inr rfl⟩
theorem amoxor (o : OpSX) : Statement (.amoxor o) :=
  ⟨fits_SX 0x77 o (by decide), fun _ => .inr rfl⟩
theorem scld (o : OpSX) : Statement (.scld o) :=
  ⟨fits_SX 0x78 o (by decide), fun _ => .inr rfl⟩
theorem scst (o : OpSX) : Statement (.scst o) :=
  ⟨fits_SX 0x79 o (by decide), fun _ => .inr rfl⟩
theorem scamo (o : OpSX) : Statement (.scamo o) :=
  ⟨fits_SX 0x7a o (by decide), fun _ => .inr rfl⟩
theorem fence (o : OpSFence) : Statement (.fence o) :=
  ⟨fits_SFence 0x7c o (by decide), fun _ => .inr rfl⟩
theorem pfence (o : OpSPf) : Statement (.pfence o) :=
  ⟨fits_SPf 0x7d o (by decide), fun _ => .inr rfl⟩
theorem drain (o : OpSFence) : Statement (.drain o) :=
  ⟨fits_SFence 0x7e o (by decide), fun _ => .inr rfl⟩
theorem br (o : OpSB) : Statement (.br o) :=
  ⟨fits_SB 0x80 o (by decide), fun _ => .inl rfl⟩
theorem jal (o : OpSB) : Statement (.jal o) :=
  ⟨fits_SB 0x81 o (by decide), fun _ => .inl rfl⟩
theorem jr (o : OpSJr) : Statement (.jr o) :=
  ⟨fits_SJr 0x82 o (by decide), fun _ => .inl rfl⟩
theorem jalr (o : OpSR2) : Statement (.jalr o) :=
  ⟨fits_SR2 0x83 0 o (by decide) (by decide), fun _ => .inl rfl⟩
theorem loop (o : OpSLoop) : Statement (.loop o) :=
  ⟨fits_SLoop 0x84 o (by decide), fun _ => .inl rfl⟩
theorem lexit (o : OpSN) : Statement (.lexit o) :=
  ⟨fits_SN 0x85 o (by decide), fun _ => .inl rfl⟩
theorem trap (o : OpSTrap) : Statement (.trap o) :=
  ⟨fits_STrap 0x88 o (by decide), fun _ => .inl rfl⟩
theorem kend (o : OpSR2) : Statement (.kend o) :=
  ⟨fits_SR2 0x89 0 o (by decide) (by decide), fun _ => .inl rfl⟩
theorem sysord (o : OpSR2) : Statement (.sysord o) :=
  ⟨fits_SR2 0x89 1 o (by decide) (by decide), fun _ => .inl rfl⟩
theorem evadd (o : OpSR2) : Statement (.evadd o) :=
  ⟨fits_SR2 0x89 2 o (by decide) (by decide), fun _ => .inl rfl⟩
theorem claim (o : OpSR2) : Statement (.claim o) :=
  ⟨fits_SR2 0x89 3 o (by decide) (by decide), fun _ => .inl rfl⟩
theorem release (o : OpSR2) : Statement (.release o) :=
  ⟨fits_SR2 0x89 4 o (by decide) (by decide), fun _ => .inl rfl⟩
theorem gstat (o : OpSR2) : Statement (.gstat o) :=
  ⟨fits_SR2 0x89 5 o (by decide) (by decide), fun _ => .inl rfl⟩
theorem notify (o : OpSR2) : Statement (.notify o) :=
  ⟨fits_SR2 0x89 6 o (by decide) (by decide), fun _ => .inl rfl⟩
theorem sysc (o : OpSSvc) : Statement (.sysc o) :=
  ⟨fits_SSvc 0x89 o (by decide), fun _ => .inl rfl⟩
theorem eret (o : OpSN) : Statement (.eret o) :=
  ⟨fits_SN 0x8a o (by decide), fun _ => .inl rfl⟩
theorem ychk (o : OpSYc) : Statement (.ychk o) :=
  ⟨fits_SYc 0x8b o (by decide), fun _ => .inl rfl⟩
theorem yield (o : OpSN) : Statement (.yield o) :=
  ⟨fits_SN 0x8c o (by decide), fun _ => .inl rfl⟩
theorem wfe (o : OpSN) : Statement (.wfe o) :=
  ⟨fits_SN 0x8d o (by decide), fun _ => .inl rfl⟩
theorem evsig (o : OpSEv) : Statement (.evsig o) :=
  ⟨fits_SEv 0x8e o (by decide), fun _ => .inl rfl⟩
theorem movc (o : OpSMovc) : Statement (.movc o) :=
  ⟨fits_SMovc 0x90 o (by decide), fun _ => .inl rfl⟩
theorem movcw (o : OpSLoop) : Statement (.movcw o) :=
  ⟨fits_SLoop 0x91 o (by decide), fun _ => .inl rfl⟩
theorem xsa (o : OpSXv) : Statement (.xsa o) :=
  ⟨fits_SXv 0x98 o (by decide), fun _ => .inl rfl⟩
theorem xsb (o : OpSXv) : Statement (.xsb o) :=
  ⟨fits_SXv 0x99 o (by decide), fun _ => .inl rfl⟩
theorem xsh (o : OpSXh) : Statement (.xsh o) :=
  ⟨fits_SXh 0x9a o (by decide), fun _ => .inl rfl⟩
theorem xsj (o : OpSXh) : Statement (.xsj o) :=
  ⟨fits_SXh 0x9b o (by decide), fun _ => .inl rfl⟩
theorem xsy (o : OpSXh) : Statement (.xsy o) :=
  ⟨fits_SXh 0x9c o (by decide), fun _ => .inl rfl⟩
theorem bar (o : OpSBar) : Statement (.bar o) :=
  ⟨fits_SBar 0xa0 o (by decide), fun _ => .inl rfl⟩
theorem bara (o : OpSBar) : Statement (.bara o) :=
  ⟨fits_SBar 0xa1 o (by decide), fun _ => .inl rfl⟩
theorem barw (o : OpSBar) : Statement (.barw o) :=
  ⟨fits_SBar 0xa2 o (by decide), fun _ => .inl rfl⟩
theorem bari (o : OpSBar) : Statement (.bari o) :=
  ⟨fits_SBar 0xa3 o (by decide), fun _ => .inl rfl⟩
theorem lnch (o : OpSR2) : Statement (.lnch o) :=
  ⟨fits_SR2 0xb0 0 o (by decide) (by decide), fun _ => .inl rfl⟩
theorem garm (o : OpSGarm) : Statement (.garm o) :=
  ⟨fits_SGarm 0xb1 o (by decide), fun _ => .inl rfl⟩
theorem hirq (o : OpSHirq) : Statement (.hirq o) :=
  ⟨fits_SHirq 0xb2 o (by decide), fun _ => .inl rfl⟩
theorem pflip (o : OpSD) : Statement (.pflip o) :=
  ⟨fits_SD 0xb3 o (by decide), fun _ => .inl rfl⟩
theorem bkpt (o : OpSBk) : Statement (.bkpt o) :=
  ⟨fits_SBk 0xd0 o (by decide), fun _ => .inl rfl⟩
theorem mark (o : OpSLoop) : Statement (.mark o) :=
  ⟨fits_SLoop 0xd1 o (by decide), fun _ => .inl rfl⟩
theorem vnop (o : OpV0) : Statement (.vnop o) :=
  ⟨fits_V0 0x0 o (by decide), fun _ => .inl rfl⟩
theorem vadd (o : OpV3) : Statement (.vadd o) :=
  ⟨fits_V3 0x1 o (by decide), fun _ => .inl rfl⟩
theorem vsub (o : OpV3) : Statement (.vsub o) :=
  ⟨fits_V3 0x2 o (by decide), fun _ => .inl rfl⟩
theorem vmul (o : OpV3) : Statement (.vmul o) :=
  ⟨fits_V3 0x3 o (by decide), fun _ => .inl rfl⟩
theorem vfma (o : OpV3) : Statement (.vfma o) :=
  ⟨fits_V3 0x4 o (by decide), fun _ => .inl rfl⟩
theorem vfms (o : OpV3) : Statement (.vfms o) :=
  ⟨fits_V3 0x5 o (by decide), fun _ => .inl rfl⟩
theorem vmin (o : OpV3) : Statement (.vmin o) :=
  ⟨fits_V3 0x6 o (by decide), fun _ => .inl rfl⟩
theorem vmax (o : OpV3) : Statement (.vmax o) :=
  ⟨fits_V3 0x7 o (by decide), fun _ => .inl rfl⟩
theorem vabs (o : OpV2) : Statement (.vabs o) :=
  ⟨fits_V2 0x8 o (by decide), fun _ => .inl rfl⟩
theorem vneg (o : OpV2) : Statement (.vneg o) :=
  ⟨fits_V2 0x9 o (by decide), fun _ => .inl rfl⟩
theorem vsqd (o : OpV3) : Statement (.vsqd o) :=
  ⟨fits_V3 0xa o (by decide), fun _ => .inl rfl⟩
theorem vmulh (o : OpV3) : Statement (.vmulh o) :=
  ⟨fits_V3 0xb o (by decide), fun _ => .inl rfl⟩
theorem vdot4 (o : OpV3) : Statement (.vdot4 o) :=
  ⟨fits_V3 0xc o (by decide), fun _ => .inl rfl⟩
theorem vand (o : OpV3) : Statement (.vand o) :=
  ⟨fits_V3 0x10 o (by decide), fun _ => .inl rfl⟩
theorem vor (o : OpV3) : Statement (.vor o) :=
  ⟨fits_V3 0x11 o (by decide), fun _ => .inl rfl⟩
theorem vxor (o : OpV3) : Statement (.vxor o) :=
  ⟨fits_V3 0x12 o (by decide), fun _ => .inl rfl⟩
theorem vshl (o : OpV3) : Statement (.vshl o) :=
  ⟨fits_V3 0x13 o (by decide), fun _ => .inl rfl⟩
theorem vshr (o : OpV3) : Statement (.vshr o) :=
  ⟨fits_V3 0x14 o (by decide), fun _ => .inl rfl⟩
theorem vsra (o : OpV3) : Statement (.vsra o) :=
  ⟨fits_V3 0x15 o (by decide), fun _ => .inl rfl⟩
theorem vceq (o : OpVC) : Statement (.vceq o) :=
  ⟨fits_VC 0x20 o (by decide), fun _ => .inl rfl⟩
theorem vcne (o : OpVC) : Statement (.vcne o) :=
  ⟨fits_VC 0x21 o (by decide), fun _ => .inl rfl⟩
theorem vclt (o : OpVC) : Statement (.vclt o) :=
  ⟨fits_VC 0x22 o (by decide), fun _ => .inl rfl⟩
theorem vcle (o : OpVC) : Statement (.vcle o) :=
  ⟨fits_VC 0x23 o (by decide), fun _ => .inl rfl⟩
theorem vsel (o : OpV3) : Statement (.vsel o) :=
  ⟨fits_V3 0x24 o (by decide), fun _ => .inl rfl⟩
theorem kand (o : OpVK) : Statement (.kand o) :=
  ⟨fits_VK 0x28 o (by decide), fun _ => .inl rfl⟩
theorem kor (o : OpVK) : Statement (.kor o) :=
  ⟨fits_VK 0x29 o (by decide), fun _ => .inl rfl⟩
theorem kxor (o : OpVK) : Statement (.kxor o) :=
  ⟨fits_VK 0x2a o (by decide), fun _ => .inl rfl⟩
theorem knot (o : OpVK1) : Statement (.knot o) :=
  ⟨fits_VK1 0x2b o (by decide), fun _ => .inl rfl⟩
theorem kpop (o : OpVKp) : Statement (.kpop o) :=
  ⟨fits_VKp 0x2c o (by decide), fun _ => .inl rfl⟩
theorem vcvt (o : OpVCv) : Statement (.vcvt o) :=
  ⟨fits_VCv 0x30 o (by decide), fun _ => .inl rfl⟩
theorem vqblk (o : OpVQb) : Statement (.vqblk o) :=
  ⟨fits_VQb 0x31 o (by decide), fun _ => .inl rfl⟩
theorem vdqblk (o : OpVDq) : Statement (.vdqblk o) :=
  ⟨fits_VDq 0x32 o (by decide), fun _ => .inl rfl⟩
theorem vrnd (o : OpVRn) : Statement (.vrnd o) :=
  ⟨fits_VRn 0x33 o (by decide), fun _ => .inl rfl⟩
theorem vexp2 (o : OpV2) : Statement (.vexp2 o) :=
  ⟨fits_V2 0x38 o (by decide), fun _ => .inl rfl⟩
theorem vlog2 (o : OpV2) : Statement (.vlog2 o) :=
  ⟨fits_V2 0x39 o (by decide), fun _ => .inl rfl⟩
theorem vrcp (o : OpV2) : Statement (.vrcp o) :=
  ⟨fits_V2 0x3a o (by decide), fun _ => .inl rfl⟩
theorem vrsq (o : OpV2) : Statement (.vrsq o) :=
  ⟨fits_V2 0x3b o (by decide), fun _ => .inl rfl⟩
theorem vsigm (o : OpV2) : Statement (.vsigm o) :=
  ⟨fits_V2 0x3c o (by decide), fun _ => .inl rfl⟩
theorem vtanh (o : OpV2) : Statement (.vtanh o) :=
  ⟨fits_V2 0x3d o (by decide), fun _ => .inl rfl⟩
theorem vrsum (o : OpV2) : Statement (.vrsum o) :=
  ⟨fits_V2 0x40 o (by decide), fun _ => .inl rfl⟩
theorem vrmax (o : OpV2) : Statement (.vrmax o) :=
  ⟨fits_V2 0x41 o (by decide), fun _ => .inl rfl⟩
theorem vrmin (o : OpV2) : Statement (.vrmin o) :=
  ⟨fits_V2 0x42 o (by decide), fun _ => .inl rfl⟩
theorem vscan (o : OpV2) : Statement (.vscan o) :=
  ⟨fits_V2 0x43 o (by decide), fun _ => .inl rfl⟩
theorem vamax (o : OpV2) : Statement (.vamax o) :=
  ⟨fits_V2 0x44 o (by decide), fun _ => .inl rfl⟩
theorem vmov (o : OpV2) : Statement (.vmov o) :=
  ⟨fits_V2 0x50 o (by decide), fun _ => .inl rfl⟩
theorem vsq (o : OpVSq) : Statement (.vsq o) :=
  ⟨fits_VSq 0x51 o (by decide), fun _ => .inl rfl⟩
theorem vxs (o : OpV2) : Statement (.vxs o) :=
  ⟨fits_V2 0x52 o (by decide), fun _ => .inl rfl⟩
theorem vxab (o : OpV2) : Statement (.vxab o) :=
  ⟨fits_V2 0x53 o (by decide), fun _ => .inl rfl⟩
theorem vspl (o : OpVB1) : Statement (.vspl o) :=
  ⟨fits_VB1 0x54 o (by decide), fun _ => .inl rfl⟩
theorem viota (o : OpVB1) : Statement (.viota o) :=
  ⟨fits_VB1 0x55 o (by decide), fun _ => .inl rfl⟩
theorem vtag (o : OpVTg) : Statement (.vtag o) :=
  ⟨fits_VTg 0x56 o (by decide), fun _ => .inl rfl⟩
theorem xprm (o : OpXP) : Statement (.xprm o) :=
  ⟨fits_XP 0x1 o (by decide), fun _ => .inl rfl⟩
theorem xpldA (o : OpXL) : Statement (.xpldA o) :=
  ⟨fits_XL 0x2 false o (by decide), fun _ => .inl rfl⟩
theorem xpldB (o : OpXL) : Statement (.xpldB o) :=
  ⟨fits_XL 0x2 true o (by decide), fun _ => .inl rfl⟩
theorem xzip (o : OpXZ) : Statement (.xzip o) :=
  ⟨fits_XZ 0x3 o (by decide), fun _ => .inl rfl⟩
theorem xuzp (o : OpXZ) : Statement (.xuzp o) :=
  ⟨fits_XZ 0x4 o (by decide), fun _ => .inl rfl⟩
theorem xcmp (o : OpXC) : Statement (.xcmp o) :=
  ⟨fits_XC 0x5 o (by decide), fun _ => .inl rfl⟩
theorem xexp (o : OpXC) : Statement (.xexp o) :=
  ⟨fits_XC 0x6 o (by decide), fun _ => .inl rfl⟩
theorem nmap (o : OpNM) : Statement (.nmap o) :=
  ⟨fits_NM 0x1 o (by decide), fun _ => .inl rfl⟩
theorem nmapx (o : OpNMx) : Statement (.nmapx o) :=
  ⟨fits_NMx 0x2 o (by decide), fun _ => .inl rfl⟩
theorem npld (o : OpNP) : Statement (.npld o) :=
  ⟨fits_NP 0x3 o (by decide), fun _ => .inl rfl⟩
theorem nmov (o : OpNV) : Statement (.nmov o) :=
  ⟨fits_NV 0x4 o (by decide), fun _ => .inl rfl⟩
theorem nxs (o : OpNX) : Statement (.nxs o) :=
  ⟨fits_NX 0x5 o (by decide), fun _ => .inl rfl⟩
theorem nli (o : OpNL) : Statement (.nli o) :=
  ⟨fits_NL 0x6 o (by decide), fun _ => .inl rfl⟩
theorem mma (o : OpMM) : Statement (.mma o) :=
  ⟨fits_MM 0x1 o (by decide), fun _ => .inr rfl⟩
theorem mmaz (o : OpMM) : Statement (.mmaz o) :=
  ⟨fits_MM 0x2 o (by decide), fun _ => .inr rfl⟩
theorem mconv (o : OpMM) : Statement (.mconv o) :=
  ⟨fits_MM 0x3 o (by decide), fun _ => .inr rfl⟩
theorem mzero (o : OpMZ) : Statement (.mzero o) :=
  ⟨fits_MZ 0x4 o (by decide), fun _ => .inr rfl⟩
theorem mldz (o : OpML) : Statement (.mldz o) :=
  ⟨fits_ML 0x5 o (by decide), fun _ => .inr rfl⟩
theorem mstz (o : OpMS) : Statement (.mstz o) :=
  ⟨fits_MS 0x6 o (by decide), fun _ => .inr rfl⟩
theorem mtag (o : OpMT) : Statement (.mtag o) :=
  ⟨fits_MT 0x7 o (by decide), fun _ => .inr rfl⟩
theorem mskp (o : OpMK) : Statement (.mskp o) :=
  ⟨fits_MK 0x8 o (by decide), fun _ => .inr rfl⟩
theorem mwait (o : OpMW) : Statement (.mwait o) :=
  ⟨fits_MW 0x9 o (by decide), fun _ => .inr rfl⟩
theorem tacq (o : OpT0) : Statement (.tacq o) :=
  ⟨fits_T0 0x10 o (by decide), fun _ => .inr rfl⟩
theorem trel (o : OpT0) : Statement (.trel o) :=
  ⟨fits_T0 0x11 o (by decide), fun _ => .inr rfl⟩
theorem tldw (o : OpT1) : Statement (.tldw o) :=
  ⟨fits_T1 0x12 o (by decide), fun _ => .inr rfl⟩
theorem tlnc (o : OpTL) : Statement (.tlnc o) :=
  ⟨fits_TL 0x13 o (by decide), fun _ => .inr rfl⟩
theorem tcap (o : OpT1) : Statement (.tcap o) :=
  ⟨fits_T1 0x14 o (by decide), fun _ => .inr rfl⟩
theorem trst (o : OpT0) : Statement (.trst o) :=
  ⟨fits_T0 0x15 o (by decide), fun _ => .inr rfl⟩
theorem cpy (o : OpCC) : Statement (.cpy o) :=
  ⟨fits_CC 0x1 o (by decide), fun _ => .inr rfl⟩
theorem cpys (o : OpCS) : Statement (.cpys o) :=
  ⟨fits_CS 0x2 o (by decide), fun _ => .inr rfl⟩
theorem cpyt (o : OpCT) : Statement (.cpyt o) :=
  ⟨fits_CT 0x3 o (by decide), fun _ => .inr rfl⟩
theorem cpyw (o : OpCT) : Statement (.cpyw o) :=
  ⟨fits_CT 0x4 o (by decide), fun _ => .inr rfl⟩
theorem ldblk (o : OpCT) : Statement (.ldblk o) :=
  ⟨fits_CT 0x5 o (by decide), fun _ => .inr rfl⟩
theorem evblk (o : OpCE) : Statement (.evblk o) :=
  ⟨fits_CE 0x6 o (by decide), fun _ => .inr rfl⟩
theorem bind (o : OpCBd) : Statement (.bind o) :=
  ⟨fits_CBd 0x7 o (by decide), fun _ => .inr rfl⟩
theorem unbd (o : OpCU) : Statement (.unbd o) :=
  ⟨fits_CU 0x8 o (by decide), fun _ => .inr rfl⟩
theorem gthr (o : OpCG) : Statement (.gthr o) :=
  ⟨fits_CG 0x9 o (by decide), fun _ => .inr rfl⟩
theorem sctr (o : OpCG) : Statement (.sctr o) :=
  ⟨fits_CG 0xa o (by decide), fun _ => .inr rfl⟩
theorem cwait (o : OpCW) : Statement (.cwait o) :=
  ⟨fits_CW 0xb o (by decide), fun _ => .inr rfl⟩
theorem cflag (o : OpCF) : Statement (.cflag o) :=
  ⟨fits_CF 0xc o (by decide), fun _ => .inr rfl⟩
theorem csig (o : OpCSg) : Statement (.csig o) :=
  ⟨fits_CSg 0xd o (by decide), fun _ => .inr rfl⟩
theorem coll (o : OpCL) : Statement (.coll o) :=
  ⟨fits_CL 0xe o (by decide), fun _ => .inr rfl⟩
theorem hadd (o : OpCH) : Statement (.hadd o) :=
  ⟨fits_CH 0x10 o (by decide), fun _ => .inr rfl⟩
theorem hmov (o : OpCM) : Statement (.hmov o) :=
  ⟨fits_CM 0x11 o (by decide), fun _ => .inr rfl⟩
theorem hli (o : OpCI) : Statement (.hli o) :=
  ⟨fits_CI 0x12 o (by decide), fun _ => .inr rfl⟩
theorem hxs (o : OpCX) : Statement (.hxs o) :=
  ⟨fits_CX 0x13 o (by decide), fun _ => .inr rfl⟩
theorem fetchFill (core : Nat) : Statement (.fetchFill core) := ⟨fits_nil, fun h => (Nat.lt_irrefl 8 h).elim⟩
theorem branchResolution (core : Nat) : Statement (.branchResolution core) := ⟨fits_nil, fun h => (Nat.lt_irrefl 8 h).elim⟩
theorem checkpoint (core : Nat) : Statement (.checkpoint core) := ⟨fits_nil, fun h => (Nat.lt_irrefl 8 h).elim⟩
theorem storePerform (core : Nat) : Statement (.storePerform core) := ⟨fits_nil, fun h => (Nat.lt_irrefl 8 h).elim⟩
theorem loadDataReturn (core : Nat) : Statement (.loadDataReturn core) := ⟨fits_nil, fun h => (Nat.lt_irrefl 8 h).elim⟩
theorem asyncTrap (core : Nat) : Statement (.asyncTrap core) := ⟨fits_nil, fun h => (Nat.lt_irrefl 8 h).elim⟩
theorem forcedSave (core : Nat) : Statement (.forcedSave core) := ⟨fits_nil, fun h => (Nat.lt_irrefl 8 h).elim⟩
theorem savewaitEnd (core : Nat) : Statement (.savewaitEnd core) := ⟨fits_nil, fun h => (Nat.lt_irrefl 8 h).elim⟩
theorem eventLatchSet (core : Nat) : Statement (.eventLatchSet core) := ⟨fits_nil, fun h => (Nat.lt_irrefl 8 h).elim⟩
theorem matrixCommandBegin (core : Nat) : Statement (.matrixCommandBegin core) := ⟨fits_nil, fun h => (Nat.lt_irrefl 8 h).elim⟩
theorem matrixCommandComplete (core : Nat) : Statement (.matrixCommandComplete core) := ⟨fits_nil, fun h => (Nat.lt_irrefl 8 h).elim⟩
theorem copyCommandComplete (core : Nat) (q : Nat) : Statement (.copyCommandComplete core q) := ⟨fits_nil, fun h => (Nat.lt_irrefl 8 h).elim⟩
theorem streamGroupArrival (core : Nat) (k : Nat) : Statement (.streamGroupArrival core k) := ⟨fits_nil, fun h => (Nat.lt_irrefl 8 h).elim⟩
theorem streamOutputWrite (core : Nat) (k : Nat) : Statement (.streamOutputWrite core k) := ⟨fits_nil, fun h => (Nat.lt_irrefl 8 h).elim⟩
theorem temporalGrant (cl : Nat) : Statement (.temporalGrant cl) := ⟨fits_nil, fun h => (Nat.lt_irrefl 8 h).elim⟩
theorem temporalCommandBegin (cl : Nat) : Statement (.temporalCommandBegin cl) := ⟨fits_nil, fun h => (Nat.lt_irrefl 8 h).elim⟩
theorem temporalCommandComplete (cl : Nat) : Statement (.temporalCommandComplete cl) := ⟨fits_nil, fun h => (Nat.lt_irrefl 8 h).elim⟩
theorem barrierAccess (cl : Nat) : Statement (.barrierAccess cl) := ⟨fits_nil, fun h => (Nat.lt_irrefl 8 h).elim⟩
theorem capstanIssue (core : Nat) : Statement (.capstanIssue core) := ⟨fits_nil, fun h => (Nat.lt_irrefl 8 h).elim⟩
theorem regulationAdmit (die : Nat) (point : Nat) (guest : Nat) : Statement (.regulationAdmit die point guest) := ⟨fits_nil, fun h => (Nat.lt_irrefl 8 h).elim⟩
theorem regulatorTick : Statement .regulatorTick := ⟨fits_nil, fun h => (Nat.lt_irrefl 8 h).elim⟩
theorem budget (die : Nat) (point : Nat) (guest : Nat) : Statement (.budget die point guest) := ⟨fits_nil, fun h => (Nat.lt_irrefl 8 h).elim⟩
theorem l2Lookup (req : Nat) : Statement (.l2Lookup req) := ⟨fits_nil, fun h => (Nat.lt_irrefl 8 h).elim⟩
theorem controllerAccess (req : Nat) : Statement (.controllerAccess req) := ⟨fits_nil, fun h => (Nat.lt_irrefl 8 h).elim⟩
theorem translationWalk (core : Nat) : Statement (.translationWalk core) := ⟨fits_nil, fun h => (Nat.lt_irrefl 8 h).elim⟩
theorem wpgtAnswer (core : Nat) (resume : Nat) : Statement (.wpgtAnswer core resume) := ⟨fits_nil, fun h => (Nat.lt_irrefl 8 h).elim⟩
theorem shadowInvalidate (guest : Nat) (lo : Nat) (hi : Nat) : Statement (.shadowInvalidate guest lo hi) := ⟨fits_nil, fun h => (Nat.lt_irrefl 8 h).elim⟩
theorem channelRefresh (die : Nat) (ch : Nat) : Statement (.channelRefresh die ch) := ⟨fits_nil, fun h => (Nat.lt_irrefl 8 h).elim⟩
theorem channelRetirement (die : Nat) (ch : Nat) : Statement (.channelRetirement die ch) := ⟨fits_nil, fun h => (Nat.lt_irrefl 8 h).elim⟩
theorem clusterSwap (cl : Nat) : Statement (.clusterSwap cl) := ⟨fits_nil, fun h => (Nat.lt_irrefl 8 h).elim⟩
theorem clusterRetire (cl : Nat) : Statement (.clusterRetire cl) := ⟨fits_nil, fun h => (Nat.lt_irrefl 8 h).elim⟩
theorem coreRetire (core : Nat) : Statement (.coreRetire core) := ⟨fits_nil, fun h => (Nat.lt_irrefl 8 h).elim⟩
theorem sramRowRepair (core : Nat) (row : Nat) : Statement (.sramRowRepair core row) := ⟨fits_nil, fun h => (Nat.lt_irrefl 8 h).elim⟩
theorem l2WayRetire (way : Nat) : Statement (.l2WayRetire way) := ⟨fits_nil, fun h => (Nat.lt_irrefl 8 h).elim⟩
theorem walkerFailover (die : Nat) : Statement (.walkerFailover die) := ⟨fits_nil, fun h => (Nat.lt_irrefl 8 h).elim⟩
theorem meshLinkFailure (die : Nat) : Statement (.meshLinkFailure die) := ⟨fits_nil, fun h => (Nat.lt_irrefl 8 h).elim⟩
theorem dieLinkLoss (link : Nat) : Statement (.dieLinkLoss link) := ⟨fits_nil, fun h => (Nat.lt_irrefl 8 h).elim⟩
theorem commandStreamTailWrite (guest : Nat) (k : Nat) (v : Nat) : Statement (.commandStreamTailWrite guest k v) := ⟨fits_nil, fun h => (Nat.lt_irrefl 8 h).elim⟩
theorem commandStreamDisable (guest : Nat) (k : Nat) : Statement (.commandStreamDisable guest k) := ⟨fits_nil, fun h => (Nat.lt_irrefl 8 h).elim⟩
theorem haltClear (guest : Nat) (k : Nat) : Statement (.haltClear guest k) := ⟨fits_nil, fun h => (Nat.lt_irrefl 8 h).elim⟩
theorem streamEntryTake (guest : Nat) (k : Nat) : Statement (.streamEntryTake guest k) := ⟨fits_nil, fun h => (Nat.lt_irrefl 8 h).elim⟩
theorem nodeEnter (guest : Nat) (k : Nat) : Statement (.nodeEnter guest k) := ⟨fits_nil, fun h => (Nat.lt_irrefl 8 h).elim⟩
theorem eventNode (guest : Nat) (node : Nat) : Statement (.eventNode guest node) := ⟨fits_nil, fun h => (Nat.lt_irrefl 8 h).elim⟩
theorem hostirqNode (guest : Nat) (node : Nat) : Statement (.hostirqNode guest node) := ⟨fits_nil, fun h => (Nat.lt_irrefl 8 h).elim⟩
theorem spliceNode (guest : Nat) (node : Nat) : Statement (.spliceNode guest node) := ⟨fits_nil, fun h => (Nat.lt_irrefl 8 h).elim⟩
theorem condNode (guest : Nat) (k : Nat) : Statement (.condNode guest k) := ⟨fits_nil, fun h => (Nat.lt_irrefl 8 h).elim⟩
theorem kernelRecordReady (guest : Nat) (rcd : Nat) : Statement (.kernelRecordReady guest rcd) := ⟨fits_nil, fun h => (Nat.lt_irrefl 8 h).elim⟩
theorem groupPlacement (guest : Nat) : Statement (.groupPlacement guest) := ⟨fits_nil, fun h => (Nat.lt_irrefl 8 h).elim⟩
theorem groupComplete (guest : Nat) (rcd : Nat) (grp : Nat) : Statement (.groupComplete guest rcd grp) := ⟨fits_nil, fun h => (Nat.lt_irrefl 8 h).elim⟩
theorem frameStart : Statement .frameStart := ⟨fits_nil, fun h => (Nat.lt_irrefl 8 h).elim⟩
theorem windowGuard (k : Nat) : Statement (.windowGuard k) := ⟨fits_nil, fun h => (Nat.lt_irrefl 8 h).elim⟩
theorem windowEnd (k : Nat) : Statement (.windowEnd k) := ⟨fits_nil, fun h => (Nat.lt_irrefl 8 h).elim⟩
theorem contractLoad (guest : Nat) (v : Nat) : Statement (.contractLoad guest v) := ⟨fits_nil, fun h => (Nat.lt_irrefl 8 h).elim⟩
theorem start (guest : Nat) : Statement (.start guest) := ⟨fits_nil, fun h => (Nat.lt_irrefl 8 h).elim⟩
theorem stop (guest : Nat) : Statement (.stop guest) := ⟨fits_nil, fun h => (Nat.lt_irrefl 8 h).elim⟩
theorem reset (guest : Nat) : Statement (.reset guest) := ⟨fits_nil, fun h => (Nat.lt_irrefl 8 h).elim⟩
theorem resize (guest : Nat) (part : Nat) : Statement (.resize guest part) := ⟨fits_nil, fun h => (Nat.lt_irrefl 8 h).elim⟩
theorem generate (guest : Nat) : Statement (.generate guest) := ⟨fits_nil, fun h => (Nat.lt_irrefl 8 h).elim⟩
theorem importKey (guest : Nat) : Statement (.importKey guest) := ⟨fits_nil, fun h => (Nat.lt_irrefl 8 h).elim⟩
theorem erase (guest : Nat) : Statement (.erase guest) := ⟨fits_nil, fun h => (Nat.lt_irrefl 8 h).elim⟩
theorem poolAlloc (guest : Nat) : Statement (.poolAlloc guest) := ⟨fits_nil, fun h => (Nat.lt_irrefl 8 h).elim⟩
theorem poolFree (pa : Nat) : Statement (.poolFree pa) := ⟨fits_nil, fun h => (Nat.lt_irrefl 8 h).elim⟩
theorem frameScrub : Statement .frameScrub := ⟨fits_nil, fun h => (Nat.lt_irrefl 8 h).elim⟩
theorem attestation (guest : Nat) : Statement (.attestation guest) := ⟨fits_nil, fun h => (Nat.lt_irrefl 8 h).elim⟩
theorem eventCounterAdd (guest : Nat) (e : Nat) (v : Nat) : Statement (.eventCounterAdd guest e v) := ⟨fits_nil, fun h => (Nat.lt_irrefl 8 h).elim⟩
theorem irqTimer (guest : Nat) (vec : Nat) : Statement (.irqTimer guest vec) := ⟨fits_nil, fun h => (Nat.lt_irrefl 8 h).elim⟩
theorem vectorUnmask (guest : Nat) (vec : Nat) : Statement (.vectorUnmask guest vec) := ⟨fits_nil, fun h => (Nat.lt_irrefl 8 h).elim⟩
theorem hostClaim (res : Nat) : Statement (.hostClaim res) := ⟨fits_nil, fun h => (Nat.lt_irrefl 8 h).elim⟩
theorem hostRelease (res : Nat) : Statement (.hostRelease res) := ⟨fits_nil, fun h => (Nat.lt_irrefl 8 h).elim⟩
theorem debugStop (core : Nat) : Statement (.debugStop core) := ⟨fits_nil, fun h => (Nat.lt_irrefl 8 h).elim⟩
theorem halt (core : Nat) : Statement (.halt core) := ⟨fits_nil, fun h => (Nat.lt_irrefl 8 h).elim⟩
theorem resume (core : Nat) : Statement (.resume core) := ⟨fits_nil, fun h => (Nat.lt_irrefl 8 h).elim⟩
theorem dbgDataWrite (core : Nat) (v : Nat) : Statement (.dbgDataWrite core v) := ⟨fits_nil, fun h => (Nat.lt_irrefl 8 h).elim⟩
theorem traceEnable (cl : Nat) (v : Nat) : Statement (.traceEnable cl v) := ⟨fits_nil, fun h => (Nat.lt_irrefl 8 h).elim⟩
theorem traceSample (cl : Nat) (k : Nat) : Statement (.traceSample cl k) := ⟨fits_nil, fun h => (Nat.lt_irrefl 8 h).elim⟩
theorem pmctlClr (core : Nat) : Statement (.pmctlClr core) := ⟨fits_nil, fun h => (Nat.lt_irrefl 8 h).elim⟩
theorem counterLowRead (core : Nat) (i : Nat) : Statement (.counterLowRead core i) := ⟨fits_nil, fun h => (Nat.lt_irrefl 8 h).elim⟩
theorem mcinv (core : Nat) : Statement (.mcinv core) := ⟨fits_nil, fun h => (Nat.lt_irrefl 8 h).elim⟩
theorem replayGo (guest : Nat) : Statement (.replayGo guest) := ⟨fits_nil, fun h => (Nat.lt_irrefl 8 h).elim⟩
theorem replayAbort (guest : Nat) : Statement (.replayAbort guest) := ⟨fits_nil, fun h => (Nat.lt_irrefl 8 h).elim⟩
theorem replayPass (guest : Nat) : Statement (.replayPass guest) := ⟨fits_nil, fun h => (Nat.lt_irrefl 8 h).elim⟩
theorem perstN : Statement .perstN := ⟨fits_nil, fun h => (Nat.lt_irrefl 8 h).elim⟩
theorem dieBringup (die : Nat) (pass : Nat) : Statement (.dieBringup die pass) := ⟨fits_nil, fun h => (Nat.lt_irrefl 8 h).elim⟩
theorem full : Statement .full := ⟨fits_nil, fun h => (Nat.lt_irrefl 8 h).elim⟩
theorem thermalTrip : Statement .thermalTrip := ⟨fits_nil, fun h => (Nat.lt_irrefl 8 h).elim⟩
theorem tsync : Statement .tsync := ⟨fits_nil, fun h => (Nat.lt_irrefl 8 h).elim⟩
theorem tsyncTimeout : Statement .tsyncTimeout := ⟨fits_nil, fun h => (Nat.lt_irrefl 8 h).elim⟩
theorem functionLevelReset (guest : Nat) : Statement (.functionLevelReset guest) := ⟨fits_nil, fun h => (Nat.lt_irrefl 8 h).elim⟩
theorem hostWindowAccess (guest : Nat) (write : Nat) (addr : Nat) (data : List Nat) : Statement (.hostWindowAccess guest write addr data) := ⟨fits_nil, fun h => (Nat.lt_irrefl 8 h).elim⟩
theorem signalDetect (port : Nat) : Statement (.signalDetect port) := ⟨fits_nil, fun h => (Nat.lt_irrefl 8 h).elim⟩
theorem trainingComplete (port : Nat) : Statement (.trainingComplete port) := ⟨fits_nil, fun h => (Nat.lt_irrefl 8 h).elim⟩
theorem trainingTimeout (port : Nat) : Statement (.trainingTimeout port) := ⟨fits_nil, fun h => (Nat.lt_irrefl 8 h).elim⟩
theorem rateFallback (port : Nat) : Statement (.rateFallback port) := ⟨fits_nil, fun h => (Nat.lt_irrefl 8 h).elim⟩
theorem linkReport (port : Nat) (rep : LinkRep) : Statement (.linkReport port rep) := ⟨fits_nil, fun h => (Nat.lt_irrefl 8 h).elim⟩
theorem flitReceive (port : Nat) (flit : Flit) : Statement (.flitReceive port flit) := ⟨fits_nil, fun h => (Nat.lt_irrefl 8 h).elim⟩
theorem flitResend (port : Nat) : Statement (.flitResend port) := ⟨fits_nil, fun h => (Nat.lt_irrefl 8 h).elim⟩
theorem flitSilence (port : Nat) : Statement (.flitSilence port) := ⟨fits_nil, fun h => (Nat.lt_irrefl 8 h).elim⟩
theorem rekey (port : Nat) : Statement (.rekey port) := ⟨fits_nil, fun h => (Nat.lt_irrefl 8 h).elim⟩
theorem remoteAccess (acc : RemAcc) : Statement (.remoteAccess acc) := ⟨fits_nil, fun h => (Nat.lt_irrefl 8 h).elim⟩
theorem remoteResponse (id : Nat) (ok : Nat) (data : List Nat) : Statement (.remoteResponse id ok data) := ⟨fits_nil, fun h => (Nat.lt_irrefl 8 h).elim⟩
theorem collectiveComplete (guest : Nat) (peers : List PeerInput) : Statement (.collectiveComplete guest peers) := ⟨fits_nil, fun h => (Nat.lt_irrefl 8 h).elim⟩
theorem collectiveTimeout (guest : Nat) : Statement (.collectiveTimeout guest) := ⟨fits_nil, fun h => (Nat.lt_irrefl 8 h).elim⟩
theorem fcgrpWrite (guest : Nat) (v : Nat) : Statement (.fcgrpWrite guest v) := ⟨fits_nil, fun h => (Nat.lt_irrefl 8 h).elim⟩
theorem portDown (port : Nat) (why : Nat) : Statement (.portDown port why) := ⟨fits_nil, fun h => (Nat.lt_irrefl 8 h).elim⟩
theorem peerLossNotice (news : LinkNews) : Statement (.peerLossNotice news) := ⟨fits_nil, fun h => (Nat.lt_irrefl 8 h).elim⟩
theorem abortMessage (guest : Nat) (news : AbortNews) : Statement (.abortMessage guest news) := ⟨fits_nil, fun h => (Nat.lt_irrefl 8 h).elim⟩
theorem abortAckTimeout (port : Nat) : Statement (.abortAckTimeout port) := ⟨fits_nil, fun h => (Nat.lt_irrefl 8 h).elim⟩
theorem fabricDisable : Statement .fabricDisable := ⟨fits_nil, fun h => (Nat.lt_irrefl 8 h).elim⟩
theorem fabLogRead : Statement .fabLogRead := ⟨fits_nil, fun h => (Nat.lt_irrefl 8 h).elim⟩
theorem windowRewrite (win : Nat) (base : Nat) (cfg : Nat) : Statement (.windowRewrite win base cfg) := ⟨fits_nil, fun h => (Nat.lt_irrefl 8 h).elim⟩
theorem windowRevocation (car : Nat) : Statement (.windowRevocation car) := ⟨fits_nil, fun h => (Nat.lt_irrefl 8 h).elim⟩
theorem registerWrite (space : Nat) (off : Nat) (v : Nat) : Statement (.registerWrite space off v) := ⟨fits_nil, fun h => (Nat.lt_irrefl 8 h).elim⟩
theorem illegalEncoding (core : Nat) : Statement (.illegalEncoding core) := ⟨fits_nil, fun h => (Nat.lt_irrefl 8 h).elim⟩
theorem idleBundle (hdr : Nat) : Statement (.idleBundle hdr) := ⟨fits_nil, fun h => (Nat.lt_irrefl 8 h).elim⟩
theorem hostPhysicalAccess (write : Nat) (addr : Nat) (data : List Nat) : Statement (.hostPhysicalAccess write addr data) := ⟨fits_nil, fun h => (Nat.lt_irrefl 8 h).elim⟩
theorem gcMinWrite (guest : Nat) (v : Nat) : Statement (.gcMinWrite guest v) := ⟨fits_nil, fun h => (Nat.lt_irrefl 8 h).elim⟩
theorem pmcsrWrite (d3 : Nat) : Statement (.pmcsrWrite d3) := ⟨fits_nil, fun h => (Nat.lt_irrefl 8 h).elim⟩
theorem ieee11491 (ir : Nat) (data : List Nat) : Statement (.ieee11491 ir data) := ⟨fits_nil, fun h => (Nat.lt_irrefl 8 h).elim⟩
theorem powerLoss : Statement .powerLoss := ⟨fits_nil, fun h => (Nat.lt_irrefl 8 h).elim⟩
theorem recoveryMailbox (data : List Nat) : Statement (.recoveryMailbox data) := ⟨fits_nil, fun h => (Nat.lt_irrefl 8 h).elim⟩

end Sys2Proof.Laws.Encoding
end

