-- ==== Sys2Proof/Tests/Slice0.lean ====
section
/-! SUPPORT. Tests: words of every constructor written out from the encodings of the manual, ill-formed terms, worked
examples of the manual, the first step after reset, and for every obligation with hypotheses a state that meets them. -/

open Sys2Proof Sys2Proof.Machine

namespace Sys2Proof.Tests

set_option Elab.async false

/-! ### States for the tests -/

/-- The state after reset with another core in focus. -/
def onCore (f : Core → Core) : State := State.reset.modCore f
/-- With other synchronous state. -/
def onSync (f : Sync → Sync) : State := State.reset.modSync f
/-- With values in s registers. -/
def withS (l : List (Nat × W64)) : State := onSync (fun y => { y with s := l })
/-- With a scratchpad window of 8 KiB, s1 at an address in it and values in s2 and s3. -/
def withSpad (a b c : W64) : State :=
  onCore (fun k => { k with spwlen := 2, spad := [(8, 0x85), (9, 0x7F)], sync := { k.sync with s := [(1, a), (2, b), (3, c)] } })
/-- A running core that is about to fetch at pc. -/
def atPc (pc : Nat) (bytes : List Nat) : State :=
  onCore (fun k => { k with mode := .run, sync := { k.sync with pc := pc }, fbBase := pc, fbBytes := bytes, ckptHere := true })
/-- With a page of the guest's memory in the TLB at va 0, physical 0, writable and dirty, and values in s1 and s2. -/
def withPage (a b : W64) : State :=
  onCore (fun k => { k with
    tlb := [{ guest := 0, gen := 0, va := 0, bits := 12, pa := 0, mt := 0, enc := false, w := true, x := true, d := true, gt := false }]
    sync := { k.sync with s := [(1, a), (2, b)] } })

/-! ### Decoding: one word of every slot constructor -/

/-- Words written out field by field from R26, R40, R114. -/
theorem test_decode_integer : ∀ p ∈ ([
    (0, 0x00580000, .snop ⟨5, true⟩),
    (0, 0x015F5D30, .add ⟨5, true, 29, 14, 19⟩),
    (0, 0x025F5D30, .sub ⟨5, true, 29, 14, 19⟩),
    (0, 0x035F5D30, .mul ⟨5, true, 29, 14, 19⟩),
    (0, 0x045F5D30, .mulh ⟨5, true, 29, 14, 19⟩),
    (0, 0x055F5D30, .mulhu ⟨5, true, 29, 14, 19⟩),
    (0, 0x065F5D30, .div ⟨5, true, 29, 14, 19⟩),
    (0, 0x075F5D30, .divu ⟨5, true, 29, 14, 19⟩),
    (0, 0x085F5D30, .rem ⟨5, true, 29, 14, 19⟩),
    (0, 0x095F5D30, .remu ⟨5, true, 29, 14, 19⟩),
    (0, 0x0A5F5D30, .and ⟨5, true, 29, 14, 19⟩),
    (0, 0x0B5F5D30, .or ⟨5, true, 29, 14, 19⟩),
    (0, 0x0C5F5D30, .xor ⟨5, true, 29, 14, 19⟩),
    (0, 0x0D5F5D30, .shl ⟨5, true, 29, 14, 19⟩),
    (0, 0x0E5F5D30, .shr ⟨5, true, 29, 14, 19⟩),
    (0, 0x0F5F5D30, .sra ⟨5, true, 29, 14, 19⟩),
    (0, 0x105F5D30, .min ⟨5, true, 29, 14, 19⟩),
    (0, 0x115F5D30, .max ⟨5, true, 29, 14, 19⟩),
    (0, 0x125F5D30, .minu ⟨5, true, 29, 14, 19⟩),
    (0, 0x135F5D30, .maxu ⟨5, true, 29, 14, 19⟩),
    (0, 0x145F5C00, .clz ⟨5, true, 29, 14⟩),
    (0, 0x155F5C00, .popc ⟨5, true, 29, 14⟩),
    (0, 0x165F5D3B, .sel ⟨5, true, 29, 14, 19, 11⟩),
    (0, 0x175F5D30, .addw ⟨5, true, 29, 14, 19⟩),
    (0, 0x185F5D32, .lea ⟨5, true, 29, 14, 19, 2⟩),
    (0, 0x195F5C00, .mov ⟨5, true, 29, 14⟩)] : List (Nat × Nat × Instr)), decodeSlot p.1 p.2.1 = some p.2.2 := by decide

/-- Words written out field by field from R26 to R28, R40, R116 to R119. -/
theorem test_decode_immediate : ∀ p ∈ ([
    (0, 0x205F5D55, .addi ⟨5, true, 29, 14, 0x155⟩),
    (0, 0x215F5D55, .andi ⟨5, true, 29, 14, 0x155⟩),
    (0, 0x225F5D55, .ori ⟨5, true, 29, 14, 0x155⟩),
    (0, 0x235F5D55, .xori ⟨5, true, 29, 14, 0x155⟩),
    (0, 0x245F5C2D, .shli ⟨5, true, 29, 14, 45⟩),
    (0, 0x255F5C2D, .shri ⟨5, true, 29, 14, 45⟩),
    (0, 0x265F5C2D, .srai ⟨5, true, 29, 14, 45⟩),
    (0, 0x275F5D55, .muli ⟨5, true, 29, 14, 0x155⟩),
    (0, 0x305D9D30, .ceq ⟨5, true, 11, 14, 19⟩),
    (0, 0x315D9D30, .cne ⟨5, true, 11, 14, 19⟩),
    (0, 0x325D9D30, .clt ⟨5, true, 11, 14, 19⟩),
    (0, 0x335D9D30, .cge ⟨5, true, 11, 14, 19⟩),
    (0, 0x345D9D30, .cltu ⟨5, true, 11, 14, 19⟩),
    (0, 0x355D9D30, .cgeu ⟨5, true, 11, 14, 19⟩),
    (0, 0x365D9D55, .ceqi ⟨5, true, 11, 14, 0x155⟩),
    (0, 0x375D9D55, .cnei ⟨5, true, 11, 14, 0x155⟩),
    (0, 0x385D9D55, .clti ⟨5, true, 11, 14, 0x155⟩),
    (0, 0x395D9D55, .cgei ⟨5, true, 11, 14, 0x155⟩),
    (0, 0x3A5DAC90, .gand ⟨5, true, 11, true, 6, false, 9⟩),
    (0, 0x3B5DAC90, .gor ⟨5, true, 11, true, 6, false, 9⟩),
    (0, 0x3C5DAC90, .gxor ⟨5, true, 11, true, 6, false, 9⟩),
    (0, 0x3D5D8001, .gset ⟨5, true, 11, true⟩),
    (0, 0x89ABCDEF405F4000, .movi ⟨5, true, 29, 0, 0x89ABCDEF⟩),
    (0, 0x89ABCDEF415F4000, .movhi ⟨5, true, 29, 0, 0x89ABCDEF⟩),
    (0, 0x89ABCDEF425F5C00, .addil ⟨5, true, 29, 14, 0x89ABCDEF⟩)] : List (Nat × Nat × Instr)), decodeSlot p.1 p.2.1 = some p.2.2 := by decide

/-- Words written out field by field from R30, R40, R120 to R122. -/
theorem test_decode_float : ∀ p ∈ ([
    (0, 0x485F5D39, .fadd ⟨5, true, 29, 14, 19, 2, 1⟩),
    (0, 0x495F5D39, .fsub ⟨5, true, 29, 14, 19, 2, 1⟩),
    (0, 0x4A5F5D39, .fmul ⟨5, true, 29, 14, 19, 2, 1⟩),
    (0, 0x4B5F5D39, .fma ⟨5, true, 29, 14, 19, 2, 1⟩),
    (0, 0x4C5F5D39, .fmin ⟨5, true, 29, 14, 19, 2, 1⟩),
    (0, 0x4D5F5D39, .fmax ⟨5, true, 29, 14, 19, 2, 1⟩),
    (0, 0x4E5F5D34, .fcvt ⟨5, true, 29, 14, 2, 3, 1⟩),
    (0, 0x4F5D9D38, .fceq ⟨5, true, 11, 14, 19, 2⟩),
    (0, 0x505D9D38, .fclt ⟨5, true, 11, 14, 19, 2⟩),
    (0, 0x515D9D38, .fcle ⟨5, true, 11, 14, 19, 2⟩)] : List (Nat × Nat × Instr)), decodeSlot p.1 p.2.1 = some p.2.2 := by decide

/-- Words written out field by field from R26, R29, R40. -/
theorem test_decode_memory : ∀ p ∈ ([
    (0, 0x605F5D55, .ldB ⟨5, true, 29, 14, 0x155⟩),
    (0, 0x615F5D55, .ldH ⟨5, true, 29, 14, 0x155⟩),
    (0, 0x625F5D55, .ldW ⟨5, true, 29, 14, 0x155⟩),
    (0, 0x635F5D55, .ldD ⟨5, true, 29, 14, 0x155⟩),
    (0, 0x645F5D55, .ldsB ⟨5, true, 29, 14, 0x155⟩),
    (0, 0x655F5D55, .ldsH ⟨5, true, 29, 14, 0x155⟩),
    (0, 0x665F5D55, .ldsW ⟨5, true, 29, 14, 0x155⟩),
    (0, 0x685F5D55, .stB ⟨5, true, 29, 14, 0x155⟩),
    (0, 0x695F5D55, .stH ⟨5, true, 29, 14, 0x155⟩),
    (0, 0x6A5F5D55, .stW ⟨5, true, 29, 14, 0x155⟩),
    (0, 0x6B5F5D55, .stD ⟨5, true, 29, 14, 0x155⟩),
    (0, 0x000000336C5F5C00, .lda ⟨5, true, 29, 14, 0, 0, true, 2, 3⟩),
    (0, 0x000000336D5F5C00, .stl ⟨5, true, 29, 14, 0, 0, true, 2, 3⟩),
    (0, 0x00000033705F5D30, .amoadd ⟨5, true, 29, 14, 19, 0, true, 2, 3⟩),
    (0, 0x00000033715F5D30, .amoswp ⟨5, true, 29, 14, 19, 0, true, 2, 3⟩),
    (0, 0x00001533725F5D30, .amocas ⟨5, true, 29, 14, 19, 21, true, 2, 3⟩),
    (0, 0x00000033735F5D30, .amomin ⟨5, true, 29, 14, 19, 0, true, 2, 3⟩),
    (0, 0x00000033745F5D30, .amomax ⟨5, true, 29, 14, 19, 0, true, 2, 3⟩),
    (0, 0x00000033755F5D30, .amoand ⟨5, true, 29, 14, 19, 0, true, 2, 3⟩),
    (0, 0x00000033765F5D30, .amoor ⟨5, true, 29, 14, 19, 0, true, 2, 3⟩),
    (0, 0x00000033775F5D30, .amoxor ⟨5, true, 29, 14, 19, 0, true, 2, 3⟩),
    (0, 0x00000033785F5C00, .scld ⟨5, true, 29, 14, 0, 0, true, 2, 3⟩),
    (0, 0x00000033795F5C00, .scst ⟨5, true, 29, 14, 0, 0, true, 2, 3⟩),
    (0, 0x000015337A5F5D30, .scamo ⟨5, true, 29, 14, 19, 21, true, 2, 3⟩),
    (0, 0x0000001B7C580000, .fence ⟨5, true, 3, 3⟩),
    (0, 0x0414800A7D580000, .pfence ⟨5, true, 0x41, 0x24, 1, 2⟩),
    (0, 0x000000047E580000, .drain ⟨5, true, 0, 4⟩)] : List (Nat × Nat × Instr)), decodeSlot p.1 p.2.1 = some p.2.2 := by decide

/-- Words written out field by field from R26 to R28, R40, R138, R144, R322. -/
theorem test_decode_control : ∀ p ∈ ([
    (0, 0x805DABCD, .br ⟨5, true, 0x5ABCD⟩),
    (0, 0x815DABCD, .jal ⟨5, true, 0x5ABCD⟩),
    (0, 0x82581C00, .jr ⟨5, true, 14⟩),
    (0, 0x835F5C00, .jalr ⟨5, true, 29, 14⟩),
    (0, 0x84581D55, .loop ⟨5, true, 14, 0x155⟩),
    (0, 0x85580000, .lexit ⟨5, true⟩),
    (0, 0x88581C13, .trap ⟨5, true, 14, 19⟩),
    (0, 0x895F5C00, .kend ⟨5, true, 29, 14⟩),
    (0, 0x895F5C01, .sysord ⟨5, true, 29, 14⟩),
    (0, 0x895F5C02, .evadd ⟨5, true, 29, 14⟩),
    (0, 0x895F5C03, .claim ⟨5, true, 29, 14⟩),
    (0, 0x895F5C04, .release ⟨5, true, 29, 14⟩),
    (0, 0x895F5C05, .gstat ⟨5, true, 29, 14⟩),
    (0, 0x895F5C06, .notify ⟨5, true, 29, 14⟩),
    (0, 0x895F5C07, .sysc ⟨5, true, 29, 14, 7⟩),
    (0, 0x8A580000, .eret ⟨5, true⟩),
    (0, 0x8B5D8000, .ychk ⟨5, true, 11⟩),
    (0, 0x8C580000, .yield ⟨5, true⟩),
    (0, 0x8D580000, .wfe ⟨5, true⟩)] : List (Nat × Nat × Instr)), decodeSlot p.1 p.2.1 = some p.2.2 := by decide

/-- Words written out field by field from R26 to R28, R40, R138, R144, R322. -/
theorem test_decode_control_more : ∀ p ∈ ([
    (0, 0x8E581CA5, .evsig ⟨5, true, 14, 0xA5⟩),
    (0, 0x905F4155, .movc ⟨5, true, 29, 0x155⟩),
    (0, 0x91581D55, .movcw ⟨5, true, 14, 0x155⟩),
    (0, 0x985F5CE0, .xsa ⟨5, true, 29, 14, 14⟩),
    (0, 0x995F5CE0, .xsb ⟨5, true, 29, 14, 14⟩),
    (0, 0x9A5ADC00, .xsh ⟨5, true, 11, 14⟩),
    (0, 0x9B5ADC00, .xsj ⟨5, true, 11, 14⟩),
    (0, 0x9C5ADC00, .xsy ⟨5, true, 11, 14⟩),
    (0, 0xA05F5C0B, .bar ⟨5, true, 29, 14, 11⟩),
    (0, 0xA15F5C0B, .bara ⟨5, true, 29, 14, 11⟩),
    (0, 0xA25F5C0B, .barw ⟨5, true, 29, 14, 11⟩),
    (0, 0xA35F5C0B, .bari ⟨5, true, 29, 14, 11⟩),
    (0, 0xB05F5C00, .lnch ⟨5, true, 29, 14⟩),
    (0, 0xB15F5C02, .garm ⟨5, true, 29, 14, 2⟩),
    (0, 0xB258002D, .hirq ⟨5, true, 45⟩),
    (0, 0xB35F4000, .pflip ⟨5, true, 29⟩),
    (0, 0xD0580155, .bkpt ⟨5, true, 0x155⟩),
    (0, 0xD1581D55, .mark ⟨5, true, 14, 0x155⟩)] : List (Nat × Nat × Instr)), decodeSlot p.1 p.2.1 = some p.2.2 := by decide

/-- Words written out field by field from R31, R32, R41. -/
theorem test_decode_vector : ∀ p ∈ ([
    (1, 0x805C0001, .vnop ⟨false, true, 5, 3, 1⟩),
    (1, 0x815AC9CA, .vadd ⟨false, true, 5, 2, 22, 9, 50, 2⟩),
    (2, 0x825AC9CA, .vsub ⟨true, true, 5, 2, 22, 9, 50, 2⟩),
    (1, 0x835AC9CA, .vmul ⟨false, true, 5, 2, 22, 9, 50, 2⟩),
    (2, 0x845AC9CA, .vfma ⟨true, true, 5, 2, 22, 9, 50, 2⟩),
    (1, 0x855AC9CA, .vfms ⟨false, true, 5, 2, 22, 9, 50, 2⟩),
    (2, 0x865AC9CA, .vmin ⟨true, true, 5, 2, 22, 9, 50, 2⟩),
    (1, 0x875AC9CA, .vmax ⟨false, true, 5, 2, 22, 9, 50, 2⟩),
    (2, 0x8A5AC9CA, .vsqd ⟨true, true, 5, 2, 22, 9, 50, 2⟩),
    (1, 0x8B5AC9CA, .vmulh ⟨false, true, 5, 2, 22, 9, 50, 2⟩),
    (2, 0x8C5AC9CA, .vdot4 ⟨true, true, 5, 2, 22, 9, 50, 2⟩),
    (1, 0x905AC9CA, .vand ⟨false, true, 5, 2, 22, 9, 50, 2⟩),
    (2, 0x915AC9CA, .vor ⟨true, true, 5, 2, 22, 9, 50, 2⟩),
    (1, 0x925AC9CA, .vxor ⟨false, true, 5, 2, 22, 9, 50, 2⟩),
    (2, 0x935AC9CA, .vshl ⟨true, true, 5, 2, 22, 9, 50, 2⟩),
    (1, 0x945AC9CA, .vshr ⟨false, true, 5, 2, 22, 9, 50, 2⟩),
    (2, 0x955AC9CA, .vsra ⟨true, true, 5, 2, 22, 9, 50, 2⟩),
    (1, 0xA45AC9CA, .vsel ⟨false, true, 5, 2, 22, 9, 50, 2⟩),
    (1, 0x885AC902, .vabs ⟨false, true, 5, 2, 22, 9, 2⟩),
    (2, 0x895AC902, .vneg ⟨true, true, 5, 2, 22, 9, 2⟩),
    (1, 0xB85AC902, .vexp2 ⟨false, true, 5, 2, 22, 9, 2⟩),
    (2, 0xB95AC902, .vlog2 ⟨true, true, 5, 2, 22, 9, 2⟩),
    (1, 0xBA5AC902, .vrcp ⟨false, true, 5, 2, 22, 9, 2⟩),
    (2, 0xBB5AC902, .vrsq ⟨true, true, 5, 2, 22, 9, 2⟩),
    (1, 0xBC5AC902, .vsigm ⟨false, true, 5, 2, 22, 9, 2⟩),
    (2, 0xBD5AC902, .vtanh ⟨true, true, 5, 2, 22, 9, 2⟩)] : List (Nat × Nat × Instr)), decodeSlot p.1 p.2.1 = some p.2.2 := by decide

/-- Words written out field by field from R31, R32, R41. -/
theorem test_decode_vector_more : ∀ p ∈ ([
    (1, 0xC05AC902, .vrsum ⟨false, true, 5, 2, 22, 9, 2⟩),
    (2, 0xC15AC902, .vrmax ⟨true, true, 5, 2, 22, 9, 2⟩),
    (1, 0xC25AC902, .vrmin ⟨false, true, 5, 2, 22, 9, 2⟩),
    (2, 0xC35AC902, .vscan ⟨true, true, 5, 2, 22, 9, 2⟩),
    (1, 0xC45AC902, .vamax ⟨false, true, 5, 2, 22, 9, 2⟩),
    (2, 0xD05AC902, .vmov ⟨true, true, 5, 2, 22, 9, 2⟩),
    (1, 0xD25AC902, .vxs ⟨false, true, 5, 2, 22, 9, 2⟩),
    (2, 0xD35AC902, .vxab ⟨true, true, 5, 2, 22, 9, 2⟩),
    (1, 0xA058C9CA, .vceq ⟨false, true, 5, 2, 6, 9, 50, 2⟩),
    (2, 0xA158C9CA, .vcne ⟨true, true, 5, 2, 6, 9, 50, 2⟩),
    (1, 0xA258C9CA, .vclt ⟨false, true, 5, 2, 6, 9, 50, 2⟩),
    (2, 0xA358C9CA, .vcle ⟨true, true, 5, 2, 6, 9, 50, 2⟩),
    (1, 0xA858C316, .kand ⟨false, true, 5, 2, 6, 3, 5, 2⟩),
    (2, 0xA958C316, .kor ⟨true, true, 5, 2, 6, 3, 5, 2⟩),
    (1, 0xAA58C316, .kxor ⟨false, true, 5, 2, 6, 3, 5, 2⟩),
    (1, 0xAB58C302, .knot ⟨false, true, 5, 2, 6, 3, 2⟩),
    (2, 0xAC5AC302, .kpop ⟨true, true, 5, 2, 22, 3, 2⟩),
    (1, 0xB05AC9A0, .vcvt ⟨false, true, 5, 2, 22, 9, 4, 8⟩),
    (2, 0xB15AC916, .vqblk ⟨true, true, 5, 2, 22, 9, 5, 2⟩),
    (1, 0xB25AC956, .vdqblk ⟨false, true, 5, 2, 22, 9, 2, 5, 2⟩),
    (2, 0xB35AC903, .vrnd ⟨true, true, 5, 2, 22, 9, 3⟩),
    (1, 0xD15960C8, .vsq ⟨false, true, 5, 2, 11, 0, 50, 0⟩),
    (2, 0xD45AC0CA, .vspl ⟨true, true, 5, 2, 22, 50, 2⟩),
    (1, 0xD55AC0CA, .viota ⟨false, true, 5, 2, 22, 50, 2⟩),
    (2, 0xD65AC936, .vtag ⟨true, true, 5, 2, 22, 9, 13, 2⟩)] : List (Nat × Nat × Instr)), decodeSlot p.1 p.2.1 = some p.2.2 := by decide

/-- Words written out field by field from R36, R37, R44, R188, R193. -/
theorem test_decode_crossbar : ∀ p ∈ ([
    (6, 0x015ED933, .xprm ⟨5, true, 6, true, 22, 9, 19⟩),
    (6, 0x025E0120, .xpldA ⟨5, true, 6, 9⟩),
    (6, 0x025E8013, .xpldB ⟨5, true, 6, 19⟩),
    (6, 0x035E5933, .xzip ⟨5, true, true, 2, false, 22, 9, 19⟩),
    (6, 0x045E5933, .xuzp ⟨5, true, true, 2, false, 22, 9, 19⟩),
    (6, 0x055BD933, .xcmp ⟨5, true, 3, true, 22, 9, 19⟩),
    (6, 0x065BD933, .xexp ⟨5, true, 3, true, 22, 9, 19⟩),
    (7, 0x015AF500, .nmap ⟨5, true, 11, 6, 5⟩),
    (7, 0x025AF506, .nmapx ⟨5, true, 11, 6, 5, 6⟩),
    (7, 0x03580501, .npld ⟨5, true, 5, true⟩),
    (7, 0x045AF001, .nmov ⟨5, true, 11, 6, true⟩),
    (7, 0x055F7001, .nxs ⟨5, true, 29, 6, true⟩),
    (7, 0x065AF0A5, .nli ⟨5, true, 11, 6, 0xA5⟩)] : List (Nat × Nat × Instr)), decodeSlot p.1 p.2.1 = some p.2.2 := by decide

/-- Words written out field by field from R33, R34, R42, R229, R233. -/
theorem test_decode_matrix : ∀ p ∈ ([
    (3, 0x015E17A0A5800000, .mma ⟨5, true, 6, 11, 13, 0, 0xA5, true⟩),
    (3, 0x025E17A0A5800000, .mmaz ⟨5, true, 6, 11, 13, 0, 0xA5, true⟩),
    (3, 0x035E17B3A5800000, .mconv ⟨5, true, 6, 11, 13, 19, 0xA5, true⟩),
    (3, 0x045E000000040000, .mzero ⟨5, true, 6, 2⟩),
    (3, 0x055E160000000000, .mldz ⟨5, true, 6, 11⟩),
    (3, 0x0658D60000010000, .mstz ⟨5, true, 6, 11, 4⟩),
    (3, 0x07581780A5000000, .mtag ⟨5, true, 11, 0xCA5⟩),
    (3, 0x08581600A5000000, .mskp ⟨5, true, 11, 0xA5⟩),
    (3, 0x09580000A5000000, .mwait ⟨5, true, 0xA5⟩),
    (3, 0x1058000000400000, .tacq ⟨5, true⟩),
    (3, 0x1158000000400000, .trel ⟨5, true⟩),
    (3, 0x1258160000400000, .tldw ⟨5, true, 11⟩),
    (3, 0x1358160000680000, .tlnc ⟨5, true, 11, true, false, true⟩),
    (3, 0x1458160000400000, .tcap ⟨5, true, 11⟩),
    (3, 0x1558000000400000, .trst ⟨5, true⟩)] : List (Nat × Nat × Instr)), decodeSlot p.1 p.2.1 = some p.2.2 := by decide

/-- Words written out field by field from R35, R43, R246, R258, R262, R263. -/
theorem test_decode_copy : ∀ p ∈ ([
    (4, 0x01585E8021ABCDEF, .cpy ⟨false, 5, true, 11, 13, 4, 0x1ABCDEF⟩),
    (5, 0x02585ECC20000000, .cpys ⟨true, 5, true, 11, 13, 19, 4⟩),
    (4, 0x03585801A1ABCDEF, .cpyt ⟨false, 5, true, 11, 6, 4, 0x1ABCDEF⟩),
    (5, 0x04585801A1ABCDEF, .cpyw ⟨true, 5, true, 11, 6, 4, 0x1ABCDEF⟩),
    (4, 0x05585801A0000040, .ldblk ⟨false, 5, true, 11, 6, 4, 64⟩),
    (5, 0x0658000180000000, .evblk ⟨true, 5, true, 6⟩),
    (4, 0x075CD80400000000, .bind ⟨false, 5, true, 9, true, 11⟩),
    (5, 0x085C800020000000, .unbd ⟨true, 5, true, 9, 4⟩),
    (4, 0x095CD80081ABCDEF, .gthr ⟨false, 5, true, 9, 11, 2, 0, 0x1ABCDEF⟩),
    (5, 0x0A5CD80061ABCDEF, .sctr ⟨true, 5, true, 9, 11, 1, 4, 0x1ABCDEF⟩),
    (4, 0x0B58000001ABCDEF, .cwait ⟨false, 5, true, 0x1ABCDEF⟩),
    (5, 0x0C58000181ABCDEF, .cflag ⟨true, 5, true, 6, 0, 0x1ABCDEF⟩),
    (4, 0x0D585E8024000001, .csig ⟨false, 5, true, 11, 13, 4, 2, true⟩),
    (5, 0x0E585E9D61ABCDEF, .coll ⟨true, 5, true, 11, 13, 7, 5, 4, 0x1ABCDEF⟩),
    (4, 0x10585E8001ABCDEF, .hadd ⟨false, 5, true, 11, 13, 0x1ABCDEF⟩),
    (5, 0x11585E8000000000, .hmov ⟨true, 5, true, 11, 13⟩),
    (4, 0x1258580001ABCDEF, .hli ⟨false, 5, true, 11, 0x1ABCDEF⟩),
    (5, 0x135806800000001D, .hxs ⟨true, 5, true, 29, 13⟩)] : List (Nat × Nat × Instr)), decodeSlot p.1 p.2.1 = some p.2.2 := by decide

/-- The words that the chapters write out: 1 to 3, 5 to 8, 11, 12, 14, 21. -/
theorem test_worked_words :
    decodeSlot 0 0x20004010 = some (.addi ⟨0, false, 1, 0, 16⟩) ∧ decodeSlot 0 0x200043FF = some (.addi ⟨0, false, 1, 1, 0x1FF⟩) ∧
    decodeSlot 0 0x37008200 = some (.cnei ⟨0, false, 1, 1, 0⟩) ∧ decodeSlot 0 0x8017FFFC = some (.br ⟨1, false, 0x7FFFC⟩) ∧
    decodeSlot 0 0x6B014410 = some (.stD ⟨0, false, 5, 2, 16⟩) ∧ decodeSlot 0 0x000000316D024600 = some (.stl ⟨0, false, 9, 3, 0, 0, true, 2, 1⟩) ∧
    decodeSlot 0 0xA0010600 = some (.bar ⟨0, false, 4, 3, 0⟩) ∧ decodeSlot 0 0xD0000005 = some (.bkpt ⟨0, false, 5⟩) ∧
    decodeSlot 0 0xD1000807 = some (.mark ⟨0, false, 4, 7⟩) ∧ decodeSlot 0 0x0000001B7C000000 = some (.fence ⟨0, false, 3, 3⟩) ∧
    decodeSlot 0 0x000000097C000000 = some (.fence ⟨0, false, 1, 1⟩) ∧
    decodeSlot 0 0x000008237A014C70 = some (.scamo ⟨0, false, 5, 6, 7, 8, true, 0, 3⟩) ∧
    decodeSlot 1 0x01048518 = some (.vadd ⟨false, false, 0, 1, 4, 5, 6, 0⟩) ∧ decodeSlot 1 0x300848A0 = some (.vcvt ⟨false, false, 0, 2, 2, 8, 4, 8⟩) ∧
    decodeSlot 7 0x02011203 = some (.nmapx ⟨0, false, 4, 2, 2, 3⟩) ∧ decodeSlot 0 0x9C014A00 = some (.xsy ⟨0, false, 5, 5⟩) ∧
    decodeSlot 3 0x0102002004000000 = some (.mma ⟨0, false, 2, 0, 1, 0, 4, false⟩) ∧
    decodeSlot 3 0x1300060000500000 = some (.tlnc ⟨0, false, 3, false, true, false⟩) ∧
    decodeSlot 3 0x1300000000580000 = some (.tlnc ⟨0, false, 0, false, true, true⟩) ∧
    decodeSlot 4 0x0100118010000400 = some (.cpy ⟨false, 0, false, 2, 3, 2, 0x400⟩) ∧
    decodeSlot 5 0x0100108000000400 = some (.cpy ⟨true, 0, false, 2, 1, 0, 0x400⟩) := by decide

/-! ### One ill-formed term for each check of `Instr.wf`, which the check refuses, beside a legal one -/

theorem test_wf_scalar :
    (∀ i ∈ [Instr.lda ⟨0, false, 1, 2, 1, 0, true, 0, 0⟩, .stl ⟨0, false, 1, 2, 0, 1, true, 0, 0⟩, .scld ⟨0, false, 1, 2, 3, 0, true, 0, 0⟩,
      .scst ⟨0, false, 1, 2, 0, 4, true, 0, 0⟩, .amoadd ⟨0, false, 1, 2, 3, 4, true, 0, 0⟩, .amoxor ⟨0, false, 1, 2, 3, 31, true, 0, 0⟩,
      .movi ⟨0, false, 1, 2, 0⟩, .movhi ⟨0, false, 1, 2, 0⟩, .xsa ⟨0, false, 1, 2, 15⟩, .xsb ⟨0, false, 1, 2, 15⟩,
      .sysc ⟨0, false, 1, 2, 6⟩], i.wf = false) ∧
    (∀ i ∈ [Instr.lda ⟨0, false, 1, 2, 0, 0, true, 0, 0⟩, .amocas ⟨0, false, 1, 2, 3, 4, true, 0, 0⟩, .movi ⟨0, false, 1, 0, 5⟩,
      .xsa ⟨0, false, 1, 2, 14⟩, .sysc ⟨0, false, 1, 2, 7⟩], i.wf = true) := by decide

theorem test_wf_vector :
    (∀ i ∈ [Instr.vtag ⟨false, false, 0, 0, 1, 2, 15, 0⟩, .vcvt ⟨false, false, 0, 0, 1, 2, 0, 15⟩, .vcvt ⟨false, false, 0, 0, 1, 2, 5, 0⟩,
      .vrnd ⟨false, false, 0, 0, 1, 2, 5⟩, .vqblk ⟨false, false, 0, 0, 1, 2, 0, 0⟩, .vdqblk ⟨false, false, 0, 0, 1, 2, 3, 0, 0⟩,
      .vsq ⟨false, false, 0, 0, 1, 2, 1, 0⟩, .vsq ⟨false, false, 0, 0, 1, 2, 48, 0⟩, .nmapx ⟨0, false, 1, 2, 3, 7⟩], i.wf = false) ∧
    (∀ i ∈ [Instr.vcvt ⟨false, false, 0, 0, 1, 2, 4, 14⟩, .vrnd ⟨false, false, 0, 0, 1, 2, 4⟩, .vqblk ⟨false, false, 0, 0, 30, 2, 7, 0⟩,
      .vdqblk ⟨false, false, 0, 0, 1, 2, 2, 0, 0⟩, .vsq ⟨false, false, 0, 0, 1, 2, 0, 0⟩, .vsq ⟨false, false, 0, 0, 1, 0, 63, 0⟩,
      .nmapx ⟨0, false, 1, 2, 3, 6⟩], i.wf = true) := by decide

theorem test_wf_matrix_copy :
    (∀ i ∈ [Instr.mma ⟨0, false, 1, 2, 3, 1, 4, false⟩, .mmaz ⟨0, false, 1, 2, 3, 31, 4, false⟩, .mstz ⟨0, false, 1, 2, 5⟩, .mtag ⟨0, false, 1, 15⟩,
      .gthr ⟨false, 0, false, 1, 2, 0, 1, 8⟩, .gthr ⟨false, 0, false, 1, 2, 3, 0, 8⟩, .sctr ⟨false, 0, false, 1, 2, 3, 0, 8⟩,
      .bind ⟨false, 0, false, 1, false, 2⟩, .cflag ⟨false, 0, false, 1, 15, 8⟩, .cflag ⟨false, 0, false, 1, 16, 8⟩,
      .coll ⟨false, 0, false, 1, 2, 3, 6, 0, 8⟩], i.wf = false) ∧
    (∀ i ∈ [Instr.mconv ⟨0, false, 1, 2, 3, 31, 4, false⟩, .mstz ⟨0, false, 1, 2, 4⟩, .mtag ⟨0, false, 1, 14⟩,
      .gthr ⟨false, 0, false, 1, 2, 2, 0, 8⟩, .sctr ⟨false, 0, false, 1, 2, 2, 5, 8⟩, .bind ⟨false, 0, false, 1, true, 2⟩,
      .cflag ⟨false, 0, false, 1, 0, 8⟩, .cflag ⟨false, 0, false, 1, 31, 0⟩, .coll ⟨false, 0, false, 1, 2, 3, 5, 0, 8⟩], i.wf = true) := by decide

/-- No encoding is taken for a neighbour: an unassigned opcode, a field that an opcode leaves unused, a reserved value. -/
theorem test_decode_refuses :
    (∀ w ∈ [0xFFFFFFFF, 0x0100C221, 0x1A000000, 0x40018200 + 2 ^ 32, 0x28004040, 0x85000001], decodeSlot 0 w = none) ∧
    decodeSlot 1 0x7F000000 = none ∧ decodeSlot 3 0 = none ∧ decodeSlot 4 0xFF00000000000000 = none := by decide

/-! ### Worked examples of the manual, one step each -/

/-- The next state of an outcome, if it is one. -/
def after (o : Host.Outcome State Fault Refusal) : State := match o with | .next t => t | _ => State.reset
/-- A later state in which every result has landed. -/
def later (s : State) : State := { s with now := 1000 }

/-- R115: -7 / 2 = -3, -7 rem 2 = -1, and both by 0. -/
theorem test_division :
    let s := withS [(1, BitVec.ofInt 64 (-7)), (2, 2)]
    (later (after (exec (.div ⟨0, false, 3, 1, 2⟩) s))).rs 3 = BitVec.ofInt 64 (-3) ∧
    (later (after (exec (.rem ⟨0, false, 3, 1, 2⟩) s))).rs 3 = BitVec.ofInt 64 (-1) ∧
    (later (after (exec (.divu ⟨0, false, 3, 1, 0⟩) s))).rs 3 = BitVec.allOnes 64 ∧
    (later (after (exec (.rem ⟨0, false, 3, 1, 0⟩) s))).rs 3 = BitVec.ofInt 64 (-7) := by decide +kernel

/-- R119: MOVI then MOVHI of 0x0000_1234_8000_0000. -/
theorem test_long_constant :
    let t := later (after (exec (.movi ⟨0, false, 4, 0, 0x80000000⟩) State.reset))
    t.rs 4 = 0xFFFFFFFF80000000 ∧ (later (after (exec (.movhi ⟨0, false, 4, 0, 0x1234⟩) t))).rs 4 = 0x0000123480000000 := by decide +kernel

/-- R122: FCVT of 2.5 and of a NaN to i64. -/
theorem test_fcvt :
    let c (r : BitVec 2) (x : W64) : W64 := (later (after (exec (.fcvt ⟨0, false, 3, 2, r, 0, 3⟩) (withS [(2, x)])))).rs 3
    c 0 0x40200000 = 2 ∧ c 2 0x40200000 = 3 ∧ c 0 0x7FC00000 = 0 := by decide +kernel

/-- R177: the reduction and the prefix sums of 2^24, 1, 1, 1, 1, 1, 1, 1. -/
theorem test_reduction :
    let s := onSync (fun y => { y with a := [(9, ⟨BitVec.ofNat 1024 (packElems 32 [0x4B800000, 0x3F800000, 0x3F800000, 0x3F800000, 0x3F800000, 0x3F800000,
      0x3F800000, 0x3F800000]), 9⟩)] })
    (later (after (exec (.vrsum ⟨false, false, 0, 0, 10, 9, 0⟩) s))).readV false 10 = ⟨0x4B800003, 9⟩ ∧
    (later (after (exec (.vscan ⟨false, false, 0, 0, 11, 9, 0⟩) s))).readV false 11 =
      ⟨BitVec.ofNat 1024 (packElems 32 (List.replicate 8 0x4B800000)), 9⟩ := by decide +kernel

/-- R103: the first two draws from RNGST = 1, and what they round 1 + 2^-9 to. -/
theorem test_stochastic :
    let s := onSync (fun y => { y with a := [(8, ⟨BitVec.ofNat 1024 (packElems 32 [0x3F804000, 0x3F804000]), 9⟩)] })
    let t := after (exec (.vcvt ⟨false, false, 0, 0, 2, 8, 4, 8⟩) s)
    rngSteps 1 1 = 0x80200003 ∧ rngSteps 2 1 = 0xC0300002 ∧ ((later t).readV false 2).bits.toNat % 2 ^ 32 = 0x3F813F81 := by decide +kernel

/-- R194: one step of the CRC: 0x31 from CRC 0 gives 0x97. -/
theorem test_crc_step :
    let s := onSync (fun y => { y with
      y := [(0, 0x0000C7C6C0878680), (1, 0x0000C6C1C0868180), (2, 0xC6C2C1C086828180), (3, 0xC7C3C2C187838281),
        (4, 0x0000C4C3C2848382), (5, 0x0000C5C4C3858483), (6, 0x0000C6C5C4868584), (7, 0x0000C7C6C5878685)] })
    let p := { (after (exec (.npld ⟨0, false, 2, false⟩) s)).modSync (fun y => { y with y := [(5, 0x31)] }) with now := 500 }
    (later (after (exec (.nmapx ⟨0, false, 4, 2, 2, 3⟩) p))).readY 4 = 0x97 := by decide +kernel

/-- R51, R322: a TRAP at the first bundle takes cause E5 with sA, and ERET takes the core back. -/
theorem test_trap :
    let s := onCore (fun k => { k with mode := .run, trap := { k.trap with en := true, haddr := 0x4000 }, sync := { k.sync with s := [(2, 9)] } })
    let t := after (exec (.trap ⟨0, false, 2, 5⟩) s)
    t.core.mode = .handler ∧ t.core.trap.cause = 0xE5 ∧ t.core.trap.info = 9 ∧ t.core.sync.pc = 0x4000 ∧
    (after (exec (.eret ⟨0, false⟩) t)).core.mode = .run := by decide +kernel

/-! ### The first step after reset with an instruction placed -/

/-- ADDI s1, zero, 16 runs as the first bundle: s1 reads 16 and the program counter moves past 8 bytes. -/
theorem test_first_step :
    let t := after (step (State.reset.withFetchWord 32 0x20004010))
    (t.coreAt 0).sync.s.get 0 1 = 16 ∧ (t.coreAt 0).sync.pc = 8 := by decide +kernel

/-- A copy command enters the queue of copy engine A. -/
theorem test_first_step_copy :
    ((after (step (State.reset.withFetchWord 64 0x0100118010000400))).coreAt 0).cqa.length = 1 := by decide +kernel

/-! ### Witnesses of the hypotheses: results of the S slot -/

/-- R115: 7 and 2, a zero divisor, and the least number by -1. -/
theorem witness_IntegerResults :
    (withS [(1, 7), (2, 2)]).guardOn 0 false = true ∧ (withS [(1, 7), (2, 2)]).rs 2 ≠ 0 ∧ (withS [(1, 7)]).rs 2 = 0 ∧
    (withS [(1, 1 <<< 63), (2, BitVec.allOnes 64)]).rs 1 = BitVec.ofInt 64 (-2 ^ 63) ∧
    (withS [(1, 1 <<< 63), (2, BitVec.allOnes 64)]).rs 2 = BitVec.ofInt 64 (-1) := by decide

/-- A MOVHI in the bundle after a MOVI, and the immediate -64. -/
theorem witness_ImmediateAndLongResults :
    State.reset.guardOn 0 false = true ∧ (0x1C0 : BitVec 9).toInt = -64 ∧ (4 : BitVec 5) ≠ 0 ∧
    (Instr.movi ⟨0, false, 4, 0, 0x80000000⟩).wf = true ∧ (Instr.movhi ⟨0, false, 4, 0, 0x1234⟩).wf = true ∧
    State.reset.overtaken (State.reset.sKey 4) 1 = false ∧
    exec (.movi ⟨0, false, 4, 0, 0x80000000⟩) State.reset = .next (State.reset.ws 4 0xFFFFFFFF80000000 1) ∧
    ({ State.reset.ws 4 0xFFFFFFFF80000000 1 with tb := 10 } : State).pre = (State.reset.ws 4 0xFFFFFFFF80000000 1).core.sync ∧
    ({ State.reset.ws 4 0xFFFFFFFF80000000 1 with tb := 10 } : State).inHandler = State.reset.inHandler ∧
    ({ State.reset.ws 4 0xFFFFFFFF80000000 1 with tb := 10 } : State).guardOn 0 false = true :=
  ⟨by decide, by decide, by decide, by decide, by decide, by decide, rfl, by decide, by decide, by decide⟩

theorem witness_CompareAndGuardResults : State.reset.guardOn 0 false = true ∧
    (let o : OpSGl := ⟨0, false, 2, false, 2, false, 3⟩; o.e = 2 ∧ o.f = 2 ∧ o.h = 3 ∧ o.p = false ∧ o.q = false) ∧
    (⟨0, false, 0, 1, 2⟩ : OpSC).e = 0 ∧ (⟨0, false, 0, 1, 2⟩ : OpSCI).e = 0 := by decide

/-- Each of the four pairs of classes of FCVT. -/
theorem witness_ScalarFloatResults : State.reset.guardOn 0 false = true ∧
    (∀ p ∈ [(3, 3), (3, 0), (0, 3), (0, 1)], (let o : OpSFcvt := ⟨0, false, 3, 2, 0, p.1, p.2⟩
      (o.s = 3 ∧ o.c = 3) ∨ (o.s = 3 ∧ o.c ≠ 3) ∨ (o.s ≠ 3 ∧ o.c = 3) ∨ (o.s ≠ 3 ∧ o.c ≠ 3))) := by decide

theorem witness_CrossFileCopies : State.reset.guardOn 0 false = true ∧ (14 : BitVec 4).toNat ≤ 14 ∧ 127 < 1024 / tagBits 14 := by decide

/-- The home has answered a request for four bytes at an address. -/
def answered (va : Nat) : State :=
  (withPage (BitVec.ofNat 64 va) 0).modCore (fun k => { k with got := [(va, [1, 2, 3, 4], 0)], capmap := [1, 0, 0, 0] })

/-- A word at offset 8 of the window, a line of the L1, an answer of the home, and an address beyond the space. -/
theorem witness_LoadsComplete :
    (withSpad 0xFF0000000008 0 0).guardOn 0 false = true ∧
    (withSpad 0xFF0000000008 0 0).OwnSpad (effAddr ((withSpad 0xFF0000000008 0 0).rs 1) 0 8).toNat 1 8 8 ∧
    ((withPage 0x80 0).modCore (fun k => { k with l1 := [⟨0x80, 16, List.replicate 128 5, List.replicate 128 false, [], 0⟩] })).HitsL1
      (effAddr ((withPage 0x80 0).rs 1) 0 4).toNat 1 4 0x80 16 ⟨0x80, 16, List.replicate 128 5, List.replicate 128 false, [], 0⟩ ∧
    (answered 0x80).Answered (effAddr ((answered 0x80).rs 1) 0 4).toNat 1 4 (.mem 0x80 16) [1, 2, 3, 4] ∧ (answered 0x80).core.l1Find 0x80 16 = none ∧
    (withSpad 0xFF0000000008 0 0).sLoad 0xFF0000000008 2 false = (withSpad 0xFF0000000008 0 0, .ok [0x85, 0x7F]) ∧
    2 ^ 48 ≤ (effAddr ((withS [(1, 1 <<< 48)]).rs 1) 0 8).toNat := by
  refine ⟨by decide, ⟨⟨by decide, by decide, by decide, by decide +kernel⟩, by decide⟩,
    ⟨⟨by decide, by decide, by decide, by decide +kernel⟩, by decide, by decide, by decide +kernel⟩, ⟨⟨by decide, by decide, by decide, by decide +kernel⟩, by decide, by decide⟩,
    by decide, by decide +kernel, by decide⟩

theorem witness_StoresComplete :
    (withPage 0x80 0x1122).guardOn 0 false = true ∧
    (withPage 0x80 0x1122).Places (effAddr ((withPage 0x80 0x1122).rs 1) 0 8).toNat 2 8 (.mem 0x80 16) ∧
    needsBracket (.mem 0x80 16) = false ∧ (2 ≤ (Tgt.mem 0x80 16).place.1 → (withPage 0x80 0x1122).replaying 0 = false) ∧
    (storeLines ((withPage 0x80 0x1122).core.stores ++ [{ va := 0x80, kind := 1, pa := 0x80, sel := 16, bytes := toLe 8 0x1122, seqNo := 0, scope := 0, rel := false }])).length ≤ 64 ∧
    2 ^ 48 ≤ (effAddr ((withS [(1, 1 <<< 48)]).rs 1) 0 8).toNat ∧
    ((withPage 0x81 0).rs 1).toNat % widthBytes true ≠ 0 ∧ ((withPage 0x80 0).rs 1).toNat % widthBytes true = 0 :=
  ⟨by decide, ⟨by decide, by decide, by decide, by decide +kernel⟩, by decide, by decide, by decide, by decide, by decide, by decide⟩

/-- The own scratchpad; a line of the L1, and the answer of the home, at CORE scope and at DIE scope. -/
theorem witness_AtomicsComplete :
    let s := withSpad 0xFF0000000008 3 4
    let l : L1Line := ⟨0x80, 16, List.replicate 128 5, List.replicate 128 false, [], 0⟩
    let h := (withPage 0x80 0).modCore (fun k => { k with l1 := [l] })
    s.guardOn 0 false = true ∧ ((withSpad 0xFF0000000009 3 4).rs 1).toNat % widthBytes true ≠ 0 ∧
    (s.rs 1).toNat % widthBytes true = 0 ∧ s.OwnSpad (s.rs 1).toNat 3 8 8 ∧ s.OwnSpad (s.rs 1).toNat 1 8 8 ∧
    (s.clear = true ∧ s.core.stores = [] ∧ s.answer (s.rs 1).toNat = none) ∧
    h.HitsL1 (h.rs 1).toNat 3 8 0x80 16 l ∧ h.HitsL1 (h.rs 1).toNat 1 8 0x80 16 l ∧ h.eventScope 0 (h.rs 1).toNat = 0 ∧
    (h.clear = true ∧ h.core.stores = [] ∧ h.answer (h.rs 1).toNat = none) ∧ h.replaying h.focus = false ∧
    (answered 0x80).Answered ((answered 0x80).rs 1).toNat 3 4 (.mem 0x80 16) [1, 2, 3, 4] ∧
    (answered 0x80).Answered ((answered 0x80).rs 1).toNat 1 4 (.mem 0x80 16) [1, 2, 3, 4] ∧
    (answered 0x80).eventScope 3 ((answered 0x80).rs 1).toNat ≠ 0 := by
  refine ⟨by decide, by decide, by decide, ⟨⟨by decide, by decide, by decide, by decide +kernel⟩, by decide⟩,
    ⟨⟨by decide, by decide, by decide, by decide +kernel⟩, by decide⟩, by decide,
    ⟨⟨by decide, by decide, by decide, by decide +kernel⟩, by decide, by decide, by decide +kernel⟩, ⟨⟨by decide, by decide, by decide, by decide +kernel⟩, by decide, by decide, by decide +kernel⟩,
    by decide, by decide, by decide, ⟨⟨by decide, by decide, by decide, by decide +kernel⟩, by decide, by decide⟩,
    ⟨⟨by decide, by decide, by decide, by decide +kernel⟩, by decide, by decide⟩, by decide⟩

/-- A core without a position, one whose request has been answered, and one whose position the Capstan has let go. -/
theorem witness_ScOperationsComplete :
    let s := answered 0x80
    let q := (withPage 0x80 3).modCore (fun k => { k with capmap := [1, 0, 0, 0], capGo := some 0 })
    let p := (withSpad 0xFF0000000008 3 4).modCore (fun k => { k with capmap := [1, 0, 0, 0], capGo := some 0 })
    s.guardOn 0 false = true ∧ ((withPage 0x81 3).rs 1).toNat % widthBytes true ≠ 0 ∧ (s.rs 1).toNat % widthBytes false = 0 ∧
    (withPage 0x80 3).core.noPos = true ∧ s.core.noPos = false ∧
    (∀ k ∈ [1, 2, 3], s.Answered (s.rs 1).toNat k 4 (.mem 0x80 16) [1, 2, 3, 4]) ∧
    ((q.rs 1).toNat % widthBytes true = 0 ∧ q.core.noPos = false ∧ q.answer (q.rs 1).toNat = none ∧ q.clear = true ∧ q.core.stores = [] ∧
      q.replaying q.focus = false ∧ q.core.req = none ∧ q.core.capGo = some q.tb ∧ ∀ k ∈ [1, 2, 3], q.Places (q.rs 1).toNat k 8 (.mem 0x80 16)) ∧
    ((p.rs 1).toNat % widthBytes true = 0 ∧ p.core.noPos = false ∧ p.answer (p.rs 1).toNat = none ∧ p.clear = true ∧ p.core.stores = [] ∧
      p.replaying p.focus = false ∧ p.core.req = none ∧ p.core.capGo = some p.tb ∧ p.eventScope 3 (p.rs 1).toNat ≠ 0 ∧
      ∀ k ∈ [1, 2, 3], p.OwnSpad (p.rs 1).toNat k 8 8) := by
  refine ⟨by decide, by decide, by decide, by decide, by decide, ?_, ⟨by decide, by decide, by decide, by decide, by decide, by decide, by decide, by decide, ?_⟩,
    by decide, by decide, by decide, by decide, by decide, by decide, by decide, by decide, by decide, ?_⟩
  · intro k h
    fin_cases h <;> exact ⟨⟨by decide, by decide, by decide, by decide +kernel⟩, by decide, by decide⟩
  · intro k h
    fin_cases h <;> exact ⟨by decide, by decide, by decide, by decide +kernel⟩
  · intro k h
    fin_cases h <;> exact ⟨⟨by decide, by decide, by decide, by decide +kernel⟩, by decide⟩

theorem witness_FencesComplete :
    State.reset.guardOn 0 false = true ∧ (∀ c ∈ ([0, 1, 2, 3] : List (BitVec 2)), c = 0 ∨ c = 1 ∨ c = 2 ∨ c = 3) ∧
    State.reset.core.draining 4 = false ∧ (⟨0, false, 0, 1, 0, 0⟩ : OpSPf).toc = 0 ∧ (⟨0, false, 1, 4, 0, 0⟩ : OpSPf).fromc ≠ 0 ∧
    (⟨0, false, 1, 4, 0, 0⟩ : OpSPf).toc ≠ 0 ∧ (bitOf 0 (1 : Nat) = true → State.reset.core.stores = []) := by decide

/-! ### Witnesses of the hypotheses: words, bundles, steps -/

/-- The first and the last slot, and a word of two halves. -/
theorem witness_DecodeEncode_EncodeDecode_OneInstructionBundle :
    (∀ i ∈ [Instr.add ⟨0, false, 3, 1, 2⟩, .add ⟨7, true, 31, 31, 31⟩, .movi ⟨7, true, 31, 0, 0xFFFFFFFF⟩], i.wf = true ∧ i.slot < 8) ∧
    decodeSlot 0 0x0100C220 = some (.add ⟨0, false, 3, 1, 2⟩) ∧ 0x0100C220 < 2 ^ (Instr.add ⟨0, false, 3, 1, 2⟩).bits ∧
    decodeSlot 0 0x8000000040010000 = some (.movi ⟨0, false, 4, 0, 0x80000000⟩) := by decide

/-- A bundle of ADD s3, s1, s2 at the program counter of core 0. -/
def addBundle : Bundle := splitBundle (oneSlotBytes 0 8 0x0100C220)
/-- The state in which it comes to issue. -/
def addNext : State := State.reset.withFetchWord 32 0x0100C220

theorem fetched_add : addNext.AtIssue ∧ addNext.Fetched addBundle :=
  ⟨⟨by decide +kernel, by decide +kernel, by decide +kernel, by decide +kernel, by decide +kernel, by decide +kernel, by decide +kernel,
    by decide +kernel⟩, ⟨by decide +kernel, by decide +kernel, by decide +kernel, by decide +kernel⟩⟩

theorem witness_StepRunsBundle : bundleCause addBundle = none ∧ addNext.core.ckptHere = true ∧
    ∃ t, runSlots exec (slotOrder (decodeWords addBundle.words).1) (addNext.slotState addBundle (decodeWords addBundle.words).1) = .next t :=
  ⟨by decide +kernel, by decide +kernel, _, rfl⟩

/-- What the decoder and the checks say of the bundle of some words: the cause, and the slots. -/
def checkOf (b : List Nat) : Option (Nat × Nat) := bundleCause (splitBundle b)

/-- The bundles that trap, the first words of R51's table and the two legal bundles after it; a zero word in slot S. -/
theorem test_bundles_that_trap :
    checkOf (toLe 4 0x3 ++ toLe 4 (Instr.add ⟨0, false, 5, 1, 2⟩).encode ++ toLe 4 (Instr.vxs ⟨false, false, 0, 0, 5, 3, 0⟩).encode) = some (0x02, 0x03) ∧
    checkOf (toLe 4 0x3 ++ toLe 4 (Instr.xsa ⟨0, false, 9, 4, 0⟩).encode ++ toLe 4 (Instr.vadd ⟨false, false, 0, 0, 9, 1, 2, 0⟩).encode) = some (0x02, 0x03) ∧
    checkOf (toLe 4 0x6 ++ toLe 4 (Instr.vadd ⟨false, false, 0, 2, 1, 2, 3, 0⟩).encode ++ toLe 4 (Instr.vmul ⟨true, false, 0, 2, 1, 2, 3, 0⟩).encode) = some (0x02, 0x06) ∧
    checkOf (toLe 4 0x3 ++ toLe 4 (Instr.add ⟨2, true, 5, 1, 2⟩).encode ++ toLe 4 (Instr.vxs ⟨false, false, 2, 0, 5, 3, 0⟩).encode) = some (0x02, 0x03) ∧
    checkOf (toLe 4 0x8003 ++ toLe 4 0x0100C220 ++ toLe 4 0x7F000000) = some (0x03, 0) ∧
    checkOf (toLe 4 0x3 ++ toLe 4 (Instr.add ⟨0, false, 5, 1, 2⟩).encode ++ toLe 4 (Instr.vxs ⟨false, false, 0, 0, 6, 3, 0⟩).encode) = none ∧
    checkOf (toLe 4 0x1 ++ toLe 4 0xFFFFFFFF) = some (0x01, 1) := by decide +kernel

/-- Each check: pc 2, pc 2^48, a reserved bit of the header, no opcode, and two writes of s5. -/
theorem witness_BundleChecksTrap :
    let two := splitBundle (toLe 4 0x3 ++ toLe 4 (Instr.add ⟨0, false, 5, 1, 2⟩).encode ++ toLe 4 (Instr.vxs ⟨false, false, 0, 0, 5, 3, 0⟩).encode)
    ((atPc 2 []).core.sync.pc % 4 ≠ 0 ∧ (atPc 2 []).dueEvent = none ∧ (atPc 2 []).housekeeping = none ∧ (atPc 2 []).issueHeld = false) ∧
    ((atPc (2 ^ 48) []).core.sync.pc % 4 = 0 ∧ 2 ^ 48 ≤ (atPc (2 ^ 48) []).core.sync.pc) ∧
    ((atPc 0 (toLe 4 0x8001 ++ toLe 4 0x0100C220)).core.bundle = some (splitBundle (toLe 4 0x8001 ++ toLe 4 0x0100C220)) ∧
      (splitBundle (toLe 4 0x8001 ++ toLe 4 0x0100C220)).hdr.rsv = true) ∧
    ((atPc 0 (toLe 4 1 ++ toLe 4 0xFFFFFFFF)).core.bundle = some (splitBundle (toLe 4 1 ++ toLe 4 0xFFFFFFFF)) ∧
      (splitBundle (toLe 4 1 ++ toLe 4 0xFFFFFFFF)).hdr.rsv = false ∧
      (decodeWords (splitBundle (toLe 4 1 ++ toLe 4 0xFFFFFFFF)).words).2 ≠ 0) ∧
    (two.hdr.rsv = false ∧ (decodeWords two.words).2 = 0 ∧ illegalSlots (decodeWords two.words).1 two.hdr.cap ||| scopeSlots two.words ≠ 0) ∧
    (atPc 0 (toLe 4 1 ++ toLe 4 0xFFFFFFFF)).core.passesPart 8 = false := by decide +kernel

/-- Each condition: ADD s5 and VXS s5, stream 3 read twice, stream 15 appended to twice, two reads of the a file, 1,024 and 1,024
bits, a width of 11, an atomic of slot S without CAP, and the scope codes 6 and 7. -/
theorem witness_StructuralConflicts :
    let l := [Instr.add ⟨0, false, 5, 1, 2⟩, .vxs ⟨false, false, 0, 0, 5, 3, 0⟩]
    (Instr.add ⟨0, false, 5, 1, 2⟩ ∈ l ∧ kS 5 ∈ writeSet (.add ⟨0, false, 5, 1, 2⟩) ∧ kS 5 ∈ writeSet (.vxs ⟨false, false, 0, 0, 5, 3, 0⟩) ∧
      kS 5 ≠ kS 0 ∧ kS 5 ≠ kG 0) ∧
    (let a := Instr.vadd ⟨false, false, 0, 2, 1, 2, 35, 0⟩
     let b := Instr.vmul ⟨true, false, 0, 2, 1, 2, 35, 0⟩
     let p : OpVSq := ⟨false, false, 0, 0, 15, 2, 0, 0⟩
     a ≠ b ∧ 3 ∈ streamReads a ∧ 3 ∈ streamReads b ∧ isVector a = true ∧ isVector b = true ∧ 1536 < 256 * 2 ^ widthField a + 256 * 2 ^ widthField b ∧
       p ≠ { p with sl := true } ∧ p.q = ({ p with sl := true } : OpVSq).q ∧
       1 ∈ portReads (.vxs ⟨false, false, 0, 0, 5, 3, 0⟩) ∧ 1 ∈ portReads (.xprm ⟨0, false, 1, false, 1, 0, 0⟩)) ∧
    (isVector (.vadd ⟨false, false, 0, 3, 1, 2, 3, 0⟩) = true ∧ widthField (.vadd ⟨false, false, 0, 3, 1, 2, 3, 0⟩) = 3) ∧
    isSC (.scst ⟨0, false, 0, 4, 5, 0, true, 0, 0⟩) = true ∧
    (∀ c ∈ ([6, 7] : List (BitVec 3)), scopeField (.cpy ⟨false, 0, false, 1, 2, c, 0⟩) = some c.toNat ∧ 6 ≤ c.toNat) ∧
    (∀ k ∈ [4, 5], ∀ c ∈ [6, 7], 6 ≤ ((Instr.hadd ⟨decide (k = 5), 0, false, 1, 2, 0⟩).encode + c * 2 ^ 27) / 2 ^ 27 % 2 ^ 3 ∧
      decodeSlot k ((Instr.hadd ⟨decide (k = 5), 0, false, 1, 2, 0⟩).encode + c * 2 ^ 27) = none) := by decide +kernel

/-- The seven kinds of clause: a false guard, (g1) with g1 false. -/
theorem witness_FalseGuardNoEffect :
    (∀ i ∈ [Instr.br ⟨1, false, 4⟩, .jal ⟨1, false, 4⟩, .jr ⟨1, false, 30⟩, .jr ⟨1, false, 1⟩, .jalr ⟨1, false, 30, 1⟩, .add ⟨1, false, 3, 1, 2⟩,
      .hxs ⟨false, 1, false, 1, 2⟩], i.slot < 8 ∧ State.reset.guardOf i = false) ∧
    (let s := onSync (fun y => { y with x := [(1, 0x0706050403020100)] })
      let i := Instr.xprm ⟨1, false, 1, false, 1, 0, 0⟩; i.slot < 8 ∧ s.guardOf i = false ∧ collides (xEntries (s.readX 1)) = false) := by
  decide +kernel

theorem witness_MemoryFormKept : Memory.wf State.reset.mem = true ∧ Memory.wf [(5, 7), (9, 1)] = true ∧
    ∃ t, step State.reset = .next t := ⟨by decide, by decide, _, rfl⟩

theorem witness_HardwiredAndBanked :
    (∀ i ∈ [(28 : BitVec 5), 31], i ≠ 0 ∧ 28 ≤ i) ∧ (onCore (fun k => { k with mode := .handler })).core.mode = .handler ∧
    State.reset.core.mode ≠ .handler := by decide

/-- In each file: a write at cycle 0 and a bundle at its bound; in the vector files with a rotation of 3. -/
theorem witness_WritesAreRead :
    let s := onSync (fun y => { y with rrb := 3 })
    let t (u : State) : State := { u with now := 1000 }
    (s.overtaken (s.sKey 31) 1 = false ∧ (t (s.writeS 31 5 1)).pre = (s.writeS 31 5 1).core.sync ∧ (t (s.writeS 31 5 1)).inHandler = s.inHandler ∧
      s.issueAt + 1 ≤ (t (s.writeS 31 5 1)).now) ∧
    (s.overtaken (kG 7) 1 = false ∧ (t (s.writeG 7 true 1)).pre = (s.writeG 7 true 1).core.sync) ∧
    (s.overtaken (vKey true (phys s.pre.rrb 16)) 4 = false ∧ (t (s.writeV true 16 ⟨5, 3⟩ 4)).pre = (s.writeV true 16 ⟨5, 3⟩ 4).core.sync ∧
      phys (t (s.writeV true 16 ⟨5, 3⟩ 4)).pre.rrb 16 = phys s.pre.rrb 16) ∧
    (s.overtaken (kK 7) 1 = false ∧ (t (s.writeK 7 5 1)).pre = (s.writeK 7 5 1).core.sync) ∧
    (t (s.writeX 3 5 1)).pre = (s.writeX 3 5 1).core.sync ∧ (t (s.writeW 3 5 1)).pre = (s.writeW 3 5 1).core.sync ∧
    (s.overtaken (kY 7) 1 = false ∧ (t (s.writeY 7 5 1)).pre = (s.writeY 7 5 1).core.sync) ∧
    (s.overtaken (hKey true 15) 2 = false ∧ (t (s.writeH true 15 5 2)).pre = (s.writeH true 15 5 2).core.sync ∧
      s.issueAt + 2 ≤ (t (s.writeH true 15 5 2)).now) := by decide +kernel

/-! ### Witnesses of the hypotheses: control, traps, services -/

theorem witness_BranchesComplete :
    (∀ b ∈ [false, true], (State.reset.guardOn (if b then 0 else 1) false) = b) ∧ (30 : BitVec 5) = 30 ∧ (29 : BitVec 5) ≠ 30 := by decide

/-- s1 at the base of the scratchpad, which holds a loop record: kernel of one word at 0, STAGES 1 and T trips. -/
def withRecord (t : Byte) : State :=
  onCore (fun k => { k with
    spwlen := 2, spad := [(14, 1), (24, t), (28, 0x40)], sync := { k.sync with s := [(1, 0xFF0000000000)] } })

/-- A record that runs one trip, one that is skipped, a record that is all zeros; a misaligned address; a running record, and handler mode. -/
theorem witness_LoopsComplete :
    let a (s : State) : W64 := s.rs 1 + BitVec.ofInt 64 (32 * (0 : BitVec 9).toInt)
    let read (s : State) : SRes := (s.sLoad (a s).toNat 32 false).2
    let rec0 (t : Nat) : List Nat := List.replicate 14 0 ++ [1] ++ List.replicate 9 0 ++ [t, 0, 0, 0, 0x40, 0, 0, 0]
    (withRecord 1).guardOn 0 false = true ∧ (withRecord 1).pre.loop.act = false ∧ (withRecord 1).core.mode ≠ .handler ∧
    (a (withRecord 1)).toNat % 32 = 0 ∧ read (withRecord 1) = .ok (rec0 1) ∧ read (withRecord 0) = .ok (rec0 0) ∧
    (let w (i : Nat) : Nat := ofLe (((rec0 1).drop (8 * i)).take 8); badRecord (w 0) (w 1) (w 2) (w 3) = false ∧ bitOf 37 (w 3) = false) ∧
    badRecord 0 0 0 0 = true ∧ (withSpad 0xFF0000000000 0 0).pre.loop.act = false ∧
    read (withSpad 0xFF0000000020 0 0) = .ok (List.replicate 32 0) ∧
    ((withRecord 1).sResolve (a (withRecord 1)).toNat 1 = ((withRecord 1), .ok (some (.spad 0 0))) ∧
      (withRecord 1).core.badWords.contains 0 = false) ∧
    (let l : L1Line := ⟨0x80, 16, List.replicate 128 5, List.replicate 128 false, [], 0⟩
      let h := (withPage 0x80 0).modCore (fun k => { k with l1 := [l] })
      h.sResolve 0x80 1 = (h, .ok (some (.mem 0x80 16))) ∧ h.core.l1Find 0x80 16 = some l ∧ h.core.lineBad l = false ∧ l.data.length = 128) ∧ (a (withSpad 0xFF0000000008 0 0)).toNat % 32 ≠ 0 ∧
    (onSync (fun y => { y with loop := { y.loop with act := true, phase := 1 } })).pre.loop.act = true ∧
    (onSync (fun y => { y with loop := { y.loop with act := true, phase := 1 } })).pre.loop.phase = 1 ∧
    (onCore (fun k => { k with mode := .handler })).core.mode = .handler := by decide +kernel

/-- A running core with a handler, a bundle's trap; a handler that takes WATCHDOG. -/
theorem witness_TrapEntry :
    let s := onCore (fun k => { k with mode := .run, trap := { k.trap with en := true, haddr := 0x4000 } })
    let h := onCore (fun k => { k with mode := .handler, trap := { k.trap with en := true, haddr := 0x4000 } })
    (s.coreAt 0).mode ≠ .handler ∧ (s.coreAt 0).trap.en = true ∧ (0xE0 : Nat) ≠ 0x42 ∧ (h.coreAt 0).trap.en = true := by decide

theorem witness_TrapAndReturn :
    let s := onCore (fun k => { k with mode := .run, trap := { k.trap with en := true, haddr := 0x4000 } })
    s.guardOn 0 false = true ∧ s.clear = true ∧ s.core.trap.en = true ∧ s.core.mode ≠ .handler ∧
    (onCore (fun k => { k with mode := .handler })).core.mode = .handler := by decide

/-- A store and a command of each engine, of the bundles before the checkpoint and of one after it. -/
theorem witness_CheckpointAndRollback :
    let st (q : Nat) : Store := { va := 0xFF0000000000, kind := 0, pa := 0, sel := 0, bytes := [1], seqNo := q, scope := 0, rel := false }
    let m (q : Nat) : MCmd := { State.reset.mBase 4 with seqNo := q }
    let c (q : Nat) : CCmd := { State.reset.cBase 1 with seqNo := q }
    let x (q : Nat) : TCmd := { State.reset.tBase 0x15 with seqNo := q }
    let s := onCore (fun k => { k with stores := [st 1, st 2], mq := [m 1, m 2], cqa := [c 1, c 2], cqb := [c 1, c 2], tq := [x 1, x 2] })
    (∀ p < 32, s.core.sync.dead false p = false ∧ s.core.sync.dead true p = false) ∧ st 2 ∈ s.core.stores ∧ (st 1).seqNo < 2 ∧ 2 ≤ (st 2).seqNo ∧
    m 2 ∈ s.core.mq ∧ c 2 ∈ s.core.cqa ∧ c 2 ∈ s.core.cqb ∧ x 2 ∈ s.core.tq := by decide

theorem witness_WaitsSignalsAndBarriers :
    let a := onCore (fun k => { k with yreq := true })
    let b := onCore (fun k => { k with latch := true })
    let r : BarReq := { core := 0, ans := some 3 }
    let q := State.reset.modCl 0 (fun x => { x with breqs := [r] })
    let e := onCore (fun k => { k with mode := .run, dbg := { k.dbg with ctl := 1 } })
    let d := { e with plat := { e.plat with res := [(256, 1)] } }
    a.guardOn 0 false = true ∧ a.core.yreq = true ∧ a.core.latch = false ∧ a.core.mode ≠ .handler ∧ b.core.latch = true ∧
    State.reset.cx.stall = none ∧ (State.reset.stallOn 7).cx.stall ≠ none ∧ State.reset.core.yreq = false ∧ State.reset.clear = true ∧ State.reset.core.stores = [] ∧
    (q.clAt (clOf q.focus)).breqs.find? (fun r => r.core == q.focus % 8) = some r ∧ q.clear = true ∧
    (State.reset.clAt (clOf State.reset.focus)).breqs.find? (fun r => r.core == State.reset.focus % 8) = none ∧
    d.dbgFor d.focus = some (1, d.core.dbg.sel.toNat) ∧ bitOf 0 (1 : Nat) = true ∧ State.reset.dbgFor State.reset.focus = none := by
  decide

theorem witness_ServicesComplete : State.reset.guardOn 0 false = true ∧ State.reset.clear = true ∧
    State.reset.replaying State.reset.focus = false ∧ State.reset.core.stores = [] := by decide

/-- The ranges' ends: control registers 010, 015, NBASE 15 and stream 15, inside and outside handler mode. -/
theorem witness_ControlRegisters :
    State.reset.guardOn 0 false = true ∧ State.reset.core.branches = [] ∧ (∀ t < 8, State.reset.core.tileBusy t = false) ∧
    (∀ n < 16, State.reset.core.ringBusy n = false) ∧ crOutside 0x010 = true ∧ crOutside 0x016 = false ∧
    State.reset.core.mode ≠ .handler ∧ (onCore (fun k => { k with mode := .handler })).core.mode = .handler := by decide

/-- A guest with a page of graph nodes at 2000: an EVENT node of three entries. -/
def withNode : State :=
  { (State.reset.modDie 0 (fun d => { d with wcache := [{ guest := 0, gen := 0, level := 0, va := 0, pa := 0x1000 }] })).modGc 0
      (fun c => { c with cls := 2 }) with
    wheels := [(8, [0, 0, 0, 0])], buckets := [(bkey 0 8 0, { mode := 0 })]
    mem := [(0x1010, 9), (0x1011, 0x20), (0x2000, 2), (0x2001, 3)] }

/-- A state in which an agent has been granted what the accesses up to u are charged. -/
def funded (s : State) (o : Payer) (u : State) : State :=
  { s with grants := u.charges.map (fun p => { payer := o, key := p.1, units := p.2 }) }

/-- A good node, one of another kind, an address without a page, a misaligned one; a graph that runs; an inactive plane that is ready. -/
theorem witness_LaunchRequests :
    let run (kind : Byte) : State := ({ withNode with mem := [(0x1010, 9), (0x1011, 0x20), (0x2000, kind), (0x2001, 3)] } : State).modCms 0 1
      (fun q => { q with en := true, run := true, gHead := 0x2000 })
    let s (kind : Byte) (a b : W64) : State :=
      let s := (run kind).modSync (fun y => { y with s := [(6, a), (7, b)] })
      funded s (cpPayer 0) ((s.l1Clean s.focus).collecting.nodeRead 0 a.toNat).1
    let t (kind : Byte) (a b : W64) : State := (s kind a b).l1Clean (s kind a b).focus
    let u (kind : Byte) (a : Nat) : State := ((t kind (BitVec.ofNat 64 a) 0).collecting.nodeRead 0 a).1
    let g := s 2 0x2000 0x2010
    let p := onCore (fun k => { k with cfgWord := 4 })
    (g.clear = true ∧ g.core.stores = [] ∧ g.guardOn 0 false = true ∧ g.replaying g.focus = false) ∧
    (((t 2 0x2000 0x2010).rs 7).toNat % 32 ≠ 0 ∧ ((t 2 0x2000 0x2010).rs 6).toNat % 32 = 0) ∧
    ((t 2 0x2000 0x2010).pays = .post ∧ (t 2 0x2000 0x2010).waiting (cpPayer 0) = false) ∧
    ((∃ x, ((t 2 0x2000 0).collecting.nodeRead 0 0x2000).2 = .ok x ∧
      let n := { x with bytes := patch x.bytes 8 (List.replicate 8 0) }
      n.kind = 2 ∧ nodeOk ((u 2 0x2000).guestAt 0).gc n = true ∧ (u 2 0x2000).unfinished 0 < 256 ∧
      (t 2 0x2000 0).short (cpPayer 0) (((u 2 0x2000).enterNode 0 ((t 2 0x2000 0).ownStream) 0 n).ws 3 0 1).charges = []) ∧
     (∃ n, ((t 5 0x2000 0).collecting.nodeRead 0 0x2000).2 = .ok n ∧ n.kind = 5 ∧ (t 5 0x2000 0).short (cpPayer 0) ((u 5 0x2000).ws 3 3 1).charges = []) ∧
     (∃ e, ((t 2 0x5000 0).collecting.nodeRead 0 0x5000).2 = .error e ∧ (t 2 0x5000 0).short (cpPayer 0) ((u 2 0x5000).ws 3 2 1).charges = [])) ∧
    (t 2 0x2000 0).short (cpPayer 0) ((t 2 0x2000 0).collecting.ws 3 4 1).charges = [] ∧
    (((t 2 0x2000 0).cms 0 1).en = true ∧ ((t 2 0x2000 0).cms 0 1).halt = false ∧ ((t 2 0x2000 0).cms 0 1).run = true ∧
      ((t 2 0x2000 0).cms 0 1).gHead = 0x2000) ∧
    ((t 2 0x2000 0).core.splicing = none ∧ (t 2 0x2000 0).core.planeReady = false ∧ (p.l1Clean p.focus).core.planeReady = true ∧
      ∀ r < 16, (p.l1Clean p.focus).core.ringDiffers r = true → (p.l1Clean p.focus).core.ringBusy r = false) := by
  refine ⟨by decide +kernel, by decide +kernel, by decide +kernel, ⟨⟨_, rfl, by decide +kernel, by decide +kernel, by decide +kernel, by decide +kernel⟩,
    ⟨_, rfl, by decide +kernel, by decide +kernel⟩, ⟨_, rfl, by decide +kernel⟩⟩, by decide +kernel, by decide +kernel, by decide +kernel⟩


/-! ### Witnesses of the hypotheses: vectors, crossbar, bit network -/

/-- a1, a2, a3, b2 and b3 with some bits and a tag. -/
def withV (t : Nat) (u v : Line) : State :=
  onSync (fun y => { y with a := [(1, ⟨u, t⟩), (2, ⟨v, t⟩), (3, ⟨u, t⟩)], b := [(2, ⟨v, t⟩), (3, ⟨v, t⟩)] })

/-- An input stream of 32-bit elements with 64 of them in its buffer. -/
def withStream : State :=
  (withV 4 7 9).modStream 3 (fun q => { q with bnd := 1, cdim := 64 * 2 ^ 40 + 2 ^ 16 + 1, cstr := 2 ^ 48, cbase := 4 * 2 ^ 56, buf := List.replicate 64 { v := 5 } })

/-- Operand B of the last register, the first stream's place, a stream that is there, and the first constant. -/
theorem witness_BReady : withStream.BReady 31 (vWidth 2) ∧ withStream.BReady 35 (vWidth 2) ∧ withStream.BReady 48 (vWidth 0) := by
  refine ⟨.inl (by decide), .inr (.inr ⟨by decide +kernel, .inl (by decide +kernel), by decide +kernel⟩), .inr (.inl (by decide))⟩

/-- Operand B there, with each tag where a clause begins or ends. -/
theorem witness_VectorArithmetic_VectorDotAndBits_VectorComparesAndMasks :
    ∀ T ∈ [0, 1, 6, 7, 11, 12, 13, 14], (withV T 7 9).guardOn 0 false = true ∧
      (withV T 7 9).vB false 2 (vWidth 0) = (withV T 7 9, some { bits := 9, tag := T, reg := some 2 }) ∧
      ((withV T 7 9).vA false 1 0 (vWidth 0)).2 = T ∧ ((withV T 7 9).vA false 1 0 (vWidth 2)).2 = T := by decide +kernel

theorem witness_VectorUnary_VectorReductions : ∀ T ∈ [0, 6, 7, 8, 9, 10, 11, 12, 14],
    (withV T 7 9).guardOn 0 false = true ∧ ((withV T 7 9).vA true 2 0 (vWidth 1)).2 = T := by decide +kernel

/-- VCVT to tag 12 and from 13, between integers (t8 counts), and with each kind of mode; VRND of tags 6, 7, 11 and 12. -/
theorem witness_VectorConversions : (∀ T ∈ [6, 7, 11, 12, 13, 14], (withV T 7 9).guardOn 0 false = true ∧ ((withV T 7 9).readV false 1).tag = T) ∧
    (intLike 14 = true ∧ intLike 6 = true ∧ intLike 7 = false) ∧ (4 : BitVec 3).toNat = 4 ∧ (3 : BitVec 3).toNat ≠ 4 := by decide +kernel

/-- An operand of A's tag, one of another with a working format of 12 or 13, a code of an even register, and codes of an odd
one, of a stream and of a constant. -/
theorem witness_VectorConversions_operands :
    let o (t : Nat) (r : Option Nat) : VOpd := { bits := 7, tag := t, reg := r }
    (o 9 none).tag = 9 ∧ ((o 9 none).tag ≠ 12 ∧ ((12 : Nat) = 12 ∨ (12 : Nat) = 13)) ∧ (9 : Nat) ≤ 14 ∧ isFloatTag 9 = true ∧ (0 : Nat) ≤ 6 ∧
    (∀ r ∈ [none, some 2, some 3], (o 12 r).tag ≠ 9) ∧ (∃ r, (o 12 (some 2)).reg = some r ∧ r % 2 = 0) ∧
    (∀ x ∈ [none, some 3], ∀ r, (o 12 x).reg = some r → r % 2 = 1) := by
  refine ⟨by decide, by decide, by decide, by decide, by decide, by decide, ⟨2, rfl, by decide⟩, ?_⟩
  intro x hx r hr
  fin_cases hx <;> simp_all <;> omega

/-- VQBLK from an integer and a float tag, at the last block that fits and one beyond; VDQBLK of tag 12, an odd A, and another tag. -/
theorem witness_BlockQuantisation : (withV 12 7 9).guardOn 0 false = true ∧
    (∀ T ∈ [6, 7], ((withV T 7 9).vA false 1 0 (vWidth 2)).2 = T) ∧ ((withV 12 7 9).readV false 1).tag = 12 ∧
    ((withV 12 7 9).readV false 2).tag = 12 ∧ ((withV 11 7 9).readV false 1).tag ≠ 12 := by decide +kernel

/-- VSQ to an output stream with room, and to another; VIOTA of tags 6 and 7. -/
theorem witness_VectorMoves :
    let s := (withV 4 7 9).modStream 15 (fun q => { q with cdim := 64 * 2 ^ 40 + 2 ^ 16 + 1, cstr := 2 ^ 48, bnd := 1, cbase := 1 <<< 63 })
    s.guardOn 0 false = true ∧ (∀ T ∈ [6, 7], (withV T 7 9).vB false 2 (vWidth 0) = (withV T 7 9, some { bits := 9, tag := T, reg := some 2 })) ∧
    (s.pre.streams.get {} 14).isOut = false ∧ (2 : BitVec 6).toNat < 48 ∧
    (48 ≤ (48 : BitVec 6).toNat ∧ (s.vB false 48 (vWidth 0)).1 = s ∧ (s.vB false 48 (vWidth 0)).2.isSome = true) ∧
    (s.core.outq.filter (fun e => e.1 == 15 && e.2.1 == (s.pre.streams.get {} 15).epoch)).length + 8 ≤ 8192 / tagBits (s.pre.streams.get {} 15).dfmt ∧
    (s.pre.streams.get {} 15).isOut = true := by
  decide +kernel

/-- A write of four elements of 32 bits, with a mask and without, and a register that a later bundle reads as old. -/
theorem witness_VectorMoves_shared :
    let s := withV 4 7 9
    let u := s.writeV false 5 ⟨6, 4⟩ 4
    (0 < 32 ∧ 32 * 4 ≤ 1024 ∧ [1, 2, 3, 4].length = 4 ∧ s.overtaken (vKey false (phys s.pre.rrb 5)) 4 = false) ∧
    (({ u with tb := 10 } : State).pre = u.core.sync ∧ phys ({ u with tb := 10 } : State).pre.rrb 5 = phys s.pre.rrb 5 ∧
      ({ u with tb := 10 } : State).pre.dead false (phys s.pre.rrb 5) = false) := by decide +kernel

/-- A pattern of distinct destinations, and one of two lanes to lane 0. -/
theorem witness_CrossbarAndBitNetwork :
    let s (p : Line) : State := onSync (fun y => { y with x := [(1, p)] })
    collides (xEntries ((s 0x8081).readX 1)) = false ∧ collides (xEntries ((s 0x8080).readX 1)) = true ∧
    (s 0x8081).guardOn 0 false = true ∧ (s 0x8080).guardOn 1 false = false ∧
    ((s 0x8081).modSync (fun y => { y with landing := [(kX 1, 2)] })).early (kX 1) = true ∧ (s 0x8081).early (kX 1) = false ∧ (s 0x8081).early (kW 3) = false := by decide +kernel

/-! ### Witnesses of the hypotheses: matrix, temporal and copy commands -/

/-- Core 0 with one entry of its method table, which matches every key: its ACT, ROUT, CRING and CTAG. -/
def withEntry (act rout cring ctag : Nat) : State :=
  onCore (fun k => { k with planeAct := { k.planeAct with bytes :=
    [(8, 0xF7), (9, 1 + 2 * act + 16 * rout), (10, cring + 16 * (ctag % 16)), (11, ctag / 16 % 256), (12, ctag / 4096)] } })

/-- Each outcome of dispatch: no entry, subcodes 1, 2, 6, 7, 3, 4 and 5, and an entry that serves with and without a conversion. -/
theorem witness_MethodDispatch :
    let hit (s : State) (e : Nat) : Bool := methodMatches (s.core.method e) 0 9 9 0
    let w (s : State) : Nat := (s.core.method 0).2
    (∀ e < 64, hit State.reset e = false) ∧ hit (withEntry 1 4 0 9) 0 = true ∧ w (withEntry 0 4 0 9) / 2 ^ 9 % 4 = 0 ∧
    w (withEntry 1 9 0 9) / 2 ^ 9 % 4 = 1 ∧ 9 ≤ w (withEntry 1 9 0 9) / 2 ^ 12 % 16 ∧
    (w (withEntry 2 8 3 9) / 2 ^ 9 % 4 = 2 ∧ w (withEntry 2 8 3 9) / 2 ^ 12 % 16 = 8 ∧ w (withEntry 2 8 3 9) / 2 ^ 16 % 16 = 3) ∧
    tagFmt (w (withEntry 2 4 3 13) / 2 ^ 20 % 2 ^ 16) = 13 ∧ tagSparse (w (withEntry 2 4 3 13) / 2 ^ 20 % 2 ^ 16) = 0 ∧
    routRefuses false 4 false 7 9 0 = some 3 ∧ routRefuses false 4 false 9 0x19 0 = some 4 ∧ routRefuses false 4 false 9 9 2 = some 5 ∧
    routRefuses false 4 false 9 9 0 = none ∧ (∀ r ∈ [0, 2, 4, 5, 7], r < 9 ∧ routRefuses true r false 9 9 0 = some 3) := by decide +kernel

/-- Rings n0 and n1 at the base of a scratchpad window, tagged 9, shape record 0 all ones, the method table of `withEntry 1 4 0 9`. -/
def withRings : State :=
  let r : Ring := { base := 0xFF0000000000, slots := 2, slotb := 1, tag := 9 }
  (withEntry 1 4 0 9).modCore (fun k => { k with
    spwlen := 2
    sync := { k.sync with rings := [(0, r), (1, { r with tag := 12 })] }
    planeAct := { k.planeAct with bytes := k.planeAct.bytes ++ [(0x400, 1), (0x402, 1), (0x404, 1), (0x406, 1), (0x407, 1), (0x408, 1), (0x409, 1),
      (0x40A, 1), (0x40B, 1)] } })

/-- A command that keeps tile 2 busy. -/
def busyTile : State := (withRings.mIssue { withRings.mBase 4 with zd := 2 }).modCore (fun k => { k with ckptHere := true, seqNo := k.seqNo + 1 })

theorem witness_MatrixCommandsQueue :
    let s := withRings
    s.guardOn 0 false = true ∧ busyTile.core.tileBusy 2 = true ∧ busyTile.core.ckptHere = true ∧ s.core.tileBusy 2 = false ∧
    s.ringValid s.focus (s.pre.rings.get {} 0) = true ∧ s.ringValid s.focus (s.pre.rings.get {} 15) = false ∧
    shapeOk (s.core.planeBytes (0x400 + 32 * (0 : BitVec 4).toNat) 32) = true ∧
    s.core.dispatch (s.plat.stage == 2) 0 9 9 (s.core.tileStat s.pre 2 % 4) 0 0 = .ok (0, 4, 0, 9, 0) ∧ State.reset.core.dispatch false 0 9 9 0 0 0 = .error (0, 64) ∧
    (∀ t ∈ [13, 0x19, 0xC9], tagFmt t = 13 ∨ tagLayout t = 3 ∨ tagSparse t ≠ 0) ∧
    ¬ (tagFmt 12 = 13 ∨ tagLayout 12 = 3 ∨ tagSparse 12 ≠ 0) ∧ (s.pre.rings.get {} 1).tag = 12 ∧ tagFmt 9 ≠ 12 ∧
    (∀ z < 8, bitOf z (4 : BitVec 8).toNat = true → s.core.tileBusy z = false) ∧
    (∀ z < 8, bitOf z (4 : BitVec 8).toNat = true → busyTile.core.tileBusy z = true) := by
  refine ⟨by decide +kernel, by decide +kernel, by decide +kernel, by decide +kernel, by decide +kernel, by decide +kernel, by decide +kernel,
    rfl, rfl, by decide +kernel, by decide +kernel, by decide +kernel, by decide +kernel, by decide +kernel, by decide +kernel⟩

/-- Core 0 holds the array of its cluster; it awaits it; it has no request; the array is dirty; stream 5 is bound and past its end. -/
theorem witness_TemporalCommandsQueue :
    let held := (withRings.modCl 0 (fun c => { c with arr := { c.arr with holder := some 0 } })).modStream 5 (fun q => { q with bnd := 1 })
    let waits := withRings.modCl 0 (fun c => { c with arr := { c.arr with holder := some 1, queue := [0] } })
    let dirty := held.modCl 0 (fun c => { c with arr := { c.arr with dirty := true, dirtyAddr := 64 } })
    held.guardOn 0 false = true ∧ held.tHolds held.focus = true ∧ held.tGranted held.focus = true ∧ waits.tHolds waits.focus = true ∧
    waits.tGranted waits.focus = false ∧ withRings.tHolds withRings.focus = false ∧ (∀ c ∈ withRings.core.tq, c.op ≠ 0x11) ∧
    (let late := withRings.modCl 0 (fun c => { c with arr := { c.arr with queue := [3], late := (3, withRings.now) } });
      (late.clAt (clOf late.focus)).arr.late.2 = late.now ∧ late.focus % 8 < (late.clAt (clOf late.focus)).arr.late.1 ∧
        late.tHolds late.focus = false ∧ (withRings.clAt (clOf withRings.focus)).arr.late.1 ≤ withRings.focus % 8) ∧
    (dirty.tDirty dirty.focus).1 = true ∧ (held.tDirty held.focus).1 = false ∧ held.ringValid held.focus (held.pre.rings.get {} 0) = true ∧
    (held.readStream 3 5 256).2 = some (List.replicate 256 0) := by decide +kernel

/-- Rings valid and not, streams bound in each mode and not, an odd order, a core outside a replay and one in it. -/
theorem witness_CopyCommandsQueue :
    let s := (withRings.modStream 2 (fun q => { q with bnd := 1, cbase := 1 <<< 62 })).modStream 3 (fun q => { q with bnd := 1, cbase := 3 <<< 62 })
    let r := s.modGuest 0 (fun x => { x with rpl := { x.rpl with busy := true }, nodes := [{ id := 0, replay := true }] })
    s.guardOn 0 false = true ∧ s.ringValid s.focus (s.pre.rings.get {} 0) = true ∧ s.ringValid s.focus (s.pre.rings.get {} 15) = false ∧
    ((s.pre.streams.get {} 2).bnd = 1 ∧ (s.pre.streams.get {} 2).gmode = true ∧ (s.pre.streams.get {} 2).isOut = false) ∧
    ((s.pre.streams.get {} 3).bnd = 1 ∧ (s.pre.streams.get {} 3).gmode = true ∧ (s.pre.streams.get {} 3).isOut = true) ∧
    ¬ ((s.pre.streams.get {} 4).bnd = 1) ∧ s.replaying s.focus = false ∧ r.replaying r.focus = true := by decide +kernel

/-- A description of 32 elements and an empty one; a stream of the other queue; counts of 5 and an error. -/
theorem witness_StreamAndQueueState :
    let q : Stream := { qdim := 32 * 2 ^ 40 + 2 ^ 16 + 1, qstr := 2 ^ 48, qblk := 0 }
    let s := onCore (fun k => { k with qa := { k.qa with ccnt := 5 } })
    let e := onCore (fun k => { k with qa := { k.qa with ccnt := 5, err := true, ecause := 3 } })
    s.guardOn 0 false = true ∧ ({ State.reset.pre.streams.get {} 0 with cdim := 0 } : Stream).badDesc = true ∧
    ({ q with cbase := q.qbase, cdim := q.qdim, cstr := q.qstr, cblk := q.qblk } : Stream).badDesc = false ∧
    (0 ≤ (BitVec.ofNat 32 (s.core.cstat false).ccnt - BitVec.ofNat 32 5).toInt ∧ (s.core.cstat false).err = false) ∧
    ¬ 0 ≤ (BitVec.ofNat 32 (s.core.cstat false).ccnt - BitVec.ofNat 32 6).toInt ∧ (e.core.cstat false).err = true ∧
    e.core.missed = false ∧ (e.modCore (fun k => { k with missed := true })).core.missed = true ∧
    (15 : BitVec 5).toNat < 16 ∧ 16 ≤ (16 : BitVec 5).toNat := by decide +kernel

/-! ### Witnesses of the hypotheses: events of cores, engines and clusters -/

theorem witness_CoreEvents :
    let line : L1Line := ⟨0x80, 16, List.replicate 128 5, List.replicate 128 false, [], 0⟩
    let run := (withPage 0x80 0).modCore (fun k => { k with mode := .run, sync := { k.sync with pc := 0x84 }, l1 := [line] })
    let br (w : Bool) : Branch := { resolveAt := 0, seqNo := 0, wrong := w, snap := {}, rstack := [], frm := 0, target := 8 }
    let st : Store := { va := 0xFF0000000000, kind := 0, pa := 0, sel := 0, bytes := [1, 2], seqNo := 0, scope := 0, rel := false, released := true }
    let stored := onCore (fun k => { k with stores := [st] })
    let rq : SReq := { va := 0x80, tgt := 1, pa := 0x80, sel := 16, len := 8, op := 4, fop := 0, opnd := 0, cmp := 0, stage := 3, scope := 0 }
    let tr : TrapReq := { cause := 0x47, slots := 0, info := 0, flt := 0, async := true }
    (run.fetchDue 0 = true ∧ run.core.fbUsed = false ∧ run.core.sync.pc < 2 ^ 48 ∧ inAperture run.core.sync.pc = false ∧
      (∃ e, (run.modCoreAt 0 (fun k => { k with fbBase := k.sync.pc, fbBytes := [], fbFault := none })).tlb1 0 run.core.sync.pc 0 = some e ∧
        e.deny 0 = none ∧ e.tgt run.core.sync.pc = .mem 0x84 16) ∧ (run.coreAt 0).l1Find 0x84 16 = some line ∧
      (run.coreAt 0).lineBad line = false ∧ line.data.length = 128) ∧
    (∀ w ∈ [false, true], ((onCore (fun k => { k with branches := [br w] })).coreAt 0).branches = [br w] ∧ (br w).resolveAt ≤ State.reset.now ∧
      (br w).wrong = w ∧ (br w).taken = false) ∧
    ((onCore (fun k => { k with ckpts := [{ addr := 8, seqNo := 3, snap := {} }], branches := [{ br false with seqNo := 3 }] })).core.ckpts.length = 1 ∧
      (3 : Nat) ≤ 3) ∧
    (stored.storeAcked 0 = none ∧ (stored.coreAt 0).storeFront = some st ∧ stored.storeDue 0 = true ∧ stored.storeUnits 0 st = 0 ∧
      (stored.collecting.storeAt 0 st).2 = .ok () ∧ stored.pays = .post ∧ stored.waiting (engPayer stored 0 storeTag) = false ∧
      stored.short (engPayer stored 0 storeTag) (stored.collecting.storeAt 0 st).1.charges = []) ∧
    (let sent : Store := { st with va := 0x80, kind := 4, sent := true }
     let gone := onCore (fun k => { k with stores := [sent] })
     let back := { gone with fab := { gone.fab with reqs := [{ id := 1, core := 0, tag := storeTag, pa := 0, data := [1, 2], ans := some (true, []) }] } }
     gone.storeAcked 0 = some (sent, false) ∧ back.storeAcked 0 = some (sent, true)) ∧
    (rq.stage = 3 ∧ rq.dueAt ≤ State.reset.now ∧ rq.tgt ≠ 0 ∧ rq.op = 4 ∧ rq.fault = 0) ∧
    (onCore (fun k => { k with mode := .run, asyncs := [tr] })).core.asyncReady = true ∧
    (∀ m ∈ [CoreMode.run, .handler], (onCore (fun k => { k with mode := m, yreq := true })).core.forcedDue = true) ∧
    (let s := (onCore (fun k => { k with mode := .savewait })).modGc 0 (fun c => { c with sfln := 1 });
      (s.coreAt 0).mode = .savewait ∧ (s.guestAt (s.coreAt 0).guest).gc.sfln ≠ 0) ∧
    (let s := run.modCl 0 (fun c => { c with evs := [(0, 1)] }); s.eventFor 0 = some (0, 1) ∧ (s.coreAt 0).live 0 = true) ∧
    (onCore (fun k => { k with mode := .run, stallWhy := 2 ^ 13, capmap := [BitVec.allOnes 64, BitVec.allOnes 64, BitVec.allOnes 64, BitVec.allOnes 64] })).capstanDue 0 = true := by
  refine ⟨⟨by decide +kernel, by decide +kernel, by decide +kernel, by decide +kernel, ⟨_, rfl, by decide +kernel, by decide +kernel⟩, by decide +kernel⟩,
    by decide, by decide, by decide +kernel, by decide +kernel, by decide, by decide, by decide, by decide, by decide, by decide +kernel⟩

theorem witness_EngineAndClusterEvents :
    let c : MCmd := { withRings.mBase 4 with ready := 0, committed := true }
    let s (x : MCmd) (p : List (Nat × PendTile)) : State := onCore (fun k => { k with mq := [x], pend := p })
    let ended : MCmd := { c with begun := true, doneAt := 1, done := true }
    let cc : CCmd := { op := 6, a := 0, b := 0, q := 0, f := 0, scope := 0, order := 0, len := 0, di := 0, seqNo := 0, issued := 0, committed := true }
    let q (out : W64) : Stream := { bnd := 1, cbase := (out <<< 63) + 0xFF0000000000, cdim := 32 * 2 ^ 40 + 2 ^ 16 + 1, cstr := 2 ^ 48 }
    let i := onCore (fun k => { k with spwlen := 2, adm := [(fetchTag 3, 0)], sync := { k.sync with streams := [(3, q 0)] } })
    let o := onCore (fun k => { k with
      spwlen := 2, ckptSeq := 1, adm := [(writeTag 3, 0)], outq := [(3, 0, 0, 7, 0)], sync := { k.sync with streams := [(3, q 1)] } })
    (((s c []).coreAt 0).mFront = some c ∧ ((s c []).coreAt 0).mCanBegin 0 c = true ∧ c.op = 4 ∧ c.doneAt = 0 ∧ c.conv = 0) ∧
    (let x : MCmd := { c with begun := true, doneAt := 1 };
      ((s x []).coreAt 0).mPublishable = none ∧ ((s x []).coreAt 0).mFront = some x ∧ x.begun = true ∧ x.doneAt ≠ 0 ∧ x.doneAt ≤ 1) ∧
    (∃ p, ((s ended [(0, p)]).coreAt 0).mPublishable = some ended ∧ ended.out = [] ∧
      ((s ended [(0, p)]).coreAt 0).pend.find? (fun p => p.2.writer == ended.seqNo) = some (0, p)) ∧
    (let t := onCore (fun k => { k with cqa := [cc] });
      t.core.cPublishable false = none ∧ t.core.cEntering false = none ∧ t.core.cFront false = some cc ∧ t.cReady 0 false cc = true ∧
        (cc.need t.core.halfL1).length ≤ cc.moved ∧ (t.collecting.cPerform 0 false cc).2 ≠ .wait ∧ t.pays = .post ∧
        t.waiting (engPayer t 0 (cTag cc.seqNo false)) = false ∧
        t.short (engPayer t 0 (cTag cc.seqNo false)) (t.collecting.cPerform 0 false cc).1.charges = []) ∧
    ((onCore (fun k => { k with cqb := [{ cc with res := some (0, 0) }] })).core.cPublishable true = some { cc with res := some (0, 0) }) ∧
    (i.arrivalDue 0 3 = true ∧ i.served 0 (fetchTag 3) = true ∧ i.pays = .post ∧ i.waiting (engPayer i 0 (fetchTag 3)) = false ∧
      (∃ b, (i.collecting.readRuns 0 (fetchTag 3) (q 0).groupRuns).2 = .ok b) ∧
      i.short (engPayer i 0 (fetchTag 3)) (i.collecting.readRuns 0 (fetchTag 3) (q 0).groupRuns).1.charges = []) ∧
    (o.outputDue 0 3 = true ∧ o.served 0 (writeTag 3) = true ∧ o.pays = .post ∧ o.waiting (engPayer o 0 (writeTag 3)) = false ∧
      (o.coreAt 0).outHeld = [] ∧ ∃ l, (o.coreAt 0).outGroup 3 = some (q 1, l) ∧
      (o.collecting.writeRows 0 (writeTag 3) (joinWrites ((q 1).outRuns l))).2 = .ok () ∧
      o.short (engPayer o 0 (writeTag 3)) (o.collecting.writeRows 0 (writeTag 3) (joinWrites ((q 1).outRuns l))).1.charges = []) ∧
    (let r : BarReq := { core := 3, op := 0, bar := 5 };
      ((State.reset.modCl 2 (fun c => { c with breqs := [r] })).clAt 2).breqs.find? (fun r => !r.acted && decide (r.actAt ≤ 0)) = some r) ∧
    (∀ g ∈ [none, some 0, some 3], let t := State.reset.modCl 0 (fun c => { c with arr := { c.arr with queue := [0], lastGuest := g } })
      t.grantDue 0 = true ∧ (t.clAt 0).arr.queue = [0] ∧ (t.coreAt 0).guest = 0) ∧
    (let x : TCmd := { withRings.tBase 0x15 with committed := true }
      let t (x : TCmd) : State := (onCore (fun k => { k with tq := [x] })).modCl 0 (fun c => { c with arr := { c.arr with holder := some 0 } })
      (t x).tFront 0 = some (0, x) ∧ (t x).tBeginDue 0 = true ∧
        (t { x with begun := true }).tFront 0 = some (0, { x with begun := true }) ∧ (t { x with begun := true }).tacqDone 0 = none) ∧
    (let x : TCmd := { withRings.tBase 0x10 with committed := true, begun := true };
      ((onCore (fun k => { k with tq := [x] })).modCl 0 (fun c => { c with arr := { c.arr with holder := some 0 } })).tacqDone 0 = some 0) := by
  refine ⟨by decide +kernel, by decide +kernel, ⟨{ tile := {}, writer := 0 }, by decide +kernel, by decide +kernel, by decide +kernel⟩, by decide +kernel, by decide +kernel,
    ⟨by decide +kernel, by decide +kernel, by decide +kernel, by decide +kernel, ⟨_, rfl⟩, by decide +kernel⟩,
    ⟨by decide +kernel, by decide +kernel, by decide +kernel, by decide +kernel, by decide +kernel, _, rfl, by decide +kernel, by decide +kernel⟩,
    by decide, by decide, by decide +kernel, by decide +kernel⟩

/-! ### Witnesses of the hypotheses: memory and repair events -/

/-- A held request; an unreported bucket; a request that needs nothing more, one that its controller has served, one that has
to go to its controller; a walk of each kind. -/
theorem witness_MemoryEvents :
    let hr : HeldReq := { die := 0, point := 8, guest := 0, core := some 0, units := 2 }
    let s := { State.reset with held := [hr], buckets := [(bkey 0 8 0, { level := 2, depth := 9, rate := 5 })] }
    let rq (stage : Nat) : SReq := { va := 0x80, tgt := 1, pa := 0x80, sel := 16, len := 8, op := 0, fop := 0, opnd := 0, cmp := 0, stage := stage, scope := 0 }
    let st (stage : Nat) : State := (onCore (fun k => { k with mode := .run, req := some (rq stage) })).modGc 0 (fun c => { c with ways := 1 })
    let paid (stage : Nat) : State := funded (st stage) ((st stage).sPayer 0) ((st stage).collecting.sPerform 0 (rq stage)).1
    let w : AccReq := { va := 0x1000, kind := 1 }
    let wk := ((onCore (fun k => { k with mode := .run, walk := some w })).modDie 0 (fun d =>
      { d with wcache := [{ guest := 0, gen := 0, level := 0, va := 0, pa := 0x1000 }] })).modGc 0 (fun c => { c with ws := [1, 0, 0, 0] })
    let asked := wk.joinWalker (wk.walkPayer 0) (some 1)
    let ready := funded asked (wk.walkPayer 0) (asked.collecting.translate 0 w.va w.kind).1
    let ent : TlbEnt := { guest := 0, gen := 0, va := 0x1000, bits := 12, pa := 0, mt := 0, enc := false, w := true, x := true, d := true, gt := false }
    let wh := wk.modCl 0 (fun c => { c with tlbGuest := some 0, tlb2 := [ent] })
    (s.outsideReady 0 8 0 = none ∧ s.admittable 0 8 0 = some hr) ∧
    (({ State.reset with buckets := [(bkey 31 31 15, { level := 2, depth := 9, rate := 5 })] } : State).held = [] ∧ State.reset.parked = []) ∧
    (({ State.reset with buckets := [(bkey 3 31 15, { raised := 1 })] } : State).bucket 3 31 15).raised = 1 ∧ State.reset.heldAt 3 31 15 = [] ∧
    (∀ stage ∈ [1, 2], ((paid stage).coreAt 0).req = some (rq stage) ∧ (paid stage).lookupDue 0 = (stage == 1) ∧
      (paid stage).controllerDue 0 = (stage == 2) ∧ (paid stage).pays = .post ∧ (paid stage).waiting ((paid stage).sPayer 0) = false ∧
      (paid stage).short ((paid stage).sPayer 0) ((paid stage).collecting.sPerform 0 (rq stage)).1.charges = []) ∧
    (∃ b, ((paid 1).collecting.sPerform 0 (rq 1)).2 = .ok b) ∧
    ((st 1).lookupDue 0 = true ∧ (st 1).pays = .post ∧ (st 1).waiting ((st 1).sPayer 0) = false ∧ (st 1).grants = [] ∧
      ((st 1).collecting.sPerform 0 (rq 1)).1.charges = [(bkey 0 (16 + ((st 1).placeOf 0x80).1 % 12) 0, 2)]) ∧
    (wk.walkDue 0 = true ∧ wk.tlb2Hit 0 w = false ∧ wk.walkAsked (wk.walkPayer 0) = false) ∧ (wh.walkDue 0 = true ∧ wh.tlb2Hit 0 w = true) ∧
    (ready.walkDue 0 = true ∧ ready.tlb2Hit 0 w = false ∧ ready.walkAsked (ready.walkPayer 0) = true ∧ ready.joined 0 w = [] ∧ ready.pays = .post ∧
      ready.waiting (ready.walkPayer 0) = false ∧ ready.short (ready.walkPayer 0) (ready.collecting.translate 0 w.va w.kind).1.charges = []) ∧
    ((onCore (fun k => { k with mode := .run, wpgt := some (0x80, 0), trap := { k.trap with en := true } })).coreAt 0).wpgt = some (0x80, 0) := by
  refine ⟨by decide +kernel, by decide +kernel, by decide +kernel, by decide +kernel, by decide +kernel, ⟨_, rfl⟩, by decide +kernel, by decide +kernel,
    by decide +kernel, by decide +kernel, by decide +kernel⟩

/-- The first and the last channel, cluster, core, way, die; a channel that fits and one that does not. -/
theorem witness_RepairEvents :
    (∀ ch ∈ [0, 47], State.reset.plat.chRet.contains ch = false ∧ State.reset.channelFits ch = true) ∧ State.reset.memBad = [] ∧
    State.reset.loaded = [] ∧ ({ State.reset with plat := { State.reset.plat with chRet := [1] } } : State).channelFits 0 = false ∧
    (∀ cl ∈ [0, 31], (State.reset.clAt cl).retired = false ∧ (State.reset.clAt cl).pend = 0) ∧
    (∀ n ∈ [0, 255], (State.reset.coreAt n).retired = false ∧ (State.reset.coreAt n).spareRows < 32 ∧ (∀ w ∈ (State.reset.coreAt n).badWords, w / 128 ≠ 1023)) ∧
    ((State.reset.modDie 0 (fun d => { d with spareUsed := true })).dieAt (dieOf 0)).spareUsed = true ∧ bitOf 31 State.reset.waysOut = false ∧
    State.reset.l2 = [] ∧ State.reset.plat.fatal = false ∧ ({ State.reset.plat with ringLost := 0 ||| 2 ^ 3 } : Plat).cutOff = false ∧
    ({ State.reset.plat with ringLost := 1 ||| 2 ^ 3 } : Plat).cutOff = true := by decide +kernel

/-! ### Witnesses of the hypotheses: command streams, frames, guests, debug -/

/-- `withNode` with other bytes in its page at 2000, which is also the ring of stream 1, and the stream as given. -/
def withRing (m : List Host.Cell) (f : Cms → Cms) : State :=
  ({ withNode with mem := [(0x1010, 9), (0x1011, 0x20)] ++ m } : State).modCms 0 1 (fun q => f { q with base := 2 })
/-- A node of a guest, entered, with some bytes set. -/
def nodeOf (kind : Nat) (b : List (Nat × Nat)) : Node :=
  { id := 5, kind := kind, bytes := (List.range 112).map (fun i => Tab.get 0 b i) }
/-- Guest 0 runs in a machine in full service, with part 1, a window over all of the frame and nodes as given. -/
def running (l : List Node) : State :=
  let s := State.reset.modGuest 0 (fun x => { x with nodes := l, gc := { x.gc with en := true, gstate := 2, part := 1 } })
  let w : Win := { start := 0, wlen := 10000, guard := 0, clmask := 0xFFFFFFFF, guest := 0 }
  { s with plat := { s.plat with stage := 3 }, frame := { s.frame with acc := [0], regs := { s.frame.regs with en := true, wins := [(0, w)] } } }

theorem witness_CommandStreamEvents :
    let take (m : List Host.Cell) : State := (withRing m (fun q => { q with en := true, tail := 1 })).modGc 0 (fun c => { c with en := true, gstate := 2 })
    let after (s : State) : State := s.modCms 0 1 (fun q => { q with head := (q.head + 1) % 2 ^ 32 })
    let good := take [(0x2000, 0x20)]
    let bad := take [(0x2000, 0x21)]
    let walk := (withRing [(0x2000, 2), (0x2001, 3)] (fun q => { q with run := true, gHead := 0x2000, node := 0x2000 }))
    let passed := walk.modCms 0 1 (fun q => { q with entered := true, inst := 5 })
    let cond := (withRing [(0x2000, 7)] (fun q => { q with run := true, entered := true, inst := 5 })).modGuest 0
      (fun x => { x with nodes := [nodeOf 5 [(33, 0x20)]] })
    let read (s : State) : State × Except (Nat × Nat) (List Nat) := (after s.collecting).gRead 0 ((s.cms 0 1).slot (s.cms 0 1).head) 8
    let through (s u : State) : Prop := (funded s (cpPayer 0) u).pays = .post ∧ (funded s (cpPayer 0) u).waiting (cpPayer 0) = false ∧
      (funded s (cpPayer 0) u).short (cpPayer 0) u.charges = []
    let k := { nodeOf 1 [(16, 1), (20, 1), (24, 1)] with st := 1, count := 1 }
    let list (a : Nat) : State := (withRing [(0x2000, 7)] id).modGuest 0
      (fun x => { x with nodes := [nodeOf 3 [(17, 1), (18, 8), (20, 1), (33, a)]] })
    let given (s : State) (a : Nat) : State := (s.collecting.gRead 0 a 8).1
    let kern (m : CoreMode) : State := onCore (fun k => { k with mode := m })
    (State.reset.parked = [] ∧ (Outside.host 3 true 0 []).ofHost 3 = true) ∧
    (∀ a ∈ [0x20, 0x50], (list a).actDue 0 5 3 = some (nodeOf 3 [(17, 1), (18, 8), (20, 1), (33, a)])) ∧
    (((list 0x20).collecting.gRead 0 ((nodeOf 3 [(33, 0x20)]).field 32 8) 8).2 = .ok [7, 0, 0, 0, 0, 0, 0, 0] ∧
      through (list 0x20) (((given (list 0x20) 0x2000).spliceCore 0 0 5 0 0 0 [7, 0, 0, 0, 0, 0, 0, 0]).1.modNode 0 5 (fun x => { x with sent := 1 })) ∧
      (∃ e, ((list 0x50).collecting.gRead 0 0x5000 8).2 = .error e) ∧
      through (list 0x50) ((given (list 0x50) 0x5000).failNode 0 5 5 cSPLICEBAD)) ∧
    (∀ m ∈ [CoreMode.run, .handler], ((kern m).coreAt 0).live 0 = true ∧ ((kern m).coreAt 0).mode = m ∧ ((kern m).guestAt 0).saved = []) ∧
    (State.reset.coreAt 0).live 0 = false ∧
    ((good.cms 0 1).halt = false ∧ (State.reset.modCms 0 1 (fun q => { q with halt := true })).cms 0 1 = { State.reset.cms 0 1 with halt := true }) ∧
    ((∀ s ∈ [good, bad], s.takeDue 0 1 = true) ∧ through good (read good).1 ∧ through bad ((read bad).1.haltStream 0 1 2 0 ((bad.cms 0 1).slot 0))) ∧
    (read good).2 = .ok [0x20, 0, 0, 0, 0, 0, 0, 0] ∧ (read bad).2 = .ok [0x21, 0, 0, 0, 0, 0, 0, 0] ∧
    ((walk.enterDue 0 1 = true ∧ (walk.cms 0 1).entered = false ∧ walk.limitQueue 0 1 = false ∧ through walk (walk.collecting.nodeRead 0 0x2000).1) ∧
      ∃ n, (walk.collecting.nodeRead 0 0x2000).2 = .ok n ∧ n.kind = 2 ∧ n.flag 3 = false ∧
        nodeOk ((walk.collecting.nodeRead 0 0x2000).1.guestAt 0).gc n = true) ∧
    ((passed.modGuest 0 (fun x => { x with nodes := [{ nodeOf 2 [] with st := 3 }] })).enterDue 0 1 = true ∧
      (passed.modGuest 0 (fun x => { x with nodes := [{ nodeOf 2 [] with st := 3 }] })).nodeAt 0 5 = some { nodeOf 2 [] with st := 3 }) ∧
    (∀ kind ∈ [2, 4], (running [nodeOf kind []]).actDue 0 5 kind = some (nodeOf kind [])) ∧
    (∀ r ∈ [1, 2], (running [{ nodeOf 3 [] with sent := r }]).actDue 0 5 3 = some { nodeOf 3 [] with sent := r } ∧
      (running [{ nodeOf 3 [] with sent := r }]).splicing 0 5 = false) ∧
    (cond.actDue 0 5 5 = some (nodeOf 5 [(33, 0x20)]) ∧ through cond (cond.collecting.gRead 0 0x2000 8).1 ∧
      (cond.collecting.gRead 0 ((nodeOf 5 [(33, 0x20)]).field 32 8) 8).2 = .ok [7, 0, 0, 0, 0, 0, 0, 0]) ∧
    ((running [nodeOf 1 [(24, 1)]]).actDue 0 5 1 = some (nodeOf 1 [(24, 1)]) ∧ (nodeOf 1 [(24, 1)]).flag 0 = false ∧
      (nodeOf 1 [(24, 1)]).field 24 4 % 2 ^ 32 ≠ 0) ∧
    ((∀ r < 8, 0 < r → (running [k]).placeOne 0 r = none) ∧ ((running [k]).guestAt 0).grps = [] ∧
      (running [k]).pick 0 (((running [k]).guestAt 0).queue 0) [] = some (k, 0, []) ∧ (running [k]).needsImage 0 k 0 = false ∧
      ¬ (k.placed = 0 ∧ spPages (k.byte 19) < ((running [k]).gc 0).woff + ((running [k]).gc 0).wlen)) ∧
    (let r : Grp := { node := 5, members := [{ core := 0, ended := true, written := true }] };
      ((State.reset.modGuest 0 (fun x => { x with grps := [r] })).guestAt 0).grps.find?
        (fun r => r.node == 5 && r.index == 0 && r.st == 0 && r.over) = some r) := by
  refine ⟨by decide, by decide +kernel, ⟨rfl, by decide +kernel, ⟨_, rfl⟩, by decide +kernel⟩, by decide, by decide, by decide +kernel, by decide +kernel, rfl, rfl, ⟨by decide +kernel, _, rfl, by decide +kernel,
    by decide +kernel, by decide +kernel⟩, by decide +kernel, by decide +kernel, by decide +kernel, ⟨by decide +kernel, by decide +kernel, rfl⟩,
    by decide +kernel, ⟨by decide +kernel, by decide +kernel, by decide +kernel, by decide +kernel, by decide +kernel⟩, by decide +kernel⟩

theorem witness_FrameAndGuestEvents :
    let f := { State.reset with tb := 250 * 10001 }
    let w : Win := { start := 100, wlen := 50, guard := 10, clmask := 1, guest := 0 }
    let at_ (us : Nat) (acc : List Nat) : State :=
      { State.reset with tb := 250 * us, frame := { State.reset.frame with acc := acc, regs := { State.reset.frame.regs with wins := [(3, w)] } } }
    let c (st : Nat) (key : Bool) : State := State.reset.modGc 3 (fun x => { x with en := true, gstate := st, keyValid := key })
    (f.frameDue = true ∧ f.plat.tsJump = 0 ∧ f.plat.full = false) ∧ (at_ 140 [3]).guardDue 3 = true ∧ (at_ 150 [3]).endDue 3 = true ∧
    (State.reset.gc 3).en = false ∧ (State.reset.modGc 3 (fun c => c.ctlFields (5 * 2 ^ 40))).loadErr 3 = 0 ∧
    (State.reset.modGc 3 (fun c => c.ctlFields (0xFF * 2 ^ 48 + 5 * 2 ^ 40))).loadErr 3 ≠ 0 ∧
    (∀ st ∈ [1, 4], ∀ key ∈ [false, true], ((c st key).gc 3).gstate = st ∧ ((c st key).gc 3).keyValid = key) ∧
    (∀ r ∈ [false, true], (((c 2 true).modGc 3 (fun x => { x with rsz := r })).gc 3).rsz = r) ∧
    (((c 2 true).gc 3).gstate ≠ 0 ∧ ((c 2 true).gc 3).gstate ≠ 5 ∧ ((c 2 true).gc 3).en = true) ∧ State.reset.plat.instr = false := by
  decide +kernel

theorem witness_KeyAndPoolEvents :
    let p (clean scrub : List Nat) : State := { State.reset with plat := { State.reset.plat with poolClean := clean, poolScrub := scrub } }
    let a := withNode.modGuest 0 (fun x => { x with gc := { x.gc with en := true }, attNonce := 0x2000, attOut := 0x2000 })
    let b (hss : Nat) : State := { a with plat := { a.plat with hss := hss } }
    let t := (State.reset.modGuest 0 (fun x => { x with irq := [(63, { pend := 1, itime := 10 })] }))
    State.reset.keyBusy 15 = false ∧ ((p [0x200000] []).plat.poolClean = [0x200000] ∧ State.reset.plat.poolClean = []) ∧
    ((p [] []).plat.poolScrub.contains (frameOf 0x200000) = false ∧ (p [] [0x200000]).plat.poolScrub = [0x200000] ∧ (p [] [0x200000]).plat.poolWait = []) ∧
    (((b (2 ^ 30)).gc 0).en = true ∧ 2 ^ 30 ≤ (b (2 ^ 30)).plat.hss) ∧ ((b 5).plat.hss < 2 ^ 30 ∧ ((b 5).guestAt 0).lastImg = 0) ∧
    ((b 5).gRead 0 ((b 5).guestAt 0).attNonce 32).2 = .ok (2 :: 3 :: List.replicate 30 0) ∧
    ({ t with tb := 250 * 10 } : State).timerDue 0 63 = true := by
  refine ⟨by decide, by decide, by decide, by decide, by decide, rfl, by decide +kernel⟩

theorem witness_DebugEvents :
    let dbg (k : Core → Core) : State :=
      let s := onCore (fun c => k { c with mode := .run, dbg := { c.dbg with ctl := 3 } });
      { s with plat := { s.plat with res := [(256, 1)] } }
    let stop (ck : Bool) : State := dbg (fun k => { k with dbg := { k.dbg with haltReq := true, ctl := 0, ck := ck } })
    let halted := dbg (fun k => { k with dbg := { k.dbg with stopped := true } })
    let trc := State.reset.modCl 31 (fun c => { c with trc := { c.trc with en := true, period := 100, cores := 128 } })
    let sampled (r : Nat) : State :=
      let s := (trc.modCoreAt 255 (fun k => { k with mode := .run })).modCl 31 (fun c => { c with trc := { c.trc with types := 32, gmask := 1 } })
      { s with plat := { s.plat with res := [(287, r)] } }
    let held := { State.reset with plat := { State.reset.plat with res := [(255, 4)] } }
    let s0 := (withNode.modGuest 0 (fun x => { x with gc := { x.gc with part := 1 }, rpl := { x.rpl with node := 0x2000 } }))
    let rp := { s0 with plat := { s0.plat with stage := 3 }, mem := [(0x1010, 9), (0x1011, 0x20), (0x2000, 1), (0x2001, 4), (0x2010, 1), (0x2014, 1), (0x2018, 1)] }
    let u := rp.modRpl 0 (fun r => { r with
      reason := 0, firstmm := 0, done := 0, pass := 0, abort := false, sigs := [], sigs1 := [], shots := [], winPages := 0 })
    (∀ ck ∈ [false, true], (stop ck).stopWhy 0 = some 4 ∧ (stop ck).stopDue 0 = true ∧ ((stop ck).coreAt 0).dbg.ck = ck) ∧
    (((stop true).clAt 0).trc.en = false ∧ ((stop true).dbgFor 0).isSome = true ∧ ((stop true).coreAt 0).dbg.stopped = false) ∧
    (halted.dbgFor 0 = some (3, (halted.coreAt 0).dbg.sel.toNat) ∧ (halted.coreAt 0).dbg.stopped = true ∧ bitsOf 31 28 (halted.coreAt 0).dbg.sel.toNat ≠ 9) ∧
    bitOf 63 (2 ^ 63 : Nat) = true ∧ (trc.sampleDue 31 7 = true ∧ (trc.coreAt (8 * 31 + 7)).hasContext = false) ∧
    (∀ r ∈ [1, 17], (sampled r).sampleDue 31 7 = true ∧ ((sampled r).coreAt 255).hasContext = true ∧ bitOf 5 ((sampled r).clAt 31).trc.types = true ∧
      (17 ≤ r → bitOf ((sampled r).coreAt 255).guest ((sampled r).clAt 31).trc.gmask = true) ∧ (r < 17 → r = ((sampled r).coreAt 255).guest + 1)) ∧
    (held.plat.res.get 0 255 ≠ 0 ∧ held.hostBank 255 = false) ∧
    ((rp.rplAt 0).busy = false ∧ ∃ v node, u.nodeRead 0 (rp.rplAt 0).node = (v, .ok node) ∧ v.replayable 0 node = true ∧
      v.replayCluster 0 node = some 0 ∧ ∀ c ∈ node.coresOn 0, (v.guestClaim 0 c).2 = 0) ∧
    (let b := rp.modRpl 0 (fun r => { r with busy := true });
      ∃ v node, b.nodeRead 0 (b.rplAt 0).node = (v, .ok node) ∧ v.replayable 0 node = true ∧
        (node.coresOn (b.rplAt 0).cl).length * (b.gc 0).wlen ≤ (b.rplAt 0).pages ∧ (b.rplAt 0).busy = true ∧ (b.rplAt 0).pass = 0) ∧
    (let n : Node := { nodeOf 1 [] with st := 3, replay := true }
     let b (passes : Nat) : State := (rp.modRpl 0 (fun r => { r with busy := true, pass := 1, passes := passes })).modGuest 0 (fun x => { x with nodes := [n] })
     (∀ p ∈ [0, 2], (b p).passDue 0 = true ∧ ((b p).rplAt 0).pass ≠ 0 ∧ (b p).replayNode 0 = some n ∧
       (((b p).passEnd 0 n).rplAt 0).busy = decide (p = 2))) ∧
    (let b := State.reset.modRpl 15 (fun r => { r with busy := true, pass := 1 });
      (b.rplAt 15).busy = true ∧ b.passDue 15 = true ∧ (b.rplAt 15).pass ≠ 0 ∧ b.replayNode 15 = none) := by
  refine ⟨by decide, by decide, by decide, by decide, by decide, by decide, by decide, ⟨by decide, _, _, rfl, by decide +kernel, by decide +kernel, by decide +kernel⟩,
    ⟨_, _, rfl, by decide +kernel, by decide +kernel, by decide, by decide⟩, by decide +kernel,
    by decide⟩

/-! ### Witnesses of the hypotheses: platform, fabric, remote traffic -/

theorem witness_PlatformEvents :
    let pl (f : Plat → Plat) : State := { State.reset with plat := f State.reset.plat }
    let acc := { withNode with mem := [(0x1010, 9), (0x1011, 0x20), (0x2000, 2)] }
    let bad := (toLe 4 0x8001 ++ toLe 4 0x0100C220)
    let x : Slot := { signed := true, cap := 6, memtop := 256, rsz := 64 }
    let two := { State.reset.plat with slotA := none, slotB := some x }
    (State.reset.plat.slotA = some x ∧ State.reset.plat.accepts x = true ∧ State.reset.plat.bootSlot = some x ∧ State.reset.plat.stage = 0) ∧
    (two.slotB = some x ∧ two.accepts x = true ∧ two.slotA = none ∧ ({ two with slotB := none } : Plat).bootSlot = none) ∧
    (∀ st ∈ [1, 2], let s := pl (fun p => { p with stage := st, dieTried := 3, sramMap := [(255, 5)] })
      s.plat.stage = st ∧ s.plat.dieTried = 3 ∧ (0 : Nat) ≠ s.plat.dieTried ∧ s.plat.sramMap = [(255, 5)] ∧ dieOf 255 = 3) ∧
    (∀ m ∈ [false, true], ((pl (fun p => { p with pfIrq := [(0, { masked := m })] })).plat.pfIrq.get {} 0).masked = m) ∧
    ((pl (fun p => { p with stage := 3 })).plat.stage ≠ 0 ∧ (pl (fun p => { p with stage := 3 })).plat.stage ≠ 7) ∧
    (let s := pl (fun p => { p with stage := 2, dieup := 15 }); s.plat.stage = 2 ∧ s.plat.dieup % 16 = 15) ∧
    (pl (fun p => { p with tsEn := true })).plat.tsEn = true ∧
    (let s := { pl (fun p => { p with tsLock := true }) with tb := 250 * 3000000 }; s.plat.tsLock = true ∧ s.plat.tsLast + 3000000 ≤ s.time) ∧
    (let r := acc.collecting.gRead 0 (bitsOf 47 36 (acc.guestAt 0).hwin * 2 ^ 36 + 0x2000 % 2 ^ 36) 8
      let x : Nat × Outside := (4, .host 0 false 0x2000 (List.replicate 8 0))
      let s := funded { acc with parked := [x] } (outPayer 0 4) r.1
      s.outsideReady 0 8 0 = some x ∧ r.2 = .ok [2, 0, 0, 0, 0, 0, 0, 0] ∧ s.pays = .post ∧ s.waiting (outPayer 0 4) = false ∧
        s.short (outPayer 0 4) r.1.charges = []) ∧
    (let r := acc.collecting.gWrite 0 (bitsOf 47 36 (acc.guestAt 0).hwin * 2 ^ 36 + 0x2000 % 2 ^ 36) [5]
      let x : Nat × Outside := (4, .host 0 true 0x2000 [5])
      let s := funded { acc with parked := [x] } (outPayer 0 4) r.1
      s.outsideReady 0 8 0 = some x ∧ r.2 = .ok () ∧ s.pays = .post ∧ s.waiting (outPayer 0 4) = false ∧ s.short (outPayer 0 4) r.1.charges = []) ∧
    acc.hostRead 0x2000 1 = some [2] ∧ (∀ p ∈ State.reset.guests, p.2.gc.gstate ≠ 2 ∧ p.2.gc.gstate ≠ 3 ∧ p.2.gc.gstate ≠ 5) ∧
    (∀ st ∈ [0, 7], (pl (fun p => { p with stage := st })).plat.stage = st) ∧ (7 : Nat) % 8 ≠ 0 ∧
    (((atPc 0 bad).coreAt 0).running = true ∧ ((atPc 0 bad).coreAt 0).held = none ∧ ∃ b, ((atPc 0 bad).coreAt 0).bundle = some b ∧
      bundleCause b = some (3, 0)) ∧
    ((readHeader 0).mask = 0 ∧ (readHeader 0).rsv = false ∧ (atPc 0 []).core.running = true ∧ (atPc 0 []).needsCkpt [] = false) := by
  refine ⟨by decide +kernel, by decide +kernel, by decide, by decide, by decide, by decide, by decide, by decide +kernel, by decide +kernel, by decide +kernel, by decide +kernel,
    by decide, by decide, by decide, ⟨by decide, by decide, _, rfl, by decide +kernel⟩, by decide⟩

/-- A ring of two cars, this one car 0, with its port 1 in a state; a port that is open and one that is not; reports of the
neighbour, of another car and with a bad signature; flits in turn, to be forwarded, out of turn and bad; aborts before and at
the end of their time. -/
theorem witness_FabricEvents :
    let s (st fails : Nat) : State :=
      let t := State.reset.modPort 1 (fun x => { x with state := st, fails := fails });
      { t with fab := { t.fab with en := true, topo := 2, ncar := 1 } }
    let r : LinkRep := { sigOk := true, rootHash := (s 2 0).fab.rootBytes, fwHash := fwBytes, car := 1, topo := 2, ncar := 1, nonce := [], kem := [], cipher := [] }
    let last : State := { s 2 0 with fab := { (s 2 0).fab with car := 1 } }
    let f (good : Bool) (n : Nat) : Flit := { type := 1, slot := 0, seqNo := n, ack := 0, good := good, payload := [1, 0, 0] }
    let both := (s 3 0).modPort 0 (fun x => { x with state := 3 })
    let ab (at_ : Nat) : State := { (s 3 0) with fab := { (s 3 0).fab with aborts := [(1, 0, 0, at_)] }, tb := 250 * 1000 }
    ((s 0 0).fab.en = true ∧ ((s 0 0).portAt 1).state = 0) ∧ (∀ st ∈ [1, 2, 3], ((s st 0).portAt 1).state = st) ∧
    ((s 2 0).portOpen 1 = false ∧ (s 3 0).portOpen 1 = true ∧ (s 3 0).fab.colls = [] ∧ (s 3 0).guests = []) ∧
    ((s 2 0).fab.neighbour 1 = some r.car ∧ r.topo = (s 2 0).fab.topo ∧ r.ncar = (s 2 0).fab.ncar ∧ r.sigOk = true ∧
      r.rootHash = (s 2 0).fab.rootBytes ∧ r.fwHash = fwBytes ∧ (r.car < (s 2 0).fab.car → r.cipher ≠ [])) ∧
    (let q : LinkRep := { r with car := 0, cipher := [1] };
      last.fab.neighbour 1 = some q.car ∧ q.car < last.fab.car ∧ q.cipher ≠ []) ∧
    ((s 2 0).fab.neighbour 1 ≠ some 5 ∧ ({ r with sigOk := false } : LinkRep).sigOk ≠ true) ∧
    ((f true 0).good = true ∧ (f true 0).type ≤ 4 ∧ (f true 0).type ≠ 0 ∧ (f true 0).seqNo % 2 ^ 24 = (both.portAt 1).rxSeq % 2 ^ 24 ∧
      (f true 0).payload.getD 0 0 ≠ both.fab.car ∧ both.portOpen (1 - 1) = true ∧ (f true 1).seqNo % 2 ^ 24 ≠ (both.portAt 1).rxSeq % 2 ^ 24 ∧
      (f false 0).good = false) ∧
    (((s 3 6).portAt 1).fails < 7 ∧ 7 ≤ ((s 3 7).portAt 1).fails) ∧ ((s 3 0).portAt 1).txKey = [] ∧
    (((s 0 0).portAt 0).state = 0 ∧ ((s 0 0).portAt 1).state = 0) ∧
    ((∃ a ∈ (ab 0).fab.aborts, (ab 0).routeTo a.1 = some 1 ∧ a.2.2.2 + 1000 ≤ (ab 0).time) ∧
      ∀ a ∈ (ab 1).fab.aborts, (ab 1).routeTo a.1 = some 1 → (ab 1).time < a.2.2.2 + 1000) := by
  refine ⟨by decide, by decide, by decide, ⟨by decide, by decide, by decide, by decide, by decide, rfl, by decide⟩, by decide, by decide, by decide +kernel, by decide,
    by decide, by decide, by decide +kernel⟩

/-- A window of guest 0 over the first 2 MiB, an access in it, one beyond it; a request; a collective of cars 0 and 1, whose
other car agrees or does not; the same one on car 1; links that are known and not. -/
theorem witness_RemoteEvents :
    let t := withNode.modGc 0 (fun c => { c with en := true })
    let s := { t with fab := { t.fab with wins := [(31, { en := true, w := true, size := 1 })] } }
    let a (off : Nat) : RemAcc := { car := 1, id := 3, tenant := 0, win := 31, off := off, len := 8, kind := 0, op := 0, data := [], cmp := [] }
    let r : RemReq := { id := 4 }
    let c : Coll := { guest := 0, len := 4, inp := [1, 2, 3, 4] }
    let cc : CCmd := { op := 14, a := 0, b := 0, q := 0, f := 0, scope := 0, order := 0, len := 4, di := 0, seqNo := 0, issued := 0, pos := 1 }
    let k := onCore (fun k => { k with cqa := [cc] })
    let g (car : Nat) : State := { k with fab := { k.fab with car := car, colls := [c], grp := [(0, { memb := 3 })] } }
    let p (kind : Nat) : PeerInput := { car := 1, kind := kind, len := 4, di := 0, data := [5, 6, 7, 8] }
    let x : Nat × Outside := (4, .car (a 0x2000) 0x2000 0 16)
    let ring := { State.reset with fab := { State.reset.fab with en := true, topo := 2, ncar := 7 } }
    (State.reset.routeTo 1 = none ∧ (ring.modPort 1 (fun q => { q with state := 3 })).routeTo 1 = some 1) ∧
    (s.winCheck (a (2 ^ 21)).tenant 31 (a (2 ^ 21)).off 8 false = some 2) ∧ s.winCheck (a 0x2000).tenant 31 0x2000 8 false = none ∧
    (let r := s.collecting.serve (a 0x2000) (0x2000, 0, 16)
     let v := funded { s with parked := [x] } (outPayer 0 4) (r.1.respond (a 0x2000) 0 (List.replicate 8 0))
     r.2.isSome = true ∧ v.outsideReady 0 8 0 = some x ∧ v.pays = .post ∧ v.waiting (outPayer 0 4) = false ∧
       v.short (outPayer 0 4) (r.1.respond (a 0x2000) 0 (List.replicate 8 0)).charges = []) ∧
    (let s := { s with memBad := [0x2000] }
     let r := s.collecting.serve (a 0x2000) (0x2000, 0, 16)
     let v := funded { s with parked := [x] } (outPayer 0 4) (r.1.respond (a 0x2000) 7 [])
     r.2 = none ∧ v.outsideReady 0 8 0 = some x ∧ v.short (outPayer 0 4) (r.1.respond (a 0x2000) 7 []).charges = []) ∧
    (({ s with fab := { s.fab with reqs := [r] } } : State).fab.reqs.find? (fun r => r.id == 4 && r.ans.isNone) = some r) ∧
    (∀ car ∈ [0, 1], (g car).collReady 0 = some c ∧
      (List.range 8).filter (fun x => bitOf x (Tab.get ({} : Fcgrp) (g car).fab.grp 0).memb) = [0, 1] ∧ (g car).fab.car = car) ∧
    (∀ kind ∈ [0, 1], (p kind).car = 1 ∧ ((p kind).kind = c.kind ↔ kind = 0) ∧ (p kind).len = c.len ∧ (p kind).di = c.di ∧ (p kind).data.length = c.len) ∧
    ((∀ x < (g 0).fab.car, bitOf x (3 : Nat) = false) ∧ ¬ ∀ x < (g 1).fab.car, bitOf x (3 : Nat) = false) ∧
    (g 0).fab.colls.find? (fun c => c.guest == 0) = some c ∧ s.fab.colls = [] ∧
    (3 ∉ ring.fab.lost ∧ 3 ≠ ring.fab.linkOf 0 ∧ 3 ≠ ring.fab.linkOf 1 ∧ ring.fab.reqs = [] ∧ ring.fab.colls = [] ∧ ring.guests = []) ∧
    (3 ∈ [3] ∨ 7 = ring.fab.linkOf 0) ∧ ((State.reset.fab.grp.get {} 0).seqNo ≤ 5) := by
  refine ⟨by decide +kernel, by decide +kernel, by decide +kernel, by decide +kernel, by decide +kernel, by decide +kernel, by decide +kernel, by decide,
    by decide, by decide, by decide, by decide, by decide, by decide⟩

/-! ### Witnesses of the hypotheses: frames -/

/-- Every instruction of the frames gives a next state with its guard true and with it false; a stream operand there and not. -/
theorem witness_RegisterFrame :
    (∃ t, exec (.add ⟨0, false, 3, 1, 2⟩) State.reset = .next t) ∧ (∃ t, exec (.add ⟨1, false, 3, 1, 2⟩) State.reset = .next t) ∧
    State.reset.guardOn 0 false = true ∧ (∃ u, State.reset.vB false 32 (vWidth 0) = (u, none)) ∧
    (∃ u, (State.reset.modStream 3 (fun q => { q with bnd := 1 })).vB false 35 (vWidth 0) =
      (u, some { bits := 0, tag := 0, reg := none }) ∧ 32 ≤ (35 : BitVec 6).toNat ∧ (35 : BitVec 6).toNat < 48) ∧
    collides (xEntries (State.reset.readX 1)) = false ∧ (3 : BitVec 3).toNat ≠ 4 := by
  refine ⟨⟨_, rfl⟩, ⟨_, rfl⟩, by decide, ⟨_, rfl⟩, ⟨_, by rfl, by decide, by decide⟩, by decide +kernel, by decide⟩

/-- A released store of two bytes to the scratchpad, and one to a line of the L1. -/
theorem witness_MemoryFrame :
    let x : Store := { va := 0xFF0000000000, kind := 0, pa := 0, sel := 0, bytes := [1, 2], seqNo := 0, scope := 0, rel := false, released := true }
    let y : Store := { x with va := 0x80, kind := 1, pa := 0x80, sel := 16 }
    let s := onCore (fun k => { k with stores := [x] })
    let l : L1Line := ⟨0x80, 16, List.replicate 128 5, List.replicate 128 false, [], 0⟩
    let t := onCore (fun k => { k with stores := [y], l1 := [l] })
    let c := onCore (fun k => { k with stores := [{ x with pa := 2 ^ 21 }] })
    let f := { c with grants := [{ payer := engPayer c 0 storeTag, key := netKey 1, units := 1 }] }
    (s.coreAt 0).stores = [x] ∧ x.released = true ∧ x.rel = false ∧ x.sent = false ∧ s.pays = .post ∧ s.waiting (engPayer s 0 storeTag) = false ∧
    placeTgt x.kind x.pa x.sel = .spad 0 0 ∧ placeTgt 0 (2 ^ 21) 0 = .spad 1 0 ∧ f.short (engPayer f 0 storeTag) [(netKey 1, 1)] = [] ∧
    (t.coreAt 0).mode ≠ .stopped ∧
    (t.coreAt 0).stores = [y] ∧ y.plain = true ∧ t.replaying 0 = false ∧ (t.coreAt 0).l1Find y.pa y.sel = some l := by decide

end Sys2Proof.Tests
end

section
/-! Proofs. The scalar slot (R113 to R122): what each operation of the slot computes on the values of its registers. -/

namespace Sys2Proof.Proofs.ScalarSlot
open Sys2Proof Sys2Proof.Machine

/-! ### The results of the integer table as arithmetic (R114, R115) -/

theorem sub_eq_ofInt (a b : W64) : a - b = BitVec.ofInt 64 (a.toNat - b.toNat) := by
  simp [Int.sub_eq_add_neg, BitVec.ofInt_add, BitVec.ofInt_neg, BitVec.sub_eq_add_neg]

theorem mul_eq_ofNat (a b : W64) : a * b = BitVec.ofNat 64 (a.toNat * b.toNat) := by
  simp [BitVec.ofNat_mul]

theorem extractLsb'_ofInt_high (i : Int) : (BitVec.ofInt 128 i).extractLsb' 64 64 = BitVec.ofInt 64 (i / 2 ^ 64) := by
  apply BitVec.eq_of_toNat_eq
  rw [BitVec.extractLsb'_toNat, BitVec.toNat_ofInt, BitVec.toNat_ofInt, Nat.shiftRight_eq_div_pow]
  omega

theorem mulHigh_eq (a b : W64) : mulHigh a b = (a.signExtend 128 * b.signExtend 128).extractLsb' 64 64 := by
  rw [BitVec.signExtend, BitVec.signExtend, ← BitVec.ofInt_mul, extractLsb'_ofInt_high, mulHigh]

theorem mulHighU_eq (a b : W64) : mulHighU a b = (a.setWidth 128 * b.setWidth 128).extractLsb' 64 64 := by
  have e : a.setWidth 128 * b.setWidth 128 = BitVec.ofInt 128 (a.toNat * b.toNat : Nat) := by
    rw [BitVec.ofInt_natCast, BitVec.ofNat_mul, BitVec.ofNat_toNat, BitVec.ofNat_toNat]
  rw [e, extractLsb'_ofInt_high, mulHighU, ← BitVec.ofInt_natCast]
  rfl

theorem divS_of_ne_zero {a b : W64} (h : b ≠ 0) : divS a b = BitVec.ofInt 64 (a.toInt.tdiv b.toInt) := by
  rw [divS, if_neg h]
  exact BitVec.eq_of_toInt_eq (by rw [BitVec.toInt_sdiv, BitVec.toInt_ofInt])

theorem divU_of_ne_zero {a b : W64} (h : b ≠ 0) : divU a b = BitVec.ofNat 64 (a.toNat / b.toNat) := by
  rw [divU, if_neg h, BitVec.udiv_def]

theorem remS_of_ne_zero {a b : W64} (h : b ≠ 0) : remS a b = BitVec.ofInt 64 (a.toInt.tmod b.toInt) := by
  rw [remS, if_neg h, ← BitVec.toInt_srem, BitVec.ofInt_toInt]

theorem remU_of_ne_zero {a b : W64} (h : b ≠ 0) : remU a b = BitVec.ofNat 64 (a.toNat % b.toNat) := by
  rw [remU, if_neg h, BitVec.umod_def]

/-- The one quotient that does not fit wraps to the dividend (R115). -/
theorem divS_least_neg_one : divS (BitVec.ofInt 64 (-2 ^ 63)) (BitVec.ofInt 64 (-1)) = BitVec.ofInt 64 (-2 ^ 63) := by decide

theorem remS_least_neg_one : remS (BitVec.ofInt 64 (-2 ^ 63)) (BitVec.ofInt 64 (-1)) = 0 := by decide

theorem and_eq_ofNat (a b : W64) : a &&& b = BitVec.ofNat 64 (a.toNat &&& b.toNat) := by
  rw [← BitVec.toNat_and, BitVec.ofNat_toNat, BitVec.setWidth_eq]

theorem or_eq_ofNat (a b : W64) : a ||| b = BitVec.ofNat 64 (a.toNat ||| b.toNat) := by
  rw [← BitVec.toNat_or, BitVec.ofNat_toNat, BitVec.setWidth_eq]

theorem xor_eq_ofNat (a b : W64) : a ^^^ b = BitVec.ofNat 64 (a.toNat ^^^ b.toNat) := by
  rw [← BitVec.toNat_xor, BitVec.ofNat_toNat, BitVec.setWidth_eq]

theorem shiftLeft_eq_ofNat (a : W64) (n : Nat) : a <<< n = BitVec.ofNat 64 (a.toNat * 2 ^ n) :=
  BitVec.eq_of_toNat_eq (by rw [BitVec.toNat_shiftLeft, BitVec.toNat_ofNat, Nat.shiftLeft_eq])

theorem ushiftRight_eq_ofNat (a : W64) (n : Nat) : a >>> n = BitVec.ofNat 64 (a.toNat / 2 ^ n) := by
  rw [← Nat.shiftRight_eq_div_pow, ← BitVec.toNat_ushiftRight, BitVec.ofNat_toNat, BitVec.setWidth_eq]

theorem sshiftRight_eq_ofInt (a : W64) (n : Nat) : a.sshiftRight n = BitVec.ofInt 64 (a.toInt / 2 ^ n) := by
  rw [BitVec.sshiftRight, Int.shiftRight_eq_div_pow]
  push_cast
  rfl

theorem minS_eq (a b : W64) : minS a b = BitVec.ofInt 64 (min a.toInt b.toInt) := by
  rcases lt_or_ge a.toInt b.toInt with h | h
  · simp [minS, BitVec.slt_eq_decide, h, min_eq_left h.le]
  · simp [minS, BitVec.slt_eq_decide, h.not_gt, min_eq_right h]

theorem maxS_eq (a b : W64) : maxS a b = BitVec.ofInt 64 (max a.toInt b.toInt) := by
  rcases lt_or_ge a.toInt b.toInt with h | h
  · simp [maxS, BitVec.slt_eq_decide, h, max_eq_right h.le]
  · simp [maxS, BitVec.slt_eq_decide, h.not_gt, max_eq_left h]

theorem minU_eq (a b : W64) : minU a b = BitVec.ofNat 64 (min a.toNat b.toNat) := by
  rcases lt_or_ge a.toNat b.toNat with h | h
  · simp [minU, BitVec.ult, h, min_eq_left h.le]
  · simp [minU, BitVec.ult, h.not_gt, min_eq_right h]

theorem maxU_eq (a b : W64) : maxU a b = BitVec.ofNat 64 (max a.toNat b.toNat) := by
  rcases lt_or_ge a.toNat b.toNat with h | h
  · simp [maxU, BitVec.ult, h, max_eq_right h.le]
  · simp [maxU, BitVec.ult, h.not_gt, max_eq_left h]

theorem addW_eq (a b : W64) : addW a b = BitVec.ofInt 64 (BitVec.ofNat 32 (a.toNat + b.toNat)).toInt := by
  rw [addW, BitVec.signExtend, BitVec.ofNat_add]
  rfl

theorem add_shiftLeft_eq_ofNat (a b : W64) (n : Nat) : a + b <<< n = BitVec.ofNat 64 (a.toNat + b.toNat * 2 ^ n) := by
  rw [shiftLeft_eq_ofNat, BitVec.ofNat_add, BitVec.ofNat_toNat, BitVec.setWidth_eq]

/-! ### Leading zeros and one bits -/

theorem lt_two_pow_bitLen (m : Nat) : m < 2 ^ bitLen m := by
  rw [bitLen]
  split
  · next h => simp [h]
  · exact Nat.lt_log2_self

theorem bitLen_le {m k : Nat} (h : m < 2 ^ k) : bitLen m ≤ k := by
  rw [bitLen]
  split
  · exact Nat.zero_le k
  · next hm => exact (Nat.log2_lt hm).2 h

theorem two_pow_bitLen_le {m : Nat} (h : bitLen m ≠ 0) : 2 ^ (bitLen m - 1) ≤ m := by
  by_cases hm : m = 0
  · simp [bitLen, hm] at h
  · simpa [bitLen, hm] using Nat.log2_self_le hm

/-- CLZ counts the zeros above the highest one bit (R114). -/
theorem clz64_spec (a : W64) : ∃ n, clz64 a = BitVec.ofNat 64 n ∧ n ≤ 64 ∧ a.toNat < 2 ^ (64 - n) ∧
    (n < 64 → 2 ^ (63 - n) ≤ a.toNat) := by
  have hle : bitLen a.toNat ≤ 64 := bitLen_le a.isLt
  refine ⟨64 - bitLen a.toNat, rfl, Nat.sub_le _ _, ?_, fun hlt => ?_⟩
  · rw [Nat.sub_sub_self hle]
    exact lt_two_pow_bitLen _
  · have e : 63 - (64 - bitLen a.toNat) = bitLen a.toNat - 1 := by omega
    rw [e]
    exact two_pow_bitLen_le (by omega)

theorem length_filter_bitOf (x : Nat) (l : List Nat) :
    (l.filter (fun i => bitOf i x)).length = (l.map (fun i => x / 2 ^ i % 2)).sum := by
  induction l with
  | nil => rfl
  | cons i l ih =>
    rw [List.map_cons, List.sum_cons, ← Nat.toNat_testBit, ← ih, List.filter_cons, bitOf]
    cases x.testBit i <;> simp [Nat.add_comm]

theorem popc64_eq (a : W64) : popc64 a = BitVec.ofNat 64 ((List.range 64).map (fun i => a.toNat / 2 ^ i % 2)).sum := by
  rw [popc64, length_filter_bitOf]

/-! ### An operation whose guard is true (R45, R112) -/

section
variable {s t : State} {g : BitVec 4} {n : Bool}

theorem sOp_next {f : State → State} (hg : s.guardOn g n = true) (hf : f s = t) : sOp s g n f = .next t := by
  rw [sOp, if_pos hg, hf]

theorem sOp_ws {d : BitVec 5} {v : State → W64} {w : W64} {lat : Nat} (hg : s.guardOn g n = true) (hv : v s = w) :
    sOp s g n (fun s => s.ws d (v s) lat) = .next (s.ws d w lat) :=
  sOp_next hg (hv ▸ rfl)

theorem sOp_writeG {i lat : Nat} {v : State → Bool} {w : Bool} (hg : s.guardOn g n = true) (hv : v s = w) :
    sOp s g n (fun s => s.writeG i (v s) lat) = .next (s.writeG i w lat) :=
  sOp_next hg (hv ▸ rfl)

/-- A division by a nonzero divisor sets no bit of WARN (R115). -/
theorem sOp_div_of_ne_zero {d b : BitVec 5} {v : State → W64} {w : W64} (hg : s.guardOn g n = true) (hb : s.rs b ≠ 0)
    (hv : v s = w) : sOp s g n (fun s => (s.ws d (v s) 18).warn wDIVZ (s.rs b == 0)) = .next (s.ws d w 18) :=
  sOp_next hg (by rw [hv, beq_eq_false_iff_ne.2 hb]; rfl)

/-- A division by zero sets WARN.DIVZ (R115). -/
theorem sOp_div_of_eq_zero {d b : BitVec 5} {v : State → W64} {w : W64} (hg : s.guardOn g n = true) (hb : s.rs b = 0)
    (hv : v s = w) : sOp s g n (fun s => (s.ws d (v s) 18).warn wDIVZ (s.rs b == 0)) = .next ((s.ws d w 18).warn wDIVZ true) :=
  sOp_next hg (by rw [hv, hb]; rfl)

end

/-- Settles O1: each operation is its result of the table, the divisions apart by their divisor. -/
theorem integerResults : Obligations.IntegerResults := by
  unfold Obligations.IntegerResults
  refine ⟨fun o s hg => ?_, fun o s hg => ?_, fun o s hg => ?_, fun o s hg => ?_⟩
  · refine ⟨(sOp_ws hg (BitVec.add_def _ _) : execAdd o s = _), (sOp_ws hg (sub_eq_ofInt _ _) : execSub o s = _),
      (sOp_ws hg (mul_eq_ofNat _ _) : execMul o s = _), (sOp_ws hg (mulHigh_eq _ _) : execMulh o s = _),
      (sOp_ws hg (mulHighU_eq _ _) : execMulhu o s = _), fun hb => ?_, fun hb => ?_, fun ha hb => ?_,
      (sOp_ws hg (and_eq_ofNat _ _) : execAnd o s = _), (sOp_ws hg (or_eq_ofNat _ _) : execOr o s = _),
      (sOp_ws hg (xor_eq_ofNat _ _) : execXor o s = _), (sOp_ws hg (shiftLeft_eq_ofNat _ _) : execShl o s = _),
      (sOp_ws hg (ushiftRight_eq_ofNat _ _) : execShr o s = _), (sOp_ws hg (sshiftRight_eq_ofInt _ _) : execSra o s = _),
      (sOp_ws hg (minS_eq _ _) : execMin o s = _), (sOp_ws hg (maxS_eq _ _) : execMax o s = _),
      (sOp_ws hg (minU_eq _ _) : execMinu o s = _), (sOp_ws hg (maxU_eq _ _) : execMaxu o s = _),
      (sOp_ws hg (addW_eq _ _) : execAddw o s = _)⟩
    · exact ⟨(sOp_div_of_ne_zero hg hb (divS_of_ne_zero hb) : execDiv o s = _),
        (sOp_div_of_ne_zero hg hb (divU_of_ne_zero hb) : execDivu o s = _),
        (sOp_div_of_ne_zero hg hb (remS_of_ne_zero hb) : execRem o s = _),
        (sOp_div_of_ne_zero hg hb (remU_of_ne_zero hb) : execRemu o s = _)⟩
    · exact ⟨(sOp_div_of_eq_zero hg hb (if_pos hb) : execDiv o s = _), (sOp_div_of_eq_zero hg hb (if_pos hb) : execDivu o s = _),
        (sOp_div_of_eq_zero hg hb (if_pos hb) : execRem o s = _), (sOp_div_of_eq_zero hg hb (if_pos hb) : execRemu o s = _)⟩
    · have hb0 : s.rs o.b ≠ 0 := by rw [hb]; decide
      exact ⟨(sOp_div_of_ne_zero hg hb0 (by rw [ha, hb, divS_least_neg_one]) : execDiv o s = _),
        (sOp_div_of_ne_zero hg hb0 (by rw [ha, hb, remS_least_neg_one]) : execRem o s = _)⟩
  · obtain ⟨n, hn, hspec⟩ := clz64_spec (s.rs o.a)
    exact ⟨⟨n, (sOp_ws hg hn : execClz o s = _), hspec⟩,
      (sOp_ws hg (popc64_eq _) : execPopc o s = _), (sOp_ws hg rfl : execMov o s = _)⟩
  · exact ⟨(sOp_ws hg rfl : execSel o s = _), fun hx => (sOp_ws hg (by rw [hx]; rfl) : execSel o s = _)⟩
  · exact (sOp_ws hg (add_shiftLeft_eq_ofNat _ _ _) : execLea o s = _)

end Sys2Proof.Proofs.ScalarSlot
end

section
/-! Proofs. Immediates and long immediates (R116, R119), and the zero fields of their words and of the compares'. -/

namespace Sys2Proof.Proofs.ScalarSlot
open Sys2Proof Sys2Proof.Machine

/-! ### Fields of a word -/

theorem pack_append (hi lo : List (Nat × Nat)) : pack (hi ++ lo) = pack hi * 2 ^ (lo.map Prod.snd).sum + pack lo := by
  induction hi with
  | nil => simp [pack]
  | cons f hi ih =>
    simp only [List.cons_append, pack, ih, List.map_append, List.sum_append, Nat.pow_add]
    ring

/-- The bits of a packed word at the place of a field are the field. -/
theorem pack_field (hi : List (Nat × Nat)) {v n : Nat} {lo : List (Nat × Nat)} (h : Fits ((v, n) :: lo)) :
    pack (hi ++ (v, n) :: lo) / 2 ^ (lo.map Prod.snd).sum % 2 ^ n = v := by
  rw [pack_append]
  exact (List.cons.inj (unpack_pack_add (pack hi) h)).1

theorem pack_concat_zero_mod (hi : List (Nat × Nat)) (n : Nat) : pack (hi ++ [(0, n)]) % 2 ^ n = 0 := by
  simp [pack_append, pack]

/-- IMM9[8:6] of a shift is zero (R116). -/
theorem pack_fieldsSSh_pad (op : Nat) (o : OpSSh) : pack (fieldsSSh op o) / 2 ^ 6 % 2 ^ 3 = 0 :=
  pack_field ((fieldsSSh op o).take 5) (fits_cons.2 ⟨by decide, fits_cons.2 ⟨o.i.isLt, fits_nil⟩⟩)

/-- B and X of a long word are zero (R119). -/
theorem pack_fieldsSL_low (op : Nat) (o : OpSL) : pack (fieldsSL op o) % 2 ^ 9 = 0 :=
  pack_concat_zero_mod (fieldsSL op o).dropLast 9

/-- Bit 14 of a register compare is zero (R117). -/
theorem pack_fieldsSC_bit14 (op : Nat) (o : OpSC) : pack (fieldsSC op o) / 2 ^ 14 % 2 = 0 :=
  pack_field ((fieldsSC op o).take 4) (n := 1) (fits_cons.2 ⟨by decide, fits_cons.2 ⟨o.a.isLt, fits_cons.2 ⟨o.b.isLt,
    fits_cons.2 ⟨by decide, fits_nil⟩⟩⟩⟩)

/-- X of a register compare is zero (R117). -/
theorem pack_fieldsSC_low (op : Nat) (o : OpSC) : pack (fieldsSC op o) % 2 ^ 4 = 0 :=
  pack_concat_zero_mod (fieldsSC op o).dropLast 4

/-- Bit 14 of an immediate compare is zero (R117). -/
theorem pack_fieldsSCI_bit14 (op : Nat) (o : OpSCI) : pack (fieldsSCI op o) / 2 ^ 14 % 2 = 0 :=
  pack_field ((fieldsSCI op o).take 4) (n := 1) (fits_cons.2 ⟨by decide, fits_cons.2 ⟨o.a.isLt, fits_cons.2 ⟨o.i.isLt, fits_nil⟩⟩⟩)

/-- X of guard logic is zero (R118). -/
theorem pack_fieldsSGl_low (op : Nat) (o : OpSGl) : pack (fieldsSGl op o) % 2 ^ 4 = 0 :=
  pack_concat_zero_mod (fieldsSGl op o).dropLast 4

/-! ### Immediates -/

theorem imm9_toInt (i : BitVec 9) : (imm9 i).toInt = i.toInt := BitVec.toInt_signExtend_of_le (by decide)

theorem add_ofInt (a : W64) (i : Int) : a + BitVec.ofInt 64 i = BitVec.ofInt 64 (a.toNat + i) := by
  simp [BitVec.ofInt_add]

theorem mul_ofInt (a : W64) (i : Int) : a * BitVec.ofInt 64 i = BitVec.ofInt 64 (a.toNat * i) := by
  simp [BitVec.ofInt_mul]

/-- ANDI with -64 clears bits [5:0] (R116). -/
theorem getLsbD_and_neg64 (a : W64) : ∀ i < 64, (a &&& BitVec.ofInt 64 (-64)).getLsbD i = (decide (6 ≤ i) && a.getLsbD i) := by
  have hmask : ∀ i < 64, (BitVec.ofInt 64 (-64)).getLsbD i = decide (6 ≤ i) := by decide
  intro i hi
  rw [BitVec.getLsbD_and, hmask i hi, Bool.and_comm]

theorem append_setWidth_eq_ofNat (i : BitVec 32) (a : W64) :
    i ++ a.setWidth 32 = BitVec.ofNat 64 (i.toNat * 2 ^ 32 + a.toNat % 2 ^ 32) := by
  apply BitVec.eq_of_toNat_eq
  rw [BitVec.toNat_append, BitVec.toNat_setWidth, BitVec.toNat_ofNat, ← Nat.shiftLeft_add_eq_or_of_lt (Nat.mod_lt _ (by decide)),
    Nat.shiftLeft_eq]
  omega

/-! ### A register read after its write -/

/-- A result of latency bound 1 that no older result overtakes is what a later bundle of the same mode reads (R25). -/
theorem readS_of_writeS {s u : State} {i : Nat} {v : W64} (hi : i ≠ 0) (ho : s.overtaken (s.sKey i) 1 = false)
    (hpre : u.pre = (s.writeS i v 1).core.sync) (hmode : u.inHandler = s.inHandler) : u.readS i = v := by
  have hkey : u.sKey i = s.sKey i := by rw [State.sKey, hmode, State.sKey]
  have hearly : u.early (s.sKey i) = false := by
    simp [State.early, hpre, State.writeS, hi, Sync.landSet]
  rw [State.readS, if_neg hi, hkey, hearly, hpre]
  simp only [State.writeS, if_neg hi, ho]
  by_cases hk : s.sKey i = kS i <;> simp [hk, Sync.landSet]

/-- The immediate of a MOVHI above that of the MOVI it follows (R119). -/
theorem append_setWidth_signExtend (i j : BitVec 32) : i ++ (j.signExtend 64).setWidth 32 = i ++ j := by
  congr 1
  ext k hk
  simp [BitVec.getElem_signExtend, hk, show k < 64 by omega]

/-- Settles O2: each value as arithmetic, the zero fields by packing, and MOVHI after MOVI by the read after the write. -/
theorem immediateAndLongResults : Obligations.ImmediateAndLongResults := by
  unfold Obligations.ImmediateAndLongResults
  refine ⟨⟨fun o s hg => ?_, fun o => ?_, fun o s hg => ?_⟩, fun o => ?_, fun o s hg => ?_,
    fun o p s t u hg ht hd h0 ho hpre hmode hgu => ?_⟩
  · exact ⟨(sOp_ws hg (add_ofInt _ _) : execAddi o s = _), (sOp_ws hg rfl : execAndi o s = _), (sOp_ws hg rfl : execOri o s = _),
      (sOp_ws hg rfl : execXori o s = _), (sOp_ws hg (mul_ofInt _ _) : execMuli o s = _),
      fun hi => hi ▸ getLsbD_and_neg64 _⟩
  · simp only [List.forall_mem_cons]
    exact ⟨pack_fieldsSSh_pad 0x24 o, pack_fieldsSSh_pad 0x25 o, pack_fieldsSSh_pad 0x26 o, by simp⟩
  · exact ⟨(sOp_ws hg (shiftLeft_eq_ofNat _ _) : execShli o s = _), (sOp_ws hg (ushiftRight_eq_ofNat _ _) : execShri o s = _),
      (sOp_ws hg (sshiftRight_eq_ofInt _ _) : execSrai o s = _)⟩
  · simp only [List.forall_mem_cons]
    exact ⟨⟨pack_fieldsSL_low 0x40 o, pack_fieldsSL_low 0x41 o, pack_fieldsSL_low 0x42 o, by simp⟩, beq_iff_eq.1, beq_iff_eq.1⟩
  · exact ⟨(sOp_ws hg rfl : execMovi o s = _), (sOp_ws hg (append_setWidth_eq_ofNat _ _) : execMovhi o s = _),
      (sOp_ws hg (add_ofInt _ _) : execAddil o s = _)⟩
  · have hmovi : exec (.movi o) s = .next (s.ws o.d (o.imm.signExtend 64) 1) := (sOp_ws hg rfl : execMovi o s = _)
    obtain rfl : s.ws o.d (o.imm.signExtend 64) 1 = t := Host.Outcome.next.inj (hmovi.symm.trans ht)
    have hread : u.rs p.d = o.imm.signExtend 64 := by
      rw [hd]
      exact readS_of_writeS (fun h => h0 (BitVec.eq_of_toNat_eq h)) ho hpre hmode
    rw [← hd]
    exact (sOp_ws hgu (by rw [hread, append_setWidth_signExtend]) : execMovhi p u = _)

end Sys2Proof.Proofs.ScalarSlot
end

section
/-! Proofs. Compares and guard logic (R117, R118). -/

namespace Sys2Proof.Proofs.ScalarSlot
open Sys2Proof Sys2Proof.Machine

theorem not_slt_eq (a b : W64) : (!a.slt b) = decide (b.toInt ≤ a.toInt) := by
  rw [BitVec.slt_eq_decide, ← decide_not, decide_eq_decide, Int.not_lt]

theorem not_ult_eq (a b : W64) : (!a.ult b) = decide (b.toNat ≤ a.toNat) := by
  rw [BitVec.ult, ← decide_not, decide_eq_decide, Nat.not_lt]

theorem bne_eq_decide (a b : W64) : (a != b) = decide (a ≠ b) := (decide_not ..).symm

theorem beq_imm9_eq (a : W64) (i : BitVec 9) : (a == imm9 i) = decide (a.toInt = i.toInt) := by
  rw [← imm9_toInt, decide_eq_decide.2 BitVec.toInt_inj]
  rfl

theorem bne_imm9_eq (a : W64) (i : BitVec 9) : (a != imm9 i) = decide (a.toInt ≠ i.toInt) := by
  rw [bne, beq_imm9_eq, decide_not]

/-- The bit at a source of guard logic inverts it (R118). -/
theorem bne_eq_ite (x p : Bool) : (x != p) = if p then !x else x := by cases p <;> simp

/-- A write of g0 is discarded (R110). -/
theorem writeG_of_zero {e : BitVec 4} (he : e = 0) (s : State) (v : Bool) (lat : Nat) : s.writeG e.toNat v lat = s := by
  rw [he]
  rfl

/-- Settles O3: each truth as its relation, and the zero fields by packing. -/
theorem compareAndGuardResults : Obligations.CompareAndGuardResults := by
  unfold Obligations.CompareAndGuardResults
  refine ⟨⟨fun o s hg => ?_, fun o s hg => ?_, fun o => ?_, fun o => ?_⟩, fun o s hg => ?_, fun o s hg => ?_,
    fun o s hg he hf hh hp hq => ?_, fun o => ?_⟩
  · have hceq : exec (.ceq o) s = _ := (sOp_writeG hg rfl : execCeq o s = .next (s.writeG _ (decide (s.rs o.a = s.rs o.b)) 1))
    have hcne : exec (.cne o) s = _ := (sOp_writeG hg (bne_eq_decide _ _) : execCne o s = _)
    have hclt : exec (.clt o) s = _ := (sOp_writeG hg BitVec.slt_eq_decide : execClt o s = _)
    have hcge : exec (.cge o) s = _ := (sOp_writeG hg (not_slt_eq _ _) : execCge o s = _)
    have hcltu : exec (.cltu o) s = _ := (sOp_writeG hg rfl : execCltu o s = _)
    have hcgeu : exec (.cgeu o) s = _ := (sOp_writeG hg (not_ult_eq _ _) : execCgeu o s = _)
    refine ⟨hceq, hcne, hclt, hcge, hcltu, hcgeu, fun he => ?_⟩
    simp only [hceq, hcne, hclt, hcge, hcltu, hcgeu, writeG_of_zero he, and_self]
  · have hceqi : exec (.ceqi o) s = _ := (sOp_writeG hg (beq_imm9_eq _ _) : execCeqi o s = _)
    have hcnei : exec (.cnei o) s = _ := (sOp_writeG hg (bne_imm9_eq _ _) : execCnei o s = _)
    have hclti : exec (.clti o) s = _ :=
      (sOp_writeG hg (BitVec.slt_eq_decide.trans (by rw [imm9_toInt])) : execClti o s =
        .next (s.writeG _ (decide ((s.rs o.a).toInt < o.i.toInt)) 1))
    have hcgei : exec (.cgei o) s = _ :=
      (sOp_writeG hg ((not_slt_eq _ _).trans (by rw [imm9_toInt])) : execCgei o s =
        .next (s.writeG _ (decide (o.i.toInt ≤ (s.rs o.a).toInt)) 1))
    refine ⟨hceqi, hcnei, hclti, hcgei, fun he => ?_⟩
    simp only [hceqi, hcnei, hclti, hcgei, writeG_of_zero he, and_self]
  · simp only [List.forall_mem_cons]
    exact ⟨⟨pack_fieldsSC_bit14 0x30 o, pack_fieldsSC_low 0x30 o⟩, ⟨pack_fieldsSC_bit14 0x31 o, pack_fieldsSC_low 0x31 o⟩,
      ⟨pack_fieldsSC_bit14 0x32 o, pack_fieldsSC_low 0x32 o⟩, ⟨pack_fieldsSC_bit14 0x33 o, pack_fieldsSC_low 0x33 o⟩,
      ⟨pack_fieldsSC_bit14 0x34 o, pack_fieldsSC_low 0x34 o⟩, ⟨pack_fieldsSC_bit14 0x35 o, pack_fieldsSC_low 0x35 o⟩, by simp⟩
  · simp only [List.forall_mem_cons]
    exact ⟨pack_fieldsSCI_bit14 0x36 o, pack_fieldsSCI_bit14 0x37 o, pack_fieldsSCI_bit14 0x38 o, pack_fieldsSCI_bit14 0x39 o, by simp⟩
  · exact ⟨(sOp_writeG hg (by rw [bne_eq_ite, bne_eq_ite]) : execGand o s = _),
      (sOp_writeG hg (by rw [bne_eq_ite, bne_eq_ite]) : execGor o s = _),
      (sOp_writeG hg (by rw [bne_eq_ite _ o.p, bne_eq_ite _ o.q]) : execGxor o s = _)⟩
  · exact (sOp_writeG hg rfl : execGset o s = _)
  · have hgxor : exec (.gxor o) s = .next (s.writeG o.e.toNat (xor (s.readG o.f.toNat) (s.readG o.h.toNat)) 1) :=
      (sOp_writeG hg (by rw [hp, hq, Bool.bne_false, Bool.bne_false]) : execGxor o s = _)
    rw [hgxor, he, hf, hh]
    rfl
  · simp only [List.forall_mem_cons]
    exact ⟨pack_fieldsSGl_low 0x3a o, pack_fieldsSGl_low 0x3b o, pack_fieldsSGl_low 0x3c o, by simp⟩

end Sys2Proof.Proofs.ScalarSlot
end

section
/-! Proofs. Scalar floats (R120 to R122). -/

namespace Sys2Proof.Proofs.ScalarSlot
open Sys2Proof Sys2Proof.Machine

/-! ### FCVT by the classes of its source and destination (R121) -/

section
variable {src dst : BitVec 2} (m : RMode) (x : W64)

theorem fcvt_int_int (hs : src = 3) (hd : dst = 3) : fcvt src dst m x = x := by
  rw [fcvt, if_pos hs, if_pos hd]

theorem fcvt_int_float (hs : src = 3) (hd : dst ≠ 3) : fcvt src dst m x = sfRes dst m (Machine.Num.ofInt x.toInt) := by
  rw [fcvt, if_pos hs, if_neg hd]

theorem fcvt_float_int (hs : src ≠ 3) (hd : dst = 3) : fcvt src dst m x = BitVec.ofNat 64 (toIntTag m 6 (sfVal src x)) := by
  rw [fcvt, if_neg hs, if_pos hd]

theorem fcvt_float_float (hs : src ≠ 3) (hd : dst ≠ 3) : fcvt src dst m x = sfRes dst m (sfVal src x) := by
  rw [fcvt, if_neg hs, if_neg hd]

end

/-- FCVT between classes that are not both i64 sets no bit of WARN (R121). -/
theorem execFcvt_of_float {o : OpSFcvt} {s : State} {w : W64} (hg : s.guardOn o.g o.n = true) (h : ¬ (o.s = 3 ∧ o.c = 3))
    (hw : fcvt o.s o.c (RMode.ofCode o.r.toNat) (s.rs o.a) = w) : execFcvt o s = .next (s.ws o.d w 4) := by
  have hc : (o.s == 3 && o.c == 3 && o.r != 0) = false := by
    rw [Bool.eq_false_iff]
    simp only [ne_eq, Bool.and_eq_true, beq_iff_eq]
    exact fun hr => h hr.1
  exact sOp_next hg (by rw [hw, hc]; rfl)

/-- FCVT from i64 to i64 sets RNDNA for a mode other than RNE (R121). -/
theorem execFcvt_of_int {o : OpSFcvt} {s : State} (hg : s.guardOn o.g o.n = true) (hs : o.s = 3) (hc : o.c = 3) :
    execFcvt o s = .next ((s.ws o.d (s.rs o.a) 4).warn wRNDNA (o.r != 0)) :=
  sOp_next hg (by rw [fcvt_int_int _ _ hs hc, hs, hc]; rfl)

/-- A scalar float operation rounds once, and format 11 sets FMTRSV (R120). -/
theorem sfOp_next {o : OpSF} {s : State} (hg : s.guardOn o.g o.n = true) (fn : RMode → Machine.Num → Machine.Num → Machine.Num) :
    let m := RMode.ofCode o.r.toNat
    sfOp s o fn = .next ((s.ws o.d (sfRes o.f m (fn m (sfVal o.f (s.rs o.a)) (sfVal o.f (s.rs o.b)))) 4).warn wFMTRSV (o.f == 3)) :=
  sOp_next hg rfl

/-- FMIN and FMAX round nothing, and a mode other than RNE sets RNDNA (R120). -/
theorem sfMinMax_next {o : OpSF} {s : State} (hg : s.guardOn o.g o.n = true) (fn : Machine.Num → Machine.Num → Machine.Num) :
    sfMinMax s o fn = .next (((s.ws o.d (sfRes o.f .rne (fn (sfVal o.f (s.rs o.a)) (sfVal o.f (s.rs o.b)))) 4).warn
      wFMTRSV (o.f == 3)).warn wRNDNA (o.r != 0)) :=
  sOp_next hg rfl

/-- Settles O4: the operation that each instruction shares with its kind, and FCVT by its two classes. -/
theorem scalarFloatResults : Obligations.ScalarFloatResults := by
  unfold Obligations.ScalarFloatResults
  refine ⟨fun o s hg => ?_, fun o s hg => ?_, fun o s hg => ?_⟩
  · exact ⟨(sfOp_next hg _ : execFadd o s = _), (sfOp_next hg _ : execFsub o s = _), (sfOp_next hg _ : execFmul o s = _),
      (sfOp_next hg _ : execFma o s = _), (sfMinMax_next hg _ : execFmin o s = _), (sfMinMax_next hg _ : execFmax o s = _)⟩
  · exact ⟨fun hs hc => execFcvt_of_int hg hs hc,
      fun hs hc => execFcvt_of_float hg (fun h => hc h.2) (fcvt_int_float _ _ hs hc),
      fun hs hc => execFcvt_of_float hg (fun h => hs h.1) (fcvt_float_int _ _ hs hc),
      fun hs hc => execFcvt_of_float hg (fun h => hs h.1) (fcvt_float_float _ _ hs hc)⟩
  · exact ⟨(sOp_next hg rfl : execFceq o s = _), (sOp_next hg rfl : execFclt o s = _), (sOp_next hg rfl : execFcle o s = _)⟩

end Sys2Proof.Proofs.ScalarSlot
end

section
/-! Proofs. Vector arithmetic and shifts (R161, R162, R164), and what every vector operation takes as operand B (R151 to R153). -/

namespace Sys2Proof.Proofs.VectorSlots
open Sys2Proof Sys2Proof.Machine

/-! ### An operation whose guard is true, and its operand B (R45, R151 to R153) -/

theorem vOp_next {s t : State} {g : BitVec 4} {f : State → State} (hg : s.guardOn g false = true) (hf : f s = t) :
    vOp s g f = .next t := by
  rw [vOp, if_pos hg, hf]

/-- A stream that gives up a group leaves the rest, and nothing else of the state changes (R244). -/
theorem readStream_eq_some {s t : State} {slot k n : Nat} {l : List Nat} (h : s.readStream slot k n = (t, some l)) :
    t = s.modStream k (fun x => { x with buf := x.buf.drop n, pos := x.pos + n }) := by
  unfold State.readStream at h
  dsimp only at h
  split at h
  · cases h
  · split at h
    · cases h
    · split at h
      · cases h
      · exact (Prod.mk.inj h).1.symm

theorem vB_register (s : State) (sl : Bool) {b : BitVec 6} (W : Nat) (hb : b.toNat < 32) :
    s.vB sl b W = (s, some (s.vReg sl b.toNat)) := if_pos hb

theorem vB_stream (s : State) (sl : Bool) {b : BitVec 6} (W : Nat) (hb : 32 ≤ b.toNat) (hb' : b.toNat < 48) :
    let f := (s.pre.streams.get {} (b.toNat - 32)).dfmt
    let r := s.readStream (if sl then 2 else 1) (b.toNat - 32) (W / tagBits f)
    s.vB sl b W = (r.1, r.2.map (fun l => { bits := packElems (tagBits f) l, tag := f, reg := none })) :=
  (if_neg (Nat.not_lt.2 hb)).trans (if_pos hb')

theorem vB_constant (s : State) (sl : Bool) {b : BitVec 6} (W : Nat) (hb : 48 ≤ b.toNat) :
    ∃ ob, s.vB sl b W = (s, some ob) :=
  ⟨_, (if_neg (by omega)).trans (if_neg (by omega))⟩

/-- Operand B that is there is taken: only a stream group changes the state. -/
theorem takesB_of_ready {s : State} (sl : Bool) {b : BitVec 6} {W : Nat} (h : s.BReady b W) :
    ∃ t ob, s.TakesB sl b W t ob := by
  rcases Nat.lt_or_ge b.toNat 32 with hr | hr
  · exact ⟨s, _, vB_register s sl W hr, fun _ => ⟨rfl, rfl⟩, fun hc => by omega, fun hs => by omega⟩
  · rcases Nat.lt_or_ge b.toNat 48 with hs | hc
    · have hsome := vB_ready s sl b W h
      have hB := vB_stream s sl W hr hs
      dsimp only at hB
      rw [hB, Option.isSome_map] at hsome
      obtain ⟨l, hl⟩ := Option.isSome_iff_exists.1 hsome
      rw [hl] at hB
      exact ⟨_, _, hB, fun hr' => by omega, fun hc => by omega, fun _ _ => ⟨rfl, readStream_eq_some (Prod.ext rfl hl)⟩⟩
    · obtain ⟨ob, hB⟩ := vB_constant s sl W hc
      exact ⟨s, ob, hB, fun hr' => by omega, fun _ => rfl, fun _ hs => by omega⟩

/-! ### Formats and latency bounds (R41, R157) -/

theorem isFloatTag_iff {T : Nat} : isFloatTag T = true ↔ 7 ≤ T ∧ T ≤ 11 := by simp [isFloatTag]

theorem isFloatTag_of_le {T : Nat} (h : T ≤ 6) : isFloatTag T = false := by
  rw [← Bool.not_eq_true, isFloatTag_iff]
  omega

theorem okAdd_eq_true {T : Nat} (h : T ≤ 11 ∨ T = 14) : okAdd T = true := by simpa [okAdd] using h

theorem okAdd_eq_false {T : Nat} (h : 11 < T ∧ T ≠ 14) : okAdd T = false := by simpa [okAdd] using h

theorem okMul_eq_true {T : Nat} (h : T ≤ 11) : okMul T = true := by simpa [okMul] using h

theorem okMul_eq_false {T : Nat} (h : 11 < T) : okMul T = false := by simpa [okMul] using h

theorem okInt_eq_true {T : Nat} (h : T ≤ 6) : okInt T = true := by simpa [okInt] using h

theorem okInt_eq_false {T : Nat} (h : 6 < T) : okInt T = false := by simpa [okInt] using h

theorem vLat_of_int {T : Nat} (h : T ≤ 6) : vLat T = 3 := if_neg (by omega)

theorem vLat_of_float {T : Nat} (h : isFloatTag T = true) : vLat T = 4 := by
  rw [isFloatTag_iff] at h
  exact if_pos (by omega)

theorem vLat_of_above {T : Nat} (h : 11 < T) : vLat T = if T ≤ 13 then 4 else 3 := by
  rw [vLat]
  congr 1
  simp only [eq_iff_iff]
  omega

/-! ### One element (R161, R92) -/

section
variable {T : Nat} (fi : Int → Int → Int → Int) (ff : Machine.Num → Machine.Num → Machine.Num → Machine.Num) (z x y d : Nat)

theorem onTag_of_int (h : T ≤ 6) : onTag T fi ff x y d = patOf (tagBits T) (fi (intOf T x) (intOf T y) (intOf T d)) := by
  rw [onTag, isFloatTag_of_le h]
  rfl

theorem onTag_of_float (h : isFloatTag T = true) :
    onTag T fi ff x y d = (floatFmt T).round .rne (ff (numOf T x) (numOf T y) (numOf T d)) := if_pos h

/-- An operation with a meaning of its own for t8 is that of the integers on an integer tag. -/
theorem t8Case_of_int (h : T ≤ 6) :
    (if T = 14 then z else onTag T fi ff x y d) = patOf (tagBits T) (fi (intOf T x) (intOf T y) (intOf T d)) :=
  (if_neg (by omega)).trans (onTag_of_int fi ff x y d h)

/-- An operation with a meaning of its own for t8 is that of the floats on a float tag. -/
theorem t8Case_of_float (h : isFloatTag T = true) :
    (if T = 14 then z else onTag T fi ff x y d) = (floatFmt T).round .rne (ff (numOf T x) (numOf T y) (numOf T d)) :=
  (if_neg (by rw [isFloatTag_iff] at h; omega)).trans (onTag_of_float fi ff x y d h)

end

theorem eMulh_eq (T x y d : Nat) : eMulh T x y d = patOf (tagBits T) (intOf T x * intOf T y / 2 ^ tagBits T) := by
  rw [eMulh, Nat.cast_pow, Nat.cast_ofNat]

theorem eSra_eq (T x y d : Nat) : eSra T x y d = patOf (tagBits T) (intOf T x / 2 ^ (y % tagBits T)) := by
  rw [eSra, Nat.cast_pow, Nat.cast_ofNat]

/-! ### The words with the sources A and B, or A, B and D -/

section
variable {o : OpV3} {s t : State} {ob : VOpd} {ok : Nat → Bool} {useD : Bool} {lat : Nat → Nat}
  {f : Nat → Nat → Nat → Nat → Nat} (hg : s.guardOn o.g false = true) (hB : s.vB o.sl o.b (vWidth o.w) = (t, some ob))
include hg hB

/-- A working format that the operation has no meaning for takes the fallback (R158). -/
theorem vArith_fallback {l : Nat} (hok : ok (s.vA o.sl o.a o.l (vWidth o.w)).2 = false)
    (hl : lat (s.vA o.sl o.a o.l (vWidth o.w)).2 = l) :
    let a := s.vA o.sl o.a o.l (vWidth o.w)
    let n := vWidth o.w / tagBits a.2
    vArith s o ok useD lat f =
      .next ((t.vput o.sl o.m o.d.toNat (tagBits a.2) n a.2 (List.replicate n 0) l).warn wFMTOP true) := by
  refine vOp_next hg ?_
  simp only [hB, hok, hl, State.fmtop]
  rfl

/-- An operation of A and B gives element k of the result from elements k of the two. -/
theorem vArith_two {l : Nat} {e : Nat → Nat → Nat} (hok : ok (s.vA o.sl o.a o.l (vWidth o.w)).2 = true)
    (hl : lat (s.vA o.sl o.a o.l (vWidth o.w)).2 = l) (he : ∀ x y, f (s.vA o.sl o.a o.l (vWidth o.w)).2 x y 0 = e x y) :
    let a := s.vA o.sl o.a o.l (vWidth o.w)
    let b := s.vConv o.sl ob a.2 (vWidth o.w)
    let n := vWidth o.w / tagBits a.2
    vArith s o ok false lat f = .next ((t.vput o.sl o.m o.d.toNat (tagBits a.2) n a.2
      ((List.range n).map (fun k => e (a.1.getD k 0) (b.1.getD k 0))) l).warns b.2) := by
  refine vOp_next hg ?_
  simp only [hB, hok, hl, ← he]
  rfl

/-- An operation of A, B and D gives element k of the result from elements k of the three. -/
theorem vArith_three {l : Nat} {e : Nat → Nat → Nat → Nat} (hok : ok (s.vA o.sl o.a o.l (vWidth o.w)).2 = true)
    (hl : lat (s.vA o.sl o.a o.l (vWidth o.w)).2 = l) (he : ∀ x y z, f (s.vA o.sl o.a o.l (vWidth o.w)).2 x y z = e x y z) :
    let a := s.vA o.sl o.a o.l (vWidth o.w)
    let b := s.vConv o.sl ob a.2 (vWidth o.w)
    let d := s.vConv o.sl (s.vReg o.sl o.d.toNat) a.2 (vWidth o.w)
    let n := vWidth o.w / tagBits a.2
    vArith s o ok true lat f = .next (((t.vput o.sl o.m o.d.toNat (tagBits a.2) n a.2
      ((List.range n).map (fun k => e (a.1.getD k 0) (b.1.getD k 0) (d.1.getD k 0))) l).warns b.2).warns d.2) := by
  refine vOp_next hg ?_
  simp only [hB, hok, hl, ← he]
  rfl

end

/-- Settles O34: what the three words share, with the element of each operation on the kinds of tag it has a meaning for. -/
theorem vectorArithmetic : Obligations.VectorArithmetic := by
  unfold Obligations.VectorArithmetic
  intro o s hg hready
  obtain ⟨t, ob, htakes⟩ := takesB_of_ready o.sl hready
  have hB := htakes.1
  refine ⟨t, ob, htakes, ?_⟩
  intro a T w n b d I F put ints floats t8 none
  have addInt {f e} (h : T ≤ 6) := vArith_two (f := f) (e := e) hg hB (okAdd_eq_true (.inl (h.trans (by decide)))) (vLat_of_int h)
  have addFloat {f e} (h : isFloatTag T = true) :=
    vArith_two (f := f) (e := e) hg hB (okAdd_eq_true (.inl (isFloatTag_iff.1 h).2)) (vLat_of_float h)
  have addT8 {f e} (h : T = 14) := vArith_two (f := f) (e := e) hg hB (okAdd_eq_true (.inr h)) (congrArg vLat h)
  have mulInt {f e} (h : T ≤ 6) := vArith_two (f := f) (e := e) hg hB (okMul_eq_true (h.trans (by decide))) (vLat_of_int h)
  have mulFloat {f e} (h : isFloatTag T = true) :=
    vArith_two (f := f) (e := e) hg hB (okMul_eq_true (isFloatTag_iff.1 h).2) (vLat_of_float h)
  have fmaInt {f e} (h : T ≤ 6) := vArith_three (f := f) (e := e) hg hB (okMul_eq_true (h.trans (by decide))) (vLat_of_int h)
  have fmaFloat {f e} (h : isFloatTag T = true) :=
    vArith_three (f := f) (e := e) hg hB (okMul_eq_true (isFloatTag_iff.1 h).2) (vLat_of_float h)
  have intOnly {f e} (h : T ≤ 6) := vArith_two (lat := lat3) (f := f) (e := e) hg hB (okInt_eq_true h) rfl
  refine ⟨?vaddI, ?vaddF, ?vadd8, ?vsubI, ?vsubF, ?vsub8, ?vmulI, ?vmulF, fun h => ⟨?vfmaI, ?vfmsI⟩, fun h => ⟨?vfmaF, ?vfmsF⟩,
    ?vminI, ?vminF, ?vmin8, ?vmaxI, ?vmaxF, ?vmax8, ?vsqdI, ?vsqdF, ?vmulh, ?vsra, fun h => ⟨?vshl, ?vshr⟩,
    ?noneAdd, ?noneMul, ?noneInt⟩
  case vaddI => exact fun h => (addInt h (fun x y => t8Case_of_int _ _ _ x y 0 h) : execVadd o s = _)
  case vsubI => exact fun h => (addInt h (fun x y => t8Case_of_int _ _ _ x y 0 h) : execVsub o s = _)
  case vminI => exact fun h => (addInt h (fun x y => t8Case_of_int _ _ _ x y 0 h) : execVmin o s = _)
  case vmaxI => exact fun h => (addInt h (fun x y => t8Case_of_int _ _ _ x y 0 h) : execVmax o s = _)
  case vaddF => exact fun h => (addFloat h (fun x y => t8Case_of_float _ _ _ x y 0 h) : execVadd o s = _)
  case vsubF => exact fun h => (addFloat h (fun x y => t8Case_of_float _ _ _ x y 0 h) : execVsub o s = _)
  case vminF => exact fun h => (addFloat h (fun x y => t8Case_of_float _ _ _ x y 0 h) : execVmin o s = _)
  case vmaxF => exact fun h => (addFloat h (fun x y => t8Case_of_float _ _ _ x y 0 h) : execVmax o s = _)
  case vadd8 => exact fun h => (addT8 h (fun x y => if_pos h) : execVadd o s = _)
  case vsub8 => exact fun h => (addT8 h (fun x y => if_pos h) : execVsub o s = _)
  case vmin8 => exact fun h => (addT8 h (fun x y => if_pos h) : execVmin o s = _)
  case vmax8 => exact fun h => (addT8 h (fun x y => if_pos h) : execVmax o s = _)
  case vmulI => exact fun h => (mulInt h (fun x y => onTag_of_int _ _ x y 0 h) : execVmul o s = _)
  case vsqdI => exact fun h => (mulInt h (fun x y => onTag_of_int _ _ x y 0 h) : execVsqd o s = _)
  case vmulF => exact fun h => (mulFloat h (fun x y => onTag_of_float _ _ x y 0 h) : execVmul o s = _)
  case vsqdF => exact fun h => (mulFloat h (fun x y => onTag_of_float _ _ x y 0 h) : execVsqd o s = _)
  case vfmaI => exact (fmaInt h (fun x y z => onTag_of_int _ _ x y z h) : execVfma o s = _)
  case vfmsI => exact (fmaInt h (fun x y z => onTag_of_int _ _ x y z h) : execVfms o s = _)
  case vfmaF => exact (fmaFloat h (fun x y z => onTag_of_float _ _ x y z h) : execVfma o s = _)
  case vfmsF => exact (fmaFloat h (fun x y z => onTag_of_float _ _ x y z h) : execVfms o s = _)
  case vmulh => exact fun h => (intOnly h (fun x y => eMulh_eq T x y 0) : execVmulh o s = _)
  case vsra => exact fun h => (intOnly h (fun x y => eSra_eq T x y 0) : execVsra o s = _)
  case vshl => exact (intOnly h (fun x y => rfl) : execVshl o s = _)
  case vshr => exact (intOnly h (fun x y => rfl) : execVshr o s = _)
  case noneAdd =>
    have hnone {useD f} (h : 11 < T ∧ T ≠ 14) :=
      vArith_fallback (useD := useD) (f := f) hg hB (okAdd_eq_false h) (vLat_of_above h.1)
    simp only [List.forall_mem_cons]
    exact ⟨fun h => (hnone h : execVadd o s = _), fun h => (hnone h : execVsub o s = _), fun h => (hnone h : execVmin o s = _),
      fun h => (hnone h : execVmax o s = _), by simp⟩
  case noneMul =>
    have hnone {useD f} (h : 11 < T) :=
      vArith_fallback (useD := useD) (f := f) hg hB (okMul_eq_false h) (vLat_of_above h)
    simp only [List.forall_mem_cons]
    exact ⟨fun h => (hnone h : execVmul o s = _), fun h => (hnone h : execVfma o s = _), fun h => (hnone h : execVfms o s = _),
      fun h => (hnone h : execVsqd o s = _), by simp⟩
  case noneInt =>
    have hnone {useD f} (h : 6 < T) :=
      vArith_fallback (lat := lat3) (useD := useD) (f := f) hg hB (okInt_eq_false h) rfl
    simp only [List.forall_mem_cons]
    exact ⟨fun h => (hnone h : execVmulh o s = _), fun h => (hnone h : execVshl o s = _), fun h => (hnone h : execVshr o s = _),
      fun h => (hnone h : execVsra o s = _), by simp⟩

end Sys2Proof.Proofs.VectorSlots
end

section
/-! Proofs. VDOT4 and the bitwise operations (R163, R164). -/

namespace Sys2Proof.Proofs.VectorSlots
open Sys2Proof Sys2Proof.Machine

section
variable {o : OpV3} {s t : State} {ob : VOpd} (hg : s.guardOn o.g false = true)
  (hB : s.vB o.sl o.b (vWidth o.w) = (t, some ob))
include hg hB

/-- The four products of lane j added to D, which is read with the tag `D` that the result takes, and saturated (R163). -/
theorem execVdot4_of_byte {D : Nat} (hT : (s.vA o.sl o.a o.l (vWidth o.w)).2 < 2)
    (hD : (if (s.vA o.sl o.a o.l (vWidth o.w)).2 = 0 then 4 else 5) = D) :
    let a := s.vA o.sl o.a o.l (vWidth o.w)
    let b := s.vConv o.sl ob a.2 (vWidth o.w)
    let d := elemsOf 32 (vWidth o.w / 32) (s.readV o.sl o.d.toNat).bits.toNat
    let dot (j : Nat) : Int :=
      ([0, 1, 2, 3].map (fun k => intOf a.2 (a.1.getD (4 * j + k) 0) * intOf a.2 (b.1.getD (4 * j + k) 0))).sum
    execVdot4 o s = .next ((t.vput o.sl o.m o.d.toNat 32 (vWidth o.w / 32) D
      ((List.range (vWidth o.w / 32)).map (fun j => patOf 32 (satInt D (intOf D (d.getD j 0) + dot j)))) 4).warns b.2) := by
  have hbyte : ¬ ((s.vA o.sl o.a o.l (vWidth o.w)).2 ≠ 0 ∧ (s.vA o.sl o.a o.l (vWidth o.w)).2 ≠ 1) := by omega
  refine vOp_next hg ?_
  simp only [hB, if_neg hbyte, hD]

/-- The fallback of VDOT4 is of the 32-bit lanes, tagged i32 (R163). -/
theorem execVdot4_fallback (hT : 1 < (s.vA o.sl o.a o.l (vWidth o.w)).2) :
    execVdot4 o s = .next ((t.vput o.sl o.m o.d.toNat 32 (vWidth o.w / 32) 4
      (List.replicate (vWidth o.w / 32) 0) 4).warn wFMTOP true) := by
  have hnone : (s.vA o.sl o.a o.l (vWidth o.w)).2 ≠ 0 ∧ (s.vA o.sl o.a o.l (vWidth o.w)).2 ≠ 1 := by omega
  refine vOp_next hg ?_
  simp only [hB, if_pos hnone, State.fmtop]

section
variable (f : Nat → Nat → Nat)

/-- With a tag of 12 or 13 on either side the bits of B are taken as they stand (R164; log entry 101). -/
theorem vBitwise_raw {T : Nat} (hA : (s.vA o.sl o.a o.l (vWidth o.w)).2 = T) (hraw : T = 12 ∨ T = 13 ∨ ob.tag = 12 ∨ ob.tag = 13) :
    let a := s.vA o.sl o.a o.l (vWidth o.w)
    let n := vWidth o.w / tagBits T
    vBitwise s o f = .next (t.vput o.sl o.m o.d.toNat (tagBits T) n T
      ((List.range n).map (fun k => f (a.1.getD k 0) ((elemsOf (tagBits T) n ob.bits).getD k 0))) 3) := by
  have hor : (T == 12 || T == 13 || ob.tag == 12 || ob.tag == 13) = true := by simpa [or_assoc] using hraw
  refine vOp_next hg ?_
  simp only [hB, hA, hor, if_true]
  rfl

/-- With other tags B is converted to the format of A (R164). -/
theorem vBitwise_converted {T : Nat} (hA : (s.vA o.sl o.a o.l (vWidth o.w)).2 = T)
    (hraw : ¬ (T = 12 ∨ T = 13 ∨ ob.tag = 12 ∨ ob.tag = 13)) :
    let a := s.vA o.sl o.a o.l (vWidth o.w)
    let b := s.vConv o.sl ob T (vWidth o.w)
    let n := vWidth o.w / tagBits T
    vBitwise s o f = .next ((t.vput o.sl o.m o.d.toNat (tagBits T) n T
      ((List.range n).map (fun k => f (a.1.getD k 0) (b.1.getD k 0))) 3).warns b.2) := by
  have hor : (T == 12 || T == 13 || ob.tag == 12 || ob.tag == 13) = false := by simpa [and_assoc] using hraw
  refine vOp_next hg ?_
  simp only [hB, hA, hor]
  rfl

end

end

/-- Settles O35: VDOT4 by the tag of A, and the bitwise operations by whether B is converted. -/
theorem vectorDotAndBits : Obligations.VectorDotAndBits := by
  unfold Obligations.VectorDotAndBits
  intro o s hg hready
  obtain ⟨t, ob, htakes⟩ := takesB_of_ready o.sl hready
  have hB := htakes.1
  refine ⟨t, ob, htakes, ?_⟩
  intro a T w n b d dot put bits
  have hraw (f : Nat → Nat → Nat) (h : T = 12 ∨ T = 13 ∨ ob.tag = 12 ∨ ob.tag = 13) := vBitwise_raw hg hB f rfl h
  have hconverted (f : Nat → Nat → Nat) (h : ¬ (T = 12 ∨ T = 13 ∨ ob.tag = 12 ∨ ob.tag = 13)) := vBitwise_converted hg hB f rfl h
  refine ⟨?i8, ?ui8, ?other, ?and, ?or, ?xor⟩
  case i8 => exact fun h => (execVdot4_of_byte hg hB (h.trans_lt (by decide)) (if_pos h) : execVdot4 o s = _)
  case ui8 => exact fun h => (execVdot4_of_byte hg hB (h.trans_lt (by decide)) (if_neg (h.trans_ne (by decide))) : execVdot4 o s = _)
  case other => exact fun h => (execVdot4_fallback hg hB h : execVdot4 o s = _)
  case and => exact ⟨fun h => (hraw _ h : execVand o s = _), fun h => (hconverted _ h : execVand o s = _)⟩
  case or => exact ⟨fun h => (hraw _ h : execVor o s = _), fun h => (hconverted _ h : execVor o s = _)⟩
  case xor => exact ⟨fun h => (hraw _ h : execVxor o s = _), fun h => (hconverted _ h : execVxor o s = _)⟩

end Sys2Proof.Proofs.VectorSlots
end

section
/-! Proofs. Reductions and VSCAN (R176, R177). -/

namespace Sys2Proof.Proofs.VectorSlots
open Sys2Proof Sys2Proof.Machine

/-! ### Extremes of the contributing elements -/

section
variable (c : Int) (n : Nat) (on : Nat → Bool) (X : Nat → Int)

/-- The elements that contribute, with the identity `c` in the place of the others (R176). -/
def contributing : List Int := (List.range n).map (fun k => if on k then X k else c)

theorem mem_contributing {k : Nat} (hk : k < n) (hon : on k = true) : X k ∈ contributing c n on X :=
  List.mem_map.2 ⟨k, List.mem_range.2 hk, if_pos hon⟩

theorem eq_or_of_mem_contributing {m : Int} (h : m ∈ c :: contributing c n on X) : m = c ∨ ∃ k < n, on k = true ∧ m = X k := by
  rcases List.mem_cons.1 h with rfl | h
  · exact .inl rfl
  · obtain ⟨k, hk, rfl⟩ := List.mem_map.1 h
    by_cases hon : on k = true
    · exact .inr ⟨k, List.mem_range.1 hk, hon, if_pos hon⟩
    · exact .inl (if_neg hon)

theorem foldl_max_contributing :
    (∀ k < n, on k = true → X k ≤ (contributing c n on X).foldl max c) ∧
      ((contributing c n on X).foldl max c = c ∨ ∃ k < n, on k = true ∧ (contributing c n on X).foldl max c = X k) := by
  obtain ⟨hmem, hle⟩ := List.max?_eq_some_iff.1 (List.max?_cons' (x := c) (xs := contributing c n on X))
  exact ⟨fun k hk hon => hle _ (List.mem_cons_of_mem _ (mem_contributing c n on X hk hon)), eq_or_of_mem_contributing c n on X hmem⟩

theorem foldl_min_contributing :
    (∀ k < n, on k = true → (contributing c n on X).foldl min c ≤ X k) ∧
      ((contributing c n on X).foldl min c = c ∨ ∃ k < n, on k = true ∧ (contributing c n on X).foldl min c = X k) := by
  obtain ⟨hmem, hle⟩ := List.min?_eq_some_iff.1 (List.min?_cons' (x := c) (xs := contributing c n on X))
  exact ⟨fun k hk hon => hle _ (List.mem_cons_of_mem _ (mem_contributing c n on X hk hon)), eq_or_of_mem_contributing c n on X hmem⟩

/-- The greatest magnitude is the greatest of the magnitudes, with 0 for an element that does not contribute. -/
theorem foldl_natAbs_contributing :
    (contributing 0 n on X).foldl (fun m x => max m (x.natAbs : Int)) 0 =
      (contributing 0 n on (fun k => ((X k).natAbs : Int))).foldl max 0 := by
  have hmap : contributing 0 n on (fun k => ((X k).natAbs : Int)) = (contributing 0 n on X).map (fun x => (x.natAbs : Int)) := by
    simp [contributing, Function.comp_def, apply_ite]
  rw [hmap, List.foldl_map]

end

/-! ### Running sums -/

theorem scanI_map_range (n : Nat) (p : Int) (g : Nat → Int) :
    scanI p ((List.range n).map g) = (List.range n).map (fun k => p + ((List.range (k + 1)).map g).sum) := by
  induction n generalizing p g with
  | zero => rfl
  | succ n ih =>
    simp only [List.range_succ_eq_map, List.map_cons, List.map_map, scanI, Function.comp_def, List.sum_cons]
    rw [ih (p + g 0)]
    simp [List.range_succ_eq_map, Function.comp_def, Int.add_assoc]

/-- The running sums of floats, each rounded to the format; the first is the element itself (R177). -/
def runningF (T : Nat) (x : Nat → Machine.Num) : Nat → Machine.Num
  | 0 => x 0
  | k + 1 => (floatFmt T).decode ((floatFmt T).round .rne ((runningF T x k).add .rne (x (k + 1))))

theorem map_scanF (r : Machine.Num → Nat) (T n : Nat) (p x : Nat → Machine.Num)
    (hp : ∀ k, p (k + 1) = (floatFmt T).decode ((floatFmt T).round .rne ((p k).add .rne (x k)))) :
    (scanF T (p 0) ((List.range n).map x)).map r = (List.range n).map (fun k => r (p (k + 1))) := by
  induction n generalizing p x with
  | zero => rfl
  | succ n ih =>
    simp only [List.range_succ_eq_map, List.map_cons, List.map_map, scanF, ← hp]
    exact congrArg _ (ih (p ∘ Nat.succ) (x ∘ Nat.succ) (fun k => hp (k + 1)))

/-! ### The words with one source -/

section
variable {o : OpV2} {s : State} (hg : s.guardOn o.g false = true)
include hg

section
variable {ff : Nat → Machine.Num → Machine.Num → Machine.Num} {pre : Machine.Num → Machine.Num} {idF : Machine.Num}
  {fi : Nat → List Int → Int} {idI : Nat → Int}

/-- A reduction has no meaning for the formats above 11 (R158). -/
theorem vReduce_fallback (hT : 11 < (s.vA o.sl o.a o.l (vWidth o.w)).2) :
    let a := s.vA o.sl o.a o.l (vWidth o.w)
    let n := vWidth o.w / tagBits a.2
    vReduce s o ff pre idF fi idI =
      .next ((s.vput o.sl o.m o.d.toNat (tagBits a.2) n a.2 (List.replicate n 0) 6).warn wFMTOP true) := by
  refine vOp_next hg ?_
  simp only [okMul_eq_false hT, State.fmtop]
  rfl

/-- A reduction of integers saturates what its operation gives for the contributing elements. -/
theorem vReduce_int (hT : (s.vA o.sl o.a o.l (vWidth o.w)).2 ≤ 6) :
    let a := s.vA o.sl o.a o.l (vWidth o.w)
    let n := vWidth o.w / tagBits a.2
    let on (k : Nat) : Bool := !o.m || (s.mask0 o.sl).getLsbD k
    let v := fi a.2 (contributing (idI a.2) n on (fun k => intOf a.2 (a.1.getD k 0)))
    vReduce s o ff pre idF fi idI = .next (s.vput o.sl false o.d.toNat (tagBits a.2) n a.2
      (patOf (tagBits a.2) (satInt a.2 v) :: List.replicate (n - 1) 0) 6) := by
  refine vOp_next hg ?_
  simp only [okMul_eq_true (hT.trans (by decide)), isFloatTag_of_le hT]
  rfl

/-- A reduction of floats rounds the root of its pairwise tree. -/
theorem vReduce_float (hT : isFloatTag (s.vA o.sl o.a o.l (vWidth o.w)).2 = true) :
    let a := s.vA o.sl o.a o.l (vWidth o.w)
    let n := vWidth o.w / tagBits a.2
    let on (k : Nat) : Bool := !o.m || (s.mask0 o.sl).getLsbD k
    vReduce s o ff pre idF fi idI = .next (s.vput o.sl false o.d.toNat (tagBits a.2) n a.2
      ((floatFmt a.2).round .rne (tree (ff a.2) 10 ((List.range n).map (fun k => if on k then pre (numOf a.2 (a.1.getD k 0)) else idF))) ::
        List.replicate (n - 1) 0) 6) := by
  refine vOp_next hg ?_
  simp only [okMul_eq_true (isFloatTag_iff.1 hT).2, hT]
  rfl

end

theorem execVscan_fallback (hT : 11 < (s.vA o.sl o.a o.l (vWidth o.w)).2) :
    let a := s.vA o.sl o.a o.l (vWidth o.w)
    let n := vWidth o.w / tagBits a.2
    execVscan o s = .next ((s.vput o.sl o.m o.d.toNat (tagBits a.2) n a.2 (List.replicate n 0) 6).warn wFMTOP true) := by
  refine vOp_next hg ?_
  simp only [okMul_eq_false hT, State.fmtop]
  rfl

theorem execVscan_int (hT : (s.vA o.sl o.a o.l (vWidth o.w)).2 ≤ 6) :
    let a := s.vA o.sl o.a o.l (vWidth o.w)
    let n := vWidth o.w / tagBits a.2
    let on (k : Nat) : Bool := !o.m || (s.mask0 o.sl).getLsbD k
    let x (k : Nat) : Int := if on k then intOf a.2 (a.1.getD k 0) else 0
    execVscan o s = .next (s.vput o.sl false o.d.toNat (tagBits a.2) n a.2
      ((List.range n).map (fun k => patOf (tagBits a.2) (satInt a.2 ((List.range (k + 1)).map x).sum))) 6) := by
  refine vOp_next hg ?_
  simp only [okMul_eq_true (hT.trans (by decide)), isFloatTag_of_le hT, scanI_map_range, List.map_map, Function.comp_def, Int.zero_add]
  rfl

theorem execVscan_float (hT : isFloatTag (s.vA o.sl o.a o.l (vWidth o.w)).2 = true) :
    let a := s.vA o.sl o.a o.l (vWidth o.w)
    let n := vWidth o.w / tagBits a.2
    let on (k : Nat) : Bool := !o.m || (s.mask0 o.sl).getLsbD k
    let x (k : Nat) : Machine.Num := if on k then numOf a.2 (a.1.getD k 0) else .fin false 0 0
    execVscan o s = .next (s.vput o.sl false o.d.toNat (tagBits a.2) n a.2
      ((List.range n).map (fun k => (floatFmt a.2).round .rne (runningF a.2 x k))) 6) := by
  intro a n on x
  have hn : vWidth o.w / tagBits (s.vA o.sl o.a o.l (vWidth o.w)).2 = n := rfl
  refine vOp_next hg ?_
  simp only [okMul_eq_true (isFloatTag_iff.1 hT).2, hT, Bool.not_true, Bool.false_eq_true, if_false, if_true, hn]
  clear hn
  clear_value n
  congr 1
  cases n with
  | zero => rfl
  | succ n =>
    simp only [List.range_succ_eq_map, List.map_cons, List.map_map]
    exact congrArg _ (map_scanF _ a.2 n (runningF a.2 x) (fun k => x (k + 1)) (fun k => rfl))

end

/-- Settles O37: the reductions by the kind of A's tag, the integer extremes by what a fold over the contributing elements gives,
and VSCAN by its running sums. -/
theorem vectorReductions : Obligations.VectorReductions := by
  unfold Obligations.VectorReductions
  intro o s hg a T w n on X one sum floats
  refine ⟨fun hT => ⟨?sum, ?max, ?min, ?amax, ?scan⟩, fun hT => ?scanF, ?sumF, ?maxF, ?minF, ?amaxF, fun hT => ?none⟩
  case sum => exact (vReduce_int hg hT : execVrsum o s = _)
  case max => exact ⟨_, (vReduce_int hg hT : execVrmax o s = _), foldl_max_contributing (tagMin T) n on X⟩
  case min => exact ⟨_, (vReduce_int hg hT : execVrmin o s = _), foldl_min_contributing (tagMax T) n on X⟩
  case amax =>
    refine ⟨_, (vReduce_int hg hT : execVamax o s = _), ?_⟩
    rw [foldl_natAbs_contributing]
    exact foldl_max_contributing 0 n on _
  case scan => exact (execVscan_int hg hT : execVscan o s = _)
  case scanF =>
    exact ⟨runningF T (fun k => if on k then numOf T (a.1.getD k 0) else .fin false 0 0), rfl, fun k => rfl,
      (execVscan_float hg hT : execVscan o s = _)⟩
  case sumF => exact fun hT => (vReduce_float hg hT : execVrsum o s = _)
  case maxF => exact fun hT => (vReduce_float hg hT : execVrmax o s = _)
  case minF => exact fun hT => (vReduce_float hg hT : execVrmin o s = _)
  case amaxF => exact fun hT => (vReduce_float hg hT : execVamax o s = _)
  case none =>
    simp only [List.forall_mem_cons]
    exact ⟨(vReduce_fallback hg hT : execVrsum o s = _), (vReduce_fallback hg hT : execVrmax o s = _),
      (vReduce_fallback hg hT : execVrmin o s = _), (vReduce_fallback hg hT : execVamax o s = _),
      (execVscan_fallback hg hT : execVscan o s = _), by simp⟩

end Sys2Proof.Proofs.VectorSlots
end

section
/-! Proofs. Vector compares, VSEL and the mask operations (R165 to R168). -/

namespace Sys2Proof.Proofs.VectorSlots
open Sys2Proof Sys2Proof.Machine

/-! ### Elements are below 2^w (R68) -/

theorem getD_lt_of_forall_mem {l : List Nat} {m : Nat} (hm : 0 < m) (h : ∀ x ∈ l, x < m) (k : Nat) : l.getD k 0 < m := by
  rcases Nat.lt_or_ge k l.length with hk | hk
  · rw [List.getD_eq_getElem _ _ hk]
    exact h _ (List.getElem_mem hk)
  · rwa [List.getD_eq_default _ _ hk]

theorem lt_of_mem_elemsOf {w n bits : Nat} : ∀ x ∈ elemsOf w n bits, x < 2 ^ w := by
  intro x hx
  obtain ⟨i, -, rfl⟩ := List.mem_map.1 hx
  exact Nat.mod_lt _ (Nat.two_pow_pos w)

theorem lt_of_mem_patterned {lp : Option Nat} {e : List Nat} {m : Nat} (hm : 0 < m) (h : ∀ x ∈ e, x < m) :
    ∀ x ∈ patterned lp e, x < m := by
  cases lp with
  | none => exact h
  | some p =>
    intro x hx
    obtain ⟨i, -, rfl⟩ := List.mem_map.1 hx
    exact getD_lt_of_forall_mem hm h _

theorem vA_getD_lt (s : State) (sl : Bool) (r : BitVec 5) (l : BitVec 2) (W k : Nat) :
    (s.vA sl r l W).1.getD k 0 < 2 ^ tagBits (s.vA sl r l W).2 :=
  getD_lt_of_forall_mem (Nat.two_pow_pos _) (lt_of_mem_patterned (Nat.two_pow_pos _) lt_of_mem_elemsOf) k

theorem toT8_lt (mode : RMode) (x : Machine.Num) : toT8 mode x < 256 := by
  cases x with
  | nan => exact (by decide : 255 < 256)
  | inf neg =>
    rw [toT8]
    split <;> decide
  | fin neg m e =>
    rw [toT8]
    split
    · decide
    · split
      · decide
      · omega

theorem convElem_t8_lt (mode : RMode) (src b : Nat) : convElem mode src 14 b < 256 := by
  rw [convElem, if_neg (by simp)]
  split
  · decide
  · exact toT8_lt _ _

theorem lt_of_mem_vConv_t8 (s : State) (sl : Bool) (ob : VOpd) (W : Nat) : ∀ x ∈ (s.vConv sl ob 14 W).1, x < 256 := by
  have hzero (n : Nat) : ∀ x ∈ List.replicate n 0, x < 256 := fun x hx => (List.mem_replicate.1 hx).2 ▸ by decide
  have hif {c : Prop} [Decidable c] {v : Nat} (hv : v < 256) : (if c then v else 0) < 256 := by split <;> omega
  rw [State.vConv]
  dsimp only
  split
  · exact lt_of_mem_elemsOf
  · rw [if_neg (by decide)]
    split
    · split
      · split
        · intro x hx
          obtain ⟨i, -, rfl⟩ := List.mem_map.1 hx
          exact hif (toT8_lt _ _)
        · exact hzero _
      · exact hzero _
    · intro x hx
      obtain ⟨i, -, rfl⟩ := List.mem_map.1 hx
      exact hif (convElem_t8_lt _ _ _)

/-! ### Compares (R165) -/

/-- The equality of two elements: of floats with NaN unordered, of integers by their tag. -/
def elemEq (T x y : Nat) : Bool := if isFloatTag T then (numOf T x).eq (numOf T y) else decide (intOf T x = intOf T y)

/-- The order of two elements: of floats with NaN unordered, of integers by their tag. -/
def elemLt (T x y : Nat) : Bool := if isFloatTag T then (numOf T x).lt (numOf T y) else decide (intOf T x < intOf T y)

theorem intOf_t8 {x : Nat} (h : x < 256) : intOf 14 x = x := congrArg Nat.cast (Nat.mod_eq_of_lt h)

/-- Elements of t8 compare as numbers: NEV is the greatest (R92). -/
theorem cmpElem_t8 {x y : Nat} (hx : x < 256) (hy : y < 256) : cmpElem 14 x y = (elemEq 14 x y, elemLt 14 x y) := by
  have heq : elemEq 14 x y = decide (intOf 14 x = intOf 14 y) := rfl
  have hlt : elemLt 14 x y = decide (intOf 14 x < intOf 14 y) := rfl
  rw [heq, hlt, intOf_t8 hx, intOf_t8 hy]
  simp only [Nat.cast_inj, Nat.cast_lt]
  rfl

theorem cmpElem_of_le {T : Nat} (h : T ≤ 11) (x y : Nat) : cmpElem T x y = (elemEq T x y, elemLt T x y) := by
  rw [cmpElem, elemEq, elemLt]
  split
  · rfl
  · rw [if_neg (by omega)]
    rfl

/-- Bit k of a mask is the truth at place k, and a bit above the last of them is 0. -/
theorem testBit_packElems_one (l : List Bool) (k : Nat) :
    (packElems 1 (l.map (fun b => if b then 1 else 0))).testBit k = l.getD k false := by
  induction l generalizing k with
  | nil => simp [packElems]
  | cons b l ih =>
    cases k with
    | zero => cases b <;> simp [packElems, Nat.testBit_zero]
    | succ k =>
      rw [Nat.testBit_succ, List.getD_cons_succ, ← ih]
      congr 1
      simp only [List.map_cons, packElems]
      cases b <;> grind

theorem getLsbD_maskOf (p : Nat → Bool) (n : Nat) {k : Nat} (hk : k < 256) :
    (maskOf ((List.range n).map p)).getLsbD k = (decide (k < n) && p k) := by
  rw [maskOf, BitVec.getLsbD_ofNat, testBit_packElems_one, decide_eq_true hk, Bool.true_and]
  by_cases hn : k < n <;> simp [hn]

section
variable {o : OpVC} {s t : State} {ob : VOpd} (f : Bool × Bool → Bool) (hg : s.guardOn o.g false = true)
  (hB : s.vB o.sl o.b (vWidth o.w) = (t, some ob))
include hg hB

/-- The fallback of a compare writes a mask of zeros (R158). -/
theorem vCompare_fallback (hT : (s.vA o.sl o.a o.l (vWidth o.w)).2 = 12 ∨ (s.vA o.sl o.a o.l (vWidth o.w)).2 = 13) :
    vCompare s o f = .next ((((t.warn wMSKIGN o.m).writeK ((if o.sl then 8 else 0) + o.k.toNat) 0 4)).warn wFMTOP true) := by
  have hok : okAdd (s.vA o.sl o.a o.l (vWidth o.w)).2 = false := okAdd_eq_false (by omega)
  have hlat : vLat (s.vA o.sl o.a o.l (vWidth o.w)).2 = 4 := if_pos (by omega)
  refine vOp_next hg ?_
  simp only [hB, hok, hlat]
  rfl

/-- A compare writes the mask of the truths that `f` takes from the equality and the order of elements k. -/
theorem vCompare_mask {T : Nat} (hA : (s.vA o.sl o.a o.l (vWidth o.w)).2 = T) (hT : T ≤ 11 ∨ T = 14) :
    let a := s.vA o.sl o.a o.l (vWidth o.w)
    let b := s.vConv o.sl ob T (vWidth o.w)
    ∃ m : BitVec 256, vCompare s o f =
        .next (((t.warn wMSKIGN o.m).writeK ((if o.sl then 8 else 0) + o.k.toNat) m (vLat T)).warns b.2) ∧
      ∀ k < 256, m.getLsbD k = (decide (k < vWidth o.w / tagBits T) &&
        f (elemEq T (a.1.getD k 0) (b.1.getD k 0), elemLt T (a.1.getD k 0) (b.1.getD k 0))) := by
  intro a b
  have hcmp (k : Nat) : cmpElem T (a.1.getD k 0) (b.1.getD k 0) =
      (elemEq T (a.1.getD k 0) (b.1.getD k 0), elemLt T (a.1.getD k 0) (b.1.getD k 0)) := by
    rcases hT with hT | hT
    · exact cmpElem_of_le hT _ _
    · have ha : a.1.getD k 0 < 2 ^ tagBits T := hA ▸ vA_getD_lt s o.sl o.a o.l (vWidth o.w) k
      subst hT
      exact cmpElem_t8 ha (getD_lt_of_forall_mem (by decide) (lt_of_mem_vConv_t8 s o.sl ob (vWidth o.w)) k)
  have hok : okAdd T = true := okAdd_eq_true hT
  refine ⟨maskOf ((List.range (vWidth o.w / tagBits T)).map (fun k => f (cmpElem T (a.1.getD k 0) (b.1.getD k 0)))),
    vOp_next hg ?_, fun k hk => ?_⟩
  · simp only [hB, hA, hok]
    rfl
  · rw [getLsbD_maskOf _ _ hk, hcmp]

end

/-! ### VSEL, KPOP and the mask operations (R166 to R168) -/

theorem execVsel_next {o : OpV3} {s t : State} {ob : VOpd} (hg : s.guardOn o.g false = true)
    (hB : s.vB o.sl o.b (vWidth o.w) = (t, some ob)) :
    let a := s.vA o.sl o.a o.l (vWidth o.w)
    let b := s.vConv o.sl ob a.2 (vWidth o.w)
    let n := vWidth o.w / tagBits a.2
    let m := s.readK (if o.sl then 9 else 1)
    execVsel o s = .next ((t.vput o.sl o.m o.d.toNat (tagBits a.2) n a.2
      ((List.range n).map (fun k => if m.getLsbD k = true then a.1.getD k 0 else b.1.getD k 0)) 3).warns b.2) := by
  have hmask : (if o.sl then 8 else 0) + 1 = if o.sl then 9 else 1 := by cases o.sl <;> rfl
  refine vOp_next hg ?_
  simp only [hB, hmask]

theorem length_filter_eq_sum (p : Nat → Bool) (l : List Nat) :
    (l.filter p).length = (l.map (fun k => if p k = true then 1 else 0)).sum := by
  induction l with
  | nil => rfl
  | cons k l ih => cases hk : p k <;> simp [hk, ih, Nat.add_comm]

/-- KPOP counts the bits of its mask in element 0 (R168). -/
theorem execKpop_next {o : OpVKp} {s : State} (hg : s.guardOn o.g false = true) :
    let m := s.readK ((if o.sl then 8 else 0) + o.j.toNat)
    let n := vWidth o.w / 32
    let count := ((List.range 256).map (fun k => if m.getLsbD k = true then 1 else 0)).sum
    execKpop o s = .next ((s.vput o.sl o.m o.d.toNat 32 n 4 (count :: List.replicate (n - 1) 0) 3).warn wLPIGN (o.l != 0)) :=
  vOp_next hg (by simp only [length_filter_eq_sum])

/-- A mask operation acts on all 256 bits, and ignores MSK and LPM with a warning (R167). -/
theorem vMask_next {s : State} {sl msk : Bool} {g : BitVec 4} {k j h : BitVec 3} {l : BitVec 2}
    {f : BitVec 256 → BitVec 256 → BitVec 256} (hg : s.guardOn g false = true) :
    let b := if sl then 8 else 0
    vMask s sl msk g k j h l f = .next (((s.writeK (b + k.toNat) (f (s.readK (b + j.toNat)) (s.readK (b + h.toNat))) 1).warn
      wMSKIGN msk).warn wLPIGN (l != 0)) :=
  vOp_next hg rfl

/-- Settles O38: the compares by the mask that they share, the others each by their definition. -/
theorem vectorComparesAndMasks : Obligations.VectorComparesAndMasks := by
  unfold Obligations.VectorComparesAndMasks
  refine ⟨fun o s hg hready => ?compare, fun o s hg hready => ?select, fun o s hg => ?logic, fun o s hg => ?not, fun o s hg => ?count⟩
  case compare =>
    obtain ⟨t, ob, htakes⟩ := takesB_of_ready o.sl hready
    have hB := htakes.1
    refine ⟨t, ob, htakes, ?_⟩
    intro a T n b mk u eq lt mask
    have hmask (f : Bool × Bool → Bool) (h : T ≤ 11 ∨ T = 14) := vCompare_mask f hg hB rfl h
    have hnone (f : Bool × Bool → Bool) (h : T = 12 ∨ T = 13) := vCompare_fallback f hg hB h
    exact ⟨⟨fun h => (hmask _ h : ∃ m, execVceq o s = _ ∧ _), fun h => (hnone _ h : execVceq o s = _)⟩,
      ⟨fun h => (hmask _ h : ∃ m, execVcne o s = _ ∧ _), fun h => (hnone _ h : execVcne o s = _)⟩,
      ⟨fun h => (hmask _ h : ∃ m, execVclt o s = _ ∧ _), fun h => (hnone _ h : execVclt o s = _)⟩,
      ⟨fun h => (hmask _ h : ∃ m, execVcle o s = _ ∧ _), fun h => (hnone _ h : execVcle o s = _)⟩⟩
  case select =>
    obtain ⟨t, ob, htakes⟩ := takesB_of_ready o.sl hready
    exact ⟨t, ob, htakes, execVsel_next hg htakes.1⟩
  case logic => exact ⟨(vMask_next hg : execKand o s = _), (vMask_next hg : execKor o s = _), (vMask_next hg : execKxor o s = _)⟩
  case not => exact (vMask_next hg : execKnot o s = _)
  case count => exact (execKpop_next hg : execKpop o s = _)

end Sys2Proof.Proofs.VectorSlots
end

section
/-! Proofs. What the readers of the decoder take from a word: each reads the fields of its layout, and no word but one that
holds them (R16 to R44). -/

namespace Sys2Proof.Proofs.Coding
open Sys2Proof

/-- The word w holds the listed fields at their places. -/
def Holds (w : Nat) (fs : List (Nat × Nat)) : Prop := unpack (fs.map Prod.snd) w = fs.map Prod.fst

theorem n1_toNat (b : Bool) : n1 b.toNat = b := by cases b <;> rfl

theorem toNat_n1 (x : Nat) : (n1 (x % 2)).toNat = x % 2 := by
  rcases Nat.mod_two_eq_zero_or_one x with h | h <;> rw [h] <;> rfl

/-- A field cut into two parts of its word is put together again. -/
theorem ofNat_div_mod {n : Nat} (x : BitVec n) (k : Nat) : BitVec.ofNat n (x.toNat / k * k + x.toNat % k) = x := by
  rw [Nat.div_add_mod', BitVec.ofNat_toNat, BitVec.setWidth_eq]

theorem readSN_eq_some {c : OpSN → Instr} {w : Nat} {i : Instr} : readSN c w = some i ↔
    ∃ o, c o = i ∧ Holds w (fieldsSN (bitsOf 31 24 w) o) := by
  constructor
  · unfold readSN
    split
    next heq =>
      simp only [unpack, List.cons.injEq] at heq
      casesm* _ ∧ _
      subst_vars
      rintro ⟨⟩
      exact ⟨_, rfl, by simp_all [Holds, unpack, fieldsSN, bitsOf, toNat_n1]⟩
    · exact nofun
  · rintro ⟨o, rfl, h⟩
    simp only [Holds, fieldsSN, List.map] at h
    simp [readSN, h, n1_toNat]

theorem readSR_eq_some {c : OpSR → Instr} {w : Nat} {i : Instr} : readSR c w = some i ↔
    ∃ o, c o = i ∧ Holds w (fieldsSR (bitsOf 31 24 w) o) := by
  constructor
  · unfold readSR
    split
    next heq =>
      simp only [unpack, List.cons.injEq] at heq
      casesm* _ ∧ _
      subst_vars
      rintro ⟨⟩
      exact ⟨_, rfl, by simp_all [Holds, unpack, fieldsSR, bitsOf, toNat_n1]⟩
    · exact nofun
  · rintro ⟨o, rfl, h⟩
    simp only [Holds, fieldsSR, List.map] at h
    simp [readSR, h, n1_toNat]

theorem readSR2_eq_some {k : Nat} {c : OpSR2 → Instr} {w : Nat} {i : Instr} : readSR2 k c w = some i ↔
    ∃ o, c o = i ∧ Holds w (fieldsSR2 (bitsOf 31 24 w) k o) := by
  constructor
  · unfold readSR2
    split
    next heq =>
      simp only [unpack, List.cons.injEq] at heq
      casesm* _ ∧ _
      subst_vars
      split
      · rintro ⟨⟩
        exact ⟨_, rfl, by simp_all [Holds, unpack, fieldsSR2, bitsOf, toNat_n1]⟩
      · exact nofun
    · exact nofun
  · rintro ⟨o, rfl, h⟩
    simp only [Holds, fieldsSR2, List.map] at h
    simp [readSR2, h, n1_toNat]

theorem readSSel_eq_some {c : OpSSel → Instr} {w : Nat} {i : Instr} : readSSel c w = some i ↔
    ∃ o, c o = i ∧ Holds w (fieldsSSel (bitsOf 31 24 w) o) := by
  constructor
  · unfold readSSel
    split
    next heq =>
      simp only [unpack, List.cons.injEq] at heq
      casesm* _ ∧ _
      subst_vars
      rintro ⟨⟩
      exact ⟨_, rfl, by simp_all [Holds, unpack, fieldsSSel, bitsOf, toNat_n1]⟩
    · exact nofun
  · rintro ⟨o, rfl, h⟩
    simp only [Holds, fieldsSSel, List.map] at h
    simp [readSSel, h, n1_toNat]

theorem readSLea_eq_some {c : OpSLea → Instr} {w : Nat} {i : Instr} : readSLea c w = some i ↔
    ∃ o, c o = i ∧ Holds w (fieldsSLea (bitsOf 31 24 w) o) := by
  constructor
  · unfold readSLea
    split
    next heq =>
      simp only [unpack, List.cons.injEq] at heq
      casesm* _ ∧ _
      subst_vars
      rintro ⟨⟩
      exact ⟨_, rfl, by simp_all [Holds, unpack, fieldsSLea, bitsOf, toNat_n1]⟩
    · exact nofun
  · rintro ⟨o, rfl, h⟩
    simp only [Holds, fieldsSLea, List.map] at h
    simp [readSLea, h, n1_toNat]

theorem readSI_eq_some {c : OpSI → Instr} {w : Nat} {i : Instr} : readSI c w = some i ↔
    ∃ o, c o = i ∧ Holds w (fieldsSI (bitsOf 31 24 w) o) := by
  constructor
  · unfold readSI
    split
    next heq =>
      simp only [unpack, List.cons.injEq] at heq
      casesm* _ ∧ _
      subst_vars
      rintro ⟨⟩
      exact ⟨_, rfl, by simp_all [Holds, unpack, fieldsSI, bitsOf, toNat_n1]⟩
    · exact nofun
  · rintro ⟨o, rfl, h⟩
    simp only [Holds, fieldsSI, List.map] at h
    simp [readSI, h, n1_toNat]

theorem readSSh_eq_some {c : OpSSh → Instr} {w : Nat} {i : Instr} : readSSh c w = some i ↔
    ∃ o, c o = i ∧ Holds w (fieldsSSh (bitsOf 31 24 w) o) := by
  constructor
  · unfold readSSh
    split
    next heq =>
      simp only [unpack, List.cons.injEq] at heq
      casesm* _ ∧ _
      subst_vars
      rintro ⟨⟩
      exact ⟨_, rfl, by simp_all [Holds, unpack, fieldsSSh, bitsOf, toNat_n1]⟩
    · exact nofun
  · rintro ⟨o, rfl, h⟩
    simp only [Holds, fieldsSSh, List.map] at h
    simp [readSSh, h, n1_toNat]

theorem readSC_eq_some {c : OpSC → Instr} {w : Nat} {i : Instr} : readSC c w = some i ↔
    ∃ o, c o = i ∧ Holds w (fieldsSC (bitsOf 31 24 w) o) := by
  constructor
  · unfold readSC
    split
    next heq =>
      simp only [unpack, List.cons.injEq] at heq
      casesm* _ ∧ _
      subst_vars
      rintro ⟨⟩
      exact ⟨_, rfl, by simp_all [Holds, unpack, fieldsSC, bitsOf, toNat_n1]⟩
    · exact nofun
  · rintro ⟨o, rfl, h⟩
    simp only [Holds, fieldsSC, List.map] at h
    simp [readSC, h, n1_toNat]

theorem readSCI_eq_some {c : OpSCI → Instr} {w : Nat} {i : Instr} : readSCI c w = some i ↔
    ∃ o, c o = i ∧ Holds w (fieldsSCI (bitsOf 31 24 w) o) := by
  constructor
  · unfold readSCI
    split
    next heq =>
      simp only [unpack, List.cons.injEq] at heq
      casesm* _ ∧ _
      subst_vars
      rintro ⟨⟩
      exact ⟨_, rfl, by simp_all [Holds, unpack, fieldsSCI, bitsOf, toNat_n1]⟩
    · exact nofun
  · rintro ⟨o, rfl, h⟩
    simp only [Holds, fieldsSCI, List.map] at h
    simp [readSCI, h, n1_toNat]

theorem readSGl_eq_some {c : OpSGl → Instr} {w : Nat} {i : Instr} : readSGl c w = some i ↔
    ∃ o, c o = i ∧ Holds w (fieldsSGl (bitsOf 31 24 w) o) := by
  constructor
  · unfold readSGl
    split
    next heq =>
      simp only [unpack, List.cons.injEq] at heq
      casesm* _ ∧ _
      subst_vars
      rintro ⟨⟩
      exact ⟨_, rfl, by simp_all [Holds, unpack, fieldsSGl, bitsOf, toNat_n1]⟩
    · exact nofun
  · rintro ⟨o, rfl, h⟩
    simp only [Holds, fieldsSGl, List.map] at h
    simp [readSGl, h, n1_toNat]

theorem readSGs_eq_some {c : OpSGs → Instr} {w : Nat} {i : Instr} : readSGs c w = some i ↔
    ∃ o, c o = i ∧ Holds w (fieldsSGs (bitsOf 31 24 w) o) := by
  constructor
  · unfold readSGs
    split
    next heq =>
      simp only [unpack, List.cons.injEq] at heq
      casesm* _ ∧ _
      subst_vars
      rintro ⟨⟩
      exact ⟨_, rfl, by simp_all [Holds, unpack, fieldsSGs, bitsOf, toNat_n1]⟩
    · exact nofun
  · rintro ⟨o, rfl, h⟩
    simp only [Holds, fieldsSGs, List.map] at h
    simp [readSGs, h, n1_toNat]

theorem readSL_eq_some {c : OpSL → Instr} {w : Nat} {i : Instr} : readSL c w = some i ↔
    ∃ o, c o = i ∧ Holds w (fieldsSL (bitsOf 31 24 w) o) := by
  constructor
  · unfold readSL
    split
    next heq =>
      simp only [unpack, List.cons.injEq] at heq
      casesm* _ ∧ _
      subst_vars
      rintro ⟨⟩
      exact ⟨_, rfl, by simp_all [Holds, unpack, fieldsSL, bitsOf, toNat_n1]⟩
    · exact nofun
  · rintro ⟨o, rfl, h⟩
    simp only [Holds, fieldsSL, List.map] at h
    simp [readSL, h, n1_toNat]

theorem readSF_eq_some {c : OpSF → Instr} {w : Nat} {i : Instr} : readSF c w = some i ↔
    ∃ o, c o = i ∧ Holds w (fieldsSF (bitsOf 31 24 w) o) := by
  constructor
  · unfold readSF
    split
    next heq =>
      simp only [unpack, List.cons.injEq] at heq
      casesm* _ ∧ _
      subst_vars
      rintro ⟨⟩
      exact ⟨_, rfl, by simp_all [Holds, unpack, fieldsSF, bitsOf, toNat_n1]⟩
    · exact nofun
  · rintro ⟨o, rfl, h⟩
    simp only [Holds, fieldsSF, List.map] at h
    simp [readSF, h, n1_toNat]

theorem readSFcvt_eq_some {c : OpSFcvt → Instr} {w : Nat} {i : Instr} : readSFcvt c w = some i ↔
    ∃ o, c o = i ∧ Holds w (fieldsSFcvt (bitsOf 31 24 w) o) := by
  constructor
  · unfold readSFcvt
    split
    next heq =>
      simp only [unpack, List.cons.injEq] at heq
      casesm* _ ∧ _
      subst_vars
      rintro ⟨⟩
      exact ⟨_, rfl, by simp_all [Holds, unpack, fieldsSFcvt, bitsOf, toNat_n1]⟩
    · exact nofun
  · rintro ⟨o, rfl, h⟩
    simp only [Holds, fieldsSFcvt, List.map] at h
    simp [readSFcvt, h, n1_toNat]

theorem readSFc_eq_some {c : OpSFc → Instr} {w : Nat} {i : Instr} : readSFc c w = some i ↔
    ∃ o, c o = i ∧ Holds w (fieldsSFc (bitsOf 31 24 w) o) := by
  constructor
  · unfold readSFc
    split
    next heq =>
      simp only [unpack, List.cons.injEq] at heq
      casesm* _ ∧ _
      subst_vars
      rintro ⟨⟩
      exact ⟨_, rfl, by simp_all [Holds, unpack, fieldsSFc, bitsOf, toNat_n1]⟩
    · exact nofun
  · rintro ⟨o, rfl, h⟩
    simp only [Holds, fieldsSFc, List.map] at h
    simp [readSFc, h, n1_toNat]

theorem readSX_eq_some {c : OpSX → Instr} {w : Nat} {i : Instr} : readSX c w = some i ↔
    ∃ o, c o = i ∧ Holds w (fieldsSX (bitsOf 31 24 w) o) := by
  constructor
  · unfold readSX
    split
    next heq =>
      simp only [unpack, List.cons.injEq] at heq
      casesm* _ ∧ _
      subst_vars
      rintro ⟨⟩
      exact ⟨_, rfl, by simp_all [Holds, unpack, fieldsSX, bitsOf, toNat_n1]⟩
    · exact nofun
  · rintro ⟨o, rfl, h⟩
    simp only [Holds, fieldsSX, List.map] at h
    simp [readSX, h, n1_toNat]

theorem readSFence_eq_some {c : OpSFence → Instr} {w : Nat} {i : Instr} : readSFence c w = some i ↔
    ∃ o, c o = i ∧ Holds w (fieldsSFence (bitsOf 31 24 w) o) := by
  constructor
  · unfold readSFence
    split
    next heq =>
      simp only [unpack, List.cons.injEq] at heq
      casesm* _ ∧ _
      subst_vars
      rintro ⟨⟩
      exact ⟨_, rfl, by simp_all [Holds, unpack, fieldsSFence, bitsOf, toNat_n1]⟩
    · exact nofun
  · rintro ⟨o, rfl, h⟩
    simp only [Holds, fieldsSFence, List.map] at h
    simp [readSFence, h, n1_toNat]

theorem readSPf_eq_some {c : OpSPf → Instr} {w : Nat} {i : Instr} : readSPf c w = some i ↔
    ∃ o, c o = i ∧ Holds w (fieldsSPf (bitsOf 31 24 w) o) := by
  constructor
  · unfold readSPf
    split
    next heq =>
      simp only [unpack, List.cons.injEq] at heq
      casesm* _ ∧ _
      subst_vars
      rintro ⟨⟩
      exact ⟨_, rfl, by simp_all [Holds, unpack, fieldsSPf, bitsOf, toNat_n1]⟩
    · exact nofun
  · rintro ⟨o, rfl, h⟩
    simp only [Holds, fieldsSPf, List.map] at h
    simp [readSPf, h, n1_toNat]

theorem readSB_eq_some {c : OpSB → Instr} {w : Nat} {i : Instr} : readSB c w = some i ↔
    ∃ o, c o = i ∧ Holds w (fieldsSB (bitsOf 31 24 w) o) := by
  constructor
  · unfold readSB
    split
    next heq =>
      simp only [unpack, List.cons.injEq] at heq
      casesm* _ ∧ _
      subst_vars
      rintro ⟨⟩
      exact ⟨_, rfl, by simp_all [Holds, unpack, fieldsSB, bitsOf, toNat_n1]⟩
    · exact nofun
  · rintro ⟨o, rfl, h⟩
    simp only [Holds, fieldsSB, List.map] at h
    simp [readSB, h, n1_toNat]

theorem readSJr_eq_some {c : OpSJr → Instr} {w : Nat} {i : Instr} : readSJr c w = some i ↔
    ∃ o, c o = i ∧ Holds w (fieldsSJr (bitsOf 31 24 w) o) := by
  constructor
  · unfold readSJr
    split
    next heq =>
      simp only [unpack, List.cons.injEq] at heq
      casesm* _ ∧ _
      subst_vars
      rintro ⟨⟩
      exact ⟨_, rfl, by simp_all [Holds, unpack, fieldsSJr, bitsOf, toNat_n1]⟩
    · exact nofun
  · rintro ⟨o, rfl, h⟩
    simp only [Holds, fieldsSJr, List.map] at h
    simp [readSJr, h, n1_toNat]

theorem readSLoop_eq_some {c : OpSLoop → Instr} {w : Nat} {i : Instr} : readSLoop c w = some i ↔
    ∃ o, c o = i ∧ Holds w (fieldsSLoop (bitsOf 31 24 w) o) := by
  constructor
  · unfold readSLoop
    split
    next heq =>
      simp only [unpack, List.cons.injEq] at heq
      casesm* _ ∧ _
      subst_vars
      rintro ⟨⟩
      exact ⟨_, rfl, by simp_all [Holds, unpack, fieldsSLoop, bitsOf, toNat_n1]⟩
    · exact nofun
  · rintro ⟨o, rfl, h⟩
    simp only [Holds, fieldsSLoop, List.map] at h
    simp [readSLoop, h, n1_toNat]

theorem readSTrap_eq_some {c : OpSTrap → Instr} {w : Nat} {i : Instr} : readSTrap c w = some i ↔
    ∃ o, c o = i ∧ Holds w (fieldsSTrap (bitsOf 31 24 w) o) := by
  constructor
  · unfold readSTrap
    split
    next heq =>
      simp only [unpack, List.cons.injEq] at heq
      casesm* _ ∧ _
      subst_vars
      rintro ⟨⟩
      exact ⟨_, rfl, by simp_all [Holds, unpack, fieldsSTrap, bitsOf, toNat_n1]⟩
    · exact nofun
  · rintro ⟨o, rfl, h⟩
    simp only [Holds, fieldsSTrap, List.map] at h
    simp [readSTrap, h, n1_toNat]

theorem readSYc_eq_some {c : OpSYc → Instr} {w : Nat} {i : Instr} : readSYc c w = some i ↔
    ∃ o, c o = i ∧ Holds w (fieldsSYc (bitsOf 31 24 w) o) := by
  constructor
  · unfold readSYc
    split
    next heq =>
      simp only [unpack, List.cons.injEq] at heq
      casesm* _ ∧ _
      subst_vars
      rintro ⟨⟩
      exact ⟨_, rfl, by simp_all [Holds, unpack, fieldsSYc, bitsOf, toNat_n1]⟩
    · exact nofun
  · rintro ⟨o, rfl, h⟩
    simp only [Holds, fieldsSYc, List.map] at h
    simp [readSYc, h, n1_toNat]

theorem readSEv_eq_some {c : OpSEv → Instr} {w : Nat} {i : Instr} : readSEv c w = some i ↔
    ∃ o, c o = i ∧ Holds w (fieldsSEv (bitsOf 31 24 w) o) := by
  constructor
  · unfold readSEv
    split
    next heq =>
      simp only [unpack, List.cons.injEq] at heq
      casesm* _ ∧ _
      subst_vars
      rintro ⟨⟩
      exact ⟨_, rfl, by simp_all [Holds, unpack, fieldsSEv, bitsOf, toNat_n1]⟩
    · exact nofun
  · rintro ⟨o, rfl, h⟩
    simp only [Holds, fieldsSEv, List.map] at h
    simp [readSEv, h, n1_toNat]

theorem readSMovc_eq_some {c : OpSMovc → Instr} {w : Nat} {i : Instr} : readSMovc c w = some i ↔
    ∃ o, c o = i ∧ Holds w (fieldsSMovc (bitsOf 31 24 w) o) := by
  constructor
  · unfold readSMovc
    split
    next heq =>
      simp only [unpack, List.cons.injEq] at heq
      casesm* _ ∧ _
      subst_vars
      rintro ⟨⟩
      exact ⟨_, rfl, by simp_all [Holds, unpack, fieldsSMovc, bitsOf, toNat_n1]⟩
    · exact nofun
  · rintro ⟨o, rfl, h⟩
    simp only [Holds, fieldsSMovc, List.map] at h
    simp [readSMovc, h, n1_toNat]

theorem readSXv_eq_some {c : OpSXv → Instr} {w : Nat} {i : Instr} : readSXv c w = some i ↔
    ∃ o, c o = i ∧ Holds w (fieldsSXv (bitsOf 31 24 w) o) := by
  constructor
  · unfold readSXv
    split
    next heq =>
      simp only [unpack, List.cons.injEq] at heq
      casesm* _ ∧ _
      subst_vars
      rintro ⟨⟩
      exact ⟨_, rfl, by simp_all [Holds, unpack, fieldsSXv, bitsOf, toNat_n1]⟩
    · exact nofun
  · rintro ⟨o, rfl, h⟩
    simp only [Holds, fieldsSXv, List.map] at h
    simp [readSXv, h, n1_toNat]

theorem readSXh_eq_some {c : OpSXh → Instr} {w : Nat} {i : Instr} : readSXh c w = some i ↔
    ∃ o, c o = i ∧ Holds w (fieldsSXh (bitsOf 31 24 w) o) := by
  constructor
  · unfold readSXh
    split
    next heq =>
      simp only [unpack, List.cons.injEq] at heq
      casesm* _ ∧ _
      subst_vars
      rintro ⟨⟩
      exact ⟨_, rfl, by simp_all [Holds, unpack, fieldsSXh, bitsOf, toNat_n1]⟩
    · exact nofun
  · rintro ⟨o, rfl, h⟩
    simp only [Holds, fieldsSXh, List.map] at h
    simp [readSXh, h, n1_toNat]

theorem readSBar_eq_some {c : OpSBar → Instr} {w : Nat} {i : Instr} : readSBar c w = some i ↔
    ∃ o, c o = i ∧ Holds w (fieldsSBar (bitsOf 31 24 w) o) := by
  constructor
  · unfold readSBar
    split
    next heq =>
      simp only [unpack, List.cons.injEq] at heq
      casesm* _ ∧ _
      subst_vars
      rintro ⟨⟩
      exact ⟨_, rfl, by simp_all [Holds, unpack, fieldsSBar, bitsOf, toNat_n1]⟩
    · exact nofun
  · rintro ⟨o, rfl, h⟩
    simp only [Holds, fieldsSBar, List.map] at h
    simp [readSBar, h, n1_toNat]

theorem readSGarm_eq_some {c : OpSGarm → Instr} {w : Nat} {i : Instr} : readSGarm c w = some i ↔
    ∃ o, c o = i ∧ Holds w (fieldsSGarm (bitsOf 31 24 w) o) := by
  constructor
  · unfold readSGarm
    split
    next heq =>
      simp only [unpack, List.cons.injEq] at heq
      casesm* _ ∧ _
      subst_vars
      rintro ⟨⟩
      exact ⟨_, rfl, by simp_all [Holds, unpack, fieldsSGarm, bitsOf, toNat_n1]⟩
    · exact nofun
  · rintro ⟨o, rfl, h⟩
    simp only [Holds, fieldsSGarm, List.map] at h
    simp [readSGarm, h, n1_toNat]

theorem readSHirq_eq_some {c : OpSHirq → Instr} {w : Nat} {i : Instr} : readSHirq c w = some i ↔
    ∃ o, c o = i ∧ Holds w (fieldsSHirq (bitsOf 31 24 w) o) := by
  constructor
  · unfold readSHirq
    split
    next heq =>
      simp only [unpack, List.cons.injEq] at heq
      casesm* _ ∧ _
      subst_vars
      rintro ⟨⟩
      exact ⟨_, rfl, by simp_all [Holds, unpack, fieldsSHirq, bitsOf, toNat_n1]⟩
    · exact nofun
  · rintro ⟨o, rfl, h⟩
    simp only [Holds, fieldsSHirq, List.map] at h
    simp [readSHirq, h, n1_toNat]

theorem readSD_eq_some {c : OpSD → Instr} {w : Nat} {i : Instr} : readSD c w = some i ↔
    ∃ o, c o = i ∧ Holds w (fieldsSD (bitsOf 31 24 w) o) := by
  constructor
  · unfold readSD
    split
    next heq =>
      simp only [unpack, List.cons.injEq] at heq
      casesm* _ ∧ _
      subst_vars
      rintro ⟨⟩
      exact ⟨_, rfl, by simp_all [Holds, unpack, fieldsSD, bitsOf, toNat_n1]⟩
    · exact nofun
  · rintro ⟨o, rfl, h⟩
    simp only [Holds, fieldsSD, List.map] at h
    simp [readSD, h, n1_toNat]

theorem readSBk_eq_some {c : OpSBk → Instr} {w : Nat} {i : Instr} : readSBk c w = some i ↔
    ∃ o, c o = i ∧ Holds w (fieldsSBk (bitsOf 31 24 w) o) := by
  constructor
  · unfold readSBk
    split
    next heq =>
      simp only [unpack, List.cons.injEq] at heq
      casesm* _ ∧ _
      subst_vars
      rintro ⟨⟩
      exact ⟨_, rfl, by simp_all [Holds, unpack, fieldsSBk, bitsOf, toNat_n1]⟩
    · exact nofun
  · rintro ⟨o, rfl, h⟩
    simp only [Holds, fieldsSBk, List.map] at h
    simp [readSBk, h, n1_toNat]

theorem readSSvc_eq_some {c : OpSSvc → Instr} {w : Nat} {i : Instr} : readSSvc c w = some i ↔
    ∃ o, c o = i ∧ Holds w (fieldsSSvc (bitsOf 31 24 w) o) := by
  constructor
  · unfold readSSvc
    split
    next heq =>
      simp only [unpack, List.cons.injEq] at heq
      casesm* _ ∧ _
      subst_vars
      rintro ⟨⟩
      exact ⟨_, rfl, by simp_all [Holds, unpack, fieldsSSvc, bitsOf, toNat_n1]⟩
    · exact nofun
  · rintro ⟨o, rfl, h⟩
    simp only [Holds, fieldsSSvc, List.map] at h
    simp [readSSvc, h, n1_toNat]

theorem readV0_eq_some {sl : Bool} {c : OpV0 → Instr} {w : Nat} {i : Instr} : readV0 sl c w = some i ↔
    ∃ o, o.sl = sl ∧ c o = i ∧ Holds w (fieldsV0 (bitsOf 30 24 w) o) := by
  constructor
  · unfold readV0
    split
    next heq =>
      simp only [unpack, List.cons.injEq] at heq
      casesm* _ ∧ _
      subst_vars
      rintro ⟨⟩
      exact ⟨_, rfl, rfl, by simp_all [Holds, unpack, fieldsV0, bitsOf, toNat_n1]⟩
    · exact nofun
  · rintro ⟨o, rfl, rfl, h⟩
    simp only [Holds, fieldsV0, List.map] at h
    simp [readV0, h, n1_toNat]

theorem readV3_eq_some {sl : Bool} {c : OpV3 → Instr} {w : Nat} {i : Instr} : readV3 sl c w = some i ↔
    ∃ o, o.sl = sl ∧ c o = i ∧ Holds w (fieldsV3 (bitsOf 30 24 w) o) := by
  constructor
  · unfold readV3
    split
    next heq =>
      simp only [unpack, List.cons.injEq] at heq
      casesm* _ ∧ _
      subst_vars
      rintro ⟨⟩
      exact ⟨_, rfl, rfl, by simp_all [Holds, unpack, fieldsV3, bitsOf, toNat_n1]⟩
    · exact nofun
  · rintro ⟨o, rfl, rfl, h⟩
    simp only [Holds, fieldsV3, List.map] at h
    simp [readV3, h, n1_toNat]

theorem readV2_eq_some {sl : Bool} {c : OpV2 → Instr} {w : Nat} {i : Instr} : readV2 sl c w = some i ↔
    ∃ o, o.sl = sl ∧ c o = i ∧ Holds w (fieldsV2 (bitsOf 30 24 w) o) := by
  constructor
  · unfold readV2
    split
    next heq =>
      simp only [unpack, List.cons.injEq] at heq
      casesm* _ ∧ _
      subst_vars
      rintro ⟨⟩
      exact ⟨_, rfl, rfl, by simp_all [Holds, unpack, fieldsV2, bitsOf, toNat_n1]⟩
    · exact nofun
  · rintro ⟨o, rfl, rfl, h⟩
    simp only [Holds, fieldsV2, List.map] at h
    simp [readV2, h, n1_toNat]

theorem readVC_eq_some {sl : Bool} {c : OpVC → Instr} {w : Nat} {i : Instr} : readVC sl c w = some i ↔
    ∃ o, o.sl = sl ∧ c o = i ∧ Holds w (fieldsVC (bitsOf 30 24 w) o) := by
  constructor
  · unfold readVC
    split
    next heq =>
      simp only [unpack, List.cons.injEq] at heq
      casesm* _ ∧ _
      subst_vars
      rintro ⟨⟩
      exact ⟨_, rfl, rfl, by simp_all [Holds, unpack, fieldsVC, bitsOf, toNat_n1]⟩
    · exact nofun
  · rintro ⟨o, rfl, rfl, h⟩
    simp only [Holds, fieldsVC, List.map] at h
    simp [readVC, h, n1_toNat]

theorem readVK_eq_some {sl : Bool} {c : OpVK → Instr} {w : Nat} {i : Instr} : readVK sl c w = some i ↔
    ∃ o, o.sl = sl ∧ c o = i ∧ Holds w (fieldsVK (bitsOf 30 24 w) o) := by
  constructor
  · unfold readVK
    split
    next heq =>
      simp only [unpack, List.cons.injEq] at heq
      casesm* _ ∧ _
      subst_vars
      rintro ⟨⟩
      exact ⟨_, rfl, rfl, by simp_all [Holds, unpack, fieldsVK, bitsOf, toNat_n1]⟩
    · exact nofun
  · rintro ⟨o, rfl, rfl, h⟩
    simp only [Holds, fieldsVK, List.map] at h
    simp [readVK, h, n1_toNat]

theorem readVK1_eq_some {sl : Bool} {c : OpVK1 → Instr} {w : Nat} {i : Instr} : readVK1 sl c w = some i ↔
    ∃ o, o.sl = sl ∧ c o = i ∧ Holds w (fieldsVK1 (bitsOf 30 24 w) o) := by
  constructor
  · unfold readVK1
    split
    next heq =>
      simp only [unpack, List.cons.injEq] at heq
      casesm* _ ∧ _
      subst_vars
      rintro ⟨⟩
      exact ⟨_, rfl, rfl, by simp_all [Holds, unpack, fieldsVK1, bitsOf, toNat_n1]⟩
    · exact nofun
  · rintro ⟨o, rfl, rfl, h⟩
    simp only [Holds, fieldsVK1, List.map] at h
    simp [readVK1, h, n1_toNat]

theorem readVKp_eq_some {sl : Bool} {c : OpVKp → Instr} {w : Nat} {i : Instr} : readVKp sl c w = some i ↔
    ∃ o, o.sl = sl ∧ c o = i ∧ Holds w (fieldsVKp (bitsOf 30 24 w) o) := by
  constructor
  · unfold readVKp
    split
    next heq =>
      simp only [unpack, List.cons.injEq] at heq
      casesm* _ ∧ _
      subst_vars
      rintro ⟨⟩
      exact ⟨_, rfl, rfl, by simp_all [Holds, unpack, fieldsVKp, bitsOf, toNat_n1]⟩
    · exact nofun
  · rintro ⟨o, rfl, rfl, h⟩
    simp only [Holds, fieldsVKp, List.map] at h
    simp [readVKp, h, n1_toNat]

theorem readVCv_eq_some {sl : Bool} {c : OpVCv → Instr} {w : Nat} {i : Instr} : readVCv sl c w = some i ↔
    ∃ o, o.sl = sl ∧ c o = i ∧ Holds w (fieldsVCv (bitsOf 30 24 w) o) := by
  constructor
  · unfold readVCv
    split
    next heq =>
      simp only [unpack, List.cons.injEq] at heq
      casesm* _ ∧ _
      subst_vars
      rintro ⟨⟩
      exact ⟨_, rfl, rfl, by simp_all [Holds, unpack, fieldsVCv, bitsOf, toNat_n1]; omega⟩
    · exact nofun
  · rintro ⟨o, rfl, rfl, h⟩
    simp only [Holds, fieldsVCv, List.map] at h
    simp [readVCv, h, n1_toNat, ofNat_div_mod]

theorem readVQb_eq_some {sl : Bool} {c : OpVQb → Instr} {w : Nat} {i : Instr} : readVQb sl c w = some i ↔
    ∃ o, o.sl = sl ∧ c o = i ∧ Holds w (fieldsVQb (bitsOf 30 24 w) o) := by
  constructor
  · unfold readVQb
    split
    next heq =>
      simp only [unpack, List.cons.injEq] at heq
      casesm* _ ∧ _
      subst_vars
      rintro ⟨⟩
      exact ⟨_, rfl, rfl, by simp_all [Holds, unpack, fieldsVQb, bitsOf, toNat_n1]⟩
    · exact nofun
  · rintro ⟨o, rfl, rfl, h⟩
    simp only [Holds, fieldsVQb, List.map] at h
    simp [readVQb, h, n1_toNat]

theorem readVDq_eq_some {sl : Bool} {c : OpVDq → Instr} {w : Nat} {i : Instr} : readVDq sl c w = some i ↔
    ∃ o, o.sl = sl ∧ c o = i ∧ Holds w (fieldsVDq (bitsOf 30 24 w) o) := by
  constructor
  · unfold readVDq
    split
    next heq =>
      simp only [unpack, List.cons.injEq] at heq
      casesm* _ ∧ _
      subst_vars
      rintro ⟨⟩
      exact ⟨_, rfl, rfl, by simp_all [Holds, unpack, fieldsVDq, bitsOf, toNat_n1]⟩
    · exact nofun
  · rintro ⟨o, rfl, rfl, h⟩
    simp only [Holds, fieldsVDq, List.map] at h
    simp [readVDq, h, n1_toNat]

theorem readVRn_eq_some {sl : Bool} {c : OpVRn → Instr} {w : Nat} {i : Instr} : readVRn sl c w = some i ↔
    ∃ o, o.sl = sl ∧ c o = i ∧ Holds w (fieldsVRn (bitsOf 30 24 w) o) := by
  constructor
  · unfold readVRn
    split
    next heq =>
      simp only [unpack, List.cons.injEq] at heq
      casesm* _ ∧ _
      subst_vars
      rintro ⟨⟩
      exact ⟨_, rfl, rfl, by simp_all [Holds, unpack, fieldsVRn, bitsOf, toNat_n1]; omega⟩
    · exact nofun
  · rintro ⟨o, rfl, rfl, h⟩
    simp only [Holds, fieldsVRn, List.map] at h
    simp [readVRn, h, n1_toNat, ofNat_div_mod]

theorem readVSq_eq_some {sl : Bool} {c : OpVSq → Instr} {w : Nat} {i : Instr} : readVSq sl c w = some i ↔
    ∃ o, o.sl = sl ∧ c o = i ∧ Holds w (fieldsVSq (bitsOf 30 24 w) o) := by
  constructor
  · unfold readVSq
    split
    next heq =>
      simp only [unpack, List.cons.injEq] at heq
      casesm* _ ∧ _
      subst_vars
      rintro ⟨⟩
      exact ⟨_, rfl, rfl, by simp_all [Holds, unpack, fieldsVSq, bitsOf, toNat_n1]⟩
    · exact nofun
  · rintro ⟨o, rfl, rfl, h⟩
    simp only [Holds, fieldsVSq, List.map] at h
    simp [readVSq, h, n1_toNat]

theorem readVB1_eq_some {sl : Bool} {c : OpVB1 → Instr} {w : Nat} {i : Instr} : readVB1 sl c w = some i ↔
    ∃ o, o.sl = sl ∧ c o = i ∧ Holds w (fieldsVB1 (bitsOf 30 24 w) o) := by
  constructor
  · unfold readVB1
    split
    next heq =>
      simp only [unpack, List.cons.injEq] at heq
      casesm* _ ∧ _
      subst_vars
      rintro ⟨⟩
      exact ⟨_, rfl, rfl, by simp_all [Holds, unpack, fieldsVB1, bitsOf, toNat_n1]⟩
    · exact nofun
  · rintro ⟨o, rfl, rfl, h⟩
    simp only [Holds, fieldsVB1, List.map] at h
    simp [readVB1, h, n1_toNat]

theorem readVTg_eq_some {sl : Bool} {c : OpVTg → Instr} {w : Nat} {i : Instr} : readVTg sl c w = some i ↔
    ∃ o, o.sl = sl ∧ c o = i ∧ Holds w (fieldsVTg (bitsOf 30 24 w) o) := by
  constructor
  · unfold readVTg
    split
    next heq =>
      simp only [unpack, List.cons.injEq] at heq
      casesm* _ ∧ _
      subst_vars
      rintro ⟨⟩
      exact ⟨_, rfl, rfl, by simp_all [Holds, unpack, fieldsVTg, bitsOf, toNat_n1]⟩
    · exact nofun
  · rintro ⟨o, rfl, rfl, h⟩
    simp only [Holds, fieldsVTg, List.map] at h
    simp [readVTg, h, n1_toNat]

theorem readXP_eq_some {c : OpXP → Instr} {w : Nat} {i : Instr} : readXP c w = some i ↔
    ∃ o, c o = i ∧ Holds w (fieldsXP (bitsOf 31 24 w) o) := by
  constructor
  · unfold readXP
    split
    next heq =>
      simp only [unpack, List.cons.injEq] at heq
      casesm* _ ∧ _
      subst_vars
      rintro ⟨⟩
      exact ⟨_, rfl, by simp_all [Holds, unpack, fieldsXP, bitsOf, toNat_n1]⟩
    · exact nofun
  · rintro ⟨o, rfl, h⟩
    simp only [Holds, fieldsXP, List.map] at h
    simp [readXP, h, n1_toNat]

theorem readXZ_eq_some {c : OpXZ → Instr} {w : Nat} {i : Instr} : readXZ c w = some i ↔
    ∃ o, c o = i ∧ Holds w (fieldsXZ (bitsOf 31 24 w) o) := by
  constructor
  · unfold readXZ
    split
    next heq =>
      simp only [unpack, List.cons.injEq] at heq
      casesm* _ ∧ _
      subst_vars
      rintro ⟨⟩
      exact ⟨_, rfl, by simp_all [Holds, unpack, fieldsXZ, bitsOf, toNat_n1]⟩
    · exact nofun
  · rintro ⟨o, rfl, h⟩
    simp only [Holds, fieldsXZ, List.map] at h
    simp [readXZ, h, n1_toNat]

theorem readXC_eq_some {c : OpXC → Instr} {w : Nat} {i : Instr} : readXC c w = some i ↔
    ∃ o, c o = i ∧ Holds w (fieldsXC (bitsOf 31 24 w) o) := by
  constructor
  · unfold readXC
    split
    next heq =>
      simp only [unpack, List.cons.injEq] at heq
      casesm* _ ∧ _
      subst_vars
      rintro ⟨⟩
      exact ⟨_, rfl, by simp_all [Holds, unpack, fieldsXC, bitsOf, toNat_n1]⟩
    · exact nofun
  · rintro ⟨o, rfl, h⟩
    simp only [Holds, fieldsXC, List.map] at h
    simp [readXC, h, n1_toNat]

theorem readNM_eq_some {c : OpNM → Instr} {w : Nat} {i : Instr} : readNM c w = some i ↔
    ∃ o, c o = i ∧ Holds w (fieldsNM (bitsOf 31 24 w) o) := by
  constructor
  · unfold readNM
    split
    next heq =>
      simp only [unpack, List.cons.injEq] at heq
      casesm* _ ∧ _
      subst_vars
      rintro ⟨⟩
      exact ⟨_, rfl, by simp_all [Holds, unpack, fieldsNM, bitsOf, toNat_n1]⟩
    · exact nofun
  · rintro ⟨o, rfl, h⟩
    simp only [Holds, fieldsNM, List.map] at h
    simp [readNM, h, n1_toNat]

theorem readNMx_eq_some {c : OpNMx → Instr} {w : Nat} {i : Instr} : readNMx c w = some i ↔
    ∃ o, c o = i ∧ Holds w (fieldsNMx (bitsOf 31 24 w) o) := by
  constructor
  · unfold readNMx
    split
    next heq =>
      simp only [unpack, List.cons.injEq] at heq
      casesm* _ ∧ _
      subst_vars
      rintro ⟨⟩
      exact ⟨_, rfl, by simp_all [Holds, unpack, fieldsNMx, bitsOf, toNat_n1]⟩
    · exact nofun
  · rintro ⟨o, rfl, h⟩
    simp only [Holds, fieldsNMx, List.map] at h
    simp [readNMx, h, n1_toNat]

theorem readNP_eq_some {c : OpNP → Instr} {w : Nat} {i : Instr} : readNP c w = some i ↔
    ∃ o, c o = i ∧ Holds w (fieldsNP (bitsOf 31 24 w) o) := by
  constructor
  · unfold readNP
    split
    next heq =>
      simp only [unpack, List.cons.injEq] at heq
      casesm* _ ∧ _
      subst_vars
      rintro ⟨⟩
      exact ⟨_, rfl, by simp_all [Holds, unpack, fieldsNP, bitsOf, toNat_n1]⟩
    · exact nofun
  · rintro ⟨o, rfl, h⟩
    simp only [Holds, fieldsNP, List.map] at h
    simp [readNP, h, n1_toNat]

theorem readNV_eq_some {c : OpNV → Instr} {w : Nat} {i : Instr} : readNV c w = some i ↔
    ∃ o, c o = i ∧ Holds w (fieldsNV (bitsOf 31 24 w) o) := by
  constructor
  · unfold readNV
    split
    next heq =>
      simp only [unpack, List.cons.injEq] at heq
      casesm* _ ∧ _
      subst_vars
      rintro ⟨⟩
      exact ⟨_, rfl, by simp_all [Holds, unpack, fieldsNV, bitsOf, toNat_n1]⟩
    · exact nofun
  · rintro ⟨o, rfl, h⟩
    simp only [Holds, fieldsNV, List.map] at h
    simp [readNV, h, n1_toNat]

theorem readNX_eq_some {c : OpNX → Instr} {w : Nat} {i : Instr} : readNX c w = some i ↔
    ∃ o, c o = i ∧ Holds w (fieldsNX (bitsOf 31 24 w) o) := by
  constructor
  · unfold readNX
    split
    next heq =>
      simp only [unpack, List.cons.injEq] at heq
      casesm* _ ∧ _
      subst_vars
      rintro ⟨⟩
      exact ⟨_, rfl, by simp_all [Holds, unpack, fieldsNX, bitsOf, toNat_n1]⟩
    · exact nofun
  · rintro ⟨o, rfl, h⟩
    simp only [Holds, fieldsNX, List.map] at h
    simp [readNX, h, n1_toNat]

theorem readNL_eq_some {c : OpNL → Instr} {w : Nat} {i : Instr} : readNL c w = some i ↔
    ∃ o, c o = i ∧ Holds w (fieldsNL (bitsOf 31 24 w) o) := by
  constructor
  · unfold readNL
    split
    next heq =>
      simp only [unpack, List.cons.injEq] at heq
      casesm* _ ∧ _
      subst_vars
      rintro ⟨⟩
      exact ⟨_, rfl, by simp_all [Holds, unpack, fieldsNL, bitsOf, toNat_n1]⟩
    · exact nofun
  · rintro ⟨o, rfl, h⟩
    simp only [Holds, fieldsNL, List.map] at h
    simp [readNL, h, n1_toNat]

theorem readMM_eq_some {c : OpMM → Instr} {w : Nat} {i : Instr} : readMM c w = some i ↔
    ∃ o, c o = i ∧ Holds w (fieldsMM (bitsOf 63 56 w) o) := by
  constructor
  · unfold readMM
    split
    next heq =>
      simp only [unpack, List.cons.injEq] at heq
      casesm* _ ∧ _
      subst_vars
      rintro ⟨⟩
      exact ⟨_, rfl, by simp_all [Holds, unpack, fieldsMM, bitsOf, toNat_n1]⟩
    · exact nofun
  · rintro ⟨o, rfl, h⟩
    simp only [Holds, fieldsMM, List.map] at h
    simp [readMM, h, n1_toNat]

theorem readMZ_eq_some {c : OpMZ → Instr} {w : Nat} {i : Instr} : readMZ c w = some i ↔
    ∃ o, c o = i ∧ Holds w (fieldsMZ (bitsOf 63 56 w) o) := by
  constructor
  · unfold readMZ
    split
    next heq =>
      simp only [unpack, List.cons.injEq] at heq
      casesm* _ ∧ _
      subst_vars
      rintro ⟨⟩
      exact ⟨_, rfl, by simp_all [Holds, unpack, fieldsMZ, bitsOf, toNat_n1]⟩
    · exact nofun
  · rintro ⟨o, rfl, h⟩
    simp only [Holds, fieldsMZ, List.map] at h
    simp [readMZ, h, n1_toNat]

theorem readML_eq_some {c : OpML → Instr} {w : Nat} {i : Instr} : readML c w = some i ↔
    ∃ o, c o = i ∧ Holds w (fieldsML (bitsOf 63 56 w) o) := by
  constructor
  · unfold readML
    split
    next heq =>
      simp only [unpack, List.cons.injEq] at heq
      casesm* _ ∧ _
      subst_vars
      rintro ⟨⟩
      exact ⟨_, rfl, by simp_all [Holds, unpack, fieldsML, bitsOf, toNat_n1]⟩
    · exact nofun
  · rintro ⟨o, rfl, h⟩
    simp only [Holds, fieldsML, List.map] at h
    simp [readML, h, n1_toNat]

theorem readMS_eq_some {c : OpMS → Instr} {w : Nat} {i : Instr} : readMS c w = some i ↔
    ∃ o, c o = i ∧ Holds w (fieldsMS (bitsOf 63 56 w) o) := by
  constructor
  · unfold readMS
    split
    next heq =>
      simp only [unpack, List.cons.injEq] at heq
      casesm* _ ∧ _
      subst_vars
      rintro ⟨⟩
      exact ⟨_, rfl, by simp_all [Holds, unpack, fieldsMS, bitsOf, toNat_n1]⟩
    · exact nofun
  · rintro ⟨o, rfl, h⟩
    simp only [Holds, fieldsMS, List.map] at h
    simp [readMS, h, n1_toNat]

theorem readMT_eq_some {c : OpMT → Instr} {w : Nat} {i : Instr} : readMT c w = some i ↔
    ∃ o, c o = i ∧ Holds w (fieldsMT (bitsOf 63 56 w) o) := by
  constructor
  · unfold readMT
    split
    next heq =>
      simp only [unpack, List.cons.injEq] at heq
      casesm* _ ∧ _
      subst_vars
      rintro ⟨⟩
      exact ⟨_, rfl, by simp_all [Holds, unpack, fieldsMT, bitsOf, toNat_n1]; omega⟩
    · exact nofun
  · rintro ⟨o, rfl, h⟩
    simp only [Holds, fieldsMT, List.map] at h
    simp [readMT, h, n1_toNat, ofNat_div_mod]

theorem readMK_eq_some {c : OpMK → Instr} {w : Nat} {i : Instr} : readMK c w = some i ↔
    ∃ o, c o = i ∧ Holds w (fieldsMK (bitsOf 63 56 w) o) := by
  constructor
  · unfold readMK
    split
    next heq =>
      simp only [unpack, List.cons.injEq] at heq
      casesm* _ ∧ _
      subst_vars
      rintro ⟨⟩
      exact ⟨_, rfl, by simp_all [Holds, unpack, fieldsMK, bitsOf, toNat_n1]⟩
    · exact nofun
  · rintro ⟨o, rfl, h⟩
    simp only [Holds, fieldsMK, List.map] at h
    simp [readMK, h, n1_toNat]

theorem readMW_eq_some {c : OpMW → Instr} {w : Nat} {i : Instr} : readMW c w = some i ↔
    ∃ o, c o = i ∧ Holds w (fieldsMW (bitsOf 63 56 w) o) := by
  constructor
  · unfold readMW
    split
    next heq =>
      simp only [unpack, List.cons.injEq] at heq
      casesm* _ ∧ _
      subst_vars
      rintro ⟨⟩
      exact ⟨_, rfl, by simp_all [Holds, unpack, fieldsMW, bitsOf, toNat_n1]⟩
    · exact nofun
  · rintro ⟨o, rfl, h⟩
    simp only [Holds, fieldsMW, List.map] at h
    simp [readMW, h, n1_toNat]

theorem readT0_eq_some {c : OpT0 → Instr} {w : Nat} {i : Instr} : readT0 c w = some i ↔
    ∃ o, c o = i ∧ Holds w (fieldsT0 (bitsOf 63 56 w) o) := by
  constructor
  · unfold readT0
    split
    next heq =>
      simp only [unpack, List.cons.injEq] at heq
      casesm* _ ∧ _
      subst_vars
      rintro ⟨⟩
      exact ⟨_, rfl, by simp_all [Holds, unpack, fieldsT0, bitsOf, toNat_n1]⟩
    · exact nofun
  · rintro ⟨o, rfl, h⟩
    simp only [Holds, fieldsT0, List.map] at h
    simp [readT0, h, n1_toNat]

theorem readT1_eq_some {c : OpT1 → Instr} {w : Nat} {i : Instr} : readT1 c w = some i ↔
    ∃ o, c o = i ∧ Holds w (fieldsT1 (bitsOf 63 56 w) o) := by
  constructor
  · unfold readT1
    split
    next heq =>
      simp only [unpack, List.cons.injEq] at heq
      casesm* _ ∧ _
      subst_vars
      rintro ⟨⟩
      exact ⟨_, rfl, by simp_all [Holds, unpack, fieldsT1, bitsOf, toNat_n1]⟩
    · exact nofun
  · rintro ⟨o, rfl, h⟩
    simp only [Holds, fieldsT1, List.map] at h
    simp [readT1, h, n1_toNat]

theorem readTL_eq_some {c : OpTL → Instr} {w : Nat} {i : Instr} : readTL c w = some i ↔
    ∃ o, c o = i ∧ Holds w (fieldsTL (bitsOf 63 56 w) o) := by
  constructor
  · unfold readTL
    split
    next heq =>
      simp only [unpack, List.cons.injEq] at heq
      casesm* _ ∧ _
      subst_vars
      rintro ⟨⟩
      exact ⟨_, rfl, by simp_all [Holds, unpack, fieldsTL, bitsOf, toNat_n1]⟩
    · exact nofun
  · rintro ⟨o, rfl, h⟩
    simp only [Holds, fieldsTL, List.map] at h
    simp [readTL, h, n1_toNat]

theorem readCC_eq_some {cb : Bool} {c : OpCC → Instr} {w : Nat} {i : Instr} : readCC cb c w = some i ↔
    ∃ o, o.cb = cb ∧ c o = i ∧ Holds w (fieldsCC (bitsOf 63 56 w) o) := by
  constructor
  · unfold readCC
    split
    next heq =>
      simp only [unpack, List.cons.injEq] at heq
      casesm* _ ∧ _
      subst_vars
      rintro ⟨⟩
      exact ⟨_, rfl, rfl, by simp_all [Holds, unpack, fieldsCC, bitsOf, toNat_n1]⟩
    · exact nofun
  · rintro ⟨o, rfl, rfl, h⟩
    simp only [Holds, fieldsCC, List.map] at h
    simp [readCC, h, n1_toNat]

theorem readCS_eq_some {cb : Bool} {c : OpCS → Instr} {w : Nat} {i : Instr} : readCS cb c w = some i ↔
    ∃ o, o.cb = cb ∧ c o = i ∧ Holds w (fieldsCS (bitsOf 63 56 w) o) := by
  constructor
  · unfold readCS
    split
    next heq =>
      simp only [unpack, List.cons.injEq] at heq
      casesm* _ ∧ _
      subst_vars
      rintro ⟨⟩
      exact ⟨_, rfl, rfl, by simp_all [Holds, unpack, fieldsCS, bitsOf, toNat_n1]⟩
    · exact nofun
  · rintro ⟨o, rfl, rfl, h⟩
    simp only [Holds, fieldsCS, List.map] at h
    simp [readCS, h, n1_toNat]

theorem readCT_eq_some {cb : Bool} {c : OpCT → Instr} {w : Nat} {i : Instr} : readCT cb c w = some i ↔
    ∃ o, o.cb = cb ∧ c o = i ∧ Holds w (fieldsCT (bitsOf 63 56 w) o) := by
  constructor
  · unfold readCT
    split
    next heq =>
      simp only [unpack, List.cons.injEq] at heq
      casesm* _ ∧ _
      subst_vars
      rintro ⟨⟩
      exact ⟨_, rfl, rfl, by simp_all [Holds, unpack, fieldsCT, bitsOf, toNat_n1]⟩
    · exact nofun
  · rintro ⟨o, rfl, rfl, h⟩
    simp only [Holds, fieldsCT, List.map] at h
    simp [readCT, h, n1_toNat]

theorem readCE_eq_some {cb : Bool} {c : OpCE → Instr} {w : Nat} {i : Instr} : readCE cb c w = some i ↔
    ∃ o, o.cb = cb ∧ c o = i ∧ Holds w (fieldsCE (bitsOf 63 56 w) o) := by
  constructor
  · unfold readCE
    split
    next heq =>
      simp only [unpack, List.cons.injEq] at heq
      casesm* _ ∧ _
      subst_vars
      rintro ⟨⟩
      exact ⟨_, rfl, rfl, by simp_all [Holds, unpack, fieldsCE, bitsOf, toNat_n1]⟩
    · exact nofun
  · rintro ⟨o, rfl, rfl, h⟩
    simp only [Holds, fieldsCE, List.map] at h
    simp [readCE, h, n1_toNat]

theorem readCBd_eq_some {cb : Bool} {c : OpCBd → Instr} {w : Nat} {i : Instr} : readCBd cb c w = some i ↔
    ∃ o, o.cb = cb ∧ c o = i ∧ Holds w (fieldsCBd (bitsOf 63 56 w) o) := by
  constructor
  · unfold readCBd
    split
    next heq =>
      simp only [unpack, List.cons.injEq] at heq
      casesm* _ ∧ _
      subst_vars
      rintro ⟨⟩
      exact ⟨_, rfl, rfl, by simp_all [Holds, unpack, fieldsCBd, bitsOf, toNat_n1]⟩
    · exact nofun
  · rintro ⟨o, rfl, rfl, h⟩
    simp only [Holds, fieldsCBd, List.map] at h
    simp [readCBd, h, n1_toNat]

theorem readCU_eq_some {cb : Bool} {c : OpCU → Instr} {w : Nat} {i : Instr} : readCU cb c w = some i ↔
    ∃ o, o.cb = cb ∧ c o = i ∧ Holds w (fieldsCU (bitsOf 63 56 w) o) := by
  constructor
  · unfold readCU
    split
    next heq =>
      simp only [unpack, List.cons.injEq] at heq
      casesm* _ ∧ _
      subst_vars
      rintro ⟨⟩
      exact ⟨_, rfl, rfl, by simp_all [Holds, unpack, fieldsCU, bitsOf, toNat_n1]⟩
    · exact nofun
  · rintro ⟨o, rfl, rfl, h⟩
    simp only [Holds, fieldsCU, List.map] at h
    simp [readCU, h, n1_toNat]

theorem readCG_eq_some {cb : Bool} {c : OpCG → Instr} {w : Nat} {i : Instr} : readCG cb c w = some i ↔
    ∃ o, o.cb = cb ∧ c o = i ∧ Holds w (fieldsCG (bitsOf 63 56 w) o) := by
  constructor
  · unfold readCG
    split
    next heq =>
      simp only [unpack, List.cons.injEq] at heq
      casesm* _ ∧ _
      subst_vars
      rintro ⟨⟩
      exact ⟨_, rfl, rfl, by simp_all [Holds, unpack, fieldsCG, bitsOf, toNat_n1]⟩
    · exact nofun
  · rintro ⟨o, rfl, rfl, h⟩
    simp only [Holds, fieldsCG, List.map] at h
    simp [readCG, h, n1_toNat]

theorem readCW_eq_some {cb : Bool} {c : OpCW → Instr} {w : Nat} {i : Instr} : readCW cb c w = some i ↔
    ∃ o, o.cb = cb ∧ c o = i ∧ Holds w (fieldsCW (bitsOf 63 56 w) o) := by
  constructor
  · unfold readCW
    split
    next heq =>
      simp only [unpack, List.cons.injEq] at heq
      casesm* _ ∧ _
      subst_vars
      rintro ⟨⟩
      exact ⟨_, rfl, rfl, by simp_all [Holds, unpack, fieldsCW, bitsOf, toNat_n1]⟩
    · exact nofun
  · rintro ⟨o, rfl, rfl, h⟩
    simp only [Holds, fieldsCW, List.map] at h
    simp [readCW, h, n1_toNat]

theorem readCF_eq_some {cb : Bool} {c : OpCF → Instr} {w : Nat} {i : Instr} : readCF cb c w = some i ↔
    ∃ o, o.cb = cb ∧ c o = i ∧ Holds w (fieldsCF (bitsOf 63 56 w) o) := by
  constructor
  · unfold readCF
    split
    next heq =>
      simp only [unpack, List.cons.injEq] at heq
      casesm* _ ∧ _
      subst_vars
      rintro ⟨⟩
      exact ⟨_, rfl, rfl, by simp_all [Holds, unpack, fieldsCF, bitsOf, toNat_n1]⟩
    · exact nofun
  · rintro ⟨o, rfl, rfl, h⟩
    simp only [Holds, fieldsCF, List.map] at h
    simp [readCF, h, n1_toNat]

theorem readCSg_eq_some {cb : Bool} {c : OpCSg → Instr} {w : Nat} {i : Instr} : readCSg cb c w = some i ↔
    ∃ o, o.cb = cb ∧ c o = i ∧ Holds w (fieldsCSg (bitsOf 63 56 w) o) := by
  constructor
  · unfold readCSg
    split
    next heq =>
      simp only [unpack, List.cons.injEq] at heq
      casesm* _ ∧ _
      subst_vars
      rintro ⟨⟩
      exact ⟨_, rfl, rfl, by simp_all [Holds, unpack, fieldsCSg, bitsOf, toNat_n1]⟩
    · exact nofun
  · rintro ⟨o, rfl, rfl, h⟩
    simp only [Holds, fieldsCSg, List.map] at h
    simp [readCSg, h, n1_toNat]

theorem readCL_eq_some {cb : Bool} {c : OpCL → Instr} {w : Nat} {i : Instr} : readCL cb c w = some i ↔
    ∃ o, o.cb = cb ∧ c o = i ∧ Holds w (fieldsCL (bitsOf 63 56 w) o) := by
  constructor
  · unfold readCL
    split
    next heq =>
      simp only [unpack, List.cons.injEq] at heq
      casesm* _ ∧ _
      subst_vars
      rintro ⟨⟩
      exact ⟨_, rfl, rfl, by simp_all [Holds, unpack, fieldsCL, bitsOf, toNat_n1]⟩
    · exact nofun
  · rintro ⟨o, rfl, rfl, h⟩
    simp only [Holds, fieldsCL, List.map] at h
    simp [readCL, h, n1_toNat]

theorem readCH_eq_some {cb : Bool} {c : OpCH → Instr} {w : Nat} {i : Instr} : readCH cb c w = some i ↔
    ∃ o, o.cb = cb ∧ c o = i ∧ Holds w (fieldsCH (bitsOf 63 56 w) o) := by
  constructor
  · unfold readCH
    split
    next heq =>
      simp only [unpack, List.cons.injEq] at heq
      casesm* _ ∧ _
      subst_vars
      rintro ⟨⟩
      exact ⟨_, rfl, rfl, by simp_all [Holds, unpack, fieldsCH, bitsOf, toNat_n1]⟩
    · exact nofun
  · rintro ⟨o, rfl, rfl, h⟩
    simp only [Holds, fieldsCH, List.map] at h
    simp [readCH, h, n1_toNat]

theorem readCM_eq_some {cb : Bool} {c : OpCM → Instr} {w : Nat} {i : Instr} : readCM cb c w = some i ↔
    ∃ o, o.cb = cb ∧ c o = i ∧ Holds w (fieldsCM (bitsOf 63 56 w) o) := by
  constructor
  · unfold readCM
    split
    next heq =>
      simp only [unpack, List.cons.injEq] at heq
      casesm* _ ∧ _
      subst_vars
      rintro ⟨⟩
      exact ⟨_, rfl, rfl, by simp_all [Holds, unpack, fieldsCM, bitsOf, toNat_n1]⟩
    · exact nofun
  · rintro ⟨o, rfl, rfl, h⟩
    simp only [Holds, fieldsCM, List.map] at h
    simp [readCM, h, n1_toNat]

theorem readCI_eq_some {cb : Bool} {c : OpCI → Instr} {w : Nat} {i : Instr} : readCI cb c w = some i ↔
    ∃ o, o.cb = cb ∧ c o = i ∧ Holds w (fieldsCI (bitsOf 63 56 w) o) := by
  constructor
  · unfold readCI
    split
    next heq =>
      simp only [unpack, List.cons.injEq] at heq
      casesm* _ ∧ _
      subst_vars
      rintro ⟨⟩
      exact ⟨_, rfl, rfl, by simp_all [Holds, unpack, fieldsCI, bitsOf, toNat_n1]⟩
    · exact nofun
  · rintro ⟨o, rfl, rfl, h⟩
    simp only [Holds, fieldsCI, List.map] at h
    simp [readCI, h, n1_toNat]

theorem readCX_eq_some {cb : Bool} {c : OpCX → Instr} {w : Nat} {i : Instr} : readCX cb c w = some i ↔
    ∃ o, o.cb = cb ∧ c o = i ∧ Holds w (fieldsCX (bitsOf 63 56 w) o) := by
  constructor
  · unfold readCX
    split
    next heq =>
      simp only [unpack, List.cons.injEq] at heq
      casesm* _ ∧ _
      subst_vars
      rintro ⟨⟩
      exact ⟨_, rfl, rfl, by simp_all [Holds, unpack, fieldsCX, bitsOf, toNat_n1]⟩
    · exact nofun
  · rintro ⟨o, rfl, rfl, h⟩
    simp only [Holds, fieldsCX, List.map] at h
    simp [readCX, h, n1_toNat]

/-- XPLD has its source in one of two fields, by the bank it reads (R44). -/
theorem readXL_eq_some {df : Bool} {c : OpXL → Instr} {w : Nat} {i : Instr} : readXL df c w = some i ↔
    ∃ o, c o = i ∧ Holds w (fieldsXL (bitsOf 31 24 w) df o) := by
  constructor
  · unfold readXL
    split
    next heq =>
      simp only [unpack, List.cons.injEq] at heq
      casesm* _ ∧ _
      subst_vars
      simp only [Option.ite_none_right_eq_some, Option.some.injEq, Prod.mk.injEq]
      rintro ⟨hz, rfl⟩
      exact ⟨_, rfl, by cases df <;> simp_all [Holds, unpack, fieldsXL, bitsOf, toNat_n1]⟩
    · exact nofun
  · rintro ⟨o, rfl, h⟩
    simp only [Holds, fieldsXL, List.map] at h
    cases df <;> simp [readXL, h, n1_toNat]

end Sys2Proof.Proofs.Coding
end

section
/-! Proofs. Decoding and encoding undo each other (R16 to R44): a word decodes to an instruction just when it holds the fields
of that well-formed instruction of its slot. -/

namespace Sys2Proof.Laws.Encoding

/-- The facts of this family hold of every instruction. -/
theorem statement (i : Instr) : Statement i :=
  i.casesOn (motive := Statement)
    snop add sub mul mulh mulhu div divu rem remu and or xor shl shr sra min max minu maxu clz popc sel addw lea mov
    addi andi ori xori shli shri srai muli ceq cne clt cge cltu cgeu ceqi cnei clti cgei gand gor gxor gset movi movhi
    addil fadd fsub fmul fma fmin fmax fcvt fceq fclt fcle ldB ldH ldW ldD ldsB ldsH ldsW stB stH stW stD lda stl
    amoadd amoswp amocas amomin amomax amoand amoor amoxor scld scst scamo fence pfence drain br jal jr jalr loop
    lexit trap kend sysord evadd claim release gstat notify sysc eret ychk yield wfe evsig movc movcw xsa xsb xsh xsj
    xsy bar bara barw bari lnch garm hirq pflip bkpt mark vnop vadd vsub vmul vfma vfms vmin vmax vabs vneg vsqd vmulh
    vdot4 vand vor vxor vshl vshr vsra vceq vcne vclt vcle vsel kand kor kxor knot kpop vcvt vqblk vdqblk vrnd vexp2
    vlog2 vrcp vrsq vsigm vtanh vrsum vrmax vrmin vscan vamax vmov vsq vxs vxab vspl viota vtag xprm xpldA xpldB xzip
    xuzp xcmp xexp nmap nmapx npld nmov nxs nli mma mmaz mconv mzero mldz mstz mtag mskp mwait tacq trel tldw tlnc
    tcap trst cpy cpys cpyt cpyw ldblk evblk bind unbd gthr sctr cwait cflag csig coll hadd hmov hli hxs fetchFill
    branchResolution checkpoint storePerform loadDataReturn asyncTrap forcedSave savewaitEnd eventLatchSet
    matrixCommandBegin matrixCommandComplete copyCommandComplete streamGroupArrival streamOutputWrite temporalGrant
    temporalCommandBegin temporalCommandComplete barrierAccess capstanIssue regulationAdmit regulatorTick budget
    l2Lookup controllerAccess translationWalk wpgtAnswer shadowInvalidate channelRefresh channelRetirement clusterSwap
    clusterRetire coreRetire sramRowRepair l2WayRetire walkerFailover meshLinkFailure dieLinkLoss
    commandStreamTailWrite commandStreamDisable haltClear streamEntryTake nodeEnter eventNode hostirqNode spliceNode
    condNode kernelRecordReady groupPlacement groupComplete frameStart windowGuard windowEnd contractLoad start stop
    reset resize generate importKey erase poolAlloc poolFree frameScrub attestation eventCounterAdd irqTimer
    vectorUnmask hostClaim hostRelease debugStop halt resume dbgDataWrite traceEnable traceSample pmctlClr
    counterLowRead mcinv replayGo replayAbort replayPass perstN dieBringup full thermalTrip tsync tsyncTimeout
    functionLevelReset hostWindowAccess signalDetect trainingComplete trainingTimeout rateFallback linkReport
    flitReceive flitResend flitSilence rekey remoteAccess remoteResponse collectiveComplete collectiveTimeout
    fcgrpWrite portDown peerLossNotice abortMessage abortAckTimeout fabricDisable fabLogRead windowRewrite
    windowRevocation registerWrite illegalEncoding idleBundle hostPhysicalAccess gcMinWrite pmcsrWrite ieee11491
    powerLoss recoveryMailbox

end Sys2Proof.Laws.Encoding

namespace Sys2Proof.Proofs.Coding
open Sys2Proof

/-- The word w holds the fields of the instruction. -/
def IsWordOf (w : Nat) (i : Instr) : Prop := Holds w i.fields

/-- The first field of a word is its top bits. -/
theorem bitsOf_of_holds {w op n : Nat} {t : List (Nat × Nat)} (h : Holds w ((op, n + 1) :: t)) :
    bitsOf ((t.map Prod.snd).sum + n) (t.map Prod.snd).sum w = op := by
  have hop : w / 2 ^ (t.map Prod.snd).sum % 2 ^ (n + 1) = op := (List.cons.inj h).1
  rw [bitsOf, Nat.add_sub_cancel_left, hop]

/-- The second field of a word. -/
theorem bitsOf_of_holds_snd {w op n : Nat} {f : Nat × Nat} {t : List (Nat × Nat)} (h : Holds w (f :: (op, n + 1) :: t)) :
    bitsOf ((t.map Prod.snd).sum + n) (t.map Prod.snd).sum w = op :=
  bitsOf_of_holds (List.cons.inj h).2

/-- The last field of a word. -/
theorem mod_of_holds {w v n : Nat} (hi : List (Nat × Nat)) (h : Holds w (hi ++ [(v, n)])) : w % 2 ^ n = v := by
  induction hi with
  | nil => simpa [Holds, unpack] using h
  | cons f t ih => exact ih (List.cons.inj h).2

/-- The bank that a word of XPLD reads (R44). -/
theorem bitOf_of_holds_XL {w op : Nat} {df : Bool} {o : OpXL} (h : Holds w (fieldsXL op df o)) : bitOf 15 w = df := by
  have hx : w / 2 ^ 10 % 2 ^ 6 = if df then 32 else 0 := (List.cons.inj (List.cons.inj (List.cons.inj (List.cons.inj
    (List.cons.inj h).2).2).2).2).1
  rw [bitOf, Nat.testBit_eq_decide_div_mod_eq]
  cases df <;> simp at hx ⊢ <;> omega

theorem bits_SL (op : Nat) (o : OpSL) : ((fieldsSL op o).map Prod.snd).sum = 64 := by simp [fieldsSL]

theorem bits_SX (op : Nat) (o : OpSX) : ((fieldsSX op o).map Prod.snd).sum = 64 := by simp [fieldsSX]

theorem bits_SFence (op : Nat) (o : OpSFence) : ((fieldsSFence op o).map Prod.snd).sum = 64 := by simp [fieldsSFence]

theorem bits_SPf (op : Nat) (o : OpSPf) : ((fieldsSPf op o).map Prod.snd).sum = 64 := by simp [fieldsSPf]

theorem vector_slot_pos (b : Bool) : 0 < (if b then 2 else 1) := by cases b <;> decide

theorem vector_slot_le (b : Bool) : (if b then 2 else 1) ≤ 2 := by cases b <;> decide

theorem copy_slot_gt (b : Bool) : 2 < (if b then 5 else 4) := by cases b <;> decide

theorem keepWf_eq_some {x : Option Instr} {i : Instr} : keepWf x = some i ↔ x = some i ∧ i.wf = true := by
  cases x with
  | none => simp [keepWf]
  | some j =>
    simp only [keepWf, Option.ite_none_right_eq_some, Option.some.injEq]
    exact ⟨fun ⟨hj, e⟩ => ⟨e, e ▸ hj⟩, fun ⟨e, hi⟩ => ⟨e ▸ hi, e⟩⟩

/-! ### A word that decodes holds the fields of its instruction -/

theorem isWordOf_of_decodeS {w : Nat} {i : Instr} :
    decodeS w = some i → i.slot = 0 ∧ IsWordOf w i ∧ i.bits = 32 * if longS (bitsOf 31 24 w) then 2 else 1 := by
  unfold decodeS
  split
  case h_119 => exact nofun
  case h_96 hop =>
    split
    case h_8 =>
      rw [readSSvc_eq_some, hop]
      rintro ⟨o, rfl, h⟩
      exact ⟨rfl, h, rfl⟩
    all_goals
      rw [readSR2_eq_some, hop]
      rintro ⟨o, rfl, h⟩
      exact ⟨rfl, h, rfl⟩
  case h_49 hop | h_50 hop | h_51 hop =>
    rw [readSL_eq_some, hop]
    rintro ⟨o, rfl, h⟩
    exact ⟨rfl, h, bits_SL _ o⟩
  case h_73 hop | h_74 hop | h_75 hop | h_76 hop | h_77 hop | h_78 hop | h_79 hop | h_80 hop | h_81 hop | h_82 hop |
      h_83 hop | h_84 hop | h_85 hop =>
    rw [readSX_eq_some, hop]
    rintro ⟨o, rfl, h⟩
    exact ⟨rfl, h, bits_SX _ o⟩
  case h_86 hop | h_88 hop =>
    rw [readSFence_eq_some, hop]
    rintro ⟨o, rfl, h⟩
    exact ⟨rfl, h, bits_SFence _ o⟩
  case h_87 hop =>
    rw [readSPf_eq_some, hop]
    rintro ⟨o, rfl, h⟩
    exact ⟨rfl, h, bits_SPf _ o⟩
  all_goals
    next hop =>
      simp only [readSN_eq_some, readSR_eq_some, readSR2_eq_some, readSSel_eq_some, readSLea_eq_some, readSI_eq_some,
        readSSh_eq_some, readSC_eq_some, readSCI_eq_some, readSGl_eq_some, readSGs_eq_some, readSF_eq_some,
        readSFcvt_eq_some, readSFc_eq_some, readSB_eq_some, readSJr_eq_some, readSLoop_eq_some, readSTrap_eq_some,
        readSYc_eq_some, readSEv_eq_some, readSMovc_eq_some, readSXv_eq_some, readSXh_eq_some, readSBar_eq_some,
        readSGarm_eq_some, readSHirq_eq_some, readSD_eq_some, readSBk_eq_some, hop]
      rintro ⟨o, rfl, h⟩
      exact ⟨rfl, h, rfl⟩

theorem isWordOf_of_decodeV {sl : Bool} {w : Nat} {i : Instr} :
    decodeV sl w = some i → i.slot = (if sl then 2 else 1) ∧ IsWordOf w i ∧ i.bits = 32 := by
  unfold decodeV
  split
  case h_52 => exact nofun
  all_goals
    next hop =>
      simp only [readV0_eq_some, readV3_eq_some, readV2_eq_some, readVC_eq_some, readVK_eq_some, readVK1_eq_some,
        readVKp_eq_some, readVCv_eq_some, readVQb_eq_some, readVDq_eq_some, readVRn_eq_some, readVSq_eq_some,
        readVB1_eq_some, readVTg_eq_some, hop]
      rintro ⟨o, rfl, rfl, h⟩
      exact ⟨rfl, h, rfl⟩

theorem isWordOf_of_decodeM {w : Nat} {i : Instr} :
    decodeM w = some i → i.slot = 3 ∧ IsWordOf w i ∧ i.bits = 64 := by
  unfold decodeM
  split
  case h_16 => exact nofun
  all_goals
    next hop =>
      simp only [readMM_eq_some, readMZ_eq_some, readML_eq_some, readMS_eq_some, readMT_eq_some, readMK_eq_some,
        readMW_eq_some, readT0_eq_some, readT1_eq_some, readTL_eq_some, hop]
      rintro ⟨o, rfl, h⟩
      exact ⟨rfl, h, rfl⟩

theorem isWordOf_of_decodeC {cb : Bool} {w : Nat} {i : Instr} :
    decodeC cb w = some i → i.slot = (if cb then 5 else 4) ∧ IsWordOf w i ∧ i.bits = 64 := by
  unfold decodeC
  split
  case h_19 => exact nofun
  all_goals
    next hop =>
      simp only [readCC_eq_some, readCS_eq_some, readCT_eq_some, readCE_eq_some, readCBd_eq_some, readCU_eq_some,
        readCG_eq_some, readCW_eq_some, readCF_eq_some, readCSg_eq_some, readCL_eq_some, readCH_eq_some,
        readCM_eq_some, readCI_eq_some, readCX_eq_some, hop]
      rintro ⟨o, rfl, rfl, h⟩
      exact ⟨rfl, h, rfl⟩

theorem isWordOf_of_decodeX {w : Nat} {i : Instr} :
    decodeX w = some i → i.slot = 6 ∧ IsWordOf w i ∧ i.bits = 32 := by
  unfold decodeX
  split
  case h_7 => exact nofun
  case h_2 hop =>
    split
    all_goals
      rw [readXL_eq_some, hop]
      rintro ⟨o, rfl, h⟩
      exact ⟨rfl, h, rfl⟩
  all_goals
    next hop =>
      simp only [readXP_eq_some, readXZ_eq_some, readXC_eq_some, hop]
      rintro ⟨o, rfl, h⟩
      exact ⟨rfl, h, rfl⟩

theorem isWordOf_of_decodeN {w : Nat} {i : Instr} :
    decodeN w = some i → i.slot = 7 ∧ IsWordOf w i ∧ i.bits = 32 := by
  unfold decodeN
  split
  case h_7 => exact nofun
  all_goals
    next hop =>
      simp only [readNM_eq_some, readNMx_eq_some, readNP_eq_some, readNV_eq_some, readNX_eq_some, readNL_eq_some, hop]
      rintro ⟨o, rfl, h⟩
      exact ⟨rfl, h, rfl⟩

theorem decodeSlot_of_decodeV {sl : Bool} {w : Nat} {i : Instr} (hd : decodeV sl w = some i) (hwf : i.wf = true) :
    decodeSlot (if sl then 2 else 1) w = some i := by
  cases sl <;> exact keepWf_eq_some.2 ⟨hd, hwf⟩

theorem decodeSlot_of_decodeC {cb : Bool} {w : Nat} {i : Instr} (hd : decodeC cb w = some i) (hwf : i.wf = true) :
    decodeSlot (if cb then 5 else 4) w = some i := by
  cases cb <;> exact keepWf_eq_some.2 ⟨hd, hwf⟩

/-! ### A word that holds the fields of a well-formed instruction decodes to it -/

theorem decodeSlot_scalar_of_isWordOf {w : Nat} {i : Instr} (h : IsWordOf w i) (hwf : i.wf = true) (hs : i.slot = 0) :
    decodeSlot i.slot w = some i := by
  cases i
  case snop o | lexit o | eret o | yield o | wfe o =>
    have hop : bitsOf 31 24 w = _ := bitsOf_of_holds h
    refine keepWf_eq_some.2 ⟨(?_ : decodeS w = _), hwf⟩
    unfold decodeS
    rw [hop]
    exact readSN_eq_some.2 ⟨o, rfl, by rw [hop]; exact h⟩
  case add o | sub o | mul o | mulh o | mulhu o | div o | divu o | rem o | remu o | and o | or o | xor o | shl o |
      shr o | sra o | min o | max o | minu o | maxu o | addw o =>
    have hop : bitsOf 31 24 w = _ := bitsOf_of_holds h
    refine keepWf_eq_some.2 ⟨(?_ : decodeS w = _), hwf⟩
    unfold decodeS
    rw [hop]
    exact readSR_eq_some.2 ⟨o, rfl, by rw [hop]; exact h⟩
  case clz o | popc o | mov o | jalr o | lnch o =>
    have hop : bitsOf 31 24 w = _ := bitsOf_of_holds h
    refine keepWf_eq_some.2 ⟨(?_ : decodeS w = _), hwf⟩
    unfold decodeS
    rw [hop]
    exact readSR2_eq_some.2 ⟨o, rfl, by rw [hop]; exact h⟩
  case sel o =>
    have hop : bitsOf 31 24 w = _ := bitsOf_of_holds h
    refine keepWf_eq_some.2 ⟨(?_ : decodeS w = _), hwf⟩
    unfold decodeS
    rw [hop]
    exact readSSel_eq_some.2 ⟨o, rfl, by rw [hop]; exact h⟩
  case lea o =>
    have hop : bitsOf 31 24 w = _ := bitsOf_of_holds h
    refine keepWf_eq_some.2 ⟨(?_ : decodeS w = _), hwf⟩
    unfold decodeS
    rw [hop]
    exact readSLea_eq_some.2 ⟨o, rfl, by rw [hop]; exact h⟩
  case addi o | andi o | ori o | xori o | muli o | ldB o | ldH o | ldW o | ldD o | ldsB o | ldsH o | ldsW o | stB o |
      stH o | stW o | stD o =>
    have hop : bitsOf 31 24 w = _ := bitsOf_of_holds h
    refine keepWf_eq_some.2 ⟨(?_ : decodeS w = _), hwf⟩
    unfold decodeS
    rw [hop]
    exact readSI_eq_some.2 ⟨o, rfl, by rw [hop]; exact h⟩
  case shli o | shri o | srai o =>
    have hop : bitsOf 31 24 w = _ := bitsOf_of_holds h
    refine keepWf_eq_some.2 ⟨(?_ : decodeS w = _), hwf⟩
    unfold decodeS
    rw [hop]
    exact readSSh_eq_some.2 ⟨o, rfl, by rw [hop]; exact h⟩
  case ceq o | cne o | clt o | cge o | cltu o | cgeu o =>
    have hop : bitsOf 31 24 w = _ := bitsOf_of_holds h
    refine keepWf_eq_some.2 ⟨(?_ : decodeS w = _), hwf⟩
    unfold decodeS
    rw [hop]
    exact readSC_eq_some.2 ⟨o, rfl, by rw [hop]; exact h⟩
  case ceqi o | cnei o | clti o | cgei o =>
    have hop : bitsOf 31 24 w = _ := bitsOf_of_holds h
    refine keepWf_eq_some.2 ⟨(?_ : decodeS w = _), hwf⟩
    unfold decodeS
    rw [hop]
    exact readSCI_eq_some.2 ⟨o, rfl, by rw [hop]; exact h⟩
  case gand o | gor o | gxor o =>
    have hop : bitsOf 31 24 w = _ := bitsOf_of_holds h
    refine keepWf_eq_some.2 ⟨(?_ : decodeS w = _), hwf⟩
    unfold decodeS
    rw [hop]
    exact readSGl_eq_some.2 ⟨o, rfl, by rw [hop]; exact h⟩
  case gset o =>
    have hop : bitsOf 31 24 w = _ := bitsOf_of_holds h
    refine keepWf_eq_some.2 ⟨(?_ : decodeS w = _), hwf⟩
    unfold decodeS
    rw [hop]
    exact readSGs_eq_some.2 ⟨o, rfl, by rw [hop]; exact h⟩
  case movi o | movhi o | addil o =>
    have hop : bitsOf 31 24 w = _ := bitsOf_of_holds_snd h
    refine keepWf_eq_some.2 ⟨(?_ : decodeS w = _), hwf⟩
    unfold decodeS
    rw [hop]
    exact readSL_eq_some.2 ⟨o, rfl, by rw [hop]; exact h⟩
  case fadd o | fsub o | fmul o | fma o | fmin o | fmax o =>
    have hop : bitsOf 31 24 w = _ := bitsOf_of_holds h
    refine keepWf_eq_some.2 ⟨(?_ : decodeS w = _), hwf⟩
    unfold decodeS
    rw [hop]
    exact readSF_eq_some.2 ⟨o, rfl, by rw [hop]; exact h⟩
  case fcvt o =>
    have hop : bitsOf 31 24 w = _ := bitsOf_of_holds h
    refine keepWf_eq_some.2 ⟨(?_ : decodeS w = _), hwf⟩
    unfold decodeS
    rw [hop]
    exact readSFcvt_eq_some.2 ⟨o, rfl, by rw [hop]; exact h⟩
  case fceq o | fclt o | fcle o =>
    have hop : bitsOf 31 24 w = _ := bitsOf_of_holds h
    refine keepWf_eq_some.2 ⟨(?_ : decodeS w = _), hwf⟩
    unfold decodeS
    rw [hop]
    exact readSFc_eq_some.2 ⟨o, rfl, by rw [hop]; exact h⟩
  case lda o | stl o | amoadd o | amoswp o | amocas o | amomin o | amomax o | amoand o | amoor o | amoxor o | scld o |
      scst o | scamo o =>
    have hop : bitsOf 31 24 w = _ := bitsOf_of_holds (List.cons.inj (List.cons.inj (List.cons.inj (List.cons.inj (List.cons.inj (List.cons.inj h).2).2).2).2).2).2
    refine keepWf_eq_some.2 ⟨(?_ : decodeS w = _), hwf⟩
    unfold decodeS
    rw [hop]
    exact readSX_eq_some.2 ⟨o, rfl, by rw [hop]; exact h⟩
  case fence o | drain o =>
    have hop : bitsOf 31 24 w = _ := bitsOf_of_holds (List.cons.inj (List.cons.inj (List.cons.inj (List.cons.inj h).2).2).2).2
    refine keepWf_eq_some.2 ⟨(?_ : decodeS w = _), hwf⟩
    unfold decodeS
    rw [hop]
    exact readSFence_eq_some.2 ⟨o, rfl, by rw [hop]; exact h⟩
  case pfence o =>
    have hop : bitsOf 31 24 w = _ := bitsOf_of_holds (List.cons.inj (List.cons.inj (List.cons.inj (List.cons.inj (List.cons.inj (List.cons.inj h).2).2).2).2).2).2
    refine keepWf_eq_some.2 ⟨(?_ : decodeS w = _), hwf⟩
    unfold decodeS
    rw [hop]
    exact readSPf_eq_some.2 ⟨o, rfl, by rw [hop]; exact h⟩
  case br o | jal o =>
    have hop : bitsOf 31 24 w = _ := bitsOf_of_holds h
    refine keepWf_eq_some.2 ⟨(?_ : decodeS w = _), hwf⟩
    unfold decodeS
    rw [hop]
    exact readSB_eq_some.2 ⟨o, rfl, by rw [hop]; exact h⟩
  case jr o =>
    have hop : bitsOf 31 24 w = _ := bitsOf_of_holds h
    refine keepWf_eq_some.2 ⟨(?_ : decodeS w = _), hwf⟩
    unfold decodeS
    rw [hop]
    exact readSJr_eq_some.2 ⟨o, rfl, by rw [hop]; exact h⟩
  case loop o | movcw o | mark o =>
    have hop : bitsOf 31 24 w = _ := bitsOf_of_holds h
    refine keepWf_eq_some.2 ⟨(?_ : decodeS w = _), hwf⟩
    unfold decodeS
    rw [hop]
    exact readSLoop_eq_some.2 ⟨o, rfl, by rw [hop]; exact h⟩
  case trap o =>
    have hop : bitsOf 31 24 w = _ := bitsOf_of_holds h
    refine keepWf_eq_some.2 ⟨(?_ : decodeS w = _), hwf⟩
    unfold decodeS
    rw [hop]
    exact readSTrap_eq_some.2 ⟨o, rfl, by rw [hop]; exact h⟩
  case ychk o =>
    have hop : bitsOf 31 24 w = _ := bitsOf_of_holds h
    refine keepWf_eq_some.2 ⟨(?_ : decodeS w = _), hwf⟩
    unfold decodeS
    rw [hop]
    exact readSYc_eq_some.2 ⟨o, rfl, by rw [hop]; exact h⟩
  case evsig o =>
    have hop : bitsOf 31 24 w = _ := bitsOf_of_holds h
    refine keepWf_eq_some.2 ⟨(?_ : decodeS w = _), hwf⟩
    unfold decodeS
    rw [hop]
    exact readSEv_eq_some.2 ⟨o, rfl, by rw [hop]; exact h⟩
  case movc o =>
    have hop : bitsOf 31 24 w = _ := bitsOf_of_holds h
    refine keepWf_eq_some.2 ⟨(?_ : decodeS w = _), hwf⟩
    unfold decodeS
    rw [hop]
    exact readSMovc_eq_some.2 ⟨o, rfl, by rw [hop]; exact h⟩
  case xsa o | xsb o =>
    have hop : bitsOf 31 24 w = _ := bitsOf_of_holds h
    refine keepWf_eq_some.2 ⟨(?_ : decodeS w = _), hwf⟩
    unfold decodeS
    rw [hop]
    exact readSXv_eq_some.2 ⟨o, rfl, by rw [hop]; exact h⟩
  case xsh o | xsj o | xsy o =>
    have hop : bitsOf 31 24 w = _ := bitsOf_of_holds h
    refine keepWf_eq_some.2 ⟨(?_ : decodeS w = _), hwf⟩
    unfold decodeS
    rw [hop]
    exact readSXh_eq_some.2 ⟨o, rfl, by rw [hop]; exact h⟩
  case bar o | bara o | barw o | bari o =>
    have hop : bitsOf 31 24 w = _ := bitsOf_of_holds h
    refine keepWf_eq_some.2 ⟨(?_ : decodeS w = _), hwf⟩
    unfold decodeS
    rw [hop]
    exact readSBar_eq_some.2 ⟨o, rfl, by rw [hop]; exact h⟩
  case garm o =>
    have hop : bitsOf 31 24 w = _ := bitsOf_of_holds h
    refine keepWf_eq_some.2 ⟨(?_ : decodeS w = _), hwf⟩
    unfold decodeS
    rw [hop]
    exact readSGarm_eq_some.2 ⟨o, rfl, by rw [hop]; exact h⟩
  case hirq o =>
    have hop : bitsOf 31 24 w = _ := bitsOf_of_holds h
    refine keepWf_eq_some.2 ⟨(?_ : decodeS w = _), hwf⟩
    unfold decodeS
    rw [hop]
    exact readSHirq_eq_some.2 ⟨o, rfl, by rw [hop]; exact h⟩
  case pflip o =>
    have hop : bitsOf 31 24 w = _ := bitsOf_of_holds h
    refine keepWf_eq_some.2 ⟨(?_ : decodeS w = _), hwf⟩
    unfold decodeS
    rw [hop]
    exact readSD_eq_some.2 ⟨o, rfl, by rw [hop]; exact h⟩
  case bkpt o =>
    have hop : bitsOf 31 24 w = _ := bitsOf_of_holds h
    refine keepWf_eq_some.2 ⟨(?_ : decodeS w = _), hwf⟩
    unfold decodeS
    rw [hop]
    exact readSBk_eq_some.2 ⟨o, rfl, by rw [hop]; exact h⟩
  case kend o | sysord o | evadd o | claim o | release o | gstat o | notify o =>
    have hop : bitsOf 31 24 w = _ := bitsOf_of_holds h
    have hsvc : w % 512 = _ := mod_of_holds (n := 9) (fieldsSR2 0x89 0 o).dropLast h
    refine keepWf_eq_some.2 ⟨(?_ : decodeS w = _), hwf⟩
    unfold decodeS
    rw [hop, hsvc]
    exact readSR2_eq_some.2 ⟨o, rfl, by rw [hop]; exact h⟩
  case sysc o =>
    have hop : bitsOf 31 24 w = _ := bitsOf_of_holds h
    have hsvc : w % 512 = o.svc.toNat := mod_of_holds (n := 9) (fieldsSSvc 0x89 o).dropLast h
    have h7 : 7 ≤ o.svc.toNat := of_decide_eq_true hwf
    have hread : readSSvc .sysc w = some (.sysc o) := readSSvc_eq_some.2 ⟨o, rfl, by rw [hop]; exact h⟩
    refine keepWf_eq_some.2 ⟨(?_ : decodeS w = _), hwf⟩
    unfold decodeS
    rw [hop]
    simp only
    split
    case h_8 => exact hread
    all_goals omega
  all_goals first
    | exact absurd hs (Nat.succ_ne_zero _)
    | exact absurd hs (vector_slot_pos _).ne'
    | exact absurd hs (Nat.lt_trans Nat.two_pos (copy_slot_gt _)).ne'

theorem decodeSlot_vector_of_isWordOf {w : Nat} {i : Instr} (h : IsWordOf w i) (hwf : i.wf = true) (h0 : ¬ i.slot = 0)
    (h2 : i.slot ≤ 2) : decodeSlot i.slot w = some i := by
  cases i
  case vnop o =>
    have hop : bitsOf 30 24 w = _ := bitsOf_of_holds_snd h
    refine decodeSlot_of_decodeV ?_ hwf
    unfold decodeV
    rw [hop]
    exact readV0_eq_some.2 ⟨o, rfl, rfl, by rw [hop]; exact h⟩
  case vadd o | vsub o | vmul o | vfma o | vfms o | vmin o | vmax o | vsqd o | vmulh o | vdot4 o | vand o | vor o |
      vxor o | vshl o | vshr o | vsra o | vsel o =>
    have hop : bitsOf 30 24 w = _ := bitsOf_of_holds_snd h
    refine decodeSlot_of_decodeV ?_ hwf
    unfold decodeV
    rw [hop]
    exact readV3_eq_some.2 ⟨o, rfl, rfl, by rw [hop]; exact h⟩
  case vabs o | vneg o | vexp2 o | vlog2 o | vrcp o | vrsq o | vsigm o | vtanh o | vrsum o | vrmax o | vrmin o |
      vscan o | vamax o | vmov o | vxs o | vxab o =>
    have hop : bitsOf 30 24 w = _ := bitsOf_of_holds_snd h
    refine decodeSlot_of_decodeV ?_ hwf
    unfold decodeV
    rw [hop]
    exact readV2_eq_some.2 ⟨o, rfl, rfl, by rw [hop]; exact h⟩
  case vceq o | vcne o | vclt o | vcle o =>
    have hop : bitsOf 30 24 w = _ := bitsOf_of_holds_snd h
    refine decodeSlot_of_decodeV ?_ hwf
    unfold decodeV
    rw [hop]
    exact readVC_eq_some.2 ⟨o, rfl, rfl, by rw [hop]; exact h⟩
  case kand o | kor o | kxor o =>
    have hop : bitsOf 30 24 w = _ := bitsOf_of_holds_snd h
    refine decodeSlot_of_decodeV ?_ hwf
    unfold decodeV
    rw [hop]
    exact readVK_eq_some.2 ⟨o, rfl, rfl, by rw [hop]; exact h⟩
  case knot o =>
    have hop : bitsOf 30 24 w = _ := bitsOf_of_holds_snd h
    refine decodeSlot_of_decodeV ?_ hwf
    unfold decodeV
    rw [hop]
    exact readVK1_eq_some.2 ⟨o, rfl, rfl, by rw [hop]; exact h⟩
  case kpop o =>
    have hop : bitsOf 30 24 w = _ := bitsOf_of_holds_snd h
    refine decodeSlot_of_decodeV ?_ hwf
    unfold decodeV
    rw [hop]
    exact readVKp_eq_some.2 ⟨o, rfl, rfl, by rw [hop]; exact h⟩
  case vcvt o =>
    have hop : bitsOf 30 24 w = _ := bitsOf_of_holds_snd h
    refine decodeSlot_of_decodeV ?_ hwf
    unfold decodeV
    rw [hop]
    exact readVCv_eq_some.2 ⟨o, rfl, rfl, by rw [hop]; exact h⟩
  case vqblk o =>
    have hop : bitsOf 30 24 w = _ := bitsOf_of_holds_snd h
    refine decodeSlot_of_decodeV ?_ hwf
    unfold decodeV
    rw [hop]
    exact readVQb_eq_some.2 ⟨o, rfl, rfl, by rw [hop]; exact h⟩
  case vdqblk o =>
    have hop : bitsOf 30 24 w = _ := bitsOf_of_holds_snd h
    refine decodeSlot_of_decodeV ?_ hwf
    unfold decodeV
    rw [hop]
    exact readVDq_eq_some.2 ⟨o, rfl, rfl, by rw [hop]; exact h⟩
  case vrnd o =>
    have hop : bitsOf 30 24 w = _ := bitsOf_of_holds_snd h
    refine decodeSlot_of_decodeV ?_ hwf
    unfold decodeV
    rw [hop]
    exact readVRn_eq_some.2 ⟨o, rfl, rfl, by rw [hop]; exact h⟩
  case vsq o =>
    have hop : bitsOf 30 24 w = _ := bitsOf_of_holds_snd h
    refine decodeSlot_of_decodeV ?_ hwf
    unfold decodeV
    rw [hop]
    exact readVSq_eq_some.2 ⟨o, rfl, rfl, by rw [hop]; exact h⟩
  case vspl o | viota o =>
    have hop : bitsOf 30 24 w = _ := bitsOf_of_holds_snd h
    refine decodeSlot_of_decodeV ?_ hwf
    unfold decodeV
    rw [hop]
    exact readVB1_eq_some.2 ⟨o, rfl, rfl, by rw [hop]; exact h⟩
  case vtag o =>
    have hop : bitsOf 30 24 w = _ := bitsOf_of_holds_snd h
    refine decodeSlot_of_decodeV ?_ hwf
    unfold decodeV
    rw [hop]
    exact readVTg_eq_some.2 ⟨o, rfl, rfl, by rw [hop]; exact h⟩
  all_goals first
    | exact absurd rfl h0
    | exact absurd h2 (Nat.not_le.2 (Nat.le_add_left 3 _))
    | exact absurd h2 (copy_slot_gt _).not_ge

theorem decodeSlot_of_isWordOf {w : Nat} {i : Instr} (h : IsWordOf w i) (hwf : i.wf = true) (hs : i.slot < 8) :
    decodeSlot i.slot w = some i := by
  by_cases h0 : i.slot = 0
  · exact decodeSlot_scalar_of_isWordOf h hwf h0
  by_cases h2 : i.slot ≤ 2
  · exact decodeSlot_vector_of_isWordOf h hwf h0 h2
  cases i
  case xprm o =>
    have hop : bitsOf 31 24 w = _ := bitsOf_of_holds h
    refine keepWf_eq_some.2 ⟨(?_ : decodeX w = _), hwf⟩
    unfold decodeX
    rw [hop]
    exact readXP_eq_some.2 ⟨o, rfl, by rw [hop]; exact h⟩
  case xzip o | xuzp o =>
    have hop : bitsOf 31 24 w = _ := bitsOf_of_holds h
    refine keepWf_eq_some.2 ⟨(?_ : decodeX w = _), hwf⟩
    unfold decodeX
    rw [hop]
    exact readXZ_eq_some.2 ⟨o, rfl, by rw [hop]; exact h⟩
  case xcmp o | xexp o =>
    have hop : bitsOf 31 24 w = _ := bitsOf_of_holds h
    refine keepWf_eq_some.2 ⟨(?_ : decodeX w = _), hwf⟩
    unfold decodeX
    rw [hop]
    exact readXC_eq_some.2 ⟨o, rfl, by rw [hop]; exact h⟩
  case nmap o =>
    have hop : bitsOf 31 24 w = _ := bitsOf_of_holds h
    refine keepWf_eq_some.2 ⟨(?_ : decodeN w = _), hwf⟩
    unfold decodeN
    rw [hop]
    exact readNM_eq_some.2 ⟨o, rfl, by rw [hop]; exact h⟩
  case nmapx o =>
    have hop : bitsOf 31 24 w = _ := bitsOf_of_holds h
    refine keepWf_eq_some.2 ⟨(?_ : decodeN w = _), hwf⟩
    unfold decodeN
    rw [hop]
    exact readNMx_eq_some.2 ⟨o, rfl, by rw [hop]; exact h⟩
  case npld o =>
    have hop : bitsOf 31 24 w = _ := bitsOf_of_holds h
    refine keepWf_eq_some.2 ⟨(?_ : decodeN w = _), hwf⟩
    unfold decodeN
    rw [hop]
    exact readNP_eq_some.2 ⟨o, rfl, by rw [hop]; exact h⟩
  case nmov o =>
    have hop : bitsOf 31 24 w = _ := bitsOf_of_holds h
    refine keepWf_eq_some.2 ⟨(?_ : decodeN w = _), hwf⟩
    unfold decodeN
    rw [hop]
    exact readNV_eq_some.2 ⟨o, rfl, by rw [hop]; exact h⟩
  case nxs o =>
    have hop : bitsOf 31 24 w = _ := bitsOf_of_holds h
    refine keepWf_eq_some.2 ⟨(?_ : decodeN w = _), hwf⟩
    unfold decodeN
    rw [hop]
    exact readNX_eq_some.2 ⟨o, rfl, by rw [hop]; exact h⟩
  case nli o =>
    have hop : bitsOf 31 24 w = _ := bitsOf_of_holds h
    refine keepWf_eq_some.2 ⟨(?_ : decodeN w = _), hwf⟩
    unfold decodeN
    rw [hop]
    exact readNL_eq_some.2 ⟨o, rfl, by rw [hop]; exact h⟩
  case mma o | mmaz o | mconv o =>
    have hop : bitsOf 63 56 w = _ := bitsOf_of_holds h
    refine keepWf_eq_some.2 ⟨(?_ : decodeM w = _), hwf⟩
    unfold decodeM
    rw [hop]
    exact readMM_eq_some.2 ⟨o, rfl, by rw [hop]; exact h⟩
  case mzero o =>
    have hop : bitsOf 63 56 w = _ := bitsOf_of_holds h
    refine keepWf_eq_some.2 ⟨(?_ : decodeM w = _), hwf⟩
    unfold decodeM
    rw [hop]
    exact readMZ_eq_some.2 ⟨o, rfl, by rw [hop]; exact h⟩
  case mldz o =>
    have hop : bitsOf 63 56 w = _ := bitsOf_of_holds h
    refine keepWf_eq_some.2 ⟨(?_ : decodeM w = _), hwf⟩
    unfold decodeM
    rw [hop]
    exact readML_eq_some.2 ⟨o, rfl, by rw [hop]; exact h⟩
  case mstz o =>
    have hop : bitsOf 63 56 w = _ := bitsOf_of_holds h
    refine keepWf_eq_some.2 ⟨(?_ : decodeM w = _), hwf⟩
    unfold decodeM
    rw [hop]
    exact readMS_eq_some.2 ⟨o, rfl, by rw [hop]; exact h⟩
  case mtag o =>
    have hop : bitsOf 63 56 w = _ := bitsOf_of_holds h
    refine keepWf_eq_some.2 ⟨(?_ : decodeM w = _), hwf⟩
    unfold decodeM
    rw [hop]
    exact readMT_eq_some.2 ⟨o, rfl, by rw [hop]; exact h⟩
  case mskp o =>
    have hop : bitsOf 63 56 w = _ := bitsOf_of_holds h
    refine keepWf_eq_some.2 ⟨(?_ : decodeM w = _), hwf⟩
    unfold decodeM
    rw [hop]
    exact readMK_eq_some.2 ⟨o, rfl, by rw [hop]; exact h⟩
  case mwait o =>
    have hop : bitsOf 63 56 w = _ := bitsOf_of_holds h
    refine keepWf_eq_some.2 ⟨(?_ : decodeM w = _), hwf⟩
    unfold decodeM
    rw [hop]
    exact readMW_eq_some.2 ⟨o, rfl, by rw [hop]; exact h⟩
  case tacq o | trel o | trst o =>
    have hop : bitsOf 63 56 w = _ := bitsOf_of_holds h
    refine keepWf_eq_some.2 ⟨(?_ : decodeM w = _), hwf⟩
    unfold decodeM
    rw [hop]
    exact readT0_eq_some.2 ⟨o, rfl, by rw [hop]; exact h⟩
  case tldw o | tcap o =>
    have hop : bitsOf 63 56 w = _ := bitsOf_of_holds h
    refine keepWf_eq_some.2 ⟨(?_ : decodeM w = _), hwf⟩
    unfold decodeM
    rw [hop]
    exact readT1_eq_some.2 ⟨o, rfl, by rw [hop]; exact h⟩
  case tlnc o =>
    have hop : bitsOf 63 56 w = _ := bitsOf_of_holds h
    refine keepWf_eq_some.2 ⟨(?_ : decodeM w = _), hwf⟩
    unfold decodeM
    rw [hop]
    exact readTL_eq_some.2 ⟨o, rfl, by rw [hop]; exact h⟩
  case cpy o =>
    have hop : bitsOf 63 56 w = _ := bitsOf_of_holds h
    refine decodeSlot_of_decodeC ?_ hwf
    unfold decodeC
    rw [hop]
    exact readCC_eq_some.2 ⟨o, rfl, rfl, by rw [hop]; exact h⟩
  case cpys o =>
    have hop : bitsOf 63 56 w = _ := bitsOf_of_holds h
    refine decodeSlot_of_decodeC ?_ hwf
    unfold decodeC
    rw [hop]
    exact readCS_eq_some.2 ⟨o, rfl, rfl, by rw [hop]; exact h⟩
  case cpyt o | cpyw o | ldblk o =>
    have hop : bitsOf 63 56 w = _ := bitsOf_of_holds h
    refine decodeSlot_of_decodeC ?_ hwf
    unfold decodeC
    rw [hop]
    exact readCT_eq_some.2 ⟨o, rfl, rfl, by rw [hop]; exact h⟩
  case evblk o =>
    have hop : bitsOf 63 56 w = _ := bitsOf_of_holds h
    refine decodeSlot_of_decodeC ?_ hwf
    unfold decodeC
    rw [hop]
    exact readCE_eq_some.2 ⟨o, rfl, rfl, by rw [hop]; exact h⟩
  case bind o =>
    have hop : bitsOf 63 56 w = _ := bitsOf_of_holds h
    refine decodeSlot_of_decodeC ?_ hwf
    unfold decodeC
    rw [hop]
    exact readCBd_eq_some.2 ⟨o, rfl, rfl, by rw [hop]; exact h⟩
  case unbd o =>
    have hop : bitsOf 63 56 w = _ := bitsOf_of_holds h
    refine decodeSlot_of_decodeC ?_ hwf
    unfold decodeC
    rw [hop]
    exact readCU_eq_some.2 ⟨o, rfl, rfl, by rw [hop]; exact h⟩
  case gthr o | sctr o =>
    have hop : bitsOf 63 56 w = _ := bitsOf_of_holds h
    refine decodeSlot_of_decodeC ?_ hwf
    unfold decodeC
    rw [hop]
    exact readCG_eq_some.2 ⟨o, rfl, rfl, by rw [hop]; exact h⟩
  case cwait o =>
    have hop : bitsOf 63 56 w = _ := bitsOf_of_holds h
    refine decodeSlot_of_decodeC ?_ hwf
    unfold decodeC
    rw [hop]
    exact readCW_eq_some.2 ⟨o, rfl, rfl, by rw [hop]; exact h⟩
  case cflag o =>
    have hop : bitsOf 63 56 w = _ := bitsOf_of_holds h
    refine decodeSlot_of_decodeC ?_ hwf
    unfold decodeC
    rw [hop]
    exact readCF_eq_some.2 ⟨o, rfl, rfl, by rw [hop]; exact h⟩
  case csig o =>
    have hop : bitsOf 63 56 w = _ := bitsOf_of_holds h
    refine decodeSlot_of_decodeC ?_ hwf
    unfold decodeC
    rw [hop]
    exact readCSg_eq_some.2 ⟨o, rfl, rfl, by rw [hop]; exact h⟩
  case coll o =>
    have hop : bitsOf 63 56 w = _ := bitsOf_of_holds h
    refine decodeSlot_of_decodeC ?_ hwf
    unfold decodeC
    rw [hop]
    exact readCL_eq_some.2 ⟨o, rfl, rfl, by rw [hop]; exact h⟩
  case hadd o =>
    have hop : bitsOf 63 56 w = _ := bitsOf_of_holds h
    refine decodeSlot_of_decodeC ?_ hwf
    unfold decodeC
    rw [hop]
    exact readCH_eq_some.2 ⟨o, rfl, rfl, by rw [hop]; exact h⟩
  case hmov o =>
    have hop : bitsOf 63 56 w = _ := bitsOf_of_holds h
    refine decodeSlot_of_decodeC ?_ hwf
    unfold decodeC
    rw [hop]
    exact readCM_eq_some.2 ⟨o, rfl, rfl, by rw [hop]; exact h⟩
  case hli o =>
    have hop : bitsOf 63 56 w = _ := bitsOf_of_holds h
    refine decodeSlot_of_decodeC ?_ hwf
    unfold decodeC
    rw [hop]
    exact readCI_eq_some.2 ⟨o, rfl, rfl, by rw [hop]; exact h⟩
  case hxs o =>
    have hop : bitsOf 63 56 w = _ := bitsOf_of_holds h
    refine decodeSlot_of_decodeC ?_ hwf
    unfold decodeC
    rw [hop]
    exact readCX_eq_some.2 ⟨o, rfl, rfl, by rw [hop]; exact h⟩
  case xpldA o =>
    have hop : bitsOf 31 24 w = _ := bitsOf_of_holds h
    refine keepWf_eq_some.2 ⟨(?_ : decodeX w = _), hwf⟩
    unfold decodeX
    rw [hop, bitOf_of_holds_XL (df := false) h]
    exact readXL_eq_some.2 ⟨o, rfl, by rw [hop]; exact h⟩
  case xpldB o =>
    have hop : bitsOf 31 24 w = _ := bitsOf_of_holds h
    refine keepWf_eq_some.2 ⟨(?_ : decodeX w = _), hwf⟩
    unfold decodeX
    rw [hop, bitOf_of_holds_XL (df := true) h]
    exact readXL_eq_some.2 ⟨o, rfl, by rw [hop]; exact h⟩
  all_goals first
    | exact absurd rfl h0
    | exact absurd hs (Nat.lt_irrefl 8)
    | exact absurd (vector_slot_le _) h2

/-! ### Words of every slot -/

/-- Packing the fields that a word holds gives the word back: every bit of it is in one field. -/
theorem pack_of_holds {w : Nat} {fs : List (Nat × Nat)} (h : Holds w fs) (hw : w < 2 ^ (fs.map Prod.snd).sum) : pack fs = w := by
  have hp := pack_unpack (fs.map Prod.snd) w hw
  rwa [show unpack (fs.map Prod.snd) w = fs.map Prod.fst from h, ← List.zip_of_prod rfl rfl] at hp

theorem isWordOf_encode (i : Instr) : IsWordOf i.encode i := unpack_pack (Laws.Encoding.statement i).1

/-- What a word that decodes in a slot is (R38, R39). -/
theorem decodeSlot_eq_some {k w : Nat} {i : Instr} (h : decodeSlot k w = some i) :
    i.slot = k ∧ i.wf = true ∧ IsWordOf w i ∧ i.bits = 32 * slotWords k w := by
  obtain ⟨hd, hwf⟩ := keepWf_eq_some.1 h
  revert hd
  split <;> intro hd
  · obtain ⟨hs, hh, hb⟩ := isWordOf_of_decodeS hd
    exact ⟨hs, hwf, hh, hb⟩
  · obtain ⟨hs, hh, hb⟩ := isWordOf_of_decodeV hd
    exact ⟨hs, hwf, hh, hb⟩
  · obtain ⟨hs, hh, hb⟩ := isWordOf_of_decodeV hd
    exact ⟨hs, hwf, hh, hb⟩
  · obtain ⟨hs, hh, hb⟩ := isWordOf_of_decodeM hd
    exact ⟨hs, hwf, hh, hb⟩
  · obtain ⟨hs, hh, hb⟩ := isWordOf_of_decodeC hd
    exact ⟨hs, hwf, hh, hb⟩
  · obtain ⟨hs, hh, hb⟩ := isWordOf_of_decodeC hd
    exact ⟨hs, hwf, hh, hb⟩
  · obtain ⟨hs, hh, hb⟩ := isWordOf_of_decodeX hd
    exact ⟨hs, hwf, hh, hb⟩
  · obtain ⟨hs, hh, hb⟩ := isWordOf_of_decodeN hd
    exact ⟨hs, hwf, hh, hb⟩
  · cases hd

/-- Settles O6: the word of an instruction holds its fields, and a word that holds the fields of an instruction decodes to it. -/
theorem decodeEncode : Obligations.DecodeEncode := by
  unfold Obligations.DecodeEncode
  exact fun i hwf hs => decodeSlot_of_isWordOf (isWordOf_encode i) hwf hs

/-- Settles O7: a word that decodes holds the fields of its instruction, which packed give the word. -/
theorem encodeDecode : Obligations.EncodeDecode := by
  unfold Obligations.EncodeDecode
  intro k w i h
  obtain ⟨hs, hwf, hh, -⟩ := decodeSlot_eq_some h
  exact ⟨hs, hwf, pack_of_holds hh⟩

/-- Settles O8: each word is read field by field. -/
theorem wordsDecode : Obligations.WordsDecode := by
  unfold Obligations.WordsDecode
  decide

/-! ### The bytes of a bundle with one instruction -/

theorem word32_leBytes {w : Nat} (l : List Nat) : word32 (leBytes 4 w ++ l) = w % 2 ^ 32 := by
  simp only [leBytes, word32, List.cons_append, List.getD_cons_zero, List.getD_cons_succ]
  omega

theorem leBytes_add (m n w : Nat) : leBytes (m + n) w = leBytes m w ++ leBytes n (w / 256 ^ m) := by
  induction m generalizing w with
  | zero => simp [leBytes]
  | succ m ih => rw [Nat.add_right_comm, leBytes, ih, leBytes, List.cons_append, Nat.div_div_eq_div_mul, Nat.pow_succ']

theorem drop_leBytes (n w : Nat) (l : List Nat) : (leBytes n w ++ l).drop n = l := by
  induction n generalizing w with
  | zero => rfl
  | succ n ih => exact ih _

/-- The 32-bit words of a bundle with one slot word: the header, the two halves of the word, and nothing (R16, R18). -/
theorem words32_oneSlotBytes (k w : Nat) : ∃ l, words32 13 (oneSlotBytes k 8 w) =
    encodeHeader (2 ^ k) false false true 0 % 2 ^ 32 :: w % 2 ^ 32 :: w / 2 ^ 32 % 2 ^ 32 :: l := by
  have h8 : leBytes 8 w = leBytes 4 w ++ leBytes 4 (w / 2 ^ 32) := leBytes_add 4 4 w
  have hlast : word32 (leBytes 4 (w / 2 ^ 32)) = w / 2 ^ 32 % 2 ^ 32 := by
    rw [← List.append_nil (leBytes 4 _), word32_leBytes]
  exact ⟨_, by simp only [oneSlotBytes, h8, words32, word32_leBytes, drop_leBytes, hlast]; rfl⟩

theorem slotWords_mod (k w : Nat) : slotWords k (w % 2 ^ 32) = slotWords k w := by
  have hop : bitsOf 31 24 (w % 2 ^ 32) = bitsOf 31 24 w := by
    simp only [bitsOf]
    omega
  rw [slotWords, hop, slotWords]

theorem slotWords_one_or_two (k w : Nat) : slotWords k w = 1 ∨ slotWords k w = 2 := by
  unfold slotWords
  split <;> split <;> simp

theorem splitWords_cons_of_not {j mask : Nat} (h : bitOf j mask = false) (ks ws : List Nat) :
    splitWords mask (j :: ks) ws = splitWords mask ks ws := by
  conv => lhs; unfold splitWords
  exact if_neg (Bool.eq_false_iff.1 h)

theorem splitWords_skip {k : Nat} (ws : List Nat) : ∀ ks : List Nat, k ∉ ks → splitWords (2 ^ k) ks ws = ([], 0)
  | [], _ => rfl
  | j :: ks, hk => by
    obtain ⟨hj, hks⟩ := not_or.1 (mt List.mem_cons.2 hk)
    rw [splitWords_cons_of_not (Nat.testBit_two_pow_of_ne hj)]
    exact splitWords_skip ws ks hks

/-- The words of a bundle with one slot are that slot's word, of one or of two 32-bit words (R17). -/
theorem splitWords_one {k a b : Nat} (l : List Nat) (post : List Nat) (hpost : k ∉ post) : ∀ pre : List Nat, k ∉ pre →
    splitWords (2 ^ k) (pre ++ k :: post) (a :: b :: l) =
      ([(k, if slotWords k a = 2 then a + 2 ^ 32 * b else a)], 4 * slotWords k a)
  | [], _ => by
    have hbit : bitOf k (2 ^ k) = true := Nat.testBit_two_pow_self
    rw [List.nil_append]
    unfold splitWords
    rcases slotWords_one_or_two k a with h | h <;> simp [hbit, h, splitWords_skip _ _ hpost]
  | j :: pre, hk => by
    obtain ⟨hj, hpre⟩ := not_or.1 (mt List.mem_cons.2 hk)
    rw [List.cons_append, splitWords_cons_of_not (Nat.testBit_two_pow_of_ne hj)]
    exact splitWords_one l post hpost pre hpre

/-- The header of a bundle with one slot (R20). -/
theorem readHeader_one {k : Nat} (hk : k < 8) : readHeader (encodeHeader (2 ^ k) false false true 0 % 2 ^ 32) =
    { mask := 2 ^ k, dbg := false, ckp := false, cap := true, idle := 0, rsv := false } := by
  interval_cases k <;> decide

/-- The word of an instruction, put together from its 32-bit words (R17, R18). -/
theorem word_of_halves {k w : Nat} (hw : w < 2 ^ (32 * slotWords k w)) :
    (if slotWords k w = 2 then w % 2 ^ 32 + 2 ^ 32 * (w / 2 ^ 32 % 2 ^ 32) else w % 2 ^ 32) = w := by
  rcases slotWords_one_or_two k w with h | h <;> rw [h] at hw ⊢ <;> simp only [reduceIte, Nat.reduceEqDiff] at hw ⊢ <;> omega

theorem splitBundle_one {k w : Nat} (hk : k < 8) (hw : w < 2 ^ (32 * slotWords k w)) :
    splitBundle (oneSlotBytes k 8 w) =
      { hdr := { mask := 2 ^ k, dbg := false, ckp := false, cap := true, idle := 0, rsv := false }
        words := [(k, w)], len := 4 + 4 * slotWords k w } := by
  obtain ⟨l, hl⟩ := words32_oneSlotBytes k w
  have hsplit : [0, 1, 2, 3, 4, 5, 6, 7] = List.range k ++ k :: List.range' (k + 1) (7 - k) := by
    interval_cases k <;> rfl
  have hwords := splitWords_one (a := w % 2 ^ 32) (b := w / 2 ^ 32 % 2 ^ 32) l (List.range' (k + 1) (7 - k)) (by simp)
    (List.range k) List.not_mem_range_self
  rw [slotWords_mod, word_of_halves hw, ← hsplit] at hwords
  rw [splitBundle, hl]
  simp only [List.headD_cons, List.tail_cons, readHeader_one hk, hwords]

/-- Settles O9: the bundle splits into the word of its instruction, which decodes to it. -/
theorem oneInstructionBundle : Obligations.OneInstructionBundle := by
  unfold Obligations.OneInstructionBundle
  intro i hwf hs
  have hd : decodeSlot i.slot i.encode = some i := decodeEncode i hwf hs
  have hbits : i.bits = 32 * slotWords i.slot i.encode := (decodeSlot_eq_some hd).2.2.2
  have hlt : i.encode < 2 ^ i.bits := pack_lt (Laws.Encoding.statement i).1
  rw [splitBundle_one hs (hbits ▸ hlt)]
  refine ⟨?_, ?_, rfl⟩
  · simp only [decodeWords, decodeWord, hd]
  · simp only [hbits]
    omega

end Sys2Proof.Proofs.Coding
end

section
/-! Proofs. The step at issue (R51, R266): what comes before the bundle at the program counter, the first check that fails, and
the run of a bundle that passes them. -/

namespace Sys2Proof.Proofs.Step
open Sys2Proof Sys2Proof.Machine

/-! ### The turn of a core that is about to issue -/

theorem running_iff (k : Core) : k.running = true ↔ (k.mode = .run ∨ k.mode = .handler) ∧ k.dbg.stopped = false ∧ k.wpgt = none := by
  simp [Core.running, and_assoc]

/-- Nothing stands before the bundle at the program counter: the turn brings it to issue. -/
theorem coreTurn_of_atIssue {s : State} (h : s.AtIssue) : s.coreTurn exec = s.issueBundle exec := by
  obtain ⟨hmode, hstop, -⟩ := (running_iff _).1 h.running
  have hsave : (s.core.mode == .saving) = false := by rcases hmode with hm | hm <;> rw [hm] <;> rfl
  have hready : decide (s.now < s.core.readyAt) = false := decide_eq_false h.ready.not_gt
  simp [State.coreTurn, hsave, hstop, h.running, h.noYield, h.noHeld, hready]

theorem step_of_atIssue {s : State} (h : s.AtIssue) : step s = s.turn exec := by
  simp [step, State.stepWith, State.advance, h.memue, h.inputs, h.due, h.chores]

/-- The step of a core that is about to issue is what the bundle at the program counter does, and the passing of the turn. -/
theorem step_of_issueBundle {s t : State} (h : s.AtIssue) (ht : s.issueBundle exec = .next t) : step s = .next (s.afterTurn t) := by
  rw [step_of_atIssue h, State.turn, coreTurn_of_atIssue h, ht]
  rfl

/-! ### The checks of R51 -/

/-- A bundle that has been fetched is checked. -/
theorem issueBundle_of_fetched {s : State} {b : Bundle} (h : s.Fetched b) :
    s.issueBundle exec = match bundleCause b with
      | some c => .next (s.fetchTrap c.1 c.2)
      | none => s.issueGood exec b (decodeWords b.words).1 := by
  have hfault : s.core.fetchFault = none := by simp [Core.fetchFault, h.bundle]
  simp only [State.issueBundle, hfault, h.bundle, h.inPart, h.aligned, if_neg h.inSpace.not_ge, ne_eq, not_true_eq_false, if_false]
  rfl

theorem step_of_bundleCause {s : State} {b : Bundle} {c : Nat × Nat} (h : s.AtIssue) (hb : s.Fetched b)
    (hc : bundleCause b = some c) : step s = .next (s.afterTurn (s.fetchTrap c.1 c.2)) :=
  step_of_issueBundle h (by rw [issueBundle_of_fetched hb, hc])

/-- Settles O11: the checks are made in the order of R51, and the first that fails gives the trap. -/
theorem bundleChecksTrap : Obligations.BundleChecksTrap := by
  unfold Obligations.BundleChecksTrap
  intro s h
  refine ⟨fun hpc => step_of_issueBundle h ?_, fun hpc hspace => step_of_issueBundle h ?_, fun b hb => ⟨fun hrsv => ?_,
    fun hrsv hill => ?_, fun hrsv hleg m hm hne => ?_⟩⟩
  · simp [State.issueBundle, hpc]
  · rw [State.issueBundle, if_neg (not_not.2 hpc), if_pos hspace]
  · exact step_of_bundleCause h hb (c := (0x03, 0)) (by simp [bundleCause, hrsv])
  · exact step_of_bundleCause h hb (c := (0x01, _)) (by simp [bundleCause, hrsv, hill])
  · subst hm
    exact step_of_bundleCause h hb (c := (0x02, _)) (by simp [bundleCause, hrsv, hleg, hne])

/-! ### A bundle that passes the checks -/

theorem issueGood_of_runSlots {s t : State} {b : Bundle} {l : List Instr} (hck : s.needsCkpt l = false ∨ s.core.ckptHere = true)
    (ht : runSlots exec (slotOrder l) (s.slotState b l) = .next t) : s.issueGood exec b l = .next (s.issued t b l) := by
  have hno : (s.needsCkpt l && !s.core.ckptHere) = false := by rcases hck with h | h <;> simp [h]
  rw [State.slotState] at ht
  simp only [State.issueGood, hno, ht]
  rfl

/-- Settles O10: the turn brings the bundle to issue, no check fails, and its slots run. -/
theorem stepRunsBundle : Obligations.StepRunsBundle := by
  unfold Obligations.StepRunsBundle
  intro s t b h hb hcause hck hrun
  refine step_of_issueBundle h ?_
  rw [issueBundle_of_fetched hb, hcause]
  exact issueGood_of_runSlots hck hrun

/-- Settles O15: the reset state is the record of the reset values. -/
theorem resetState : Obligations.ResetState := by
  unfold Obligations.ResetState
  exact ⟨fun _ => rfl, fun _ => ⟨rfl, rfl, rfl, rfl⟩, rfl, rfl, rfl, rfl, rfl, rfl, rfl, rfl, rfl, rfl⟩

/-- Settles O16: memory lists nothing. -/
theorem memoryFormAtReset : Obligations.MemoryFormAtReset := reset_memory_wf

end Sys2Proof.Proofs.Step
end

section
/-! Proofs. Structural conflicts (R48): each condition reports every slot that meets it. -/

namespace Sys2Proof.Proofs.Conflicts
open Sys2Proof Sys2Proof.Machine

/-! ### Bits of a mask of slots -/

theorem bitOf_or (n a b : Nat) : bitOf n (a ||| b) = (bitOf n a || bitOf n b) := Nat.testBit_or ..

/-- A bit that one element of a list sets and no element clears is set by the whole list. -/
theorem bitOf_foldl {α : Type} {f : Nat → α → Nat} {n : Nat} (hkeep : ∀ m a, bitOf n m = true → bitOf n (f m a) = true)
    {a : α} (hset : ∀ m, bitOf n (f m a) = true) {l : List α} (ha : a ∈ l) (m : Nat) : bitOf n (l.foldl f m) = true := by
  have hrest : ∀ (l : List α) (m : Nat), bitOf n m = true → bitOf n (l.foldl f m) = true := by
    intro l
    induction l with
    | nil => exact fun _ h => h
    | cons b l ih => exact fun m h => ih _ (hkeep m b h)
  induction l generalizing m with
  | nil => cases ha
  | cons b l ih =>
    rcases List.mem_cons.1 ha with rfl | ha
    · exact hrest l _ (hset m)
    · exact ih ha _

theorem bitOf_slotsOf {i : Instr} {l : List Instr} (h : i ∈ l) : bitOf i.slot (slotsOf l) = true :=
  bitOf_foldl (fun m a hm => by simp [bitOf_or, hm]) (fun m => by simp [bitOf]) h 0

theorem bitOf_slotsOf_filter {i : Instr} {l : List Instr} {p : Instr → Bool} (h : i ∈ l) (hp : p i = true) :
    bitOf i.slot (slotsOf (l.filter p)) = true :=
  bitOf_slotsOf (List.mem_filter.2 ⟨h, hp⟩)

/-! ### Two instructions that share something -/

theorem bitOf_shareSlots_head {f : Instr → List Nat} {i j : Instr} {t : List Instr} {x : Nat} (hj : j ∈ t) (hi : x ∈ f i)
    (hx : x ∈ f j) : bitOf i.slot (shareSlots f (i :: t)) = true ∧ bitOf j.slot (shareSlots f (i :: t)) = true := by
  have hmem : j ∈ t.filter (fun j => (f i).any (fun x => (f j).contains x)) :=
    List.mem_filter.2 ⟨hj, List.any_eq_true.2 ⟨x, hi, List.contains_iff_mem.2 hx⟩⟩
  have hne : (t.filter (fun j => (f i).any (fun x => (f j).contains x))).isEmpty = false :=
    List.isEmpty_eq_false_iff_exists_mem.2 ⟨j, hmem⟩
  have hbit := bitOf_slotsOf hmem
  rw [shareSlots, hne, if_neg Bool.false_ne_true]
  simp only [bitOf_or, hbit]
  simp [bitOf]

theorem bitOf_shareSlots {f : Instr → List Nat} {i j : Instr} {x : Nat} (hij : i ≠ j) (hi : x ∈ f i) (hj : x ∈ f j) :
    ∀ {l : List Instr}, i ∈ l → j ∈ l → bitOf i.slot (shareSlots f l) = true ∧ bitOf j.slot (shareSlots f l) = true
  | [], h, _ => by cases h
  | k :: t, hil, hjl => by
    rcases List.mem_cons.1 hil with rfl | hit
    · exact bitOf_shareSlots_head ((List.mem_cons.1 hjl).resolve_left hij.symm) hi hj
    rcases List.mem_cons.1 hjl with rfl | hjt
    · exact (bitOf_shareSlots_head hit hj hi).symm
    · obtain ⟨h1, h2⟩ := bitOf_shareSlots hij hi hj hit hjt
      simp [shareSlots, bitOf_or, h1, h2]

theorem add_le_sum_map {f : Instr → Nat} {i j : Instr} (hij : i ≠ j) : ∀ {l : List Instr}, i ∈ l → j ∈ l →
    f i + f j ≤ (l.map f).sum
  | [], h, _ => by cases h
  | k :: t, hi, hj => by
    have hle : ∀ a ∈ t, f a ≤ (t.map f).sum := fun a ha => List.le_sum_of_mem (List.mem_map_of_mem ha)
    rw [List.map_cons, List.sum_cons]
    rcases List.mem_cons.1 hi with rfl | hit
    · exact Nat.add_le_add_left (hle j ((List.mem_cons.1 hj).resolve_left hij.symm)) _
    rcases List.mem_cons.1 hj with rfl | hjt
    · rw [Nat.add_comm]
      exact Nat.add_le_add_left (hle i hit) _
    · exact (add_le_sum_map hij hit hjt).trans (Nat.le_add_left _ _)

theorem portReads_lt {i : Instr} {p : Nat} (h : p ∈ portReads i) : p < 6 := by
  revert h
  unfold portReads
  split
  all_goals
    simp only [List.mem_cons, List.not_mem_nil, or_false]
    grind

theorem bitOf_portSlots {i j : Instr} {p : Nat} (hij : i ≠ j) (hi : p ∈ portReads i) (hj : p ∈ portReads j) {l : List Instr}
    (hil : i ∈ l) (hjl : j ∈ l) : bitOf i.slot (portSlots l) = true ∧ bitOf j.slot (portSlots l) = true := by
  have hp : p ∈ [0, 1, 2, 3, 4, 5] := by
    have := portReads_lt hi
    simp only [List.mem_cons, List.not_mem_nil, or_false]
    omega
  have huses : ∀ {k : Instr}, k ∈ l → p ∈ portReads k → k ∈ l.filter (fun i => (portReads i).contains p) :=
    fun hk h => List.mem_filter.2 ⟨hk, List.contains_iff_mem.2 h⟩
  have hone : ∀ {k : Instr}, p ∈ portReads k → 1 ≤ ((portReads k).filter (fun x => x == p)).length :=
    fun h => List.length_pos_of_mem (List.mem_filter.2 ⟨h, beq_self_eq_true p⟩)
  have htwo : 2 ≤ ((l.filter (fun i => (portReads i).contains p)).map
      (fun i => ((portReads i).filter (fun x => x == p)).length)).sum :=
    (Nat.add_le_add (hone hi) (hone hj)).trans (add_le_sum_map (f := fun i => ((portReads i).filter (fun x => x == p)).length) hij (huses hil hi) (huses hjl hj))
  have hset : ∀ {k : Instr}, k ∈ l → p ∈ portReads k → bitOf k.slot (portSlots l) = true := fun hk h =>
    bitOf_foldl (fun m q hm => by dsimp only; split <;> simp [bitOf_or, hm])
      (fun m => by simp only [htwo, if_true, bitOf_or, bitOf_slotsOf (huses hk h), Bool.or_true]) hp 0
  exact ⟨hset hil hi, hset hjl hj⟩

/-- The bits of the union of all conditions. -/
theorem bitOf_illegalSlots {n : Nat} {l : List Instr} {cap : Bool}
    (h : bitOf n (shareSlots writeSet' l) = true ∨ bitOf n (shareSlots streamReads l) = true ∨ bitOf n (portSlots l) = true ∨
      (1536 < (l.map laneBits).sum ∧ bitOf n (slotsOf (l.filter isVector)) = true) ∨
      bitOf n (slotsOf (l.filter (fun i => isVector i && widthField i == 3))) = true ∨
      (cap = false ∧ bitOf n (slotsOf (l.filter isSC)) = true) ∨
      bitOf n (slotsOf (l.filter (fun i => match scopeField i with | some c => decide (6 ≤ c) | none => false))) = true) :
    bitOf n (illegalSlots l cap) = true := by
  simp only [illegalSlots, bitOf_or, Bool.or_eq_true]
  rcases h with h | h | h | ⟨h1, h⟩ | h | ⟨h1, h⟩ | h
  · simp [h]
  · simp [h]
  · simp [h]
  · simp [h1, h]
  · simp [h]
  · simp [h1, h]
  · exact .inr h

theorem laneBits_of_isVector {i : Instr} (h : isVector i = true) : laneBits i = 256 * 2 ^ widthField i := if_pos h

theorem bitOf_scopeSlots {words : List (Nat × Nat)} {k w : Nat} (h : (k, w) ∈ words) (hr : scopeReserved k w = true)
    (hd : decodeSlot k w = none) : bitOf k (scopeSlots words) = true :=
  bitOf_foldl (fun m p hm => by split <;> simp [bitOf_or, hm]) (fun m => by simp [hr, hd, bitOf]) h 0

/-- Settles O12: each condition is one term of the union, and its slots are those of the instructions that meet it. -/
theorem structuralConflicts : Obligations.StructuralConflicts := by
  unfold Obligations.StructuralConflicts
  intro l cap
  have hwrites : ∀ i j : Instr, i ∈ l → j ∈ l → i ≠ j → ∀ k : Nat, k ∈ writeSet i → k ∈ writeSet j → k ≠ kS 0 → k ≠ kG 0 →
      bitOf i.slot (illegalSlots l cap) = true ∧ bitOf j.slot (illegalSlots l cap) = true := by
    intro i j hi hj hij k hki hkj hs hg
    have hmem : ∀ {i : Instr}, k ∈ writeSet i → k ∈ writeSet' i := fun h => List.mem_filter.2 ⟨h, by simp [hs, hg]⟩
    obtain ⟨h1, h2⟩ := bitOf_shareSlots hij (hmem hki) (hmem hkj) hi hj
    exact ⟨bitOf_illegalSlots (.inl h1), bitOf_illegalSlots (.inl h2)⟩
  refine ⟨hwrites, fun i j hi hj hij q hqi hqj => ?_, fun o p ho hp hop hq => ?_, fun i j hi hj hij p hpi hpj => ?_,
    fun i j hi hj hij hvi hvj hw => ?_, fun i hi hv hw => ?_, fun i hi hsc hcap => ?_, fun i c hi hc h6 => ?_,
    fun words k w hm hk h6 hd => ?_⟩
  · obtain ⟨h1, h2⟩ := bitOf_shareSlots hij hqi hqj hi hj
    exact ⟨bitOf_illegalSlots (.inr (.inl h1)), bitOf_illegalSlots (.inr (.inl h2))⟩
  · have hkey : writeSet (.vsq p) = writeSet (.vsq o) := by simp only [writeSet, hq]
    exact hwrites _ _ ho hp (fun h => hop (Instr.vsq.inj h)) _ List.mem_cons_self (hkey ▸ List.mem_cons_self) (by simp [kS, kQo])
      (by simp only [kG, kQo]; omega)
  · obtain ⟨h1, h2⟩ := bitOf_portSlots hij hpi hpj hi hj
    exact ⟨bitOf_illegalSlots (.inr (.inr (.inl h1))), bitOf_illegalSlots (.inr (.inr (.inl h2)))⟩
  · have hsum := add_le_sum_map (f := laneBits) hij hi hj
    rw [laneBits_of_isVector hvi, laneBits_of_isVector hvj] at hsum
    have hlanes := Nat.lt_of_lt_of_le hw hsum
    exact ⟨bitOf_illegalSlots (.inr (.inr (.inr (.inl ⟨hlanes, bitOf_slotsOf_filter hi hvi⟩)))),
      bitOf_illegalSlots (.inr (.inr (.inr (.inl ⟨hlanes, bitOf_slotsOf_filter hj hvj⟩))))⟩
  · exact bitOf_illegalSlots (.inr (.inr (.inr (.inr (.inl (bitOf_slotsOf_filter hi (by simp [hv, hw])))))))
  · exact bitOf_illegalSlots (.inr (.inr (.inr (.inr (.inr (.inl ⟨hcap, bitOf_slotsOf_filter hi hsc⟩))))))
  · exact bitOf_illegalSlots (.inr (.inr (.inr (.inr (.inr (.inr (bitOf_slotsOf_filter hi (by simp [hc, h6]))))))))
  · refine bitOf_scopeSlots hm ?_ hd
    have hbits : decide (6 ≤ bitsOf 29 27 w) = true := decide_eq_true h6
    rcases hk with rfl | rfl <;> simp [scopeReserved, hbits]

end Sys2Proof.Proofs.Conflicts
end

section
/-! Proofs. A slot operation whose guard is false (R45): the guard of a word is a field of it, and every slot operation but the
branches and XPRM is its effect under that guard. -/

namespace Sys2Proof.Proofs.Guards
open Sys2Proof Sys2Proof.Machine Sys2Proof.Proofs.Coding

/-! ### The guard of a word (R26, R31, R33 to R37) -/

theorem guard_of_holds {w g : Nat} {n : Bool} {hi t : List (Nat × Nat)} (h : Holds w (hi ++ (g, 4) :: (n.toNat, 1) :: t)) :
    bitsOf ((t.map Prod.snd).sum + 4) ((t.map Prod.snd).sum + 1) w = g ∧ bitOf (t.map Prod.snd).sum w = n := by
  induction hi with
  | nil =>
    have hg : w / 2 ^ ((t.map Prod.snd).sum + 1) % 2 ^ 4 = g := by
      rw [Nat.add_comm]
      exact (List.cons.inj h).1
    have hn : w / 2 ^ (t.map Prod.snd).sum % 2 = n.toNat := (List.cons.inj (List.cons.inj h).2).1
    refine ⟨by rw [bitsOf, Nat.add_sub_add_left, hg], ?_⟩
    rw [bitOf, Nat.testBit_eq_decide_div_mod_eq, hn]
    cases n <;> rfl
  | cons f hi ih => exact ih (List.cons.inj h).2

theorem guard_of_holds_vector {w g : Nat} {hi t : List (Nat × Nat)} (h : Holds w (hi ++ (g, 4) :: t)) :
    bitsOf ((t.map Prod.snd).sum + 3) (t.map Prod.snd).sum w = g := by
  induction hi with
  | nil =>
    have hg : w / 2 ^ (t.map Prod.snd).sum % 2 ^ 4 = g := (List.cons.inj h).1
    rw [bitsOf, Nat.add_sub_cancel_left, hg]
  | cons f hi ih => exact ih (List.cons.inj h).2

theorem holds_of_fields {i : Instr} {fs : List (Nat × Nat)} (hf : i.fields = fs) : Holds i.encode fs := by
  rw [← hf]
  exact isWordOf_encode i

section
variable {i : Instr} {s : State} {g : BitVec 4} {n : Bool} {hi t : List (Nat × Nat)}

theorem guardOn_of_guardField {b : Bool} (hg : s.guardOf i = b) (h : guardField i = (g.toNat, n)) : s.guardOn g n = b := by
  rwa [State.guardOf, h] at hg

/-- The guard of a word of the slots S, X and N. -/
theorem guardOn_short {b : Bool} (hg : s.guardOf i = b)
    (hs : (i.slot == 0 || i.slot == 6 || i.slot == 7) = true) (hf : i.fields = hi ++ (g.toNat, 4) :: (n.toNat, 1) :: t)
    (ht : (t.map Prod.snd).sum = 19) : s.guardOn g n = b := by
  have h := guard_of_holds (holds_of_fields hf)
  rw [ht] at h
  refine guardOn_of_guardField hg ?_
  simp only [Bool.or_eq_true, beq_iff_eq] at hs
  rcases hs with (hs | hs) | hs <;> simp only [guardField, hs, h]

/-- The guard of a word of the slots M, CA and CB. -/
theorem guardOn_wide {b : Bool} (hg : s.guardOf i = b)
    (hs : 3 ≤ i.slot ∧ i.slot ≤ 5) (hf : i.fields = hi ++ (g.toNat, 4) :: (n.toNat, 1) :: t)
    (ht : (t.map Prod.snd).sum = 51) : s.guardOn g n = b := by
  have h := guard_of_holds (holds_of_fields hf)
  rw [ht] at h
  refine guardOn_of_guardField hg ?_
  obtain hs | hs | hs : i.slot = 3 ∨ i.slot = 4 ∨ i.slot = 5 := by omega
  all_goals simp only [guardField, hs, h]

/-- The guard of a vector word, which has no inversion. -/
theorem guardOn_vector {b : Bool} (hg : s.guardOf i = b)
    (hs : 1 ≤ i.slot ∧ i.slot ≤ 2) (hf : i.fields = hi ++ (g.toNat, 4) :: t) (ht : (t.map Prod.snd).sum = 20) :
    s.guardOn g false = b := by
  have h := guard_of_holds_vector (holds_of_fields hf)
  rw [ht] at h
  refine guardOn_of_guardField hg ?_
  obtain hs | hs : i.slot = 1 ∨ i.slot = 2 := by omega
  all_goals simp only [guardField, hs, h]

end

theorem vector_slot (b : Bool) : 1 ≤ (if b then 2 else 1) ∧ (if b then 2 else 1) ≤ 2 := by cases b <;> decide

theorem copy_slot (b : Bool) : 3 ≤ (if b then 5 else 4) ∧ (if b then 5 else 4) ≤ 5 := by cases b <;> decide

section
variable {s : State} {g : BitVec 4} {f : State → State}

theorem sOp_of_guard_false {n : Bool} (hg : s.guardOn g n = false) : sOp s g n f = .next s := by
  rw [sOp, hg]
  rfl

theorem vOp_of_guard_false (hg : s.guardOn g false = false) : vOp s g f = .next s := by
  rw [vOp, hg]
  rfl

theorem xnOp_of_guard_false {n : Bool} (hg : s.guardOn g n = false) : xnOp s g n f = .next s := by
  rw [xnOp, hg]
  rfl

/-! The operations that several instructions share -/

theorem ldOp_of_guard_false {o : OpSI} {n : Nat} {signed : Bool} (hg : s.guardOn o.g o.n = false) :
    ldOp s o n signed = .next s :=
  sOp_of_guard_false hg

theorem stOp_of_guard_false {o : OpSI} {n : Nat} (hg : s.guardOn o.g o.n = false) :
    stOp s o n = .next s :=
  sOp_of_guard_false hg

theorem amoOp_of_guard_false {o : OpSX} {f : Nat} (hg : s.guardOn o.g o.n = false) :
    amoOp s o f = .next s :=
  sOp_of_guard_false hg

theorem scOp_of_guard_false {o : OpSX} {f : State → Nat → State} (hg : s.guardOn o.g o.n = false) :
    scOp s o f = .next s :=
  sOp_of_guard_false hg

theorem barOp_of_guard_false {o : OpSBar} {op : Nat} (hg : s.guardOn o.g o.n = false) :
    barOp s o op = .next s :=
  sOp_of_guard_false hg

theorem xsv_of_guard_false {o : OpSXv} {b : Bool} (hg : s.guardOn o.g o.n = false) :
    xsv s o b = .next s :=
  sOp_of_guard_false hg

theorem sfOp_of_guard_false {o : OpSF} {fn : RMode → Machine.Num → Machine.Num → Machine.Num} (hg : s.guardOn o.g o.n = false) :
    sfOp s o fn = .next s :=
  sOp_of_guard_false hg

theorem sfMinMax_of_guard_false {o : OpSF} {fn : Machine.Num → Machine.Num → Machine.Num} (hg : s.guardOn o.g o.n = false) :
    sfMinMax s o fn = .next s :=
  sOp_of_guard_false hg

theorem service_of_guard_false {o : OpSR2} {refused : Bool} {f : State → State} (hg : s.guardOn o.g o.n = false) :
    service s o refused f = .next s :=
  sOp_of_guard_false hg

theorem request_of_guard_false {g : BitVec 4} {n : Bool} {scope : Nat} {f : State → State} (hg : s.guardOn g n = false) :
    request s g n scope f = .next s :=
  sOp_of_guard_false hg

theorem vArith_of_guard_false {o : OpV3} {ok : Nat → Bool} {useD : Bool} {lat : Nat → Nat} {f : Nat → Nat → Nat → Nat → Nat} (hg : s.guardOn o.g false = false) :
    vArith s o ok useD lat f = .next s :=
  vOp_of_guard_false hg

theorem vUnary_of_guard_false {o : OpV2} {ok : Nat → Bool} {lat : Nat → Nat} {f : Nat → Nat → Nat → Nat → Nat} (hg : s.guardOn o.g false = false) :
    vUnary s o ok lat f = .next s :=
  vOp_of_guard_false hg

theorem vSpecial_of_guard_false {o : OpV2} {fn : SpFn} (hg : s.guardOn o.g false = false) :
    vSpecial s o fn = .next s :=
  vUnary_of_guard_false hg

theorem vBitwise_of_guard_false {o : OpV3} {f : Nat → Nat → Nat} (hg : s.guardOn o.g false = false) :
    vBitwise s o f = .next s :=
  vOp_of_guard_false hg

theorem vCompare_of_guard_false {o : OpVC} {f : Bool × Bool → Bool} (hg : s.guardOn o.g false = false) :
    vCompare s o f = .next s :=
  vOp_of_guard_false hg

theorem vMask_of_guard_false {sl msk : Bool} {g : BitVec 4} {k j h : BitVec 3} {l : BitVec 2} {f : BitVec 256 → BitVec 256 → BitVec 256} (hg : s.guardOn g false = false) :
    vMask s sl msk g k j h l f = .next s :=
  vOp_of_guard_false hg

theorem vReduce_of_guard_false {o : OpV2} {ff : Nat → Machine.Num → Machine.Num → Machine.Num} {pre : Machine.Num → Machine.Num} {idF : Machine.Num} {fi : Nat → List Int → Int} {idI : Nat → Int} (hg : s.guardOn o.g false = false) :
    vReduce s o ff pre idF fi idI = .next s :=
  vOp_of_guard_false hg

theorem vSplat_of_guard_false {o : OpVB1} {ok : Nat → Bool} {f : Nat → Nat → Nat → Nat} (hg : s.guardOn o.g false = false) :
    vSplat s o ok f = .next s :=
  vOp_of_guard_false hg

theorem mmaOp_of_guard_false {o : OpMM} {op kind : Nat} (hg : s.guardOn o.g o.n = false) :
    mmaOp s o op kind = .next s :=
  xnOp_of_guard_false hg

end

/-- Settles O14: the guard of each word is read from its fields, and the operation of each slot runs under it. -/
theorem falseGuardNoEffect : Obligations.FalseGuardNoEffect := by
  unfold Obligations.FalseGuardNoEffect
  intro i s hs hg
  cases i
  case snop o | lexit o | eret o | yield o | wfe o | add o | sub o | mul o | mulh o | mulhu o | div o | divu o |
      rem o | remu o | and o | or o | xor o | shl o | shr o | sra o | min o | max o | minu o | maxu o | addw o |
      clz o | popc o | mov o | sel o | lea o | addi o | andi o | ori o | xori o | muli o | shli o | shri o | srai o |
      ceq o | cne o | clt o | cge o | cltu o | cgeu o | ceqi o | cnei o | clti o | cgei o | gand o | gor o | gxor o |
      gset o | fcvt o | fceq o | fclt o | fcle o | loop o | movcw o | mark o | trap o | ychk o | evsig o | movc o |
      xsh o | xsj o | xsy o | pflip o | bkpt o =>
    delta exec
    dsimp only
    exact sOp_of_guard_false (guardOn_short (hi := [_]) hg rfl rfl (by simp))
  case kend o | sysord o | evadd o | claim o | release o | gstat o | notify o | sysc o =>
    delta exec
    dsimp only
    exact service_of_guard_false (guardOn_short (hi := [_]) hg rfl rfl (by simp))
  case lnch o | garm o | hirq o =>
    delta exec
    dsimp only
    exact request_of_guard_false (guardOn_short (hi := [_]) hg rfl rfl (by simp))
  case ldB o | ldH o | ldW o | ldD o | ldsB o | ldsH o | ldsW o =>
    delta exec
    dsimp only
    exact ldOp_of_guard_false (guardOn_short (hi := [_]) hg rfl rfl (by simp))
  case stB o | stH o | stW o | stD o =>
    delta exec
    dsimp only
    exact stOp_of_guard_false (guardOn_short (hi := [_]) hg rfl rfl (by simp))
  case fadd o | fsub o | fmul o | fma o =>
    delta exec
    dsimp only
    exact sfOp_of_guard_false (guardOn_short (hi := [_]) hg rfl rfl (by simp))
  case fmin o | fmax o =>
    delta exec
    dsimp only
    exact sfMinMax_of_guard_false (guardOn_short (hi := [_]) hg rfl rfl (by simp))
  case xsa o | xsb o =>
    delta exec
    dsimp only
    exact xsv_of_guard_false (guardOn_short (hi := [_]) hg rfl rfl (by simp))
  case bar o | bara o | barw o | bari o =>
    delta exec
    dsimp only
    exact barOp_of_guard_false (guardOn_short (hi := [_]) hg rfl rfl (by simp))
  case xpldA o | xpldB o | xzip o | xuzp o | xcmp o | xexp o | nmap o | nmapx o | npld o | nmov o | nxs o | nli o =>
    delta exec
    dsimp only
    exact xnOp_of_guard_false (guardOn_short (hi := [_]) hg rfl rfl (by simp))
  case movi o | movhi o | addil o =>
    delta exec
    dsimp only
    exact sOp_of_guard_false (guardOn_short (hi := (fieldsSL _ o).take 2) hg rfl rfl (by simp))
  case lda o | stl o =>
    delta exec
    dsimp only
    exact sOp_of_guard_false (guardOn_short (hi := (fieldsSX _ o).take 7) hg rfl rfl (by simp))
  case amoadd o | amoswp o | amocas o | amomin o | amomax o | amoand o | amoor o | amoxor o =>
    delta exec
    dsimp only
    exact amoOp_of_guard_false (guardOn_short (hi := (fieldsSX _ o).take 7) hg rfl rfl (by simp))
  case scld o | scst o | scamo o =>
    delta exec
    dsimp only
    exact scOp_of_guard_false (guardOn_short (hi := (fieldsSX _ o).take 7) hg rfl rfl (by simp))
  case fence o | drain o =>
    delta exec
    dsimp only
    exact sOp_of_guard_false (guardOn_short (hi := (fieldsSFence _ o).take 5) hg rfl rfl (by simp))
  case pfence o =>
    delta exec
    dsimp only
    exact sOp_of_guard_false (guardOn_short (hi := (fieldsSPf _ o).take 7) hg rfl rfl (by simp))
  case vnop o | vdot4 o | vsel o | vscan o | vxs o | vxab o | kpop o | vcvt o | vqblk o | vdqblk o | vrnd o | vsq o |
      vtag o =>
    delta exec
    dsimp only
    exact vOp_of_guard_false (guardOn_vector (hi := [_, _]) hg (vector_slot _) rfl (by simp))
  case vadd o | vsub o | vmul o | vfma o | vfms o | vmin o | vmax o | vsqd o | vmulh o | vshl o | vshr o | vsra o =>
    delta exec
    dsimp only
    exact vArith_of_guard_false (guardOn_vector (hi := [_, _]) hg (vector_slot _) rfl (by simp))
  case vand o | vor o | vxor o =>
    delta exec
    dsimp only
    exact vBitwise_of_guard_false (guardOn_vector (hi := [_, _]) hg (vector_slot _) rfl (by simp))
  case vabs o | vneg o | vmov o =>
    delta exec
    dsimp only
    exact vUnary_of_guard_false (guardOn_vector (hi := [_, _]) hg (vector_slot _) rfl (by simp))
  case vexp2 o | vlog2 o | vrcp o | vrsq o | vsigm o | vtanh o =>
    delta exec
    dsimp only
    exact vSpecial_of_guard_false (guardOn_vector (hi := [_, _]) hg (vector_slot _) rfl (by simp))
  case vrsum o | vrmax o | vrmin o | vamax o =>
    delta exec
    dsimp only
    exact vReduce_of_guard_false (guardOn_vector (hi := [_, _]) hg (vector_slot _) rfl (by simp))
  case vceq o | vcne o | vclt o | vcle o =>
    delta exec
    dsimp only
    exact vCompare_of_guard_false (guardOn_vector (hi := [_, _]) hg (vector_slot _) rfl (by simp))
  case kand o | kor o | kxor o | knot o =>
    delta exec
    dsimp only
    exact vMask_of_guard_false (guardOn_vector (hi := [_, _]) hg (vector_slot _) rfl (by simp))
  case vspl o | viota o =>
    delta exec
    dsimp only
    exact vSplat_of_guard_false (guardOn_vector (hi := [_, _]) hg (vector_slot _) rfl (by simp))
  case mma o | mmaz o | mconv o =>
    delta exec
    dsimp only
    exact mmaOp_of_guard_false (guardOn_wide (hi := [_]) hg ⟨Nat.le_refl 3, (by decide : 3 ≤ 5)⟩ rfl (by simp))
  case mzero o | mldz o | mstz o | mtag o | mskp o | mwait o | tacq o | trel o | trst o | tldw o | tcap o | tlnc o =>
    delta exec
    dsimp only
    exact xnOp_of_guard_false (guardOn_wide (hi := [_]) hg ⟨Nat.le_refl 3, (by decide : 3 ≤ 5)⟩ rfl (by simp))
  case cpy o | cpys o | cpyt o | cpyw o | ldblk o | evblk o | bind o | unbd o | gthr o | sctr o | cwait o | cflag o |
      csig o | coll o | hadd o | hmov o | hli o | hxs o =>
    delta exec
    dsimp only
    exact xnOp_of_guard_false (guardOn_wide (hi := [_]) hg (copy_slot _) rfl (by simp))
  case br o | jal o =>
    have hg' : s.guardOn o.g o.n = false := guardOn_short (hi := [_]) hg rfl rfl (by simp)
    delta exec
    dsimp only
    simp [execBr, execJal, hg']
  case jr o =>
    have hg' : s.guardOn o.g o.n = false := guardOn_short (hi := [_]) hg rfl rfl (by simp)
    delta exec
    simp only [execJr, hg']
    split <;> rfl
  case jalr o =>
    have hg' : s.guardOn o.g o.n = false := guardOn_short (hi := [_]) hg rfl rfl (by simp)
    delta exec
    simp [execJalr, hg']
  case xprm o =>
    have hg' : s.guardOn o.g o.n = false := guardOn_short (hi := [_]) hg rfl rfl (by simp)
    intro hc
    delta exec
    dsimp only
    simp [execXprm, hg', hc, xnOp]
  all_goals exact absurd hs (Nat.lt_irrefl 8)

end Sys2Proof.Proofs.Guards
end

section
/-! Proofs. The register files: what is hardwired and banked (R109, R110, R311), and that a write is read once its bound has
passed (R25). -/

namespace Sys2Proof.Proofs.RegisterFiles
open Sys2Proof Sys2Proof.Machine

/-! ### The handler bank (R311) -/

theorem kHB_ne_kS (i : Nat) : kHB i ≠ kS i := by
  simp only [kHB, kS]
  omega

theorem sKey_of_handler {s : State} {i : Nat} (hm : s.core.mode = .handler) (hi : 28 ≤ i) : s.sKey i = kHB i := by
  simp [State.sKey, State.inHandler, hm, hi]

theorem sKey_of_not_handler {s : State} (hm : s.core.mode ≠ .handler) (i : Nat) : s.sKey i = kS i := by
  simp [State.sKey, State.inHandler, hm]

@[simp] theorem landSet_s (y : Sync) (now k lat : Nat) : (y.landSet now k lat).s = y.s := rfl
@[simp] theorem landSet_hb (y : Sync) (now k lat : Nat) : (y.landSet now k lat).hb = y.hb := rfl

theorem writeS_bank {s : State} {i : Nat} (v : W64) (lat : Nat) (hi : i ≠ 0) (hk : s.sKey i ≠ kS i) :
    (s.writeS i v lat).core.sync.s = s.core.sync.s ∧
      ∀ j, j ≠ i → (s.writeS i v lat).core.sync.hb.get 0 j = s.core.sync.hb.get 0 j := by
  simp only [State.writeS, if_neg hi, if_neg hk, core_modSync, landSet_s, landSet_hb]
  exact ⟨trivial, fun j hj => Tab.get_set_ne _ _ _ _ _ hj⟩

theorem writeS_main {s : State} {i : Nat} (v : W64) (lat : Nat) (hk : s.sKey i = kS i) :
    (s.writeS i v lat).core.sync.hb = s.core.sync.hb ∧
      ∀ j, j ≠ i → (s.writeS i v lat).core.sync.s.get 0 j = s.core.sync.s.get 0 j := by
  by_cases hi : i = 0
  · rw [State.writeS, if_pos hi]
    exact ⟨rfl, fun _ _ => rfl⟩
  · simp only [State.writeS, if_neg hi, if_pos hk, core_modSync, landSet_s, landSet_hb]
    exact ⟨trivial, fun j hj => Tab.get_set_ne _ _ _ _ _ hj⟩

/-- Settles O18: s0 and g0 by definition, the bank by the key that a number of the s file has in each mode. -/
theorem hardwiredAndBanked : Obligations.HardwiredAndBanked := by
  unfold Obligations.HardwiredAndBanked
  intro s
  refine ⟨rfl, rfl, fun _ _ => rfl, fun _ _ => rfl, fun i v lat h0 hm hi => ?_, fun i v lat hm => ?_⟩
  · exact writeS_bank v lat h0 (by rw [sKey_of_handler hm hi]; exact kHB_ne_kS i)
  · exact writeS_main v lat (sKey_of_not_handler hm i)

/-! ### Reads after writes (R25) -/

theorem not_early_of_landSet {u : State} {y : Sync} {t k lat : Nat} (hl : u.pre.landing = (y.landSet t k lat).landing)
    (h : t + lat ≤ u.now) : u.early k = false := by
  rw [State.early, hl, Sync.landSet]
  split
  · simp
  · simpa using h

@[simp] theorem landSet_g (y : Sync) (now k lat : Nat) : (y.landSet now k lat).g = y.g := rfl
@[simp] theorem landSet_a (y : Sync) (now k lat : Nat) : (y.landSet now k lat).a = y.a := rfl
@[simp] theorem landSet_b (y : Sync) (now k lat : Nat) : (y.landSet now k lat).b = y.b := rfl
@[simp] theorem landSet_k (y : Sync) (now k lat : Nat) : (y.landSet now k lat).k = y.k := rfl
@[simp] theorem landSet_x (y : Sync) (now k lat : Nat) : (y.landSet now k lat).x = y.x := rfl
@[simp] theorem landSet_w (y : Sync) (now k lat : Nat) : (y.landSet now k lat).w = y.w := rfl
@[simp] theorem landSet_y (y : Sync) (now k lat : Nat) : (y.landSet now k lat).y = y.y := rfl
@[simp] theorem landSet_h (y : Sync) (now k lat : Nat) : (y.landSet now k lat).h = y.h := rfl
@[simp] theorem landSet_j (y : Sync) (now k lat : Nat) : (y.landSet now k lat).j = y.j := rfl
@[simp] theorem landSet_ages (y : Sync) (now k lat : Nat) : (y.landSet now k lat).ages = y.ages := rfl

section
variable {s u : State} {i lat : Nat}

theorem readS_of_writeS {v : W64} (hi : i ≠ 0) (ho : s.overtaken (s.sKey i) lat = false)
    (hu : u.pre = (s.writeS i v lat).core.sync) (hm : u.inHandler = s.inHandler) (hl : s.issueAt + lat ≤ u.now) : u.readS i = v := by
  have hk : u.sKey i = s.sKey i := by rw [State.sKey, hm, State.sKey]
  rw [State.writeS, if_neg hi] at hu
  dsimp only at hu
  rw [ho] at hu
  have he : u.early (u.sKey i) = false := by
    refine not_early_of_landSet (y := s.core.sync) (t := s.issueAt) (k := u.sKey i) ?_ hl
    rw [hu, hk, core_modSync]
    split <;> rfl
  rw [State.readS, if_neg hi, if_neg (by rw [he]; decide), hk, hu, core_modSync]
  split <;> simp [*]

theorem readG_of_writeG {v : Bool} (hi : i ≠ 0) (ho : s.overtaken (kG i) lat = false)
    (hu : u.pre = (s.writeG i v lat).core.sync) (hl : s.issueAt + lat ≤ u.now) : u.readG i = v := by
  rw [State.writeG, if_neg hi] at hu
  dsimp only at hu
  rw [ho] at hu
  have he : u.early (kG i) = false := not_early_of_landSet (by rw [hu, core_modSync]) hl
  rw [State.readG, if_neg hi, if_neg (by rw [he]; decide), hu, core_modSync]
  simp

theorem readK_of_writeK {v : BitVec 256} (ho : s.overtaken (kK i) lat = false) (hu : u.pre = (s.writeK i v lat).core.sync)
    (hl : s.issueAt + lat ≤ u.now) : u.readK i = v := by
  rw [State.writeK, ho] at hu
  have he : u.early (kK i) = false := not_early_of_landSet (by rw [hu, core_modSync]) hl
  rw [State.readK, if_neg (by rw [he]; decide), hu, core_modSync]
  simp

theorem readY_of_writeY {v : W64} (ho : s.overtaken (kY i) lat = false) (hu : u.pre = (s.writeY i v lat).core.sync)
    (hl : s.issueAt + lat ≤ u.now) : u.readY i = v := by
  rw [State.writeY, ho] at hu
  have he : u.early (kY i) = false := not_early_of_landSet (by rw [hu, core_modSync]) hl
  rw [State.readY, if_neg (by rw [he]; decide), hu, core_modSync]
  simp

theorem readH_of_writeH {b : Bool} {v : W64} (ho : s.overtaken (hKey b i) lat = false)
    (hu : u.pre = (s.writeH b i v lat).core.sync) (hl : s.issueAt + lat ≤ u.now) : u.readH b i = v := by
  rw [State.writeH, ho] at hu
  have he : u.early (hKey b i) = false := not_early_of_landSet (by rw [hu, core_modSync]) hl
  rw [State.readH, if_neg (by rw [he]; decide), hu, core_modSync]
  cases b <;> simp

/-- A register just written is not dead: its age is 0 (R272). -/
theorem readV_of_writeV {b : Bool} {r : Nat} {v : VReg} (ho : s.overtaken (vKey b (phys s.pre.rrb r)) lat = false)
    (hu : u.pre = (s.writeV b r v lat).core.sync) (hp : phys u.pre.rrb r = phys s.pre.rrb r) (hl : s.issueAt + lat ≤ u.now) :
    u.readV b r = v := by
  rw [State.writeV] at hu
  dsimp only at hu
  rw [ho] at hu
  have he : u.early (vKey b (phys s.pre.rrb r)) = false := not_early_of_landSet (by rw [hu, core_modSync]) hl
  have hd : u.pre.dead b (phys s.pre.rrb r) = false := by
    rw [hu, core_modSync, Sync.dead]
    cases b <;> simp
  rw [State.readV, hp, he, hd, Sync.vreg, hu, core_modSync]
  cases b <;> simp

end

/-- Settles O19, file by file: the write's landing time is its bound. -/
theorem writesAreRead : Obligations.WritesAreRead := by
  unfold Obligations.WritesAreRead
  intro s u
  refine ⟨fun _ _ _ => readS_of_writeS, fun _ _ _ => readG_of_writeG, fun _ _ _ _ => readV_of_writeV, fun _ _ _ => readK_of_writeK,
    fun i v lat hu => ?_, fun i v lat hu => ?_, fun _ _ _ => readY_of_writeY, fun _ _ _ _ => readH_of_writeH⟩
  · rw [State.readX, hu, State.writeX, core_modSync]
    simp
  · rw [State.readW, hu, State.writeW, core_modSync]
    simp

end Sys2Proof.Proofs.RegisterFiles
end

section
/-! Proofs. The copies from the s file and into it (R144, R179, R194, R239). -/

namespace Sys2Proof.Proofs.Copies
open Sys2Proof Sys2Proof.Machine

/-! ### A value in every element of a register -/

/-- The sum that `splat` forms of m elements. -/
def splatSum (w c m : Nat) : Nat := (List.range m).foldl (fun acc i => acc + c * 2 ^ (w * i)) 0

theorem splatSum_succ (w c m : Nat) : splatSum w c (m + 1) = splatSum w c m + c * 2 ^ (w * m) := by
  rw [splatSum, List.range_succ, List.foldl_append]
  rfl

theorem splatSum_lt {w c : Nat} (hc : c < 2 ^ w) : ∀ m, splatSum w c m < 2 ^ (w * m)
  | 0 => by simp [splatSum]
  | m + 1 => by
    calc splatSum w c (m + 1) = splatSum w c m + c * 2 ^ (w * m) := splatSum_succ w c m
      _ < 2 ^ (w * m) + c * 2 ^ (w * m) := Nat.add_lt_add_right (splatSum_lt hc m) _
      _ = (c + 1) * 2 ^ (w * m) := by rw [Nat.add_mul, Nat.one_mul, Nat.add_comm]
      _ ≤ 2 ^ w * 2 ^ (w * m) := Nat.mul_le_mul_right _ hc
      _ = 2 ^ (w * (m + 1)) := by rw [Nat.mul_succ, Nat.pow_add, Nat.mul_comm]

theorem splatSum_element {w c : Nat} (hc : c < 2 ^ w) : ∀ m, ∀ i < m, splatSum w c m / 2 ^ (w * i) % 2 ^ w = c
  | 0, _, h => absurd h (Nat.not_lt_zero _)
  | m + 1, i, h => by
    rw [splatSum_succ]
    rcases Nat.lt_or_eq_of_le (Nat.le_of_lt_succ h) with h | rfl
    · have hsplit : c * 2 ^ (w * m) = 2 ^ (w * i) * (2 ^ w * (c * 2 ^ (w * (m - i - 1)))) := by
        have he : w * m = w * i + (w + w * (m - i - 1)) := by
          have hm : m = i + (1 + (m - i - 1)) := by omega
          rw [congrArg (w * ·) hm]
          ring
        rw [he, Nat.pow_add, Nat.pow_add]
        ring
      rw [hsplit, Nat.add_mul_div_left _ _ (Nat.two_pow_pos _), Nat.add_mul_mod_self_left, splatSum_element hc m i h]
    · rw [Nat.add_mul_div_right _ _ (Nat.two_pow_pos _), Nat.div_eq_of_lt (splatSum_lt hc _), Nat.zero_add, Nat.mod_eq_of_lt hc]

theorem splat_eq (w v : Nat) : splat w v = BitVec.ofNat 1024 (splatSum w (v % 2 ^ w) (1024 / w)) := rfl

theorem splat_element (w v : Nat) : ∀ i < 1024 / w, (splat w v).toNat / 2 ^ (w * i) % 2 ^ w = v % 2 ^ w := by
  intro i hi
  have hc : v % 2 ^ w < 2 ^ w := Nat.mod_lt _ (Nat.two_pow_pos w)
  have hlt : splatSum w (v % 2 ^ w) (1024 / w) < 2 ^ 1024 :=
    Nat.lt_of_lt_of_le (splatSum_lt hc _) (Nat.pow_le_pow_right (by decide) (Nat.mul_div_le 1024 w))
  rw [splat_eq, BitVec.toNat_ofNat, Nat.mod_eq_of_lt hlt]
  exact splatSum_element hc _ i hi

theorem xsv_next {o : OpSXv} {s : State} (hg : s.guardOn o.g o.n = true) (b : Bool) :
    xsv s o b = .next (s.writeV b o.d.toNat { bits := splat (tagBits o.t.toNat) (s.rs o.a).toNat, tag := o.t.toNat } 3) :=
  ScalarSlot.sOp_next hg rfl

/-! ### An operation of the slots X, N, M, CA and CB whose guard is true -/

theorem xnOp_next {s t : State} {g : BitVec 4} {n : Bool} {f : State → State} (hg : s.guardOn g n = true) (hf : f s = t) :
    xnOp s g n f = .next t := by
  rw [xnOp, if_pos hg, hf]

/-- Settles O5: each copy by its definition, the elements of XSA and XSB by the digits of the sum. -/
theorem crossFileCopies : Obligations.CrossFileCopies := by
  unfold Obligations.CrossFileCopies
  refine ⟨fun o s hg => ?_, fun o s hg => ?_, fun o s hg => ?_, fun o s hg => ?_, fun o s hg => ?_⟩
  · exact ⟨_, (xsv_next hg false : execXsa o s = _), (xsv_next hg true : execXsb o s = _), rfl,
      fun _ => splat_element _ _⟩
  · exact ⟨(ScalarSlot.sOp_next hg rfl : execXsh o s = _), (ScalarSlot.sOp_next hg rfl : execXsj o s = _),
      (ScalarSlot.sOp_next hg rfl : execXsy o s = _)⟩
  · exact (VectorSlots.vOp_next hg rfl : execVxs o s = _)
  · exact (xnOp_next hg rfl : execNxs o s = _)
  · exact (xnOp_next hg rfl : execHxs o s = _)

end Sys2Proof.Proofs.Copies
end

section
/-! Proofs. The reads of a line of the L1 that run over its end (R123, R130, R139). A translation whose physical page is not a
multiple of 128 puts an aligned access across the end of a line: the line has fewer bytes than the access asks for, while
stores of the core that cover the access give all of them. The statements about loads, LDA and LOOP take the bytes of the
line in that case too, and fail there. -/

namespace Sys2Proof.Proofs.SkewedPage
open Sys2Proof Sys2Proof.Machine

/-- The one line of the L1: 128 zero bytes at physical address 0. -/
def zeroLine : L1Line := ⟨0, 16, List.replicate 128 0, List.replicate 128 false, [], 0⟩

/-- A core that translates address 0 to physical address 127, with a line of zeros there and a store of `bytes` over it. -/
def skewed (bytes : List Nat) : State :=
  State.reset.modCore (fun k => { k with
    tlb := [{ guest := 0, gen := 0, va := 0, bits := 12, pa := 127, mt := 0, enc := false, w := true, x := true, d := true, gt := false }]
    l1 := [zeroLine]
    stores := [{ va := 0, kind := 1, pa := 127, sel := 16, bytes := bytes, seqNo := 0, scope := 0, rel := false }] })

/-- Eight bytes that are not all in the line. -/
def word : State := skewed [0, 0, 0, 0, 0, 0, 0, 1]

/-- A loop record with one stage, whose first byte alone is no record. -/
def record : State :=
  skewed [0, 0, 0, 0, 0, 0, 0, 0, 0, 0, 0, 0, 0, 0, 0, 1, 0, 0, 0, 0, 0, 0, 0, 0, 0, 0, 0, 0, 64, 0, 0, 0]

theorem word_hitsL1 : word.HitsL1 0 1 8 127 16 zeroLine :=
  ⟨⟨by decide, by decide, by decide, by decide +kernel⟩, by decide, by decide, List.length_replicate ..⟩

theorem record_hitsL1 : record.HitsL1 0 1 32 127 16 zeroLine :=
  ⟨⟨by decide, by decide, by decide, by decide +kernel⟩, by decide, by decide, List.length_replicate ..⟩

/-- The s register that an outcome leaves. -/
def sAfter (i : Nat) : Host.Outcome State Fault Refusal → W64
  | .next t => t.core.sync.s.get 0 i
  | _ => 0

/-- How many causes an outcome has raised. -/
def causesAfter : Host.Outcome State Fault Refusal → Nat
  | .next t => t.cx.causes.length
  | _ => 0

/-- Refutes O20: LD.D at address 0 reads the eight bytes of the store, and the line has one. -/
theorem not_loadsComplete : ¬ Obligations.LoadsComplete := by
  unfold Obligations.LoadsComplete
  intro h
  obtain ⟨_, _, _, ⟨_, hL1, _⟩, _⟩ := h ⟨0, false, 3, 1, 0⟩ word (by decide)
  exact absurd (congrArg (sAfter 3) (hL1 127 16 zeroLine word_hitsL1)) (by decide +kernel)

/-- Refutes O22: LDA at CORE scope at address 0 reads the eight bytes of the store, and the line has one. -/
theorem not_atomicsComplete : ¬ Obligations.AtomicsComplete := by
  unfold Obligations.AtomicsComplete
  intro h
  obtain ⟨_, ⟨_, hL1, _⟩, _⟩ := h ⟨0, false, 3, 1, 0, 0, true, 0, 0⟩ word (by decide)
  exact absurd (congrArg (sAfter 3) (hL1 127 16 zeroLine (by decide) word_hitsL1 (by decide))) (by decide +kernel)

/-- Refutes O26: LOOP at address 0 reads the good record of the store; the one byte of the line is none. -/
theorem not_loopsComplete : ¬ Obligations.LoopsComplete := by
  unfold Obligations.LoopsComplete
  intro h
  obtain ⟨_, hout⟩ := h.1 ⟨0, false, 1, 0⟩ record (by decide)
  obtain ⟨_, hrec⟩ := hout (by decide) (by decide)
  obtain ⟨hbad, _⟩ := hrec record _ (by decide) (.inr (.inl ⟨127, 16, zeroLine, record_hitsL1, rfl, rfl⟩))
  exact absurd (congrArg causesAfter (hbad (by decide +kernel))) (by decide +kernel)

end Sys2Proof.Proofs.SkewedPage
end

section
/-! Proofs. Stores of the S path (R123, R125, R126, R131, R301): the pieces of an access enter the withholding buffer one
after another. -/

namespace Sys2Proof.Proofs.Stores
open Sys2Proof Sys2Proof.Machine Sys2Proof.Proofs.ScalarSlot

/-! ### The pieces of an access (R125) -/

theorem linePieces_of_within {a n : Nat} (hn : 0 < n) (h : a % 128 + n ≤ 128) : linePieces a n = [(a, n)] := by
  have hk : min n (128 - a % 128) = n := Nat.min_eq_left (by omega)
  simp only [linePieces, pieces, if_neg (Nat.ne_of_gt hn), hk, Nat.sub_self]
  cases n / 128 <;> rfl

theorem accessPieces_of_within {a n : Nat} (hn : 0 < n) (ha : a % n = 0) (h : a % 128 + n ≤ 128) : accessPieces a n = [(a, n)] := by
  rw [accessPieces, if_pos ha, linePieces_of_within hn h]

theorem accessPieces_of_misaligned {a n : Nat} (ha : a % n ≠ 0) :
    accessPieces a n = (List.range n).map (fun i => (a + i, 1)) := if_neg ha

theorem accessPieces_of_places {s : State} {va kind n : Nat} {t : Tgt} (h : s.Places va kind n t) : accessPieces va n = [(va, n)] :=
  accessPieces_of_within h.2.1 h.2.2.1.1 h.2.2.1.2

@[simp] theorem length_toLe : ∀ n v : Nat, (toLe n v).length = n
  | 0, _ => rfl
  | n + 1, v => congrArg (· + 1) (length_toLe n (v / 256))

theorem toLe_eq_map : ∀ n v : Nat, toLe n v = (List.range n).map (fun j => v / 256 ^ j % 256)
  | 0, _ => rfl
  | n + 1, v => by
    rw [toLe, toLe_eq_map n, List.range_succ_eq_map, List.map_cons, List.map_map]
    simp [Nat.pow_succ', Nat.div_div_eq_div_mul]

/-! ### A state with another buffer -/

section
variable (s : State) (l : List Store)

@[simp] theorem core_setStores : (s.setStores l).core = { s.core with stores := l } := core_modCore s _

theorem setStores_setStores (l' : List Store) : (s.setStores l).setStores l' = s.setStores l' := modCore_modCore s _ _

theorem setStores_self : s.setStores s.core.stores = { s with cores := s.cores.set s.focus s.core } := rfl

theorem tlb1_setStores (va kind : Nat) : (s.setStores l).tlb1 s.focus va kind = s.tlb1 s.focus va kind := by
  simp only [State.tlb1, show (s.setStores l).coreAt s.focus = _ from core_setStores s l]
  rfl

theorem aperture_setStores (va : Nat) : (s.setStores l).aperture s.focus va = s.aperture s.focus va := by
  simp only [State.aperture, show (s.setStores l).coreAt s.focus = _ from core_setStores s l]
  rfl

theorem replaying_setStores : (s.setStores l).replaying s.focus = s.replaying s.focus := by
  simp only [State.replaying, show (s.setStores l).coreAt s.focus = _ from core_setStores s l]
  rfl

variable {s}

/-- What has been translated without a walk does not depend on the buffer. -/
theorem sResolve_setStores {va kind : Nat} {t : Tgt} (h : s.sResolve va kind = (s, .ok (some t))) :
    (s.setStores l).sResolve va kind = (s.setStores l, .ok (some t)) := by
  have hf : (s.setStores l).focus = s.focus := rfl
  simp only [State.sResolve, hf, aperture_setStores, tlb1_setStores] at h ⊢
  by_cases h48 : 2 ^ 48 ≤ va
  · rw [if_pos h48] at h
    simp at h
  rw [if_neg h48] at h ⊢
  by_cases ha : inAperture va = true
  · rw [if_pos ha] at h ⊢
    exact congrArg (Prod.mk _) (Prod.mk.inj h).2
  rw [if_neg ha] at h ⊢
  cases he : s.tlb1 s.focus va kind with
  | some e =>
    rw [he] at h
    exact congrArg (Prod.mk _) (Prod.mk.inj h).2
  | none =>
    rw [he] at h
    dsimp only at h
    split at h
    · split at h <;> simp at h
    · simp at h

end

/-! ### One piece, and all of them -/

/-- The entry of a piece. -/
def entry (s : State) (sc : Nat) (rel : Bool) (va : Nat) (t : Tgt) (b : List Nat) : Store :=
  { va := va, kind := t.place.1, pa := t.place.2.1, sel := t.place.2.2, seqNo := s.core.seqNo, bytes := b, scope := sc, rel := rel }

/-- A store to an address goes to a target of the cached memory or of a scratchpad, or to another car outside a replay. -/
def Takes (s : State) (va : Nat) (t : Tgt) : Prop :=
  s.sResolve va 2 = (s, .ok (some t)) ∧ needsBracket t = false ∧ (2 ≤ t.place.1 → s.replaying s.focus = false)

theorem Takes.setStores {s : State} {va : Nat} {t : Tgt} (h : Takes s va t) (l : List Store) : Takes (s.setStores l) va t :=
  ⟨sResolve_setStores l h.1, h.2.1, fun hk => (replaying_setStores s l).trans (h.2.2 hk)⟩

theorem sStorePiece_of_room {s : State} {va sc : Nat} {rel : Bool} {t : Tgt} {b : List Nat} (h : Takes s va t)
    (hroom : (storeLines (s.core.stores ++ [entry s sc rel va t b])).length ≤ 64) :
    s.sStorePiece va b sc rel = (s.setStores (s.core.stores ++ [entry s sc rel va t b]), .ok []) := by
  obtain ⟨hr, hb, hk⟩ := h
  have hrep : (decide (2 ≤ t.place.1) && s.replaying s.focus) = false := by
    by_cases h2 : 2 ≤ t.place.1
    · rw [hk h2, Bool.and_false]
    · rw [decide_eq_false h2, Bool.false_and]
  rw [entry] at hroom ⊢
  simp only [State.sStorePiece, hr, hrep, hb, if_neg (Nat.not_lt.2 hroom), Bool.false_and]
  rfl

theorem storeLines_append_le (l l' : List Store) : (storeLines l).length ≤ (storeLines (l ++ l')).length := by
  rw [storeLines, storeLines, List.filter_append, List.map_append, List.eraseDups_append, List.length_append]
  exact Nat.le_add_right _ _

/-- A list of one-byte pieces: addresses, targets and bytes. -/
theorem sStoreP_bytes {s : State} {sc : Nat} {rel : Bool} : ∀ (ps : List (Nat × Tgt × Nat)) (st : List Store),
    (∀ p ∈ ps, Takes s p.1 p.2.1) →
    (storeLines (st ++ ps.map (fun p => entry s sc rel p.1 p.2.1 [p.2.2]))).length ≤ 64 →
    (s.setStores st).sStoreP sc rel (ps.map (fun p => (p.1, 1))) (ps.map (fun p => p.2.2)) =
      (s.setStores (st ++ ps.map (fun p => entry s sc rel p.1 p.2.1 [p.2.2])), .ok [])
  | [], st, _, _ => by simp only [List.map_nil, List.append_nil, State.sStoreP]
  | p :: ps, st, ht, hroom => by
    simp only [List.map_cons] at hroom ⊢
    rw [List.append_cons] at hroom ⊢
    have he : entry (s.setStores st) sc rel p.1 p.2.1 [p.2.2] = entry s sc rel p.1 p.2.1 [p.2.2] := by
      rw [entry, core_setStores]
      rfl
    have hst : (s.setStores st).core.stores = st := by rw [core_setStores]
    have hp := sStorePiece_of_room (b := [p.2.2]) ((ht p List.mem_cons_self).setStores st)
      (by rw [he, hst]; exact Nat.le_trans (storeLines_append_le _ _) hroom)
    rw [he, hst, setStores_setStores] at hp
    simp only [State.sStoreP, List.take_succ_cons, List.take_zero, hp, List.drop_succ_cons, List.drop_zero]
    exact sStoreP_bytes ps _ (fun q hq => ht q (List.mem_cons_of_mem _ hq)) hroom

/-- The first piece leaves the state that the others find. -/
theorem sStoreP_of_bytes {s : State} {sc : Nat} {rel : Bool} {ps : List (Nat × Tgt × Nat)} (hps : ps ≠ [])
    (ht : ∀ p ∈ ps, Takes s p.1 p.2.1)
    (hroom : (storeLines (s.core.stores ++ ps.map (fun p => entry s sc rel p.1 p.2.1 [p.2.2]))).length ≤ 64) :
    s.sStoreP sc rel (ps.map (fun p => (p.1, 1))) (ps.map (fun p => p.2.2)) =
      (s.setStores (s.core.stores ++ ps.map (fun p => entry s sc rel p.1 p.2.1 [p.2.2])), .ok []) := by
  obtain ⟨p, ps, rfl⟩ := List.exists_cons_of_ne_nil hps
  simp only [List.map_cons] at hroom ⊢
  rw [List.append_cons] at hroom ⊢
  have hp := sStorePiece_of_room (b := [p.2.2]) (ht p List.mem_cons_self) (Nat.le_trans (storeLines_append_le _ _) hroom)
  simp only [State.sStoreP, List.take_succ_cons, List.take_zero, hp, List.drop_succ_cons, List.drop_zero]
  exact sStoreP_bytes ps _ (fun q hq => ht q (List.mem_cons_of_mem _ hq)) hroom

section
variable {s : State} {va n : Nat} {b : List Nat} {sc : Nat} {rel : Bool}

theorem sStore_of_places {t : Tgt} (h : s.Places va 2 n t) (hb : needsBracket t = false)
    (hk : 2 ≤ t.place.1 → s.replaying s.focus = false) (hlen : b.length = n)
    (hroom : (storeLines (s.core.stores ++ [entry s sc rel va t b])).length ≤ 64) :
    s.sStore va b sc rel = (s.setStores (s.core.stores ++ [entry s sc rel va t b]), .ok []) := by
  have hpiece := sStorePiece_of_room (sc := sc) (rel := rel) (b := b) ⟨h.2.2.2, hb, hk⟩ hroom
  rw [State.sStore, if_neg (Nat.not_le.2 h.1), hlen, accessPieces_of_places h]
  simp only [State.sStoreP, List.take_of_length_le (Nat.le_of_eq hlen), hpiece]

/-- Byte j of a value, with its address and target. -/
def bytePiece (va : Nat) (t : Nat → Tgt) (v j : Nat) : Nat × Tgt × Nat := (va + j, t j, v / 256 ^ j % 256)

/-- A misaligned access has a byte for every one of its addresses. -/
theorem sStore_of_misaligned {t : Nat → Tgt} {v : Nat} (ha : va % n ≠ 0) (hva : va < 2 ^ 48)
    (ht : ∀ j, j < n → Takes s (va + j) (t j))
    (hroom : (storeLines (s.core.stores ++ (List.range n).map (fun j => entry s sc rel (va + j) (t j) [v / 256 ^ j % 256]))).length ≤ 64)
    (hn : n ≠ 0) :
    s.sStore va (toLe n v) sc rel =
      (s.setStores (s.core.stores ++ (List.range n).map (fun j => entry s sc rel (va + j) (t j) [v / 256 ^ j % 256])), .ok []) := by
  obtain ⟨m, rfl⟩ := Nat.exists_eq_succ_of_ne_zero hn
  have hps : ∀ p ∈ (List.range (m + 1)).map (bytePiece va t v), Takes s p.1 p.2.1 := by
    intro p hp
    obtain ⟨j, hj, rfl⟩ := List.mem_map.1 hp
    exact ht j (List.mem_range.1 hj)
  have h := sStoreP_of_bytes (ps := (List.range (m + 1)).map (bytePiece va t v)) (sc := sc) (rel := rel) (by simp [List.range_succ_eq_map]) hps (by rw [List.map_map]; exact hroom)
  rw [State.sStore, if_neg (Nat.not_le.2 hva), length_toLe, accessPieces_of_misaligned ha, toLe_eq_map]
  rw [List.map_map, List.map_map, List.map_map] at h
  exact h

end

/-! ### The instructions -/

theorem sFault_toNat (s : State) (c : Nat) (a : W64) : s.sFault c a.toNat = s.raise 0 c a := by
  rw [State.sFault, BitVec.ofNat_toNat, BitVec.setWidth_eq]

theorem sStore_of_beyond {s : State} {va sc : Nat} {rel : Bool} {b : List Nat} (h : 2 ^ 48 ≤ va) :
    s.sStore va b sc rel = (s, .fault cNOTMAP va) := if_pos h

theorem stOp_of_sStore {s t : State} {o : OpSI} {n : Nat} (hg : s.guardOn o.g o.n = true)
    (h : s.sStore (effAddr (s.rs o.a) o.i n).toNat (toLe n (s.rs o.d).toNat) 0 false = (t, .ok [])) : stOp s o n = .next t :=
  sOp_next hg (by simp only [h])

/-- A plain store: in one piece, in bytes, and beyond the space. -/
theorem stOp_stores {s : State} {o : OpSI} {n : Nat} (hn : n ≠ 0) (hg : s.guardOn o.g o.n = true) :
    let ea := effAddr (s.rs o.a) o.i n
    (∀ t, s.Places ea.toNat 2 n t → needsBracket t = false → (2 ≤ t.place.1 → s.replaying s.focus = false) →
      let e : Store := { va := ea.toNat, kind := t.place.1, pa := t.place.2.1, sel := t.place.2.2, seqNo := s.core.seqNo,
                         bytes := toLe n (s.rs o.d).toNat, scope := 0, rel := false }
      (storeLines (s.core.stores ++ [e])).length ≤ 64 →
      stOp s o n = .next (s.setStores (s.core.stores ++ [e]))) ∧
    (∀ t : Nat → Tgt, ea.toNat % n ≠ 0 →
      (∀ j, j < n → s.sResolve (ea.toNat + j) 2 = (s, .ok (some (t j))) ∧ needsBracket (t j) = false ∧
        (2 ≤ (t j).place.1 → s.replaying s.focus = false)) →
      let e (j : Nat) : Store := { va := ea.toNat + j, kind := (t j).place.1, pa := (t j).place.2.1, sel := (t j).place.2.2
                                   seqNo := s.core.seqNo, bytes := [(s.rs o.d).toNat / 256 ^ j % 256], scope := 0, rel := false }
      let es := (List.range n).map e
      (storeLines (s.core.stores ++ es)).length ≤ 64 → ea.toNat < 2 ^ 48 →
      stOp s o n = .next (s.setStores (s.core.stores ++ es))) ∧
    (2 ^ 48 ≤ ea.toNat → stOp s o n = .next (s.raise 0 cNOTMAP ea)) := by
  refine ⟨fun t hp hb hk hroom => ?_, fun t ha ht hroom hva => ?_, fun h => ?_⟩
  · exact stOp_of_sStore hg (sStore_of_places hp hb hk (length_toLe _ _) hroom)
  · exact stOp_of_sStore hg (sStore_of_misaligned ha hva ht hroom hn)
  · exact sOp_next hg (by simp only [sStore_of_beyond h, sFault_toNat])

/-- Settles O21: the plain stores by `stOp_stores`, STL by the one piece of its aligned access. -/
theorem storesComplete : Obligations.StoresComplete := by
  unfold Obligations.StoresComplete
  refine ⟨fun o s hg => ?_, fun o s hg => ⟨fun h => ?_, fun t ha hp hb hk hroom => ?_⟩⟩
  · exact ⟨stOp_stores (by decide) hg, stOp_stores (by decide) hg, stOp_stores (by decide) hg, stOp_stores (by decide) hg⟩
  · show execStl o s = _
    exact sOp_next hg (by simp only [if_pos h, sFault_toNat])
  · have h := sStore_of_places (b := toLe (widthBytes o.width) (s.rs o.d).toNat) hp hb hk (length_toLe _ _) hroom
    show execStl o s = _
    exact sOp_next hg (by simp only [ha, h, ne_eq, not_true_eq_false, if_false]; rfl)

end Sys2Proof.Proofs.Stores
end

section
/-! Proofs. What a write-back of the L1 leaves of the scratchpads (R396), for the operations that write the L1 back first. -/

namespace Sys2Proof.Proofs.WriteBack
open Sys2Proof Sys2Proof.Machine

/-! ### The home path changes no core -/

section
variable (s : State)

@[simp] theorem cores_post (c : Option Nat) (die point g u : Nat) : (s.post c die point g u).cores = s.cores := rfl
@[simp] theorem focus_post (c : Option Nat) (die point g u : Nat) : (s.post c die point g u).focus = s.focus := rfl
@[simp] theorem cores_debit (die point g u : Nat) : (s.debit die point g u).cores = s.cores := rfl
@[simp] theorem focus_debit (die point g u : Nat) : (s.debit die point g u).focus = s.focus := rfl
@[simp] theorem cores_ctlWrite (l : Nat) (k b : List Nat) : (s.ctlWrite l k b).cores = s.cores := rfl
@[simp] theorem focus_ctlWrite (l : Nat) (k b : List Nat) : (s.ctlWrite l k b).focus = s.focus := rfl
@[simp] theorem cores_logMemue (pa : Nat) : (s.logMemue pa).cores = s.cores := rfl
@[simp] theorem focus_logMemue (pa : Nat) : (s.logMemue pa).focus = s.focus := rfl

@[simp] theorem cores_charge (die point g u : Nat) : (s.charge die point g u).cores = s.cores := by
  unfold State.charge
  split <;> rfl

@[simp] theorem focus_charge (die point g u : Nat) : (s.charge die point g u).focus = s.focus := by
  unfold State.charge
  split <;> rfl

@[simp] theorem cores_chargeCtl (g pa u : Nat) : (s.chargeCtl g pa u).cores = s.cores := cores_charge s _ _ _ _
@[simp] theorem focus_chargeCtl (g pa u : Nat) : (s.chargeCtl g pa u).focus = s.focus := focus_charge s _ _ _ _

@[simp] theorem cores_l2Evict (l : L2Line) : (s.l2Evict l).cores = s.cores := by
  simp only [State.l2Evict, State.l2Drop, State.l2WriteBack]
  split
  · rfl
  · split
    · rfl
    · split <;> rfl

@[simp] theorem focus_l2Evict (l : L2Line) : (s.l2Evict l).focus = s.focus := by
  simp only [State.l2Evict, State.l2Drop, State.l2WriteBack]
  split
  · rfl
  · split
    · rfl
    · split <;> rfl

@[simp] theorem cores_l2Alloc (g line sel : Nat) (d : Bool) (b : List Nat) : (s.l2Alloc g line sel d b).cores = s.cores := by
  simp only [State.l2Alloc]
  split
  · rfl
  · split
    · rfl
    · split
      · exact cores_l2Evict s _
      · rfl

@[simp] theorem focus_l2Alloc (g line sel : Nat) (d : Bool) (b : List Nat) : (s.l2Alloc g line sel d b).focus = s.focus := by
  simp only [State.l2Alloc]
  split
  · rfl
  · split
    · rfl
    · split
      · exact focus_l2Evict s _
      · rfl

theorem homeWrite_core (g sel pa : Nat) (b : List Nat) :
    (s.homeWrite g sel pa b).1.cores = s.cores ∧ (s.homeWrite g sel pa b).1.focus = s.focus := by
  simp only [State.homeWrite, State.ctlPut]
  repeat' split
  all_goals simp

end

/-! ### The arrays of every core -/

/-- The scratchpads, the failed words of the arrays, the guests and the focus are the same. -/
structure SameArrays (s t : State) : Prop where
  focus : t.focus = s.focus
  spad : ∀ c, (t.coreAt c).spad = (s.coreAt c).spad
  badWords : ∀ c, (t.coreAt c).badWords = (s.coreAt c).badWords
  guest : ∀ c, (t.coreAt c).guest = (s.coreAt c).guest

theorem SameArrays.refl (s : State) : SameArrays s s := ⟨rfl, fun _ => rfl, fun _ => rfl, fun _ => rfl⟩

theorem SameArrays.trans {s t u : State} (h : SameArrays s t) (h' : SameArrays t u) : SameArrays s u :=
  ⟨h'.focus.trans h.focus, fun c => (h'.spad c).trans (h.spad c), fun c => (h'.badWords c).trans (h.badWords c),
    fun c => (h'.guest c).trans (h.guest c)⟩

theorem SameArrays.of_cores {s t : State} (hc : t.cores = s.cores) (hf : t.focus = s.focus) : SameArrays s t :=
  ⟨hf, fun c => by rw [State.coreAt, hc]; rfl, fun c => by rw [State.coreAt, hc]; rfl, fun c => by rw [State.coreAt, hc]; rfl⟩

theorem SameArrays.modCoreAt (s : State) (n : Nat) {f : Core → Core} (hs : ∀ k, (f k).spad = k.spad)
    (hb : ∀ k, (f k).badWords = k.badWords) (hg : ∀ k, (f k).guest = k.guest) : SameArrays s (s.modCoreAt n f) := by
  refine ⟨rfl, fun c => ?_, fun c => ?_, fun c => ?_⟩ <;> by_cases h : c = n
  · rw [h, coreAt_modCoreAt_self, hs]
  · rw [coreAt_modCoreAt_ne _ _ _ _ h]
  · rw [h, coreAt_modCoreAt_self, hb]
  · rw [coreAt_modCoreAt_ne _ _ _ _ h]
  · rw [h, coreAt_modCoreAt_self, hg]
  · rw [coreAt_modCoreAt_ne _ _ _ _ h]

theorem SameArrays.foldl {α : Type} {f : State → α → State} (hf : ∀ s a, SameArrays s (f s a)) :
    ∀ (l : List α) (s : State), SameArrays s (l.foldl f s)
  | [], s => .refl s
  | a :: l, s => (hf s a).trans (SameArrays.foldl hf l (f s a))

theorem sameArrays_homeWrite (s : State) (g sel pa : Nat) (b : List Nat) : SameArrays s (s.homeWrite g sel pa b).1 :=
  .of_cores (homeWrite_core s g sel pa b).1 (homeWrite_core s g sel pa b).2

theorem sameArrays_l1Lost (s : State) (n va : Nat) : SameArrays s (s.l1Lost n va) :=
  .modCoreAt s n (fun k => by split <;> rfl) (fun k => by split <;> rfl) (fun k => by split <;> rfl)

/-- One write of a line's dirty bytes to their home. -/
theorem sameArrays_written (s : State) (g sel pa n va : Nat) (b : List Nat) :
    SameArrays s (if (s.homeWrite g sel pa b).2 then (s.homeWrite g sel pa b).1 else (s.homeWrite g sel pa b).1.l1Lost n va) := by
  have hw := sameArrays_homeWrite s g sel pa b
  split
  · exact hw
  · exact hw.trans (sameArrays_l1Lost _ _ _)

theorem sameArrays_l1WriteBack (s : State) (n : Nat) (l : L1Line) : SameArrays s (s.l1WriteBack n l) := by
  refine SameArrays.foldl (fun t r => SameArrays.trans ?_ (sameArrays_written _ _ _ _ _ _ _)) _ _
  dsimp only
  split
  · exact .of_cores (cores_charge t _ _ _ _) (focus_charge t _ _ _ _)
  · exact .of_cores rfl rfl

/-- Writing the L1 back changes no scratchpad. -/
theorem sameArrays_l1Clean (s : State) (n : Nat) : SameArrays s (s.l1Clean n) :=
  (SameArrays.foldl (fun t l => sameArrays_l1WriteBack t n l) _ s).trans (.modCoreAt _ n (fun _ => rfl) (fun _ => rfl) (fun _ => rfl))

section
variable {s t : State} (h : SameArrays s t)
include h

theorem SameArrays.spadGet (c o : Nat) : t.spadGet c o = s.spadGet c o := by rw [State.spadGet, h.spad, State.spadGet]

theorem SameArrays.spadBad (c o n : Nat) : (t.coreAt c).spadBad o n = (s.coreAt c).spadBad o n := by
  rw [Core.spadBad, h.badWords, Core.spadBad]

theorem SameArrays.gid : t.gid = s.gid := by rw [State.gid, State.core, h.focus, h.guest, State.gid, State.core]

end

/-! ### A read-modify-write of the core's own scratchpad -/

/-- What an atomic makes of the old value (R132): nothing, or the new bytes. -/
def putNew (s : State) (o n : Nat) : Option Nat → State
  | none => s
  | some v => s.putSpad o (toLe n v)

theorem atomicAt_ownSpad {s : State} {o n : Nat} (hb : (s.coreAt s.focus).spadBad o n = false) (f b c : Nat) :
    s.atomicAt s.focus (.spad s.focus o) n f b c =
      (putNew s o n (amoNew f n (ofLe (s.spadBytes o n)) b c), .ok (s.spadBytes o n)) := by
  have hnet : s.netUse s.focus s.focus = s := if_pos rfl
  have hbar : s.replayBar s.focus true (.spad s.focus o) = 0 := by
    unfold State.replayBar
    split <;> rfl
  simp only [State.atomicAt, State.tgtRead, hb, hnet, Bool.false_eq_true, if_false]
  rw [show (List.range n).map (fun i => s.spadGet s.focus (o + i)) = s.spadBytes o n from rfl]
  cases amoNew f n (ofLe (s.spadBytes o n)) b c with
  | none => rfl
  | some v =>
    simp only [State.guarded, hbar, if_true]
    simp [State.capture, State.uncharged, State.paying, State.tgtWrite, State.netUse]
    rfl

end Sys2Proof.Proofs.WriteBack
end

section
/-! Proofs. The SC operations (R406, R408, R409). -/

namespace Sys2Proof.Proofs.ScOperations
open Sys2Proof Sys2Proof.Machine Sys2Proof.Proofs.ScalarSlot Sys2Proof.Proofs.Stores Sys2Proof.Proofs.WriteBack

theorem signedOf_eq_toInt (n v : Nat) : signedOf n v = (BitVec.ofNat n v).toInt := by
  rw [signedOf, BitVec.toInt_eq_toNat_cond, BitVec.toNat_ofNat]

/-- The value that a load of a WIDTH field gives (R130). -/
theorem extend_widthBytes (w : Bool) (v : Nat) :
    extend (widthBytes w) v = if w then BitVec.ofNat 64 v else BitVec.ofInt 64 (BitVec.ofNat 32 v).toInt := by
  cases w
  · exact congrArg (BitVec.ofInt 64) (signedOf_eq_toInt 32 v)
  · rfl

/-! ### The causes -/

section
variable {s : State} {o : OpSX} {f : State → Nat → State}

theorem scOp_of_misaligned (hg : s.guardOn o.g o.n = true) (ha : (s.rs o.a).toNat % widthBytes o.width ≠ 0) :
    scOp s o f = .next (s.raise 0 cMISALIGN (s.rs o.a)) :=
  sOp_next hg (by rw [if_pos ha, sFault_toNat])

theorem scOp_of_noPos (hg : s.guardOn o.g o.n = true) (ha : (s.rs o.a).toNat % widthBytes o.width = 0)
    (hp : s.core.noPos = true) : scOp s o f = .next (s.raise 0 0x85 0) :=
  sOp_next hg (by rw [if_neg (not_not.2 ha), if_pos hp])

theorem scOp_of_position {t : State} (hg : s.guardOn o.g o.n = true) (ha : (s.rs o.a).toNat % widthBytes o.width = 0)
    (hp : s.core.noPos = false) (hf : f s (widthBytes o.width) = t) :
    scOp s o f = .next ((t.warnScope o.scope.toNat).warn wORDFIT (o.order != 0)) :=
  sOp_next hg (by rw [if_neg (not_not.2 ha), hp, hf]; rfl)

end

/-! ### The access -/

section
variable {s : State} {a : W64} {n sc f : Nat} {t : Tgt}

/-- How the function of an SC access translates (R408). -/
def scKind (f : Nat) : Nat := if f = 8 then 1 else if f = 1 then 2 else 3

theorem scAccess_of_answered {b : List Nat} (h : s.Answered a.toNat (scKind f) n t b) (x y : Nat) :
    s.scAccess a n sc f x y = (s, .ok b) := by
  obtain ⟨⟨hva, _, _, hr⟩, ha, _⟩ := h
  rw [scKind] at hr
  simp only [State.scAccess, if_neg (Nat.not_le.2 hva), hr, ha]

/-- Nothing keeps an SC operation from going: no answer yet, a bundle that runs on, no store and no request of the core, no
replay, and the Capstan at a position of the core. -/
structure MayGo (s : State) (a : W64) : Prop where
  answer : s.answer a.toNat = none
  clear : s.clear = true
  stores : s.core.stores = []
  replay : s.replaying s.focus = false
  req : s.core.req = none
  capstan : s.core.capGo = some s.tb

/-- The Capstan lets its bundle go once. -/
def atCapstan (s : State) : State := s.modCore (fun k => { k with capLast := some s.tb })

theorem sameArrays_atCapstan (s : State) : SameArrays s (atCapstan s) :=
  .modCoreAt s s.focus (f := fun k => { k with capLast := some s.tb }) (fun _ => rfl) (fun _ => rfl) (fun _ => rfl)

theorem scAccess_sends (hp : s.Places a.toNat (scKind f) n t) (hg : MayGo s a) (ht : ∀ off, t ≠ .spad s.focus off) (x y : Nat) :
    s.scAccess a n sc f x y =
      (((atCapstan s).ask (scReq t.place a.toNat n (if f = 8 then 0 else if f = 1 then 1 else 2) f x y sc
        (f != 8 && sc != 0) s.tb)).stallOn 2, .stall) := by
  obtain ⟨hva, _, _, hr⟩ := hp
  obtain ⟨ha, hc, hs, hrep, hreq, hcap⟩ := hg
  rw [scKind] at hr
  simp only [State.scAccess, if_neg (Nat.not_le.2 hva), hr, ha, hc, hrep, Core.behindStores, storesPending, hs, hreq, hcap]
  cases t with
  | spad k o =>
    have hk : k ≠ s.focus := fun h => ht o (h ▸ rfl)
    simp [atCapstan, hk]
  | _ => simp [atCapstan]

/-- The core's own scratchpad: a write, and the release that it is, writes the L1 back first. -/
theorem scAccess_ownSpad {off : Nat} (hp : s.OwnSpad a.toNat (scKind f) n off) (hg : MayGo s a) (x y : Nat) :
    s.scAccess a n sc f x y =
      (let u := if f != 8 && sc != 0 then (atCapstan s).l1Clean s.focus else atCapstan s
       if f = 8 then (u, .ok (u.spadBytes off n))
       else (putNew u off n (amoNew f n (ofLe (u.spadBytes off n)) x y), .ok (u.spadBytes off n))) := by
  obtain ⟨⟨hva, _, _, hr⟩, hbad⟩ := hp
  obtain ⟨ha, hc, hs, hrep, hreq, hcap⟩ := hg
  have hat := sameArrays_atCapstan s
  have hu : SameArrays s (if f != 8 && sc != 0 then (atCapstan s).l1Clean s.focus else atCapstan s) := by
    split
    · exact hat.trans (sameArrays_l1Clean _ _)
    · exact hat
  have hub := (hu.spadBad s.focus off n).trans hbad
  rw [scKind] at hr
  have hpend : s.core.behindStores (Tgt.spad s.focus off).place (if f != 8 then sc else 0) = false := by
    rw [Core.behindStores, hs]
    rfl
  simp only [State.scAccess, if_neg (Nat.not_le.2 hva), hr, ha, hc, hrep, hpend, hreq, hcap, Bool.not_true, Bool.and_false,
    Bool.false_eq_true, if_false, Option.isSome_none, bne_self_eq_false]
  rw [show s.modCore (fun k => { k with capLast := some s.tb }) = atCapstan s from rfl,
    show (atCapstan s).focus = s.focus from rfl, if_pos rfl, (hat.spadBad s.focus off n).trans hbad]
  generalize (if f != 8 && sc != 0 then (atCapstan s).l1Clean s.focus else atCapstan s) = u at hu hub ⊢
  have hbytes : (List.range n).map (fun i => u.spadGet s.focus (off + i)) = u.spadBytes off n := by
    rw [State.spadBytes, hu.focus]
  have hamo := atomicAt_ownSpad (s := u) (o := off) (n := n) (by rw [hu.focus]; exact hub) f x y
  rw [hu.focus] at hamo
  rw [hbytes, hamo]
  rfl

end

/-! ### The own scratchpad, read and written -/

theorem spadBytes_of_sameArrays {s u : State} (h : SameArrays s u) (off n : Nat) : u.spadBytes off n = s.spadBytes off n := by
  simp only [State.spadBytes, h.focus, h.spadGet]

theorem scAccess_reads {s : State} {a : W64} {n off : Nat} (h : s.OwnSpad a.toNat 1 n off) (hg : MayGo s a) (sc : Nat) :
    s.scAccess a n sc 8 0 0 = (atCapstan s, .ok (s.spadBytes off n)) := by
  rw [scAccess_ownSpad (f := 8) h hg, ← spadBytes_of_sameArrays (sameArrays_atCapstan s)]
  rfl

theorem scAccess_writes {s : State} {a : W64} {n off f sc : Nat} (h : s.OwnSpad a.toNat (scKind f) n off) (hg : MayGo s a)
    (hf : f ≠ 8) (hsc : sc ≠ 0) (x y : Nat) :
    s.scAccess a n sc f x y =
      (putNew ((atCapstan s).l1Clean s.focus) off n (amoNew f n (ofLe (s.spadBytes off n)) x y), .ok (s.spadBytes off n)) := by
  have hsame := spadBytes_of_sameArrays ((sameArrays_atCapstan s).trans (sameArrays_l1Clean _ s.focus)) off n
  have hrel : (f != 8 && sc != 0) = true := by simp [hf, hsc]
  simp only [scAccess_ownSpad h hg, hrel, if_true, if_neg hf, hsame]

theorem amoNew_swap (n old b c : Nat) : amoNew 1 n old b c = some (b % 2 ^ (8 * n)) := rfl

theorem putNew_cas (s : State) (off n old b c : Nat) :
    putNew s off n (amoNew 2 n old b c) =
      if old = b % 2 ^ (8 * n) then s.putSpad off (toLe n (c % 2 ^ (8 * n))) else s := by
  simp only [amoNew]
  split <;> rfl

section
variable {s : State} {o : OpSX} (hg : s.guardOn o.g o.n = true) (ha : (s.rs o.a).toNat % widthBytes o.width = 0)
  (hp : s.core.noPos = false)
include hg ha hp

theorem execScld_of_access {u : State} {b : List Nat}
    (h : s.scAccess (s.rs o.a) (widthBytes o.width) (s.eventScope o.scope.toNat (s.rs o.a).toNat) 8 0 0 = (u, .ok b)) :
    exec (.scld o) s = .next ((((u.wLoad o.d (extend (widthBytes o.width) (ofLe b))).acquireL1
      (s.eventScope o.scope.toNat (s.rs o.a).toNat)).sigB (toLe 8 (extend (widthBytes o.width) (ofLe b)).toNat)).warnScope
      o.scope.toNat |>.warn wORDFIT (o.order != 0)) :=
  show execScld o s = _ from scOp_of_position hg ha hp (by simp only [h])

theorem execScamo_of_access {u : State} {b : List Nat}
    (h : s.scAccess (s.rs o.a) (widthBytes o.width) (s.eventScope o.scope.toNat (s.rs o.a).toNat) 2 (s.rs o.b).toNat
      (s.rs o.c).toNat = (u, .ok b)) :
    exec (.scamo o) s = .next ((((u.wLoad o.d (extend (widthBytes o.width) (ofLe b))).acquireL1
      (s.eventScope o.scope.toNat (s.rs o.a).toNat)).sigB (toLe 8 (extend (widthBytes o.width) (ofLe b)).toNat)).warnScope
      o.scope.toNat |>.warn wORDFIT (o.order != 0)) :=
  show execScamo o s = _ from scOp_of_position hg ha hp (by simp only [h])

theorem execScst_of_access {u : State} {b : List Nat}
    (h : s.scAccess (s.rs o.a) (widthBytes o.width) (s.eventScope o.scope.toNat (s.rs o.a).toNat) 1
      ((s.rs o.d).toNat % 2 ^ (8 * widthBytes o.width)) 0 = (u, .ok b)) :
    exec (.scst o) s = .next ((u.warnScope o.scope.toNat).warn wORDFIT (o.order != 0)) :=
  show execScst o s = _ from scOp_of_position hg ha hp (by simp only [h])

theorem execSc_of_stall :
    (∀ u, s.scAccess (s.rs o.a) (widthBytes o.width) (s.eventScope o.scope.toNat (s.rs o.a).toNat) 8 0 0 = (u, .stall) →
      exec (.scld o) s = .next ((u.warnScope o.scope.toNat).warn wORDFIT (o.order != 0))) ∧
    (∀ u, s.scAccess (s.rs o.a) (widthBytes o.width) (s.eventScope o.scope.toNat (s.rs o.a).toNat) 1
        ((s.rs o.d).toNat % 2 ^ (8 * widthBytes o.width)) 0 = (u, .stall) →
      exec (.scst o) s = .next ((u.warnScope o.scope.toNat).warn wORDFIT (o.order != 0))) ∧
    (∀ u, s.scAccess (s.rs o.a) (widthBytes o.width) (s.eventScope o.scope.toNat (s.rs o.a).toNat) 2 (s.rs o.b).toNat
        (s.rs o.c).toNat = (u, .stall) →
      exec (.scamo o) s = .next ((u.warnScope o.scope.toNat).warn wORDFIT (o.order != 0))) :=
  ⟨fun u h => show execScld o s = _ from scOp_of_position hg ha hp (by simp only [h]),
    fun u h => show execScst o s = _ from scOp_of_position hg ha hp (by simp only [h]),
    fun u h => show execScamo o s = _ from scOp_of_position hg ha hp (by simp only [h])⟩

end

/-- Settles O23: the causes, the answered access, the request that leaves and the own scratchpad. -/
theorem scOperationsComplete : Obligations.ScOperationsComplete := by
  unfold Obligations.ScOperationsComplete
  intro o s hg
  refine ⟨?_, fun t b ha hp => ⟨fun h => ?_, fun h => ?_, fun h => ?_⟩, fun t ha hp hans hc hs hrep hreq hcap => ?_⟩
  · simp only [List.mem_cons, List.not_mem_nil, or_false, forall_eq_or_imp, forall_eq]
    exact ⟨⟨fun h => (scOp_of_misaligned hg h : execScld o s = _), fun h h' => (scOp_of_noPos hg h h' : execScld o s = _)⟩,
      ⟨fun h => (scOp_of_misaligned hg h : execScst o s = _), fun h h' => (scOp_of_noPos hg h h' : execScst o s = _)⟩,
      ⟨fun h => (scOp_of_misaligned hg h : execScamo o s = _), fun h h' => (scOp_of_noPos hg h h' : execScamo o s = _)⟩⟩
  · dsimp only
    rw [← extend_widthBytes]
    exact execScld_of_access hg ha hp (scAccess_of_answered (f := 8) h 0 0)
  · exact execScst_of_access hg ha hp (scAccess_of_answered (f := 1) h _ _)
  · dsimp only
    rw [← extend_widthBytes]
    exact execScamo_of_access hg ha hp (scAccess_of_answered (f := 2) h _ _)
  · have hgo : MayGo s (s.rs o.a) := ⟨hans, hc, hs, hrep, hreq, hcap⟩
    obtain ⟨hld, hst, hamo⟩ := execSc_of_stall hg ha hp
    refine ⟨?_, ?_⟩
    · simp only [List.mem_cons, List.not_mem_nil, or_false, forall_eq_or_imp, forall_eq]
      exact ⟨fun h ht => hld _ (scAccess_sends (f := 8) h hgo ht 0 0), fun h ht => hst _ (scAccess_sends (f := 1) h hgo ht _ _),
        fun h ht => hamo _ (scAccess_sends (f := 2) h hgo ht _ _)⟩
    · rintro off rfl
      refine ⟨fun h => ?_, fun h hsc => ?_, fun h hsc => ?_⟩
      · dsimp only
        rw [← extend_widthBytes]
        exact execScld_of_access hg ha hp (scAccess_reads h hgo _)
      · refine (execScst_of_access hg ha hp (scAccess_writes h hgo (by decide) hsc _ _)).trans ?_
        rw [amoNew_swap, Nat.mod_mod]
        rfl
      · dsimp only
        rw [← extend_widthBytes]
        refine (execScamo_of_access hg ha hp (scAccess_writes h hgo (by decide) hsc _ _)).trans ?_
        rw [putNew_cas]
        rfl

end Sys2Proof.Proofs.ScOperations
end

section
/-! Proofs. Fences (R401, R402, R286, R287), branches and jumps (R135 to R137). -/

namespace Sys2Proof.Proofs.FencesAndBranches
open Sys2Proof Sys2Proof.Machine Sys2Proof.Proofs.ScalarSlot

/-! ### Fences -/

theorem execFence_orders {s : State} {o : OpSFence} (hg : s.guardOn o.g o.n = true) :
    let sc := (s.effScope o.scope.toNat).1
    let w := s.warnScope o.scope.toNat
    let mark (t : State) : State := t.setStores (t.core.stores ++
      [{ va := 0, kind := 9, pa := 0, sel := 0, bytes := [], seqNo := t.core.seqNo, scope := sc, rel := true }])
    (o.order = 0 → execFence o s = .next (w.warn wORDFIT true)) ∧
    (o.order = 1 → execFence o s = .next ((w.acquireL1 sc).holdNext 0)) ∧
    (o.order = 2 → execFence o s = .next (if sc = 0 then w else mark w)) ∧
    (o.order = 3 → execFence o s =
      .next (if sc = 0 then (w.acquireL1 sc).holdNext 0 else mark ((w.acquireL1 sc).holdNext 0))) := by
  refine ⟨fun h => sOp_next hg ?_, fun h => sOp_next hg ?_, fun h => sOp_next hg ?_, fun h => sOp_next hg ?_⟩
  · simp only [h]
    rfl
  · simp only [h]
    rfl
  · by_cases hsc : (s.effScope o.scope.toNat).1 = 0
    · simp [h, hsc]
    · simp [h, hsc]
      rfl
  · by_cases hsc : (s.effScope o.scope.toNat).1 = 0
    · simp [h, hsc]
    · simp [h, hsc]
      rfl

theorem execDrain_of_not_draining {s : State} {o : OpSFence} (hg : s.guardOn o.g o.n = true)
    (hd : s.core.draining (s.effScope o.scope.toNat).1 = false) :
    let sc := (s.effScope o.scope.toNat).1
    let w := s.warnScope o.scope.toNat
    execDrain o s =
      .next (if sc = 0 then w.warn wORDFIT (o.order != 0) else ((w.warn wORDFIT (o.order != 0)).l1Clean s.focus).acquireL1 sc) :=
  sOp_next hg (by simp only [hd, Bool.false_eq_true, if_false])

theorem storesPending_nil (scope : Nat) : storesPending [] scope = false := rfl

theorem div_two_bne_zero (n : Nat) : (n / 2 != 0) = decide (2 ≤ n) := by
  rw [Bool.eq_iff_iff, bne_iff_ne, decide_eq_true_eq]
  omega

section
variable {s : State} {o : OpSPf} (hg : s.guardOn o.g o.n = true)
include hg

theorem execPfence_of_no_class (h : o.fromc = 0 ∨ o.toc = 0) :
    execPfence o s = .next ((s.warnScope o.scope.toNat).warn wORDFIT (o.order != 0)) :=
  sOp_next hg (if_pos (h.imp (fun h => by rw [h]; rfl) (fun h => by rw [h]; rfl)))

theorem execPfence_of_classes (hf : o.fromc ≠ 0) (ht : o.toc ≠ 0) (hs : bitOf 0 o.fromc.toNat = true → s.core.stores = []) :
    let w := (s.warnScope o.scope.toNat).warn wORDFIT (o.order != 0)
    let dirty := (s.core.l1.filter (fun l => l.dirty.any id)).length
    let clean := bitOf 0 o.fromc.toNat = true ∧ 2 ≤ o.toc.toNat
    let drop := bitOf 0 o.toc.toNat = true ∧ 2 ≤ o.fromc.toNat
    let w1 := if clean then w.l1Clean s.focus else w
    let w2 := if drop then (w1.l1DropClean s.focus).refillPinned s.focus else w1
    execPfence o s = .next (w2.holdNext (1 + (if clean then dirty else 0) + (if drop then 16 else 0))) := by
  have hf' : o.fromc.toNat ≠ 0 := fun h => hf (BitVec.eq_of_toNat_eq h)
  have ht' : o.toc.toNat ≠ 0 := fun h => ht (BitVec.eq_of_toNat_eq h)
  have hp : (bitOf 0 o.fromc.toNat && storesPending s.core.stores (s.effScope o.scope.toNat).1) = false := by
    by_cases hb : bitOf 0 o.fromc.toNat = true
    · rw [hs hb, storesPending_nil, Bool.and_false]
    · rw [Bool.not_eq_true] at hb
      rw [hb, Bool.false_and]
  refine sOp_next hg ?_
  simp only [hf', ht', or_self, if_false, hp, Bool.false_eq_true, div_two_bne_zero, Bool.and_eq_true, decide_eq_true_eq]

end

/-- Settles O24, instruction by instruction. -/
theorem fencesComplete : Obligations.FencesComplete := by
  unfold Obligations.FencesComplete
  refine ⟨fun o s hg => ?_, fun o s hg => ⟨execPfence_of_no_class hg, execPfence_of_classes hg⟩⟩
  obtain ⟨h0, h1, h2, h3⟩ := execFence_orders hg
  exact ⟨h0, h1, h2, h3, execDrain_of_not_draining hg⟩

/-! ### Branches -/

theorem dispTarget_eq (s : State) (i : BitVec 19) : s.dispTarget i = (BitVec.ofInt 64 (s.cx.addr + 4 * i.toInt)).toNat := by
  have hi : i.signExtend 64 = BitVec.ofInt 64 i.toInt := rfl
  rw [State.dispTarget, hi, BitVec.ofInt_add, BitVec.ofInt_mul, BitVec.ofInt_natCast, BitVec.mul_comm]
  rfl

/-- Predicted taken: not conditional, or backwards (R136). -/
theorem predicted_eq (g : BitVec 4) (n : Bool) (i : BitVec 19) :
    (!conditional g n || i.msb) = decide ((g = 0 ∧ n = false) ∨ i.toInt < 0) := by
  rw [Bool.eq_iff_iff, decide_eq_true_eq, Bool.or_eq_true, BitVec.msb_eq_toInt, decide_eq_true_eq, conditional]
  simp

/-- Settles O25: the record of each transfer, its target as the sum and its prediction as the cases of R136. -/
theorem branchesComplete : Obligations.BranchesComplete := by
  unfold Obligations.BranchesComplete
  intro s taken
  refine ⟨fun o hg => ?_, fun o hg => ?_, fun o hg => ?_⟩
  · dsimp only
    rw [← dispTarget_eq, ← predicted_eq, ← hg]
    exact ⟨rfl, rfl⟩
  · rw [← hg]
    exact ⟨fun h => (if_pos h : execJr o s = _), fun h => (if_neg h : execJr o s = _)⟩
  · rw [← hg]
    rfl

end Sys2Proof.Proofs.FencesAndBranches
end

section
/-! Proofs. Checkpoints, rollback and traps (R297 to R300, R309 to R313, R322). Counting, tracing and signing change only what
a core counts and records, so that what a checkpoint or a rollback makes of a core can be read off. -/

namespace Sys2Proof.Proofs.Checkpoints
open Sys2Proof Sys2Proof.Machine Sys2Proof.Proofs.ScalarSlot

/-! ### A core without what it counts and records -/

/-- A core with its counters, and its counts, records and signatures that are undecided, left out. -/
def uncounted (k : Core) : Core := { k with pmc := [], hpmc := [], pendCnt := [], pendTrc := [], pendSig := [] }

/-- Two cores agree on what they run and have queued, which is not what they count. -/
structure SameRun (k k' : Core) : Prop where
  sync : k.sync = k'.sync
  shadow : k.shadow = k'.shadow
  trapShadow : k.trapShadow = k'.trapShadow
  mode : k.mode = k'.mode
  guest : k.guest = k'.guest
  trap : k.trap = k'.trap
  stores : k.stores = k'.stores
  mq : k.mq = k'.mq
  cqa : k.cqa = k'.cqa
  cqb : k.cqb = k'.cqb
  tq : k.tq = k'.tq
  branches : k.branches = k'.branches
  ckpts : k.ckpts = k'.ckpts
  rstack : k.rstack = k'.rstack
  ckptAddr : k.ckptAddr = k'.ckptAddr
  ckptSeq : k.ckptSeq = k'.ckptSeq
  readyAt : k.readyAt = k'.readyAt
  fbBytes : k.fbBytes = k'.fbBytes

theorem sameRun_of_uncounted {k k' : Core} (h : uncounted k = uncounted k') : SameRun k k' where
  sync := (congrArg Core.sync h :)
  shadow := (congrArg Core.shadow h :)
  trapShadow := (congrArg Core.trapShadow h :)
  mode := (congrArg Core.mode h :)
  guest := (congrArg Core.guest h :)
  trap := (congrArg Core.trap h :)
  stores := (congrArg Core.stores h :)
  mq := (congrArg Core.mq h :)
  cqa := (congrArg Core.cqa h :)
  cqb := (congrArg Core.cqb h :)
  tq := (congrArg Core.tq h :)
  branches := (congrArg Core.branches h :)
  ckpts := (congrArg Core.ckpts h :)
  rstack := (congrArg Core.rstack h :)
  ckptAddr := (congrArg Core.ckptAddr h :)
  ckptSeq := (congrArg Core.ckptSeq h :)
  readyAt := (congrArg Core.readyAt h :)
  fbBytes := (congrArg Core.fbBytes h :)

/-- Two states in which every core differs at most in what it counts and records. -/
structure CountsOnly (s t : State) : Prop where
  focus : t.focus = s.focus
  now : t.now = s.now
  free : t.free = s.free
  cx : t.cx = s.cx
  core : ∀ n, uncounted (t.coreAt n) = uncounted (s.coreAt n)

namespace CountsOnly

theorem refl (s : State) : CountsOnly s s := ⟨rfl, rfl, rfl, rfl, fun _ => rfl⟩

theorem trans {s t u : State} (h : CountsOnly s t) (h' : CountsOnly t u) : CountsOnly s u :=
  ⟨h'.focus.trans h.focus, h'.now.trans h.now, h'.free.trans h.free, h'.cx.trans h.cx, fun n => (h'.core n).trans (h.core n)⟩

theorem modCoreAt (s : State) (n : Nat) {f : Core → Core} (hf : ∀ k, uncounted (f k) = uncounted k) :
    CountsOnly s (s.modCoreAt n f) := by
  refine ⟨rfl, rfl, rfl, rfl, fun m => ?_⟩
  by_cases h : m = n
  · rw [h, coreAt_modCoreAt_self, hf]
  · rw [coreAt_modCoreAt_ne _ _ _ _ h]

theorem foldl {α : Type} {f : State → α → State} (hf : ∀ s a, CountsOnly s (f s a)) :
    ∀ (l : List α) (s : State), CountsOnly s (l.foldl f s)
  | [], s => refl s
  | a :: l, s => (hf s a).trans (foldl hf l (f s a))

theorem countIn (s : State) (c : Nat) (h : Bool) (e n : Nat) : CountsOnly s (s.countIn c h e n) := by
  unfold State.countIn
  dsimp only
  split
  · exact refl s
  · split
    · exact modCoreAt s c fun _ => rfl
    · split
      · exact modCoreAt s c fun _ => rfl
      · exact refl s

theorem countAt (s : State) (c e n : Nat) : CountsOnly s (s.countAt c e n) := countIn s c _ e n

theorem ite {s t u : State} {p : Prop} [Decidable p] (h : CountsOnly s t) (h' : CountsOnly s u) :
    CountsOnly s (if p then t else u) := by
  split
  · exact h
  · exact h'

theorem traceRecAt (s : State) (c type aux addr data cycle flags : Nat) :
    CountsOnly s (s.traceRecAt c type aux addr data cycle flags) :=
  ite (refl s) ⟨rfl, rfl, rfl, rfl, fun _ => rfl⟩

theorem traceRec (s : State) (c type aux addr data : Nat) : CountsOnly s (s.traceRec c type aux addr data) :=
  traceRecAt s c _ _ _ _ _ _

theorem foldSig (s : State) (n q : Nat) : CountsOnly s (s.foldSig n q) := by
  unfold State.foldSig
  dsimp only
  split
  · exact refl s
  · exact (modCoreAt s n (f := fun k => { k with pendSig := k.pendSig.filter (fun p => !decide (p.1 < q)) }) fun _ => rfl).trans
      ⟨rfl, rfl, rfl, rfl, fun _ => rfl⟩

theorem settle (s : State) (n : Nat) : CountsOnly s (s.settle n) := by
  unfold State.settle
  refine trans (trans (modCoreAt s n fun _ => ?_) (foldl (fun t p => ?_) _ _)) (foldl (fun t p => ?_) _ _)
  · rfl
  · exact countAt t n p.2.1 p.2.2
  · exact traceRecAt t n p.type p.aux p.addr p.data p.cycle p.flags

end CountsOnly

/-! ### What a checkpoint makes of a core -/

/-- A core whose checkpoint at `addr` has been taken: the shadow, the releases and the commitments (R298). -/
def checkpointed (now free addr q : Nat) (y : Sync) (k : Core) : Core :=
  { k with
    shadow := y.landed free
    ckptAddr := addr
    stores := k.stores.map (fun x => if !x.released && decide (x.seqNo < q)
      then { x with released := true, ckpt := addr, relAt := now } else x)
    mq := k.mq.map (fun x => if x.seqNo < q then { x with committed := true } else x)
    cqa := k.cqa.map (fun x => if x.seqNo < q then { x with committed := true } else x)
    cqb := k.cqb.map (fun x => if x.seqNo < q then { x with committed := true } else x)
    tq := k.tq.map (fun x => if x.seqNo < q then { x with committed := true } else x)
    ckptSeq := q }

theorem takeCkpt_counts (s : State) (n addr q : Nat) (y : Sync) :
    CountsOnly ((s.countAt n 15 1).modCoreAt n (checkpointed s.now s.free addr q y)) (s.takeCkpt n addr q y) := by
  have h := CountsOnly.countAt s n 15 1
  rw [← h.now, ← h.free]
  exact CountsOnly.foldSig _ n q

theorem takeCkpt_core (s : State) (n addr q : Nat) (y : Sync) :
    uncounted ((s.takeCkpt n addr q y).coreAt n) = uncounted (checkpointed s.now s.free addr q y (s.coreAt n)) := by
  rw [(takeCkpt_counts s n addr q y).core, coreAt_modCoreAt_self]
  exact congrArg (checkpointed s.now s.free addr q y) ((CountsOnly.countAt s n 15 1).core n)

/-! ### The registers and queues of a checkpoint -/

section
variable {free : Nat} {y : Sync}

/-- Setting the dead registers of a file leaves the others. -/
theorem get_foldl_gone {l : List Nat} (b : Bool) (p : Nat) (hp : y.dead b p = false) : ∀ t : Tab VReg,
    (l.foldl (fun t p => if y.dead b p then
      t.set p { t.get {} p with bits := Config.freeLine free (2000 + vKey b p) } else t) t).get {} p = t.get {} p := by
  induction l with
  | nil => exact fun _ => rfl
  | cons i l ih =>
    intro t
    rw [List.foldl_cons, ih]
    split
    · next hd => exact Tab.get_set_ne _ _ _ _ _ (fun he => by rw [he, hd] at hp; cases hp)
    · rfl

theorem landed_a_get {p : Nat} (hp : y.dead false p = false) : (y.landed free).a.get {} p = y.a.get {} p :=
  get_foldl_gone false p hp y.a

theorem landed_b_get {p : Nat} (hp : y.dead true p = false) : (y.landed free).b.get {} p = y.b.get {} p :=
  get_foldl_gone true p hp y.b

end

/-- What marking the older entries of a queue does: they are marked, the others and their number stay. -/
theorem mem_mark {α : Type} {l : List α} {num : α → Nat} {mark : α → α} {done : α → Bool} (hd : ∀ x, done (mark x) = true)
    (q : Nat) :
    (∀ x ∈ l.map (fun x => if num x < q then mark x else x), num x < q → done x = true) ∧
      (∀ x ∈ l, q ≤ num x → x ∈ l.map (fun x => if num x < q then mark x else x)) ∧
      (l.map (fun x => if num x < q then mark x else x)).length = l.length := by
  refine ⟨fun x hx hq => ?_, fun x hx hq => List.mem_map.2 ⟨x, hx, if_neg (Nat.not_lt.2 hq)⟩, List.length_map _⟩
  obtain ⟨z, _, rfl⟩ := List.mem_map.1 hx
  by_cases h : num z < q
  · rw [if_pos h, hd]
  · rw [if_neg h] at hq
    exact absurd hq h

/-- A withheld store that a checkpoint releases. -/
def release (now addr q : Nat) (x : Store) : Store :=
  if !x.released && decide (x.seqNo < q) then { x with released := true, ckpt := addr, relAt := now } else x

section
variable (l : List Store) (now addr q : Nat)

theorem released_of_older : ∀ x ∈ l.map (release now addr q), x.seqNo < q → x.released = true := by
  intro x hx hq
  obtain ⟨z, _, rfl⟩ := List.mem_map.1 hx
  unfold release at hq ⊢
  split at hq
  · next h => rw [if_pos h]
  · next h =>
    rw [if_neg h]
    simpa [hq] using h

theorem stores_of_younger : ∀ x ∈ l, q ≤ x.seqNo → x ∈ l.map (release now addr q) := by
  intro x hx hq
  refine List.mem_map.2 ⟨x, hx, if_neg ?_⟩
  simp [Nat.not_lt.2 hq]

theorem release_bytes : (l.map (release now addr q)).map (fun x => (x.seqNo, x.kind, x.pa, x.sel, x.bytes)) =
    l.map (fun x => (x.seqNo, x.kind, x.pa, x.sel, x.bytes)) := by
  rw [List.map_map]
  refine List.map_congr_left fun x _ => ?_
  rw [Function.comp_apply, release]
  split <;> rfl

end

/-! ### What a rollback makes of a core -/

/-- A core that has been rolled back to its last checkpoint (R309). -/
def rolledBack (k : Core) : Core :=
  { k with
    stores := k.stores.filter (fun x => x.released)
    mq := k.mq.filter (fun x => x.committed)
    cqa := k.cqa.filter (fun x => x.committed)
    cqb := k.cqb.filter (fun x => x.committed)
    tq := k.tq.filter (fun x => x.committed)
    sync := k.shadow, branches := [], ckpts := [], held := none, rstack := [], ckptHere := false, missed := false, missedFar := false
    missView := none, stallWhy := 0
    outq := k.outq.filter (fun x => decide (x.2.2.2.2 < k.ckptSeq))
    pend := k.pend.filter (fun x => decide (x.2.writer < k.ckptSeq)), yieldPend := none
    dbg := { k.dbg with bk := none, ck := false, step := false }
    walk := none, walkFault := none, req := none, got := [], capGo := none, fbBytes := [], fbFault := none, pendSig := [] }

/-- The array of the cluster and the barrier unit forget what the core asked of them: no core changes. -/
theorem CountsOnly.dropArray (s : State) (n : Nat) : CountsOnly s (s.dropArray n) := ⟨rfl, rfl, rfl, rfl, fun _ => rfl⟩

theorem rollback_counts (s : State) (n why : Nat) :
    ∃ u, CountsOnly s u ∧ CountsOnly (u.modCoreAt n rolledBack) (s.rollback n why) := by
  have hu : CountsOnly s (if (s.coreAt n).acquiring 0 then s.dropArray n else s) := .ite (.dropArray s n) (.refl s)
  obtain ⟨u, he⟩ : ∃ u, u = (if (s.coreAt n).acquiring 0 then s.dropArray n else s).modCl (clOf n)
    (fun c => { c with breqs := c.breqs.filter (fun b => b.core != n % 8) }) := ⟨_, rfl⟩
  have hsu : CountsOnly s u := he ▸ hu.trans ⟨rfl, rfl, rfl, rfl, fun _ => rfl⟩
  have hd : CountsOnly (u.modCoreAt n rolledBack) ((u.modCoreAt n rolledBack).dropRequests n) :=
    ⟨rfl, rfl, rfl, rfl, fun _ => rfl⟩
  have hr : s.rollback n why = ((((u.modCoreAt n rolledBack).dropRequests n).countAt n 16 1).settle n).traceRec n 3 why
      (s.coreAt n).ckptAddr 0 := by
    rw [he]
    rfl
  refine ⟨u, hsu, ?_⟩
  rw [hr]
  exact ((hd.trans (.countAt _ n 16 1)).trans (.settle _ n)).trans (.traceRec _ n 3 why _ 0)

theorem rollback_core (s : State) (n why : Nat) :
    uncounted ((s.rollback n why).coreAt n) = uncounted (rolledBack (s.coreAt n)) := by
  obtain ⟨u, hu, hr⟩ := rollback_counts s n why
  rw [hr.core, coreAt_modCoreAt_self]
  exact (congrArg rolledBack (hu.core n) :)

/-- Settles O29: the core of a checkpoint, the marks of its queues, and the core of a rollback. -/
theorem checkpointAndRollback : Obligations.CheckpointAndRollback := by
  unfold Obligations.CheckpointAndRollback
  refine ⟨fun s n addr q y => ?_, fun s n why => ?_⟩
  · have h := sameRun_of_uncounted (takeCkpt_core s n addr q y)
    have hmq := mem_mark (l := (s.coreAt n).mq) (num := MCmd.seqNo) (mark := fun x => { x with committed := true })
      (done := MCmd.committed) (fun _ => rfl) q
    have hcqa := mem_mark (l := (s.coreAt n).cqa) (num := CCmd.seqNo) (mark := fun x => { x with committed := true })
      (done := CCmd.committed) (fun _ => rfl) q
    have hcqb := mem_mark (l := (s.coreAt n).cqb) (num := CCmd.seqNo) (mark := fun x => { x with committed := true })
      (done := CCmd.committed) (fun _ => rfl) q
    have htq := mem_mark (l := (s.coreAt n).tq) (num := TCmd.seqNo) (mark := fun x => { x with committed := true })
      (done := TCmd.committed) (fun _ => rfl) q
    dsimp only
    rw [h.shadow, h.stores, h.mq, h.cqa, h.cqb, h.tq]
    refine ⟨rfl, fun p _ hp => landed_a_get hp, fun p _ hp => landed_b_get hp, h.ckptAddr, h.ckptSeq, h.sync, h.mode, h.guest,
      released_of_older _ _ _ _, hmq.1, hcqa.1, hcqb.1, htq.1, stores_of_younger _ _ _ _, List.length_map _, ?_, hmq.2.1, hmq.2.2, hcqa.2.1, hcqa.2.2,
      hcqb.2.1, hcqb.2.2, htq.2.1, htq.2.2⟩
    exact release_bytes _ _ _ _
  · have h := sameRun_of_uncounted (rollback_core s n why)
    exact ⟨h.sync, h.shadow, h.mode, h.trap, h.stores, h.mq, h.cqa, h.cqb⟩

end Sys2Proof.Proofs.Checkpoints
end

section
/-! Proofs. Traps and the return from a handler (R309, R311, R313, R322). -/

namespace Sys2Proof.Proofs.Traps
open Sys2Proof Sys2Proof.Machine Sys2Proof.Proofs.ScalarSlot Sys2Proof.Proofs.Checkpoints

/-- The trap registers that taking a trap leaves (R313). -/
def trapRegs (k : Core) (r : TrapReq) : TrapRegs :=
  { k.trap with
    cause := r.cause, async := r.async, addr := k.ckptAddr % 2 ^ 48, flt := r.flt % 2 ^ 48
    slots := if r.async then 0 else r.slots, info := r.info }

/-- A core that has entered its handler (R309, R311). -/
def entered (now : Nat) (regs : TrapRegs) (k : Core) : Core :=
  { k with
    trap := regs, mode := .handler, trapShadow := k.shadow, trapSeq := k.ckptSeq
    sync := { k.sync with pc := k.trap.haddr }, readyAt := now + 8 }

theorem uncounted_entered (now : Nat) (regs : TrapRegs) (k : Core) :
    uncounted (entered now regs k) = entered now regs (uncounted k) := rfl

section
variable {s : State} {n : Nat} {r : TrapReq} (hm : (s.coreAt n).mode ≠ .handler ∨ r.async = true)
  (he : (s.coreAt n).trap.en = true) (hw : r.cause ≠ 0x42 ∨ r.async = true)
include hm he hw

/-- A trap that is neither the walker's nor nested nor without a handler. -/
theorem takeTrap_enters :
    CountsOnly ((s.rollback n r.cause).modCoreAt n (entered s.now (trapRegs (s.coreAt n) r))) (s.takeTrap n r) := by
  have hw' : (decide (r.cause = 0x42) && !r.async) = false := by
    rcases hw with h | h <;> simp [h]
  have hm' : ((s.coreAt n).mode == .handler && !r.async) = false := by
    rcases hm with h | h <;> simp [h]
  have ht : s.takeTrap n r = (((s.rollback n r.cause).modCoreAt n (entered s.now (trapRegs (s.coreAt n) r))).countIn n
      ((s.coreAt n).mode == .handler) 17 1).traceRec n 2 r.cause r.flt (trapRegs (s.coreAt n) r).addr := by
    delta entered trapRegs
    simp only [State.takeTrap, hw', hm', he, Bool.not_true, Bool.false_eq_true, if_false]
  rw [ht]
  exact (CountsOnly.countIn _ n _ 17 1).trans (.traceRec _ n 2 _ _ _)

theorem takeTrap_core : SameRun ((s.takeTrap n r).coreAt n) (entered s.now (trapRegs (s.coreAt n) r) (rolledBack (s.coreAt n))) := by
  refine sameRun_of_uncounted ?_
  rw [(takeTrap_enters hm he hw).core, coreAt_modCoreAt_self]
  rw [uncounted_entered, rollback_core, ← uncounted_entered]

end

/-- Settles O27: the core of the rollback, in the handler. -/
theorem trapEntry : Obligations.TrapEntry := by
  unfold Obligations.TrapEntry
  intro s n r hm he hw
  have h := takeTrap_core hm he hw
  dsimp only
  rw [h.stores, h.mq, h.cqa, h.cqb, h.tq]
  refine ⟨h.mode, h.sync, h.trapShadow, h.readyAt, h.trap, fun x hx => ?_, fun x hx => ?_, fun x hx => ?_, fun x hx => ?_,
    fun x hx => ?_, h.branches, h.ckpts, h.rstack⟩
  all_goals exact (List.mem_filter.1 hx).2

/-! ### TRAP -/

theorem rollback_focus (s : State) (n why : Nat) : (s.rollback n why).focus = s.focus := by
  obtain ⟨u, hu, hr⟩ := rollback_counts s n why
  rw [hr.focus]
  exact hu.focus

/-- A core that has gone on to another synchronous state. -/
def movedOn (y : Sync) (q : Nat) (k : Core) : Core := { k with sync := y, seqNo := q }

theorem uncounted_movedOn (y : Sync) (q : Nat) (k : Core) : uncounted (movedOn y q k) = movedOn y q (uncounted k) := rfl

/-- The state in which TRAP traps: the checkpoint at the next bundle stands (R322). -/
def atNext (s : State) : State :=
  (s.takeCkpt s.focus s.fallSync.pc (s.core.seqNo + 1) s.fallSync).modCore (movedOn s.fallSync (s.core.seqNo + 1))

theorem takeCkpt_focus (s : State) (n addr q : Nat) (y : Sync) : (s.takeCkpt n addr q y).focus = s.focus :=
  (takeCkpt_counts s n addr q y).focus.trans (CountsOnly.countAt s n 15 1).focus

theorem atNext_focus (s : State) : (atNext s).focus = s.focus := takeCkpt_focus s _ _ _ _

theorem atNext_core (s : State) : SameRun ((atNext s).coreAt s.focus)
    (movedOn s.fallSync (s.core.seqNo + 1) (checkpointed s.now s.free s.fallSync.pc (s.core.seqNo + 1) s.fallSync s.core)) := by
  refine sameRun_of_uncounted ?_
  rw [atNext, State.modCore, takeCkpt_focus, coreAt_modCoreAt_self, uncounted_movedOn, takeCkpt_core, ← uncounted_movedOn]
  rfl

/-- The trap of a TRAP. -/
def trapReq (o : OpSTrap) (s : State) : TrapReq :=
  { cause := 0xE0 + o.c.toNat, slots := 1, info := s.rs o.a, flt := s.cx.addr, async := false }

theorem execTrap_of_clear {o : OpSTrap} {s : State} (hg : s.guardOn o.g o.n = true) (hc : s.clear = true) :
    execTrap o s = .next (let t := (atNext s).takeTrap s.focus (trapReq o s)
      { t with cx := { t.cx with fin := true } }) :=
  sOp_next hg (by simp only [hc, Bool.not_true, Bool.false_eq_true, if_false]; rfl)

section
variable {s : State} (o : OpSTrap) (he : s.core.trap.en = true) (hm : s.core.mode ≠ .handler)
include he hm

theorem atNext_takeTrap_core : SameRun ((atNext s).takeTrap s.focus (trapReq o s)).core
    (entered (atNext s).now (trapRegs ((atNext s).coreAt s.focus) (trapReq o s)) (rolledBack ((atNext s).coreAt s.focus))) := by
  have hk := atNext_core s
  have hw : (trapReq o s).cause ≠ 0x42 ∨ (trapReq o s).async = true := .inl (by simp only [trapReq]; omega)
  have hm' : ((atNext s).coreAt s.focus).mode ≠ .handler ∨ (trapReq o s).async = true := .inl (by rw [hk.mode]; exact hm)
  have he' : ((atNext s).coreAt s.focus).trap.en = true := by rw [hk.trap]; exact he
  have hf : ((atNext s).takeTrap s.focus (trapReq o s)).focus = s.focus := by
    rw [(takeTrap_enters hm' he' hw).focus, modCoreAt_focus, rollback_focus, atNext_focus]
  rw [State.core, hf]
  exact takeTrap_core hm' he' hw

end

theorem core_with_cx (s : State) (c : BCtx) : ({ s with cx := c } : State).core = s.core := rfl

/-- Settles O28: TRAP by the trap that its state takes, ERET by the mode. -/
theorem trapAndReturn : Obligations.TrapAndReturn := by
  unfold Obligations.TrapAndReturn
  refine ⟨fun o s hg hc he hm => ?_, fun o s hg => ⟨fun hm => ?_, fun hm => ?_⟩⟩
  · have hk := atNext_core s
    have ht := atNext_takeTrap_core o he hm
    refine ⟨_, (execTrap_of_clear hg hc : execTrap o s = _), rfl, ?_⟩
    dsimp only
    rw [core_with_cx, ht.mode, ht.sync, ht.trap, ht.shadow]
    simp only [entered, rolledBack, trapRegs, hk.trap, hk.ckptAddr, hk.shadow]
    exact ⟨trivial, rfl, rfl, rfl, rfl, rfl, rfl, rfl, rfl⟩
  · have hh : s.inHandler = true := by rw [State.inHandler, hm]; rfl
    refine ⟨_, (sOp_next hg (if_pos hh) : execEret o s = _), ?_⟩
    rw [State.leaveHandler, core_with_cx, core_modCore]
    exact ⟨rfl, rfl, rfl, rfl, Nat.le_max_left 7 _⟩
  · have hh : ¬ s.inHandler = true := by simpa [State.inHandler] using hm
    exact ⟨_, (sOp_next hg (if_neg hh) : execEret o s = _)⟩

end Sys2Proof.Proofs.Traps
end

section
/-! Proofs. Waits, signals and barriers (R321, R322, R333 to R337), the services of Bowline (R450) and the requests to the
command processor (R441 to R445). -/

namespace Sys2Proof.Proofs.Services
open Sys2Proof Sys2Proof.Machine Sys2Proof.Proofs.ScalarSlot Sys2Proof.Proofs.WriteBack

/-! ### Stores that have performed -/

theorem settled_of_no_stores {s : State} (h : s.core.stores = []) (scope : Nat) : s.settled scope = some (s.l1Clean s.focus) := by
  rw [State.settled, h]
  rfl

theorem gid_l1Clean (s : State) : (s.l1Clean s.focus).gid = s.gid := (sameArrays_l1Clean s s.focus).gid

/-! ### Waits, signals and barriers -/

theorem execYield_cases {s : State} {o : OpSN} (hg : s.guardOn o.g o.n = true) :
    (s.core.yreq = true → s.core.mode ≠ .handler →
      execYield o s = .next (s.modCore (fun k => { k with yieldPend := some k.seqNo }))) ∧
    (s.core.yreq = false ∨ s.core.mode = .handler → execYield o s = .next s) := by
  refine ⟨fun hy hm => sOp_next hg (if_pos ?_), fun h => sOp_next hg (if_neg ?_)⟩
  · simp [hy, State.inHandler, hm]
  · rcases h with h | h <;> simp [h, State.inHandler]

theorem execWfe_cases {s : State} {o : OpSN} (hg : s.guardOn o.g o.n = true) :
    (s.core.latch = true → execWfe o s = .next (s.modCore (fun k => { k with latch := false }))) ∧
    (s.core.latch = false → s.core.yreq = true → execWfe o s = .next s) ∧
    (s.core.latch = false → s.core.yreq = false → execWfe o s = .next (s.stallOn 15)) :=
  ⟨fun h => sOp_next hg (if_pos h), fun h hy => sOp_next hg (by rw [h, hy]; rfl), fun h hy => sOp_next hg (by rw [h, hy]; rfl)⟩

theorem execEvsig_of_clear {s : State} {o : OpSEv} (hg : s.guardOn o.g o.n = true) (hc : s.clear = true) (hs : s.core.stores = []) :
    execEvsig o s = .next ((s.l1Clean s.focus).modCl (clOf s.focus) (fun c =>
      { c with evs := c.evs ++ [(s.now + 12, ((s.rs o.a).toNat % 256 ||| o.m.toNat) + 256 * s.gid)] })) :=
  sOp_next hg (by simp only [hc, settled_of_no_stores hs]; rfl)

section
variable {s : State} {o : OpSBar} (hg : s.guardOn o.g o.n = true) (hc : s.clear = true)
include hg hc

theorem barOp_of_answer {r : BarReq} {v : Nat} (hr : (s.clAt (clOf s.focus)).breqs.find? (fun r => r.core == s.focus % 8) = some r)
    (hv : r.ans = some v) (op : Nat) :
    barOp s o op = .next (((s.modCl (clOf s.focus) (fun x => { x with breqs := x.breqs.filter (fun r => r.core != s.focus % 8) })).ws
      o.d (BitVec.ofNat 64 v) 1).holdNext (r.ansAt + 3 - s.now)) :=
  sOp_next hg (by simp only [hc, hr, hv]; rfl)

theorem barOp_of_no_request (hs : s.core.stores = [])
    (hr : (s.clAt (clOf s.focus)).breqs.find? (fun r => r.core == s.focus % 8) = none) (op : Nat) :
    barOp s o op = .next ((s.modCl (clOf s.focus) (fun x => { x with breqs := x.breqs ++
      [{ core := s.focus % 8, op := op, bar := o.b.toNat, val := (s.rs o.a).toNat, actAt := s.now + 4 }] })).stallOn 15) :=
  sOp_next hg (by simp only [hc, hr, hs]; rfl)

end

theorem execBkpt_cases {s : State} {o : OpSBk} (hg : s.guardOn o.g o.n = true) :
    (∀ c, s.dbgFor s.focus = some c → bitOf 0 c.1 = true →
      execBkpt o s = .next (s.modCore (fun k => { k with dbg := { k.dbg with bk := some (k.seqNo, o.i.toNat) } }))) ∧
    (s.dbgFor s.focus = none → execBkpt o s = .next s) :=
  ⟨fun c h hb => sOp_next hg (by simp only [h, hb, if_true]), fun h => sOp_next hg (by simp only [h])⟩

theorem execMark_of_guard {s : State} {o : OpSLoop} (hg : s.guardOn o.g o.n = true) :
    execMark o s = .next (if s.cx.stall = none then s.traceB 4 o.i.toNat s.cx.addr (s.rs o.a).toNat else s) := by
  refine sOp_next hg ?_
  cases s.cx.stall <;> rfl

/-- Settles O30, instruction by instruction. -/
theorem waitsSignalsAndBarriers : Obligations.WaitsSignalsAndBarriers := by
  unfold Obligations.WaitsSignalsAndBarriers
  refine ⟨fun s => ⟨fun o hg => ?_, fun o hg => ?_, fun o hg hc hs => ?_⟩, fun o s r v hg hc hr hv => ?_, fun o s hg hc hs hr => ?_,
    fun o s hg => execBkpt_cases hg, fun o s hg => execMark_of_guard hg⟩
  · exact (sOp_next hg rfl : execYchk o s = _)
  · obtain ⟨hy, hn⟩ := execYield_cases hg
    exact ⟨hy, hn, execWfe_cases hg⟩
  · exact ⟨_, execEvsig_of_clear hg hc hs, by rw [clAt_modCl_self]⟩
  · have h := barOp_of_answer hg hc hr hv
    simp only [List.mem_cons, List.not_mem_nil, or_false, forall_eq_or_imp, forall_eq]
    exact ⟨h 0, h 1, h 2, h 3⟩
  · have h := barOp_of_no_request hg hc hs hr
    simp only [List.mem_cons, List.not_mem_nil, or_false, forall_eq_or_imp, forall_eq]
    exact ⟨h 0, h 1, h 2, h 3⟩

/-! ### Services -/

theorem service_of_clear {s t : State} {o : OpSR2} {refused : Bool} {f : State → State} (hg : s.guardOn o.g o.n = true)
    (hc : s.clear = true) (hr : refused = true → s.replaying s.focus = false) (hf : f s = t) : service s o refused f = .next t := by
  refine sOp_next hg ?_
  have hr' : (refused && s.replaying s.focus) = false := by
    cases refused
    · rfl
    · exact hr rfl
  rw [hc, hr', hf]
  rfl

theorem gstate_eq (s : State) : s.gstate s.gid =
    (s.gc s.gid).tenant * 65536 + (if (s.gc s.gid).en = true then (s.gc s.gid).cls else 0) * 1024 + s.gid * 16 + (s.gc s.gid).gstate :=
  rfl

theorem bitsOf_high_byte (a : Nat) : bitsOf 63 56 a = a / 2 ^ 56 % 256 := rfl

theorem bitsOf_low_word (a : Nat) : bitsOf 31 0 a = a % 2 ^ 32 := congrArg (· % 2 ^ 32) (Nat.div_one a)

/-- Settles O31: each service once nothing stands in its way. -/
theorem servicesComplete : Obligations.ServicesComplete := by
  unfold Obligations.ServicesComplete
  intro o s hg hc
  have hno : false = true → s.replaying s.focus = false := fun h => absurd h (by decide)
  refine ⟨⟨_, (service_of_clear hg hc hno rfl : execKend o s = _), by rw [core_modCore], by rw [core_modCore]⟩,
    (service_of_clear hg hc hno (by rw [gstate_eq]) : execGstat o s = _), fun hr => ⟨fun hs => ⟨?_, ?_⟩, ?_, ?_, ?_, fun svc => ?_⟩⟩
  · exact (service_of_clear hg hc (fun _ => hr) (by rw [settled_of_no_stores hs]) : execSysord o s = _)
  · refine (service_of_clear hg hc (fun _ => hr) ?_ : execEvadd o s = _)
    simp only [settled_of_no_stores hs, gid_l1Clean, bitsOf_high_byte, bitsOf_low_word]
  · exact (service_of_clear hg hc (fun _ => hr) rfl : execClaim o s = _)
  · exact (service_of_clear hg hc (fun _ => hr) rfl : execRelease o s = _)
  · exact (service_of_clear hg hc (fun _ => hr) rfl : execNotify o s = _)
  · exact (service_of_clear (o := { g := o.g, n := o.n, d := o.d, a := o.a }) hg hc (fun _ => hr) rfl :
      execSysc { g := o.g, n := o.n, d := o.d, a := o.a, svc := svc } s = _)

end Sys2Proof.Proofs.Services
end

section
/-! Proofs. The requests of a kernel to the command processor (R441 to R445). -/

namespace Sys2Proof.Proofs.Launch
open Sys2Proof Sys2Proof.Machine Sys2Proof.Proofs.ScalarSlot Sys2Proof.Proofs.Services

theorem request_of_clear {s t : State} {g : BitVec 4} {n : Bool} {f : State → State} (hg : s.guardOn g n = true)
    (hc : s.clear = true) (hr : s.replaying s.focus = false) (hs : s.core.stores = []) (scope : Nat)
    (hf : f (s.l1Clean s.focus) = t) : request s g n scope f = .next t :=
  sOp_next hg (by simp only [hc, hr, settled_of_no_stores hs, hf]; rfl)

theorem cpStall_of_through {t : State} {f : State → State} (h : t.Through (cpPayer t.gid) (f t.collecting)) :
    t.cpStall f = (f t.collecting).paidUp (cpPayer t.gid) := by
  rw [State.cpStall, regulated_through t (cpPayer t.gid) _ (fun t => (f t, ())) h rfl]

/-! ### LNCH (R442) -/

section
variable {s : State} {g k a : Nat}

theorem launchAt_of_misaligned (h : a % 32 ≠ 0) : s.launchAt g k a = (s, 4) := if_pos h

theorem launchAt_of_unreadable {u : State} {e : Nat × Nat} (h : a % 32 = 0) (hr : s.nodeRead g a = (u, .error e)) :
    s.launchAt g k a = (u, 2) := by
  simp only [State.launchAt, h, ne_eq, not_true_eq_false, if_false, hr]

theorem launchAt_of_bad {u : State} {x : Node} (h : a % 32 = 0) (hr : s.nodeRead g a = (u, .ok x)) :
    let n := { x with bytes := patch x.bytes 8 (List.replicate 8 0) }
    (n.kind ≠ 1 ∧ n.kind ≠ 2 ∨ nodeOk (u.guestAt g).gc n = false) → s.launchAt g k a = (u, 3) := by
  intro n hn
  have hbad : (!(n.kind == 1 || n.kind == 2) || !nodeOk (u.guestAt g).gc n) = true := by
    rcases hn with ⟨h1, h2⟩ | h <;> simp [*]
  simp only [State.launchAt, h, ne_eq, not_true_eq_false, if_false, hr]
  exact if_pos hbad

theorem launchAt_of_good {u : State} {x : Node} (h : a % 32 = 0) (hr : s.nodeRead g a = (u, .ok x)) :
    let n := { x with bytes := patch x.bytes 8 (List.replicate 8 0) }
    (n.kind = 1 ∨ n.kind = 2) → nodeOk (u.guestAt g).gc n = true → u.unfinished g < 256 →
      s.launchAt g k a = (u.enterNode g k 0 n, 0) := by
  intro n hn hok hu
  have hgood : ¬ (!(n.kind == 1 || n.kind == 2) || !nodeOk (u.guestAt g).gc n) = true := by
    rcases hn with h | h <;> simp [h, hok]
  simp only [State.launchAt, h, ne_eq, not_true_eq_false, if_false, hr]
  exact (if_neg hgood).trans (if_neg (Nat.not_le.2 hu))

end

section
variable {s : State} {o : OpSR2} (hg : s.guardOn o.g o.n = true) (hc : s.clear = true) (hr : s.replaying s.focus = false)
  (hs : s.core.stores = [])
include hg hc hr hs

/-- LNCH with the status of its access, once that has gone through. -/
theorem execLnch_of_launchAt {u : State} {v : Nat} :
    let t := s.l1Clean s.focus
    t.collecting.launchAt t.gid t.ownStream (t.rs o.a).toNat = (u, v) →
      t.Through (cpPayer t.gid) (u.ws o.d (BitVec.ofNat 64 v) 1) →
      execLnch o s = .next ((u.ws o.d (BitVec.ofNat 64 v) 1).paidUp (cpPayer t.gid)) := by
  intro t hl ht
  refine request_of_clear hg hc hr hs 3 ?_
  have hf : (let r := t.collecting.launchAt t.collecting.gid t.collecting.ownStream (t.collecting.rs o.a).toNat
      r.1.ws o.d (BitVec.ofNat 64 r.2) 1) = u.ws o.d (BitVec.ofNat 64 v) 1 := by
    rw [show t.collecting.launchAt t.collecting.gid t.collecting.ownStream (t.collecting.rs o.a).toNat = (u, v) from hl]
  rw [← hf] at ht ⊢
  exact cpStall_of_through ht

end

/-! ### GARM (R443) -/

section
variable {t : State} {k a : Nat}

theorem rearm_of_misaligned {g : Nat} (h : a % 32 ≠ 0) : t.rearm g k a = (t, 4) := if_pos h

theorem rearm_of_running {g : Nat} (h : a % 32 = 0) (he : (t.cms g k).en = true) (hh : (t.cms g k).halt = false)
    (hr : (t.cms g k).run = true) (ha : (t.cms g k).gHead = a) :
    t.rearm g k a = (t.modCms g k (fun q => { q with arm := true }), 0) := by
  simp [State.rearm, h, he, hh, hr, ha]

theorem queues_of_misaligned {q : Cms} (h : a % 32 ≠ 0) : q.queues a = false := by simp [Cms.queues, h]

theorem queues_of_running {q : Cms} (hr : q.run = true) (ha : q.gHead = a) : q.queues a = false := by simp [Cms.queues, hr, ha]

end

/-- GARM that writes no entry. -/
theorem execGarm_of_not_queues {s u : State} {o : OpSGarm} {v : Nat} (hg : s.guardOn o.g o.n = true) (hc : s.clear = true)
    (hr : s.replaying s.focus = false) (hs : s.core.stores = []) :
    let t := s.l1Clean s.focus
    (t.cms t.gid o.k.toNat).queues (t.rs o.a).toNat = false → t.rearm t.gid o.k.toNat (t.rs o.a).toNat = (u, v) →
      execGarm o s = .next (u.ws o.d (BitVec.ofNat 64 v) 1) := by
  intro t hq hv
  refine request_of_clear hg hc hr hs 3 ?_
  dsimp only
  rw [hq, hv]
  rfl

/-! ### PFLIP (R445) -/

section
variable {s : State} {o : OpSD} (hg : s.guardOn o.g o.n = true) (hc : s.clear = true) (hs : s.core.stores = [])
  (hsp : (s.l1Clean s.focus).core.splicing = none)
include hg hc hs hsp

theorem execPflip_of_not_ready (hr : (s.l1Clean s.focus).core.planeReady = false) :
    execPflip o s = .next ((s.l1Clean s.focus).ws o.d 1 1) :=
  sOp_next hg (by simp only [hc, settled_of_no_stores hs, hsp, hr]; rfl)

theorem execPflip_of_ready (hr : (s.l1Clean s.focus).core.planeReady = true)
    (hb : ∀ r < 16, (s.l1Clean s.focus).core.ringDiffers r = true → (s.l1Clean s.focus).core.ringBusy r = false) :
    execPflip o s = .next ((((s.l1Clean s.focus).modCore Core.flip).ws o.d 0 1).holdNext 11) := by
  have hany : (List.range 16).any (fun r => (s.l1Clean s.focus).core.ringDiffers r && (s.l1Clean s.focus).core.ringBusy r) = false := by
    rw [List.any_eq_false]
    intro r hr'
    rw [Bool.and_eq_true, not_and, Bool.not_eq_true]
    exact hb r (List.mem_range.1 hr')
  exact sOp_next hg (by simp only [hc, settled_of_no_stores hs, hsp, hr, hany]; rfl)

end

/-- Settles O33: each request by the status of what it asks. -/
theorem launchRequests : Obligations.LaunchRequests := by
  unfold Obligations.LaunchRequests
  intro s hc hs
  refine ⟨fun o hg hr => ⟨fun h => ?_, fun u x h hx => ⟨fun hk hok hu => ?_, fun hbad => ?_⟩, fun u e h hx => ?_⟩,
    fun o hg hr => ⟨fun h => ?_, fun h he hh hrun ha => ?_⟩, fun o hg hr => ?_, fun o hg hsp => ⟨fun hr => ?_, fun hr hb => ?_⟩⟩
  · exact execLnch_of_launchAt hg hc hr hs (launchAt_of_misaligned h)
  · exact execLnch_of_launchAt hg hc hr hs (launchAt_of_good h hx hk hok hu)
  · exact execLnch_of_launchAt hg hc hr hs (launchAt_of_bad h hx hbad)
  · exact execLnch_of_launchAt hg hc hr hs (launchAt_of_unreadable h hx)
  · exact execGarm_of_not_queues hg hc hr hs (queues_of_misaligned h) (rearm_of_misaligned h)
  · exact execGarm_of_not_queues hg hc hr hs (queues_of_running hrun ha) (rearm_of_running h he hh hrun ha)
  · exact (request_of_clear hg hc hr hs 5 rfl : execHirq o s = _)
  · exact execPflip_of_not_ready hg hc hs hsp hr
  · exact execPflip_of_ready hg hc hs hsp hr hb

end Sys2Proof.Proofs.Launch
end

section
/-! Proofs. Control registers (R142, R290): what a read after a write gives. -/

namespace Sys2Proof.Proofs.ControlRegisters
open Sys2Proof Sys2Proof.Machine Sys2Proof.Proofs.ScalarSlot

/-! ### MOVC and MOVCW -/

theorem execMovc_of_free {s : State} {o : OpSMovc} (hg : s.guardOn o.g o.n = true)
    (hb : crOutside o.c.toNat = true → s.core.branches = []) (ht : o.c.toNat = 0x0E4 → ∀ t < 8, s.core.tileBusy t = false) :
    execMovc o s = .next ((s.ws o.d (BitVec.ofNat 64 (s.crValue s.focus s.pre o.c.toNat)) 2).latchPmc o.c.toNat) := by
  have hb' : ¬ (crOutside o.c.toNat && !s.core.branches.isEmpty) = true := by
    rw [Bool.and_eq_true, not_and]
    intro h
    simp [hb h]
  have ht' : ¬ (o.c.toNat = 0x0E4 ∧ (List.range 8).any s.core.tileBusy = true) := by
    rw [not_and, Bool.not_eq_true, List.any_eq_false]
    intro h t h8
    simp [ht h t (List.mem_range.1 h8)]
  exact sOp_next hg (by rw [if_neg hb', if_neg ht'])

theorem execMovcw_of_free {s : State} {o : OpSLoop} (hg : s.guardOn o.g o.n = true)
    (hb : crOutside o.i.toNat = true → s.core.branches = [])
    (hr : (0x040 ≤ o.i.toNat ∧ o.i.toNat ≤ 0x07F ∧ o.i.toNat % 4 = 2) → s.core.ringBusy ((o.i.toNat - 0x40) / 4) = false) :
    execMovcw o s = .next (s.crWrite o.i.toNat (s.rs o.a)) := by
  have hb' : ¬ (crOutside o.i.toNat && !s.core.branches.isEmpty) = true := by
    rw [Bool.and_eq_true, not_and]
    intro h
    simp [hb h]
  have hr' : ¬ (0x040 ≤ o.i.toNat ∧ o.i.toNat ≤ 0x07F ∧ o.i.toNat % 4 = 2 ∧ s.core.ringBusy ((o.i.toNat - 0x40) / 4) = true) := by
    rintro ⟨h1, h2, h3, h4⟩
    rw [hr ⟨h1, h2, h3⟩] at h4
    exact absurd h4 (by decide)
  exact sOp_next hg (by rw [if_neg hb', if_neg hr'])

/-! ### A read after a write -/

theorem field_47_7 (n : Nat) : bitsOf 47 7 n * 128 = n % 2 ^ 48 / 128 * 128 := by
  have h : bitsOf 47 7 n = n / 128 % 2199023255552 := rfl
  omega

theorem b2n_bitOf_zero (n : Nat) : b2n (bitOf 0 n) = n % 2 := by
  rcases Nat.mod_two_eq_zero_or_one n with h | h <;> simp [b2n, bitOf, Nat.testBit_zero, h]

section
variable (s : State) (v : W64)

/-- What register cr reads after v has been written to it. -/
def readBack (cr : Nat) : Nat :=
  (s.crWrite cr v).crValue s.focus ((s.crWrite cr v).coreAt s.focus).sync cr

theorem coreAt_modCore_focus (f : Core → Core) : (s.modCore f).coreAt s.focus = f s.core := core_modCore s f

theorem coreAt_modSync_focus (f : Sync → Sync) : (s.modSync f).coreAt s.focus = { s.core with sync := f s.core.sync } :=
  core_modSync s f

theorem crWrite_trap_of_not_handler {cr : Nat} (h : 0x010 ≤ cr) (h' : cr ≤ 0x015) (hm : s.core.mode ≠ .handler) :
    s.crWrite cr v = s := by
  have hh : s.inHandler = false := by simpa [State.inHandler] using hm
  simp only [State.crWrite, h, h', and_self, if_true, hh, Bool.not_false]

/-- The trap registers in handler mode (R313). -/
theorem readBack_trap (hm : s.core.mode = .handler) :
    readBack s v 0x011 = v.toNat % 2 ^ 48 ∧ readBack s v 0x012 = v.toNat % 2 ^ 48 ∧ readBack s v 0x013 = v.toNat % 256 ∧
      readBack s v 0x014 = v.toNat ∧ readBack s v 0x015 = v.toNat / 4 % 2 ^ 46 * 4 + v.toNat % 2 := by
  have hh : s.inHandler = true := by rw [State.inHandler, hm]; rfl
  refine ⟨?_, ?_, ?_, ?_, ?_⟩
  · simp [readBack, State.crWrite, hh, State.crValue, coreAt_modCore_focus, bitsOf]
  · simp [readBack, State.crWrite, hh, State.crValue, coreAt_modCore_focus, bitsOf]
  · simp [readBack, State.crWrite, hh, State.crValue, coreAt_modCore_focus, bitsOf]
  · simp [readBack, State.crWrite, hh, State.crValue, coreAt_modCore_focus]
  · simp [readBack, State.crWrite, hh, State.crValue, coreAt_modCore_focus, bitsOf, b2n_bitOf_zero]

/-- WARN (R47): write one to clear, the bits of the same bundle kept. -/
theorem testBit_readBack_warn {i : Nat} (hi : i < 12) :
    (readBack s v 0x016).testBit i = ((s.core.sync.warn.testBit i && !v.toNat.testBit i) || s.cx.warn.testBit i) := by
  have hv : (4095 - v.toNat % 4096).testBit i = !v.toNat.testBit i := by
    have hm : v.toNat % 2 ^ 12 < 2 ^ 12 := Nat.mod_lt _ (by decide)
    rw [show 4095 - v.toNat % 4096 = 2 ^ 12 - (v.toNat % 2 ^ 12 + 1) by omega, Nat.testBit_two_pow_sub_succ hm,
      Nat.testBit_mod_two_pow, decide_eq_true hi, Bool.true_and, Bool.true_and]
  simp [readBack, State.crWrite, State.crValue, coreAt_modSync_focus, hv]

theorem readBack_ldepth : readBack s v 0x022 = v.toNat % 16 := by
  simp [readBack, State.crWrite, State.crValue, coreAt_modSync_focus]

theorem readBack_rrb : readBack s v 0x023 = v.toNat % 16 := by
  simp [readBack, State.crWrite, State.crValue, coreAt_modSync_focus]

theorem readBack_twin : readBack s v 0x0D0 = max 1 (v.toNat % 256) := by
  simp [readBack, State.crWrite, State.crValue, coreAt_modSync_focus]

theorem readBack_rng : readBack s v 0x0D8 = if v.toNat % 2 ^ 32 = 0 then 1 else v.toNat % 2 ^ 32 := by
  simp [readBack, State.crWrite, State.crValue, coreAt_modSync_focus]

theorem coreAt_modRing_focus (n : Nat) (f : Ring → Ring) : (s.modRing n f).coreAt s.focus =
    { s.core with sync := { s.core.sync with rings := s.core.sync.rings.set n (f (s.core.sync.rings.get {} n)) } } :=
  core_modSync s _

theorem coreAt_modStream_focus (q : Nat) (f : Stream → Stream) : (s.modStream q f).coreAt s.focus =
    { s.core with sync := { s.core.sync with streams := s.core.sync.streams.set q (f (s.core.sync.streams.get {} q)) } } :=
  core_modSync s _

/-- The four words of a ring (R290). -/
theorem crValue_ring (c : Nat) (y : Sync) {cr : Nat} (h : 0x040 ≤ cr) (h' : cr ≤ 0x07F) :
    s.crValue c y cr =
      (let r := y.rings.get {} ((cr - 0x40) / 4)
       match cr % 4 with
       | 0 => r.base
       | 1 => r.slotb * 2 ^ 16 + r.slots
       | 2 => r.count * 2 ^ 16 + r.tail * 2 ^ 8 + r.head
       | _ => r.dtag * 2 ^ 16 + r.tag) := by
  unfold State.crValue
  iterate 27 rw [if_neg (by omega)]
  exact if_pos (by omega)

/-- The four words of a stream (R290). -/
theorem crValue_stream (c : Nat) (y : Sync) {cr : Nat} (h : 0x080 ≤ cr) (h' : cr ≤ 0x0BF) :
    s.crValue c y cr =
      (let q := y.streams.get {} ((cr - 0x80) / 4)
       match cr % 4 with
       | 0 => q.qbase.toNat + q.bnd * 2 ^ 60
       | 1 => q.qdim.toNat
       | 2 => q.qstr.toNat
       | _ => q.qblk.toNat + q.pos % 2 ^ 32) := by
  unfold State.crValue
  iterate 28 rw [if_neg (by omega)]
  exact if_pos (by omega)

/-- NBASE of ring n (R201): [47:7]. -/
theorem readBack_nbase {n : Nat} (hn : n < 16) : readBack s v (0x040 + 4 * n) = v.toNat % 2 ^ 48 / 128 * 128 := by
  have h4 : (0x040 + 4 * n) % 4 = 0 := by omega
  have hi : (0x040 + 4 * n - 0x40) / 4 = n := by omega
  have hw : s.crWrite (0x040 + 4 * n) v = s.modRing n (fun r => { r with base := bitsOf 47 7 v.toNat * 128 }) := by
    unfold State.crWrite
    rw [if_neg (by omega), if_neg (by omega), if_neg (by omega), if_neg (by omega), if_pos (by omega)]
    simp only [h4, hi]
  rw [readBack, hw, crValue_ring _ _ _ (by omega) (by omega), h4, hi, coreAt_modRing_focus]
  simp only [Tab.get_set_self]
  exact field_47_7 _

/-- The strides of stream n keep all their bits (R240). -/
theorem readBack_stream {n : Nat} (hn : n < 16) :
    readBack s v (0x081 + 4 * n) = v.toNat ∧ readBack s v (0x082 + 4 * n) = v.toNat := by
  have h1 : (0x081 + 4 * n) % 4 = 1 := by omega
  have h2 : (0x082 + 4 * n) % 4 = 2 := by omega
  have hi1 : (0x081 + 4 * n - 0x80) / 4 = n := by omega
  have hi2 : (0x082 + 4 * n - 0x80) / 4 = n := by omega
  have hw1 : s.crWrite (0x081 + 4 * n) v = s.modStream n (fun q => { q with qdim := v }) := by
    unfold State.crWrite
    rw [if_neg (by omega), if_neg (by omega), if_neg (by omega), if_neg (by omega), if_neg (by omega), if_pos (by omega)]
    simp only [h1, hi1]
  have hw2 : s.crWrite (0x082 + 4 * n) v = s.modStream n (fun q => { q with qstr := v }) := by
    unfold State.crWrite
    rw [if_neg (by omega), if_neg (by omega), if_neg (by omega), if_neg (by omega), if_neg (by omega), if_pos (by omega)]
    simp only [h2, hi2]
  constructor
  · rw [readBack, hw1, crValue_stream _ _ _ (by omega) (by omega), h1, hi1, coreAt_modStream_focus]
    simp only [Tab.get_set_self]
  · rw [readBack, hw2, crValue_stream _ _ _ (by omega) (by omega), h2, hi2, coreAt_modStream_focus]
    simp only [Tab.get_set_self]

/-- Settles O32: the moves by what may stall them, the registers by what a read after a write gives. -/
theorem controlRegisters : Obligations.ControlRegisters := by
  unfold Obligations.ControlRegisters
  intro s
  refine ⟨fun o hg hb ht => (execMovc_of_free hg hb ht : execMovc o s = _),
    fun o hg hb hr => (execMovcw_of_free hg hb hr : execMovcw o s = _),
    fun v => ⟨fun cr h h' hm => crWrite_trap_of_not_handler s v h h' hm, readBack_trap s v, fun i => testBit_readBack_warn s v,
      readBack_ldepth s v, readBack_rrb s v, fun n hn => ⟨readBack_nbase s v hn, readBack_stream s v hn⟩, readBack_twin s v,
      readBack_rng s v⟩⟩

end

end Sys2Proof.Proofs.ControlRegisters
end

section
/-! Proofs. VABS, VNEG, VMOV and the special functions (R161, R174, R175, R178). -/

namespace Sys2Proof.Proofs.VectorUnary
open Sys2Proof Sys2Proof.Machine Sys2Proof.Proofs.VectorSlots

theorem okSpecial_eq_true {T : Nat} (h : T = 7 ∨ T = 8 ∨ T = 9) : okSpecial T = true := by
  simpa [okSpecial, or_assoc] using h

theorem okSpecial_eq_false {T : Nat} (h : T < 7 ∨ 9 < T) : okSpecial T = false := by
  simp only [okSpecial, Bool.or_eq_false_iff, beq_eq_false_iff_ne]
  omega

section
variable {o : OpV2} {s : State} {ok : Nat → Bool} {lat : Nat → Nat} {f : Nat → Nat → Nat → Nat → Nat} {l : Nat}
  (hg : s.guardOn o.g false = true) (hl : lat (s.vA o.sl o.a o.l (vWidth o.w)).2 = l)
include hg hl

/-- A working format without a meaning takes the fallback (R158). -/
theorem vUnary_fallback (hok : ok (s.vA o.sl o.a o.l (vWidth o.w)).2 = false) :
    let a := s.vA o.sl o.a o.l (vWidth o.w)
    let n := vWidth o.w / tagBits a.2
    vUnary s o ok lat f =
      .next ((s.vput o.sl o.m o.d.toNat (tagBits a.2) n a.2 (List.replicate n 0) l).warn wFMTOP true) := by
  refine vOp_next hg ?_
  simp only [hok, hl, State.fmtop]
  rfl

/-- Otherwise each element of the result is a function of the element of A. -/
theorem vUnary_map {e : Nat → Nat} (hok : ok (s.vA o.sl o.a o.l (vWidth o.w)).2 = true)
    (he : ∀ x ∈ (s.vA o.sl o.a o.l (vWidth o.w)).1, f (s.vA o.sl o.a o.l (vWidth o.w)).2 x 0 0 = e x) :
    let a := s.vA o.sl o.a o.l (vWidth o.w)
    vUnary s o ok lat f =
      .next (s.vput o.sl o.m o.d.toNat (tagBits a.2) (vWidth o.w / tagBits a.2) a.2 (a.1.map e) l) := by
  refine vOp_next hg ?_
  simp only [hok, hl, List.map_congr_left he]
  rfl

end

theorem eAbs_of_int {T : Nat} (h : T ≤ 6) (x : Nat) : eAbs T x 0 0 = patOf (tagBits T) (Int.natAbs (intOf T x)) := by
  have habs : (if intOf T x < 0 then -intOf T x else intOf T x) = ((intOf T x).natAbs : Int) := by
    split <;> omega
  rw [eAbs, onTag_of_int _ _ _ _ _ h, habs]

theorem elem_of_half (fn : SpFn) {T : Nat} (h : T = 7 ∨ T = 8) (x : Nat) :
    fn.elem T x = (floatFmt T).round .rne (fn.eval (numOf T x)) := by
  delta SpFn.elem
  exact if_neg (by omega)

theorem numOf_single {x : Nat} (h : x < 2 ^ 32) : numOf 9 x = f32.decode x := by
  have hF : isFloatTag 9 = true := rfl
  have hf : floatFmt 9 = f32 := rfl
  have hw : tagBits 9 = 32 := rfl
  rw [numOf, if_pos hF, hf, hw, Nat.mod_eq_of_lt h]

/-- The significands of R174: of the reciprocals 8 bits in and 12 out, of the others 15 and 15. -/
theorem elem_of_single (fn : SpFn) {x : Nat} (h : x < 2 ^ 32) :
    fn.elem 9 x = f32.round .rne (roundSig (if fn = .rcp ∨ fn = .rsq then 12 else 15)
      (fn.eval (truncSig (if fn = .rcp ∨ fn = .rsq then 8 else 15) (f32.decode x)))) := by
  delta SpFn.elem
  simp only [numOf_single h, if_true]
  generalize f32.decode x = y
  cases fn <;> simp only [reduceCtorEq, or_self, or_true, true_or, if_true, if_false]

/-- The elements of operand A have the width of its tag. -/
theorem lt_of_mem_vA (s : State) (sl : Bool) (a : BitVec 5) (l : BitVec 2) (W : Nat) :
    ∀ x ∈ (s.vA sl a l W).1, x < 2 ^ tagBits (s.vA sl a l W).2 :=
  lt_of_mem_patterned (by positivity) lt_of_mem_elemsOf

section
variable {o : OpV2} {s : State} (hg : s.guardOn o.g false = true) (fn : SpFn)
include hg

theorem vSpecial_half (hT : (s.vA o.sl o.a o.l (vWidth o.w)).2 = 7 ∨ (s.vA o.sl o.a o.l (vWidth o.w)).2 = 8) :
    let a := s.vA o.sl o.a o.l (vWidth o.w)
    vSpecial s o fn = .next (s.vput o.sl o.m o.d.toNat (tagBits a.2) (vWidth o.w / tagBits a.2) a.2
      (a.1.map (fun x => (floatFmt a.2).round .rne (fn.eval (numOf a.2 x)))) 8) :=
  vUnary_map hg rfl (okSpecial_eq_true (hT.imp_right .inl)) (fun x _ => elem_of_half fn hT x)

theorem vSpecial_single (hT : (s.vA o.sl o.a o.l (vWidth o.w)).2 = 9) :
    let a := s.vA o.sl o.a o.l (vWidth o.w)
    let ib := if fn = .rcp ∨ fn = .rsq then 8 else 15
    let ob := if fn = .rcp ∨ fn = .rsq then 12 else 15
    vSpecial s o fn = .next (s.vput o.sl o.m o.d.toNat (tagBits a.2) (vWidth o.w / tagBits a.2) a.2
      (a.1.map (fun x => f32.round .rne (roundSig ob (fn.eval (truncSig ib (f32.decode x)))))) 8) := by
  refine vUnary_map hg rfl (okSpecial_eq_true (.inr (.inr hT))) (fun x hx => ?_)
  have hlt := lt_of_mem_vA s o.sl o.a o.l (vWidth o.w) x hx
  rw [hT] at hlt ⊢
  exact elem_of_single fn hlt

theorem vSpecial_fallback (hT : (s.vA o.sl o.a o.l (vWidth o.w)).2 < 7 ∨ 9 < (s.vA o.sl o.a o.l (vWidth o.w)).2) :
    let a := s.vA o.sl o.a o.l (vWidth o.w)
    let n := vWidth o.w / tagBits a.2
    vSpecial s o fn = .next ((s.vput o.sl o.m o.d.toNat (tagBits a.2) n a.2 (List.replicate n 0) 8).warn wFMTOP true) :=
  vUnary_fallback hg rfl (okSpecial_eq_false hT)

end

/-! ### The special values (R175) -/

theorem eval_nan (fn : SpFn) : fn.eval .nan = .nan := by cases fn <;> rfl

theorem log2_negative {m : Nat} (e : Int) (h : m ≠ 0) : SpFn.log2.eval (.fin true m e) = .nan := by
  simp only [SpFn.eval, if_neg h, if_true]

theorem rsq_negative {m : Nat} (e : Int) (h : m ≠ 0) : SpFn.rsq.eval (.fin true m e) = .nan := by
  simp only [SpFn.eval, if_neg h, if_true]

/-- Settles O36: each word is its element function over the elements of A, and the special values are the branches of the
exact functions. -/
theorem vectorUnary : Obligations.VectorUnary := by
  refine ⟨fun o s hg => ?_, eval_nan, fun e => ?_⟩
  · refine ⟨fun hT => ⟨?absI, ?negI⟩, fun hT => ⟨?absF, ?negF⟩, fun hT => ⟨?absN, ?negN⟩, ?mov, ?special⟩
    case absI => exact (vUnary_map hg (vLat_of_int hT) (okMul_eq_true (by omega)) (fun x _ => eAbs_of_int hT x) : execVabs o s = _)
    case negI => exact (vUnary_map hg (vLat_of_int hT) (okMul_eq_true (by omega))
      (fun x _ => onTag_of_int _ _ x 0 0 hT) : execVneg o s = _)
    case absF => exact (vUnary_map hg (vLat_of_float hT) (okMul_eq_true (isFloatTag_iff.mp hT).2)
      (fun x _ => onTag_of_float _ _ x 0 0 hT) : execVabs o s = _)
    case negF => exact (vUnary_map hg (vLat_of_float hT) (okMul_eq_true (isFloatTag_iff.mp hT).2)
      (fun x _ => onTag_of_float _ _ x 0 0 hT) : execVneg o s = _)
    case absN => exact (vUnary_fallback hg (vLat_of_above hT) (okMul_eq_false hT) : execVabs o s = _)
    case negN => exact (vUnary_fallback hg (vLat_of_above hT) (okMul_eq_false hT) : execVneg o s = _)
    case mov => exact (vUnary_map hg rfl rfl (fun x _ => rfl) : execVmov o s = _)
    case special =>
      have hfn (fn : SpFn) := And.intro (vSpecial_half hg fn) (And.intro (vSpecial_single hg fn) (vSpecial_fallback hg fn))
      simp only [List.forall_mem_cons]
      exact ⟨(hfn .exp2 :), (hfn .log2 :), (hfn .rcp :), (hfn .rsq :), (hfn .sigm :), (hfn .tanh :), by simp⟩
  · exact ⟨rfl, rfl, fun _ => rfl, rfl, fun _ => rfl, fun _ => log2_negative e, fun _ => ⟨rfl, rfl, rfl⟩, fun _ => rsq_negative e,
      rfl, rfl, rfl, fun _ => rfl, fun _ => ⟨rfl, rfl⟩⟩

end Sys2Proof.Proofs.VectorUnary
end

section
/-! Proofs. VCVT, VRND, VTAG and the conversion of an operand (R159, R160, R169, R170, R173). -/

namespace Sys2Proof.Proofs.VectorConversions
open Sys2Proof Sys2Proof.Machine Sys2Proof.Proofs.VectorSlots

theorem bne_zero_of_toNat {n : Nat} (r : BitVec n) : (r.toNat != 0) = (r != 0) := by
  rw [Bool.eq_iff_iff, bne_iff_ne, bne_iff_ne, not_iff_not, BitVec.toNat_eq]
  rfl

/-! ### VCVT -/

section
variable {o : OpVCv} {s : State} (hg : s.guardOn o.g false = true)
include hg

/-- A block format on either side takes the fallback. -/
theorem execVcvt_block
    (hsp : o.t.toNat = 12 ∨ o.t.toNat = 13 ∨ (s.readV o.sl o.a.toNat).tag = 12 ∨ (s.readV o.sl o.a.toNat).tag = 13) :
    let n := vWidth o.w / max (tagBits (s.readV o.sl o.a.toNat).tag) (tagBits o.t.toNat)
    execVcvt o s = .next ((s.vput o.sl o.m o.d.toNat (tagBits o.t.toNat) n o.t.toNat (List.replicate n 0) 4).warn wFMTOP true) := by
  refine vOp_next hg ?_
  simp only [hsp, if_true, State.fmtop]

variable (hsp : ¬ (o.t.toNat = 12 ∨ o.t.toNat = 13 ∨ (s.readV o.sl o.a.toNat).tag = 12 ∨ (s.readV o.sl o.a.toNat).tag = 13))
include hsp

theorem execVcvt_integers (hint : intLike (s.readV o.sl o.a.toNat).tag = true ∧ intLike o.t.toNat = true) :
    let v := s.readV o.sl o.a.toNat
    let n := vWidth o.w / max (tagBits v.tag) (tagBits o.t.toNat)
    execVcvt o s = .next ((s.vput o.sl o.m o.d.toNat (tagBits o.t.toNat) n o.t.toNat
      ((elemsOf (tagBits v.tag) n v.bits.toNat).map (convElem .rne v.tag o.t.toNat)) 4).warn wRNDNA (o.r != 0)) := by
  refine vOp_next hg ?_
  simp only [hsp, hint, Bool.and_self, if_true, if_false, bne_zero_of_toNat]

variable (hint : ¬ (intLike (s.readV o.sl o.a.toNat).tag = true ∧ intLike o.t.toNat = true))
include hint

theorem execVcvt_stochastic (hr : o.r.toNat = 4) :
    let v := s.readV o.sl o.a.toNat
    let n := vWidth o.w / max (tagBits v.tag) (tagBits o.t.toNat)
    let st := s.core.sync.rng
    execVcvt o s = .next ((s.vput o.sl o.m o.d.toNat (tagBits o.t.toNat) n o.t.toNat ((List.range n).map (fun k =>
      convElem (.rs (rngSteps (k + 1) st % 2 ^ 16)) v.tag o.t.toNat ((elemsOf (tagBits v.tag) n v.bits.toNat).getD k 0))) 4).modSync
        (fun y => { y with rng := rngSteps n st })) := by
  refine vOp_next hg ?_
  simp only [hsp, hr, Bool.and_eq_true, hint, if_true, if_false, rsMode]

theorem execVcvt_mode (hr : o.r.toNat ≠ 4) :
    let v := s.readV o.sl o.a.toNat
    let n := vWidth o.w / max (tagBits v.tag) (tagBits o.t.toNat)
    execVcvt o s = .next (s.vput o.sl o.m o.d.toNat (tagBits o.t.toNat) n o.t.toNat
      ((elemsOf (tagBits v.tag) n v.bits.toNat).map (convElem (RMode.ofCode o.r.toNat) v.tag o.t.toNat)) 4) := by
  refine vOp_next hg ?_
  simp only [hsp, hr, Bool.and_eq_true, hint, if_false]

end

/-! ### VRND -/

/-- A float rounded to an integral value of its own format. -/
def integralOf (mode : RMode) (T b : Nat) : Nat :=
  match numOf T b with
  | .fin neg m e => (floatFmt T).round .rne (.fin neg (roundMul mode neg m e 0) 0)
  | x => (floatFmt T).round .rne x

/-- The stochastic mode is replaced by RNE. -/
theorem ofCode_without_stochastic (r : Nat) :
    RMode.ofCode (if r = 4 then 0 else r) = if r = 4 then RMode.rne else RMode.ofCode r := by
  split <;> rfl

section
variable {o : OpVRn} {s : State} (hg : s.guardOn o.g false = true)
include hg

theorem execVrnd_int (hT : (s.readV o.sl o.a.toNat).tag ≤ 6) :
    let v := s.readV o.sl o.a.toNat
    let n := vWidth o.w / tagBits v.tag
    execVrnd o s = .next (((s.warn wSTOCH (o.r.toNat == 4)).vput o.sl o.m o.d.toNat (tagBits v.tag) n v.tag
      (elemsOf (tagBits v.tag) n v.bits.toNat) 4).warn wRNDNA (o.r != 0)) := by
  refine vOp_next hg ?_
  simp only [okMul_eq_true (show (s.readV o.sl o.a.toNat).tag ≤ 11 by omega), isFloatTag_of_le hT, Bool.not_true,
    Bool.false_eq_true, if_false, bne_zero_of_toNat]

theorem execVrnd_float (hT : isFloatTag (s.readV o.sl o.a.toNat).tag = true) :
    let v := s.readV o.sl o.a.toNat
    let n := vWidth o.w / tagBits v.tag
    execVrnd o s = .next ((s.warn wSTOCH (o.r.toNat == 4)).vput o.sl o.m o.d.toNat (tagBits v.tag) n v.tag
      ((elemsOf (tagBits v.tag) n v.bits.toNat).map
        (integralOf (if o.r.toNat = 4 then RMode.rne else RMode.ofCode o.r.toNat) v.tag)) 4) := by
  refine vOp_next hg ?_
  simp only [okMul_eq_true (isFloatTag_iff.mp hT).2, hT, Bool.not_true, Bool.false_eq_true, if_false, if_true,
    ofCode_without_stochastic] <;> rfl

theorem execVrnd_fallback (hT : 11 < (s.readV o.sl o.a.toNat).tag) :
    let v := s.readV o.sl o.a.toNat
    let n := vWidth o.w / tagBits v.tag
    execVrnd o s = .next (((s.warn wSTOCH (o.r.toNat == 4)).vput o.sl o.m o.d.toNat (tagBits v.tag) n v.tag
      (List.replicate n 0) 4).warn wFMTOP true) := by
  refine vOp_next hg ?_
  simp only [okMul_eq_false hT, Bool.not_false, if_true, State.fmtop]

end

/-! ### A value in the format of a tag -/

theorem encNum_of_int {T : Nat} (h : T ≤ 6) (y : Machine.Num) : encNum T y = toIntTag .rne T y := by
  rw [encNum, isFloatTag_of_le h, if_neg (by simp), if_neg (by omega)]

theorem encNum_of_float {T : Nat} (h : isFloatTag T = true) (y : Machine.Num) : encNum T y = (floatFmt T).round .rne y := by
  rw [encNum, if_pos h]

theorem encNum_t8 (y : Machine.Num) : encNum 14 y = toT8 .rne y := rfl

/-- An integer rounds to itself. -/
theorem roundInt_ofInt (mode : RMode) (j : Int) : roundInt mode (decide (j < 0)) j.natAbs 0 = j := by
  rw [roundInt, roundMul, if_pos (le_refl 0), sub_zero, Int.toNat_zero, pow_zero, mul_one]
  simp only [decide_eq_true_eq]
  split <;> omega

theorem encNum_ofInt {T : Nat} (h : T ≤ 6) (j : Int) : encNum T (Num.ofInt j) = patOf (tagBits T) (satInt T j) := by
  rw [encNum_of_int h, Num.ofInt, toIntTag, roundInt_ofInt]

/-- e4m3 has no infinity: its greatest magnitude stands for it. -/
theorem round_inf_e4m3 (z : Bool) : e4m3.round .rne (.inf z) = if z then 0xFE else 0x7E := by
  cases z <;> rfl

theorem decode_round_inf {T : Nat} (h : isFloatTag T = true) (h10 : T ≠ 10) (z : Bool) :
    (floatFmt T).decode ((floatFmt T).round .rne (.inf z)) = .inf z := by
  obtain ⟨h7, h11⟩ := isFloatTag_iff.mp h
  obtain rfl | rfl | rfl | rfl : T = 7 ∨ T = 8 ∨ T = 9 ∨ T = 11 := by omega
  all_goals cases z <;> decide

/-! ### The conversion of one element -/

/-- Outside NEV the conversion is that of the element's value. -/
theorem convElem_eq_encNum {t T b : Nat} (h : ¬ (t = 14 ∧ b % 256 = 255)) : convElem .rne t T b = encNum T (numOf t b) := by
  rw [convElem, if_neg (by tauto), if_neg (by tauto)]
  rfl

theorem numOf_nev {b : Nat} (h : b % 256 = 255) : numOf 14 b = .inf false := by
  rw [numOf, if_neg (by decide), if_pos rfl, if_pos h]

/-- NEV gives the greatest integer, the canonical NaN of e4m3, or +∞. -/
theorem convElem_nev {T b : Nat} (h : b % 256 = 255) (hT : T ≤ 6 ∨ isFloatTag T = true) :
    convElem .rne 14 T b =
      if T ≤ 6 then patOf (tagBits T) (tagMax T) else if T = 10 then e4m3.cnan else (floatFmt T).round .rne (.inf false) := by
  have h14 : T ≠ 14 := by
    rcases hT with hT | hT
    · omega
    · have := isFloatTag_iff.mp hT; omega
  by_cases h10 : T = 10
  · subst h10
    rw [convElem, if_pos ⟨rfl, h, rfl⟩]
    rfl
  · rw [convElem, if_neg (by tauto), if_neg (by tauto), numOf_nev h]
    rcases hT with hT | hT
    · rw [if_neg (by simp [isFloatTag_of_le hT]), if_neg h14, if_pos hT]
      rfl
    · have hle := isFloatTag_iff.mp hT
      rw [if_pos hT, if_neg (show ¬ T ≤ 6 by omega), if_neg h10]

/-! ### The conversion of an operand (R159, R160) -/

theorem getD_elemsOf {w n i : Nat} (bits : Nat) (h : i < n) : (elemsOf w n bits).getD i 0 = bits / 2 ^ (w * i) % 2 ^ w := by
  simp [elemsOf, List.getD_eq_getElem?_getD, h]

section
variable (s : State) (sl : Bool) {o : VOpd} {T : Nat} (W : Nat)

theorem vConv_same (h : o.tag = T) : s.vConv sl o T W = (elemsOf (tagBits T) (W / tagBits T) o.bits, []) := by
  rw [State.vConv]
  exact if_pos h

variable (hne : o.tag ≠ T)
include hne

theorem vConv_block (hT : T = 12 ∨ T = 13) :
    s.vConv sl o T W = (elemsOf (tagBits T) (W / tagBits T) o.bits, [wTAGMIX]) := by
  rw [State.vConv]
  exact (if_neg hne).trans (if_pos hT)

variable (hT : ¬ (T = 12 ∨ T = 13))
include hT

/-- Codes without their metadata give zeros. -/
theorem vConv_codes_alone (h12 : o.tag = 12) (hodd : ∀ r, o.reg = some r → r % 2 = 1) :
    s.vConv sl o T W = (List.replicate (W / tagBits T) 0, [wTAGMIX, wFMTOP]) := by
  simp only [State.vConv, if_neg hne, if_neg hT, if_pos h12]
  cases hr : o.reg with
  | none => rfl
  | some r =>
    have := hodd r hr
    exact if_neg (by omega)

theorem vConv_codes {r : Nat} (h12 : o.tag = 12) (hr : o.reg = some r) (heven : r % 2 = 0) :
    s.vConv sl o T W = ((List.range (W / tagBits T)).map (fun i =>
      if i < W / tagBits o.tag then encNum T (e2Elem o.bits (s.readV sl (r + 1)).bits.toNat i) else 0), [wTAGMIX]) := by
  simp only [State.vConv, if_neg hne, if_neg hT, if_pos h12, hr, if_pos heven]

/-- Every other operand is converted element by element, a tag of 13 as ui16. -/
theorem vConv_elements (h12 : o.tag ≠ 12) :
    s.vConv sl o T W = ((List.range (W / tagBits T)).map (fun i =>
      if i < W / tagBits o.tag then
        convElem .rne (if o.tag = 13 then 3 else o.tag) T (o.bits / 2 ^ (tagBits o.tag * i) % 2 ^ tagBits o.tag)
      else 0), [wTAGMIX]) := by
  simp only [State.vConv, if_neg hne, if_neg hT, if_neg h12]
  congr 1
  refine List.map_congr_left (fun i _ => ?_)
  split
  · rw [getD_elemsOf _ ‹_›]
  · rfl

end

/-- The value of an element that is no e2m1 code. -/
theorem numOf_of_element {t b : Nat} (h14 : t ≤ 14) (h12 : t ≠ 12) (hb : b < 2 ^ tagBits t) (hnev : ¬ (t = 14 ∧ b = 255)) :
    numOf (if t = 13 then 3 else t) b =
      if t ≤ 6 then Num.ofInt (intOf t b) else if t = 13 ∨ t = 14 then Num.ofInt (b : Nat) else (floatFmt t).decode b := by
  by_cases h6 : t ≤ 6
  · rw [if_neg (by omega), if_pos h6, numOf, isFloatTag_of_le h6, if_neg (by simp), if_neg (by omega), if_neg (by omega)]
  · by_cases h13 : t = 13
    · subst h13
      have hb : b < 2 ^ 16 := hb
      rw [if_pos rfl, if_neg h6, if_pos (.inl rfl), numOf, if_neg (by decide), if_neg (by decide), if_neg (by decide), intOf,
        if_neg (by decide), show tagBits 3 = 16 from rfl, Nat.mod_eq_of_lt hb]
    · rw [if_neg h13, if_neg h6]
      by_cases ht : t = 14
      · subst ht
        have hb : b < 256 := hb
        rw [if_pos (.inr rfl), numOf, if_neg (by decide), if_pos rfl, Nat.mod_eq_of_lt hb, if_neg (by simpa using hnev)]
      · rw [if_neg (by omega), numOf, if_pos (isFloatTag_iff.mpr (by omega)), Nat.mod_eq_of_lt hb]

/-- Settles O39: VCVT and VRND by the kind of their formats, VTAG by its definition, and the conversion of an operand by the
value of each element. -/
theorem vectorConversions : Obligations.VectorConversions := by
  unfold Obligations.VectorConversions
  refine ⟨fun o s hg => ?vcvt, fun o s hg => ?vrnd, fun o s hg => ?vtag, fun s sl o T W hT14 hS14 => ?conv⟩
  case vcvt =>
    intro v T w n x put special exact st
    exact ⟨fun h => (execVcvt_block hg h : execVcvt o s = _), fun h h' => (execVcvt_integers hg h h' : execVcvt o s = _),
      fun h h' hr => (execVcvt_stochastic hg h h' hr : execVcvt o s = _), fun h h' hr => (execVcvt_mode hg h h' hr : execVcvt o s = _)⟩
  case vrnd =>
    exact ⟨fun h => (execVrnd_int hg h : execVrnd o s = _), fun h => (execVrnd_float hg h : execVrnd o s = _),
      fun h => (execVrnd_fallback hg h : execVrnd o s = _)⟩
  case vtag => exact (vOp_next hg rfl : execVtag o s = _)
  case conv =>
    intro w n x enc md val conv raw
    refine ⟨vConv_same s sl W, fun hne hT => vConv_block s sl W hne hT, fun hne h12 h13 => ?_⟩
    have hT : ¬ (T = 12 ∨ T = 13) := by tauto
    have hkind : T ≤ 6 ∨ T = 14 ∨ isFloatTag T = true := by rw [isFloatTag_iff]; omega
    have henc (y : Machine.Num) : enc y = encNum T y := by
      rcases hkind with h | rfl | h
      · rw [encNum_of_int h]
        refine (if_pos h).trans ?_
        cases y <;> rfl
      · cases y <;> rfl
      · rw [encNum_of_float h]
        have := isFloatTag_iff.mp h
        exact (if_neg (by omega)).trans (if_neg (by omega))
    refine ⟨fun hcodes => ?elements, vConv_codes_alone s sl W hne hT, fun j h => (henc _).trans (encNum_ofInt h j), fun h =>
      ⟨(henc _).trans (encNum_of_float h _), fun z => ⟨fun h10 => ?inf10, fun h10 => ?inf⟩⟩⟩
    case inf10 =>
      refine ((henc _).trans (encNum_of_float h _)).trans ?_
      rw [h10]
      exact round_inf_e4m3 z
    case inf =>
      exact (congrArg (floatFmt T).decode ((henc _).trans (encNum_of_float h _))).trans (decode_round_inf h h10 z)
    case elements =>
      have hconv (l : Nat → Nat) (h : ∀ i < W / tagBits o.tag, l i = conv i) :
          ((List.range n).map (fun i => if i < W / tagBits o.tag then l i else 0), [wTAGMIX]) = ((List.range n).map conv, [wTAGMIX]) := by
        congr 1
        refine List.map_congr_left (fun i _ => ?_)
        split
        · exact h i ‹_›
        · exact (if_pos (by omega)).symm
      by_cases hS : o.tag = 12
      · obtain ⟨r, hr, heven⟩ := hcodes.resolve_left (fun h => h hS)
        refine (vConv_codes s sl W hne hT hS hr heven).trans (hconv _ (fun i hi => ?_))
        have hval : val i = e2Elem o.bits (s.readV sl (r + 1)).bits.toNat i := by
          simp only [val, md, x, hS, hr]
          rfl
        simp only [conv]
        rw [if_neg (by omega), if_neg (by omega), henc, hval]
      · refine (vConv_elements s sl W hne hT hS).trans (hconv _ (fun i hi => ?_))
        have hx : x i < 2 ^ tagBits o.tag := Nat.mod_lt _ (by positivity)
        simp only [conv, if_neg (Nat.not_le.mpr hi)]
        show convElem .rne (if o.tag = 13 then 3 else o.tag) T (x i) = _
        by_cases hnev : o.tag = 14 ∧ x i = 255
        · rw [if_pos hnev, if_neg (by omega), hnev.1]
          exact convElem_nev (by rw [hnev.2]) (hkind.imp_right (·.resolve_left (fun h14 => hne (hnev.1.trans h14.symm))))
        · have hno : ¬ ((if o.tag = 13 then 3 else o.tag) = 14 ∧ x i % 256 = 255) := by
            rintro ⟨h14, hx255⟩
            have h14 : o.tag = 14 := by split at h14 <;> omega
            rw [h14] at hx
            exact hnev ⟨h14, (Nat.mod_eq_of_lt hx).symm.trans hx255⟩
          rw [if_neg hnev, convElem_eq_encNum hno, henc, numOf_of_element hS14 hS hx hnev]
          simp only [val, if_neg hS]

end Sys2Proof.Proofs.VectorConversions
end

section
/-! Proofs. Packed elements, and the block quantisation of VQBLK and VDQBLK (R171, R172). -/

namespace Sys2Proof.Proofs.BlockQuantisation
open Sys2Proof Sys2Proof.Machine Sys2Proof.Proofs.VectorSlots Sys2Proof.Proofs.VectorConversions

/-! ### Packed elements -/

theorem packElems_lt (w : Nat) (l : List Nat) : packElems w l < 2 ^ (w * l.length) := by
  induction l with
  | nil => simp [packElems]
  | cons e t ih =>
    have he : e % 2 ^ w < 2 ^ w := Nat.mod_lt _ (by positivity)
    calc packElems w (e :: t) < 2 ^ w + 2 ^ w * packElems w t := by rw [packElems]; omega
      _ = 2 ^ w * (packElems w t + 1) := by ring
      _ ≤ 2 ^ w * 2 ^ (w * t.length) := Nat.mul_le_mul_left _ ih
      _ = 2 ^ (w * (e :: t).length) := by rw [← pow_add, List.length_cons]; ring_nf

/-- Element k of what was packed. -/
theorem packElems_element (w : Nat) (l : List Nat) (k : Nat) :
    packElems w l / 2 ^ (w * k) % 2 ^ w = l.getD k 0 % 2 ^ w := by
  induction l generalizing k with
  | nil => simp [packElems]
  | cons e t ih =>
    cases k with
    | zero => simp [packElems]
    | succ k =>
      have hdiv : packElems w (e :: t) / 2 ^ w = packElems w t := by
        rw [packElems, Nat.add_mul_div_left _ _ (by positivity), Nat.div_eq_of_lt (Nat.mod_lt _ (by positivity)), zero_add]
      rw [Nat.mul_succ, Nat.add_comm, pow_add, ← Nat.div_div_eq_div_mul, hdiv, ih]
      rfl

/-- What fits in a register is packed into it without loss. -/
theorem toNat_packed {w : Nat} {l : List Nat} (h : w * l.length ≤ 1024) :
    (BitVec.ofNat 1024 (packElems w l)).toNat = packElems w l := by
  rw [BitVec.toNat_ofNat, Nat.mod_eq_of_lt ((packElems_lt w l).trans_le (Nat.pow_le_pow_right (by decide) h))]

theorem getD_map_range {n k : Nat} (f : Nat → Nat) (h : k < n) : ((List.range n).map f).getD k 0 = f k := by
  simp [List.getD_eq_getElem?_getD, h]

/-! ### VQBLK -/

/-- Keyed results are found under their key. -/
theorem find_keyed {α : Type} (l : List Nat) (base k : Nat) (f : Nat → α) :
    (l.map (fun b => (base + b, f b))).find? (fun p => p.1 == k) =
      if base ≤ k ∧ k - base ∈ l then some (k, f (k - base)) else none := by
  induction l with
  | nil => simp
  | cons b t ih =>
    rw [List.map_cons, List.find?_cons]
    by_cases h : base + b = k
    · have hb : k - base = b := by omega
      simp [h, hb, show base ≤ k by omega]
    · rw [show (base + b == k) = false by simpa using h, ih]
      refine if_congr (and_congr_right (fun hle => ?_)) rfl rfl
      rw [List.mem_cons]
      exact ⟨.inr, fun hm => hm.resolve_left (by omega)⟩

/-- The elements of a register of n elements of w bits where the chosen ones take new values. -/
theorem packed_choice {w n k : Nat} (hk : k < n) (hn : w * n ≤ 1024) (f : Nat → Nat) :
    (BitVec.ofNat 1024 (packElems w ((List.range n).map f))).toNat / 2 ^ (w * k) % 2 ^ w = f k % 2 ^ w := by
  rw [toNat_packed (by simpa using hn), packElems_element, getD_map_range f hk]

section
variable (o : OpVQb) (s : State)

/-- The codes and the halfword that VQBLK gives block b of its source. -/
def blockOf (b : Nat) : List Nat × Nat :=
  let a := s.vA o.sl o.a o.l (vWidth o.w)
  let n := vWidth o.w / tagBits a.2
  if isFloatTag a.2 then quantBlock ((List.range 32).map (fun i => if 32 * b + i < n then numOf a.2 (a.1.getD (32 * b + i) 0) else .fin false 0 0))
  else (List.replicate 32 0, 0)

/-- The blocks of the source whose result VQBLK writes. -/
def writtenBlocks : List Nat :=
  (List.range (max 1 (vWidth o.w / tagBits (s.vA o.sl o.a o.l (vWidth o.w)).2 / 32))).filter
    (fun b => decide (o.o.toNat + b ≤ 7) && (!o.m || (s.mask0 o.sl).getLsbD (o.o.toNat + b)))

/-- Block k of D and its halfword, from a value for a written block and the old one. -/
def chosen (new : List Nat × Nat → Nat) (old : List Nat) (k : Nat) : Nat :=
  if o.o.toNat ≤ k ∧ k - o.o.toNat ∈ writtenBlocks o s then new (blockOf o s (k - o.o.toNat)) else old.getD k 0

/-- The register pair with its blocks and halfwords replaced. -/
def pairWritten (codes metas : Nat → Nat) : State :=
  let a := s.vA o.sl o.a o.l (vWidth o.w)
  let nb := max 1 (vWidth o.w / tagBits a.2 / 32)
  ((s.writeVMerged o.sl o.d.toNat { bits := BitVec.ofNat 1024 (packElems 128 ((List.range 8).map codes)), tag := 12 } 4).writeVMerged
    o.sl (o.d.toNat + 1) { bits := BitVec.ofNat 1024 (packElems 16 ((List.range 64).map metas)), tag := 13 } 4).warn wFMTOP
      (!isFloatTag a.2 || decide (8 < o.o.toNat + nb))

theorem execVqblk_next (hg : s.guardOn o.g false = true) :
    execVqblk o s = .next (pairWritten o s
      (chosen o s (fun q => packElems 4 q.1) (elemsOf 128 8 (s.oldBits o.sl o.d.toNat)))
      (chosen o s Prod.snd (elemsOf 16 64 (s.oldBits o.sl (o.d.toNat + 1))))) := by
  refine vOp_next hg (congrArg₂ (pairWritten o s) (funext fun k => ?_) (funext fun k => ?_))
  all_goals
    simp only [find_keyed, chosen]
    by_cases hw : o.o.toNat ≤ k ∧ k - o.o.toNat ∈ writtenBlocks o s
    · rw [if_pos hw]
      rw [writtenBlocks] at hw
      simp only [if_pos hw]
      rfl
    · rw [if_neg hw]
      rw [writtenBlocks] at hw
      simp only [if_neg hw]

theorem mem_writtenBlocks {k : Nat} (hk : k < 8) :
    (o.o.toNat ≤ k ∧ k - o.o.toNat ∈ writtenBlocks o s) ↔
      o.o.toNat ≤ k ∧ k < o.o.toNat + max 1 (vWidth o.w / tagBits (s.vA o.sl o.a o.l (vWidth o.w)).2 / 32) ∧
        (o.m = false ∨ (s.mask0 o.sl).getLsbD k = true) := by
  refine and_congr_right (fun hle => ?_)
  have hsum : o.o.toNat + (k - o.o.toNat) = k := by omega
  rw [writtenBlocks, List.mem_filter, List.mem_range, hsum]
  generalize max 1 (vWidth o.w / tagBits (s.vA o.sl o.a o.l (vWidth o.w)).2 / 32) = nb
  simp only [show k ≤ 7 by omega, decide_true, Bool.true_and, Bool.or_eq_true, Bool.not_eq_true']
  exact and_congr_left' (by omega)

end

/-! ### VDQBLK -/

theorem isFloatTag_dqTag (t : BitVec 2) : isFloatTag (dqTag t) = true := by
  rw [dqTag]
  split
  · rfl
  · split <;> rfl

section
variable {o : OpVDq} {s : State} (hg : s.guardOn o.g false = true)
include hg

theorem execVdqblk_fallback (h : (s.readV o.sl o.a.toNat).tag ≠ 12) :
    let T := if o.t = 0 then 9 else if o.t = 1 then 8 else 7
    let n := vWidth o.w / tagBits T
    execVdqblk o s = .next ((s.vput o.sl o.m o.d.toNat (tagBits T) n T (List.replicate n 0) 4).warn wFMTOP true) :=
  vOp_next hg (if_pos h)

/-- The value of element i of the result. -/
def dequantised (o : OpVDq) (s : State) (i : Nat) : Nat :=
  let k := 32 * o.o.toNat + i
  let codes := patterned (s.lanePat o.sl o.l) (elemsOf 4 256 (s.readV o.sl o.a.toNat).bits.toNat)
  let half := (s.readV o.sl (o.a.toNat + 1)).bits.toNat / 2 ^ (16 * (k / 32)) % 2 ^ 16
  if 255 < k ∨ o.a.toNat % 2 = 1 then 0 else (floatFmt (dqTag o.t)).round .rne (e2m1Value half (codes.getD k 0))

theorem execVdqblk_next (h : (s.readV o.sl o.a.toNat).tag = 12) :
    let n := vWidth o.w / tagBits (dqTag o.t)
    execVdqblk o s = .next ((s.vput o.sl o.m o.d.toNat (tagBits (dqTag o.t)) n (dqTag o.t) ((List.range n).map (dequantised o s)) 4).warn
      wFMTOP (decide (o.a.toNat % 2 = 1) || decide (256 < 32 * o.o.toNat + n))) := by
  refine vOp_next hg ?_
  simp only [ne_eq, not_true_eq_false, h, if_false, encNum_of_float (isFloatTag_dqTag o.t), Bool.or_eq_true, decide_eq_true_eq, beq_eq_decide]
  rfl

end

/-- Settles O40: the blocks that VQBLK writes are found under their number, and VDQBLK gives each element its value. -/
theorem blockQuantisation : Obligations.BlockQuantisation := by
  unfold Obligations.BlockQuantisation
  refine ⟨fun o s hg => ?quantise, fun o s hg => ⟨(execVdqblk_fallback hg : _ → execVdqblk o s = _), (execVdqblk_next hg : _ → execVdqblk o s = _)⟩⟩
  case quantise =>
    intro a n nb first written x quant
    refine ⟨_, _, (execVqblk_next o s hg : execVqblk o s = _), fun k hk => ⟨fun hw => ⟨?_, ?_⟩, fun hw => ⟨?_, ?_⟩⟩⟩
    · rw [packed_choice hk (by decide), chosen, if_pos ((mem_writtenBlocks o s hk).mpr hw)]
      rfl
    · rw [packed_choice (by omega) (by decide), chosen, if_pos ((mem_writtenBlocks o s hk).mpr hw)]
      rfl
    · rw [packed_choice hk (by decide), chosen, if_neg (fun h => hw ((mem_writtenBlocks o s hk).mp h)), getD_elemsOf _ hk, Nat.mod_mod]
    · rw [packed_choice (by omega) (by decide), chosen, if_neg (fun h => hw ((mem_writtenBlocks o s hk).mp h)),
        getD_elemsOf _ (by omega), Nat.mod_mod]

end Sys2Proof.Proofs.BlockQuantisation
end

section
/-! Proofs. Vector moves and stream writes, merges and lane patterns (R46, R149, R156, R178, R180, R181). -/

namespace Sys2Proof.Proofs.VectorMoves
open Sys2Proof Sys2Proof.Machine Sys2Proof.Proofs.VectorSlots Sys2Proof.Proofs.VectorConversions
open Sys2Proof.Proofs.BlockQuantisation Sys2Proof.Proofs.RegisterFiles

/-! ### VXAB, VSPL, VIOTA and VSQ -/

section
variable {o : OpV2} {s : State} (hg : s.guardOn o.g false = true)
include hg

theorem execVxab_whole (hm : o.m = false) :
    let a := s.vA o.sl o.a o.l (vWidth o.w)
    execVxab o s = .next (s.writeV (!o.sl) o.d.toNat { bits := BitVec.ofNat 1024 (packElems (tagBits a.2) a.1), tag := a.2 } 2) := by
  refine vOp_next hg ?_
  simp only [hm, Bool.false_eq_true, if_false]

theorem execVxab_merged (hm : o.m = true) :
    let a := s.vA o.sl o.a o.l (vWidth o.w)
    let w := tagBits a.2
    let n := vWidth o.w / w
    execVxab o s = .next (s.writeVMerged (!o.sl) o.d.toNat
      { bits := BitVec.ofNat 1024 (packElems w ((List.range n).map (fun k =>
          if (s.mask0 o.sl).getLsbD k = true then a.1.getD k 0 else (elemsOf w n (s.oldBits (!o.sl) o.d.toNat)).getD k 0))),
        tag := a.2 } 2) := by
  refine vOp_next hg ?_
  simp only [hm, if_true]

end

section
variable {o : OpVB1} {s t : State} {ob : VOpd} {ok : Nat → Bool} {f : Nat → Nat → Nat → Nat} (hg : s.guardOn o.g false = true)
  (hB : s.vB o.sl o.b (vWidth o.w) = (t, some ob))
include hg hB

theorem vSplat_next (hok : ok ob.tag = true) :
    let w := tagBits ob.tag
    let n := vWidth o.w / w
    vSplat s o ok f = .next ((t.warn wLPIGN (o.l != 0)).vput o.sl o.m o.d.toNat w n ob.tag ((List.range n).map (f w (ob.bits % 2 ^ w))) 3) := by
  refine vOp_next hg ?_
  simp only [hB, hok, Bool.not_true, Bool.false_eq_true, if_false]

theorem vSplat_fallback (hok : ok ob.tag = false) :
    let w := tagBits ob.tag
    let n := vWidth o.w / w
    vSplat s o ok f =
      .next (((t.warn wLPIGN (o.l != 0)).vput o.sl o.m o.d.toNat w n ob.tag (List.replicate n 0) 3).warn wFMTOP true) := by
  refine vOp_next hg ?_
  simp only [hB, hok, Bool.not_false, if_true, State.fmtop]

end

section
variable {o : OpVSq} {s : State} (hg : s.guardOn o.g false = true)
include hg

theorem execVsq_not_output (h : (s.pre.streams.get {} o.q.toNat).isOut = false) :
    execVsq o s = .next (s.raise (if o.sl then 2 else 1) 0x60 (BitVec.ofNat 64 o.q.toNat)) := by
  refine vOp_next hg ?_
  simp only [h, Bool.not_false, if_true]

theorem execVsq_append {src : VOpd} (h : (s.pre.streams.get {} o.q.toNat).isOut = true)
    (hA : o.b.toNat < 48 → let a := s.vA o.sl o.a o.l (vWidth o.w)
      src = { bits := packElems (tagBits a.2) a.1, tag := a.2, reg := some o.a.toNat })
    (hC : 48 ≤ o.b.toNat → s.vB o.sl o.b (vWidth o.w) = (s, some src)) :
    let q := s.pre.streams.get {} o.q.toNat
    let n := vWidth o.w / tagBits q.dfmt
    (s.core.outq.filter (fun e => e.1 == o.q.toNat && e.2.1 == q.epoch)).length + n ≤ 8192 / tagBits q.dfmt →
    let c := s.vConv o.sl src q.dfmt (vWidth o.w)
    let new := ((List.range n).filter (fun i => decide (q.pos + i < q.size))).map
      (fun i => (o.q.toNat, q.epoch, q.pos + i, c.1.getD i 0, s.core.seqNo))
    execVsq o s = .next ((((s.modStream o.q.toNat (fun x => { x with pos := x.pos + n })).modCore
      (fun k => { k with outq := k.outq ++ new })).warns c.2).warn wMSKIGN o.m) := by
  intro q n hroom c new
  have hroom : ¬ streamCap q.dfmt < (s.core.outq.filter (fun e => e.1 == o.q.toNat && e.2.1 == q.epoch)).length + n :=
    Nat.not_lt.mpr hroom
  have hsrc : (if 48 ≤ o.b.toNat then (s.vB o.sl o.b (vWidth o.w)).2.getD { bits := 0, tag := 0, reg := none }
      else { bits := packElems (tagBits (s.vA o.sl o.a o.l (vWidth o.w)).2) (s.vA o.sl o.a o.l (vWidth o.w)).1,
             tag := (s.vA o.sl o.a o.l (vWidth o.w)).2, reg := some o.a.toNat }) = src := by
    split
    · rw [hC ‹_›]
      rfl
    · exact (hA (by omega)).symm
  refine vOp_next hg ?_
  simp only [h, Bool.not_true, Bool.false_eq_true, if_false, hsrc]
  exact if_neg hroom

end

/-! ### The write of a vector register (R149) -/

section
variable (s : State) (sl : Bool) (r lat : Nat) (v : VReg)

theorem vreg_writeVMerged : (s.writeVMerged sl r v lat).core.sync.vreg sl (phys s.pre.rrb r) = v := by
  rw [State.writeVMerged, core_modSync, Sync.vreg]
  cases sl <;> simp

theorem vreg_writeVMerged_ne {q : Nat} (h : q ≠ phys s.pre.rrb r) :
    (s.writeVMerged sl r v lat).core.sync.vreg sl q = s.core.sync.vreg sl q := by
  rw [State.writeVMerged, core_modSync, Sync.vreg]
  cases sl <;> simp [Tab.get_set_ne _ _ _ _ _ h, Sync.vreg]

theorem vreg_writeVMerged_other (q : Nat) :
    (s.writeVMerged sl r v lat).core.sync.vreg (!sl) q = s.core.sync.vreg (!sl) q := by
  rw [State.writeVMerged, core_modSync, Sync.vreg]
  cases sl <;> simp [Sync.vreg]

theorem vreg_writeV (ho : s.overtaken (vKey sl (phys s.pre.rrb r)) lat = false) :
    (s.writeV sl r v lat).core.sync.vreg sl (phys s.pre.rrb r) = v := by
  simp only [State.writeV, ho, core_modSync, Sync.vreg]
  cases sl <;> simp

theorem vreg_writeV_ne {q : Nat} (h : q ≠ phys s.pre.rrb r) :
    (s.writeV sl r v lat).core.sync.vreg sl q = s.core.sync.vreg sl q := by
  rw [State.writeV, core_modSync, Sync.vreg]
  cases sl <;> simp [Tab.get_set_ne _ _ _ _ _ h, Sync.vreg]

theorem vreg_writeV_other (q : Nat) : (s.writeV sl r v lat).core.sync.vreg (!sl) q = s.core.sync.vreg (!sl) q := by
  rw [State.writeV, core_modSync, Sync.vreg]
  cases sl <;> simp [Sync.vreg]

/-- What a merge reads of a register is what the last write in program order gave it, late or not. -/
theorem oldBits_of_writeV {u : State} (hu : u.pre = (s.writeV sl r v lat).core.sync) (hp : phys u.pre.rrb r = phys s.pre.rrb r)
    (hd : u.pre.dead sl (phys s.pre.rrb r) = false) : u.oldBits sl r = v.bits.toNat := by
  have hcov : u.pre.covered.get (u.pre.vreg sl (phys s.pre.rrb r)) (vKey sl (phys s.pre.rrb r)) = v := by
    rw [hu]
    cases ho : s.overtaken (vKey sl (phys s.pre.rrb r)) lat
    · rw [vreg_writeV s sl r lat v ho]
      simp only [State.writeV, ho, core_modSync]
      cases sl <;> simp [Sync.landSet]
    · simp only [State.writeV, ho, core_modSync]
      cases sl <;> simp [Sync.landSet]
  simp only [State.oldBits, hp, hd, hcov, Bool.false_eq_true, if_false]

end

theorem vput_whole {s : State} {sl : Bool} {d w n tag lat : Nat} {e : List Nat} (he : e.length = n) :
    s.vput sl false d w n tag e lat = s.writeV sl d { bits := BitVec.ofNat 1024 (packElems w e), tag := tag } lat := by
  rw [State.vput, if_neg (by decide), ← he, List.take_length]

theorem vput_merged {s : State} {sl : Bool} {d w n tag lat : Nat} {e : List Nat} :
    s.vput sl true d w n tag e lat = s.writeVMerged sl d
      { bits := BitVec.ofNat 1024 (packElems w ((List.range n).map (fun i =>
          if (s.mask0 sl).getLsbD i then e.getD i 0 else (elemsOf w n (s.oldBits sl d)).getD i 0))),
        tag := tag } lat := by
  rw [State.vput, if_pos rfl]

/-- The write of n elements gives its register the tag and the new elements, the old ones where the mask keeps them, and
changes no other register (R149). -/
theorem vput_vreg {s : State} {sl msk : Bool} {d w n tag lat : Nat} {e : List Nat} (hn : w * n ≤ 1024) (he : e.length = n)
    (ho : msk = false → s.overtaken (vKey sl (phys s.pre.rrb d)) lat = false) :
    let t := (s.vput sl msk d w n tag e lat).core.sync
    let v := t.vreg sl (phys s.pre.rrb d)
    v.tag = tag ∧ v.bits.toNat < 2 ^ (w * n) ∧
    (∀ k < n, v.bits.toNat / 2 ^ (w * k) % 2 ^ w =
      if msk = false ∨ (s.mask0 sl).getLsbD k = true then e.getD k 0 % 2 ^ w else s.oldBits sl d / 2 ^ (w * k) % 2 ^ w) ∧
    (∀ q, q ≠ phys s.pre.rrb d → t.vreg sl q = s.core.sync.vreg sl q) ∧ (∀ q, t.vreg (!sl) q = s.core.sync.vreg (!sl) q) := by
  cases msk with
  | false =>
    have hlen : w * e.length ≤ 1024 := he ▸ hn
    dsimp only
    rw [vput_whole he, vreg_writeV s sl d lat _ (ho rfl)]
    refine ⟨rfl, ?_, fun k _ => ?_, fun q hq => vreg_writeV_ne s sl d lat _ hq, vreg_writeV_other s sl d lat _⟩
    · rw [toNat_packed hlen, ← he]
      exact packElems_lt w e
    · rw [toNat_packed hlen, packElems_element, if_pos (.inl rfl)]
  | true =>
    dsimp only
    rw [vput_merged, vreg_writeVMerged]
    refine ⟨rfl, ?_, fun k hk => ?_, fun q hq => vreg_writeVMerged_ne s sl d lat _ hq, vreg_writeVMerged_other s sl d lat _⟩
    · rw [toNat_packed (by simpa using hn)]
      exact (packElems_lt _ _).trans_eq (by rw [List.length_map, List.length_range])
    · rw [packed_choice hk hn]
      by_cases hm : (s.mask0 sl).getLsbD k = true
      · rw [if_pos hm, if_pos (.inr hm)]
      · rw [if_neg hm, if_neg (by simpa using hm), getD_elemsOf _ hk, Nat.mod_mod]

/-! ### Lane patterns (R156) -/

theorem tagBits_cases (t : Nat) : tagBits t = 4 ∨ tagBits t = 8 ∨ tagBits t = 16 ∨ tagBits t = 32 ∨ tagBits t = 64 := by
  unfold tagBits
  split <;> simp

/-- A register has at least 4 elements, in whole groups of at most 32. -/
theorem lane_groups (c : BitVec 2) (t : Nat) :
    4 ≤ vWidth c / tagBits t ∧ min 32 (vWidth c / tagBits t) ∣ vWidth c / tagBits t ∧
      (8 ≤ min 32 (vWidth c / tagBits t) → 8 ∣ min 32 (vWidth c / tagBits t)) := by
  have hc : c.toNat = 0 ∨ c.toNat = 1 ∨ c.toNat = 2 ∨ c.toNat = 3 := by omega
  rw [vWidth]
  rcases hc with h | h | h | h <;> rcases tagBits_cases t with ht | ht | ht | ht | ht <;> rw [h, ht] <;> decide

/-- The lane of a group that a pattern register names. -/
def laneOf (lp m p : Nat) : Nat :=
  if lp % 4 = 0 then (p + lp / 4 % 32) % m
  else if lp % 4 = 1 then m - 1 - p
  else if lp % 4 = 2 then 8 * (p / 8) + lp / 2 ^ (8 + 3 * (p % 8)) % 8 % min 8 m
  else lp / 4 % 32 % m

theorem bitsOf_three (a x : Nat) : bitsOf (a + 2) a x = x / 2 ^ a % 8 := by
  rw [bitsOf, show a + 2 - a + 1 = 3 by omega, show 2 ^ 3 = 8 from rfl]

theorem laneSource_eq (lp n i : Nat) :
    laneSource lp n i = i / min 32 n * min 32 n + laneOf lp (min 32 n) (i % min 32 n) := by
  have hamt : bitsOf 6 2 lp = lp / 4 % 32 := by norm_num [bitsOf]
  have hcode : lp % 4 = 0 ∨ lp % 4 = 1 ∨ lp % 4 = 2 ∨ lp % 4 = 3 := by omega
  rw [laneSource, laneOf, hamt]
  rcases hcode with h | h | h | h <;> simp only [h, bitsOf_three] <;> rfl

/-- A lane of a group is in the group. -/
theorem laneOf_lt {m p : Nat} (lp : Nat) (hp : p < m) (hm : 8 ≤ m → 8 ∣ m) : laneOf lp m p < m := by
  rw [laneOf]
  split
  · exact Nat.mod_lt _ (by omega)
  · split
    · omega
    · split
      · have := Nat.mod_lt (lp / 2 ^ (8 + 3 * (p % 8)) % 8) (show 0 < min 8 m by omega)
        omega
      · exact Nat.mod_lt _ (by omega)

theorem group_lt {m n i q : Nat} (hmn : m ∣ n) (hi : i < n) (hq : q < m) : i / m * m + q < n := by
  obtain ⟨j, rfl⟩ := hmn
  have hdiv : i / m < j := Nat.div_lt_of_lt_mul hi
  calc i / m * m + q < (i / m + 1) * m := by rw [Nat.succ_mul]; omega
    _ ≤ j * m := Nat.mul_le_mul_right m hdiv
    _ = m * j := Nat.mul_comm j m

section
variable (s : State) (sl : Bool) (a : BitVec 5) {l : BitVec 2} (c : BitVec 2)

theorem vA_unpatterned (h : l = 0) :
    let v := s.readV sl a.toNat
    s.vA sl a l (vWidth c) = (elemsOf (tagBits v.tag) (vWidth c / tagBits v.tag) v.bits.toNat, v.tag) := by
  simp only [State.vA, State.lanePat, if_pos h, patterned]

theorem vA_patterned (h : l ≠ 0) :
    let v := s.readV sl a.toNat
    let w := tagBits v.tag
    let n := vWidth c / w
    let lp := (s.pre.lp.get 0 (l.toNat - 1 + (if sl then 3 else 0))).toNat
    (s.vA sl a l (vWidth c)).2 = v.tag ∧ (s.vA sl a l (vWidth c)).1.length = n ∧
      ∀ i < n, (s.vA sl a l (vWidth c)).1.getD i 0 =
        v.bits.toNat / 2 ^ (w * (i / min 32 n * min 32 n + laneOf lp (min 32 n) (i % min 32 n))) % 2 ^ w := by
  intro v w n lp
  obtain ⟨h4, hdvd, h8⟩ := lane_groups c v.tag
  have hA : s.vA sl a l (vWidth c) =
      ((List.range n).map (fun i => (elemsOf w n v.bits.toNat).getD (laneSource lp n i) 0), v.tag) := by
    simp only [State.vA, State.lanePat, if_neg h, patterned, elemsOf, List.length_map, List.length_range]
    rfl
  rw [hA]
  refine ⟨rfl, by rw [List.length_map, List.length_range], fun i hi => ?_⟩
  have hsrc := group_lt hdvd hi (laneOf_lt lp (Nat.mod_lt i (show 0 < min 32 n by omega)) h8)
  rw [getD_map_range _ hi, laneSource_eq, getD_elemsOf _ hsrc]

end

/-- Settles O41: each word by its branches, the shared write and the lane patterns by their lemmas. -/
theorem vectorMoves : Obligations.VectorMoves := by
  unfold Obligations.VectorMoves
  refine ⟨fun o s hg => ?vxab, fun o s hg hr => ?vspl, fun o s hg => ?vsq, fun o s hg => ?vnop, fun o s hg => ?snop,
    fun s sl msk d w n tag e lat _ hn he => ?vput, fun s u sl d lat v hu hp hd => ?old, fun s sl a l c => ?lanes⟩
  case vxab => exact ⟨(execVxab_whole hg : _ → execVxab o s = _), (execVxab_merged hg : _ → execVxab o s = _)⟩
  case vspl =>
    obtain ⟨t, ob, hT⟩ := takesB_of_ready o.sl hr
    exact ⟨t, ob, hT, (vSplat_next hg hT.1 rfl : execVspl o s = _), fun h => (vSplat_next hg hT.1 (okInt_eq_true h) : execViota o s = _),
      fun h => (vSplat_fallback hg hT.1 (okInt_eq_false h) : execViota o s = _)⟩
  case vsq =>
    exact ⟨(execVsq_not_output hg : _ → execVsq o s = _), fun h src hA hC hroom => (execVsq_append hg h hA hC hroom : execVsq o s = _)⟩
  case vnop => exact (vOp_next hg rfl : execVnop o s = _)
  case snop => exact (ScalarSlot.sOp_next hg rfl : execSnop o s = _)
  case vput => exact vput_vreg hn he
  case old => exact oldBits_of_writeV s sl d lat v hu hp hd
  case lanes => exact ⟨vA_unpatterned s sl a c, vA_patterned s sl a c⟩

end Sys2Proof.Proofs.VectorMoves
end

section
/-! Proofs. The lane crossbar and the bit network (R183 to R193). -/

namespace Sys2Proof.Proofs.CrossbarAndBitNetwork
open Sys2Proof Sys2Proof.Machine Sys2Proof.Proofs.VectorSlots Sys2Proof.Proofs.VectorConversions
open Sys2Proof.Proofs.BlockQuantisation Sys2Proof.Proofs.Copies

/-! ### Lists of groups -/

section
variable {α : Type} {f : α → List Nat} {e : Nat}

theorem length_flatMap_of_length {l : List α} (h : ∀ x ∈ l, (f x).length = e) : (l.flatMap f).length = e * l.length := by
  induction l with
  | nil => rfl
  | cons x t ih =>
    rw [List.flatMap_cons, List.length_append, h x (by simp), ih (fun y hy => h y (by simp [hy])), List.length_cons]
    ring

/-- Element k of group i of a list of groups of e elements. -/
theorem getD_flatMap {l : List α} (h : ∀ x ∈ l, (f x).length = e) {i k : Nat} {x : α} (hi : l[i]? = some x) (hk : k < e) :
    (l.flatMap f).getD (i * e + k) 0 = (f x).getD k 0 := by
  induction l generalizing i with
  | nil => simp at hi
  | cons y t ih =>
    have hy : (f y).length = e := h y (by simp)
    rw [List.flatMap_cons]
    cases i with
    | zero =>
      obtain rfl : y = x := by simpa using hi
      rw [Nat.zero_mul, Nat.zero_add, List.getD_append _ _ _ _ (by omega)]
    | succ i =>
      rw [Nat.succ_mul, show i * e + e + k = (f y).length + (i * e + k) by omega,
        List.getD_append_right _ _ _ _ (by omega), Nat.add_sub_cancel_left]
      exact ih (fun z hz => h z (by simp [hz])) (by simpa using hi)

end

theorem length_chunks {e i : Nat} {l : List Nat} (h : (i + 1) * e ≤ l.length) : (chunks e l i).length = e := by
  rw [chunks, List.length_take, List.length_drop]
  have : e * i + e = (i + 1) * e := by ring
  omega

theorem getD_chunks {e i k : Nat} (l : List Nat) (hk : k < e) : (chunks e l i).getD k 0 = l.getD (i * e + k) 0 := by
  simp only [chunks, List.getD_eq_getElem?_getD, List.getElem?_take, hk, if_true, List.getElem?_drop, Nat.mul_comm e i]

/-- The place of a selected number among the selected ones. -/
theorem getElem_filter_range {n j : Nat} {sel : Nat → Bool} (hj : j < n) (hs : sel j = true) :
    ((List.range n).filter sel)[((List.range j).filter sel).length]? = some j := by
  obtain ⟨m, rfl⟩ : ∃ m, n = j + (m + 1) := ⟨n - j - 1, by omega⟩
  rw [List.range_add, List.filter_append, List.getElem?_append_right (le_refl _), Nat.sub_self, List.range_succ_eq_map]
  simp [hs]

/-! ### XPRM -/

theorem length_xEntries (p : Line) : (xEntries p).length = 128 := by simp [xEntries, elemsOf]

theorem xEntries_lt (p : Line) (i : Nat) : (xEntries p).getD i 0 < 256 :=
  getD_lt_of_forall_mem (by decide) lt_of_mem_elemsOf i

/-- Where nothing collides, two enabled entries of one lane are one entry. -/
theorem not_collides {l : List Nat} (h : collides l = false) {i j : Nat} (hij : i < j) (hi : 128 ≤ l.getD i 0)
    (hj : 128 ≤ l.getD j 0) : l.getD i 0 % 64 ≠ l.getD j 0 % 64 := by
  induction l generalizing i j with
  | nil => simp at hi
  | cons e t ih =>
    obtain ⟨hhead, htail⟩ := (Bool.or_eq_false_iff).mp h
    cases j with
    | zero => omega
    | succ j =>
      cases i with
      | succ i => exact ih htail (by omega) hi hj
      | zero =>
        have hi : 128 ≤ e := hi
        have hj : 128 ≤ t.getD j 0 := hj
        rw [decide_eq_true hi, Bool.true_and, List.any_eq_false] at hhead
        have hmem : t.getD j 0 ∈ t := by
          rcases Nat.lt_or_ge j t.length with hlt | hge
          · rw [List.getD_eq_getElem _ _ hlt]
            exact List.getElem_mem hlt
          · rw [List.getD_eq_default _ _ hge] at hj
            omega
        intro heq
        have heq : e % 64 = t.getD j 0 % 64 := heq
        exact hhead _ hmem (by rw [decide_eq_true hj, heq, beq_self_eq_true, Bool.and_self])

/-- The value that the pattern delivers to a destination lane. -/
def delivered (en src : List Nat) (d : Nat) : Nat :=
  match (List.range 128).find? (fun i => en.getD i 0 == 128 + d || en.getD i 0 == 192 + d) with
  | some i => src.getD i 0
  | none => 0

theorem delivered_enabled {p : Line} (src : List Nat) (hc : collides (xEntries p) = false) {i : Nat} (hi : i < 128)
    (he : 128 ≤ (xEntries p).getD i 0) : delivered (xEntries p) src ((xEntries p).getD i 0 % 64) = src.getD i 0 := by
  have hlt := xEntries_lt p i
  rw [delivered]
  cases hf : (List.range 128).find?
      (fun k => (xEntries p).getD k 0 == 128 + (xEntries p).getD i 0 % 64 || (xEntries p).getD k 0 == 192 + (xEntries p).getD i 0 % 64) with
  | none =>
    have := List.find?_eq_none.mp hf i (by simpa using hi)
    simp only [Bool.or_eq_true, beq_iff_eq] at this
    omega
  | some k =>
    have hk := List.find?_some hf
    simp only [Bool.or_eq_true, beq_iff_eq] at hk
    rcases Nat.lt_trichotomy i k with h | rfl | h
    · exact absurd (by omega) (not_collides hc h he (by omega))
    · rfl
    · exact absurd (by omega) (not_collides hc h (by omega) he)

theorem delivered_none {p : Line} (src : List Nat) {d : Nat} (hd : d < 64)
    (h : ∀ i < 128, 128 ≤ (xEntries p).getD i 0 → (xEntries p).getD i 0 % 64 ≠ d) : delivered (xEntries p) src d = 0 := by
  rw [delivered]
  cases hf : (List.range 128).find? (fun k => (xEntries p).getD k 0 == 128 + d || (xEntries p).getD k 0 == 192 + d) with
  | none => rfl
  | some k =>
    have hk := List.find?_some hf
    have hmem := List.mem_range.mp (List.mem_of_find?_eq_some hf)
    simp only [Bool.or_eq_true, beq_iff_eq] at hk
    exact absurd (by omega) (h k hmem (by omega))

section
variable {o : OpXP} {s : State}

theorem execXprm_waits (hg : s.guardOn o.g o.n = true) (he : s.early (kX o.p.toNat) = true) : execXprm o s = .next (s.stallOn 8) := by
  rw [execXprm, hg, he]
  rfl

theorem execXprm_collides (hc : collides (xEntries (s.readX o.p.toNat)) = true)
    (h : s.guardOn o.g o.n = false ∨ s.early (kX o.p.toNat) = false) : ∃ info, execXprm o s = .next (s.raise 6 0x05 info) := by
  have hno : (s.guardOn o.g o.n && s.early (kX o.p.toNat)) = false := by
    rcases h with h | h <;> simp [h]
  exact ⟨_, by rw [execXprm, hno, if_neg (by decide), if_pos hc]⟩

theorem execXprm_delivers (hg : s.guardOn o.g o.n = true) (hc : collides (xEntries (s.readX o.p.toNat)) = false)
    (he : s.early (kX o.p.toNat) = false) :
    execXprm o s = .next (s.xWrite o.f o.d o.a o.b ((List.range 64).map
      (delivered (xEntries (s.readX o.p.toNat)) (s.xWindow false o.a ++ s.xWindow true o.b)))) := by
  rw [execXprm, hc, he, Bool.and_false]
  refine (if_neg (by decide)).trans ((if_neg (by decide)).trans (xnOp_next hg ?_))
  refine congrArg (s.xWrite o.f o.d o.a o.b) (List.map_congr_left fun d _ => ?_)
  unfold delivered
  cases (List.range 128).find? (fun i => (xEntries (s.readX o.p.toNat)).getD i 0 == 128 + d ||
    (xEntries (s.readX o.p.toNat)).getD i 0 == 192 + d) with
  | none => rfl
  | some i => rfl

end

/-! ### XPLD -/

/-- A byte of a line mapped byte by byte. -/
theorem xClean_byte (v : Line) {i : Nat} (hi : i < 128) :
    (xClean v).toNat / 2 ^ (8 * i) % 256 = v.toNat / 2 ^ (8 * i) % 256 &&& 0xBF := by
  have hlen : 8 * ((elemsOf 8 128 v.toNat).map (fun e => e &&& 0xBF)).length ≤ 1024 := by simp [elemsOf]
  have helem : ((elemsOf 8 128 v.toNat).map (fun e => e &&& 0xBF)).getD i 0 = v.toNat / 2 ^ (8 * i) % 256 &&& 0xBF := by
    simp [elemsOf, List.getD_eq_getElem?_getD, hi]
  have hlt : v.toNat / 2 ^ (8 * i) % 256 &&& 0xBF < 256 := Nat.and_le_right.trans_lt (by decide)
  rw [xClean, toNat_packed hlen, show (256 : Nat) = 2 ^ 8 from rfl, packElems_element, helem]
  exact Nat.mod_eq_of_lt hlt

/-! ### XZIP, XUZP, XCMP and XEXP -/

theorem length_xWindow (s : State) (b : Bool) (r : BitVec 5) : (s.xWindow b r).length = 64 := by simp [State.xWindow, elemsOf]

/-- An element size of the crossbar divides its windows. -/
theorem element_sizes (e : BitVec 2) : 32 / 2 ^ e.toNat * 2 ^ e.toNat = 32 ∧ 64 / 2 ^ e.toNat = 2 * (32 / 2 ^ e.toNat) := by
  have h : e.toNat = 0 ∨ e.toNat = 1 ∨ e.toNat = 2 ∨ e.toNat = 3 := by omega
  rcases h with h | h | h | h <;> rw [h] <;> decide

/-- A group of a window lies in it. -/
theorem group_le {e q n i : Nat} (h : q * e = n) (hi : i < q) : (i + 1) * e ≤ n :=
  h ▸ Nat.mul_le_mul_right e hi

section
variable (a b : List Nat) {e q h : Nat} (ha : a.length = 64) (hb : b.length = 64) (hq : q * e = 32) (hh : h ≤ 1)
include ha hb hq hh

/-- The groups of A and B in turn, from the lower or the upper half. -/
theorem zip_groups :
    let l := (List.range q).flatMap (fun i => chunks e a (q * h + i) ++ chunks e b (q * h + i))
    l.length = 64 ∧ ∀ i < q, ∀ k < e, l.getD (2 * i * e + k) 0 = a.getD ((q * h + i) * e + k) 0 ∧
      l.getD ((2 * i + 1) * e + k) 0 = b.getD ((q * h + i) * e + k) 0 := by
  have hin {i : Nat} (hi : i < q) : (q * h + i + 1) * e ≤ 64 := by
    refine group_le (q := 2 * q) (by rw [Nat.mul_assoc, hq]) ?_
    have : q * h ≤ q * 1 := Nat.mul_le_mul_left q hh
    omega
  have hlen : ∀ i ∈ List.range q, (chunks e a (q * h + i) ++ chunks e b (q * h + i)).length = 2 * e := by
    intro i hi
    have hi := hin (List.mem_range.mp hi)
    rw [List.length_append, length_chunks (by omega), length_chunks (by omega)]
    ring
  refine ⟨?_, fun i hi k hk => ?_⟩
  · rw [length_flatMap_of_length hlen, List.length_range]
    linarith
  · have hget : (List.range q)[i]? = some i := by simp [hi]
    have hchunk : (chunks e a (q * h + i)).length = e := length_chunks (by have := hin hi; omega)
    constructor
    · rw [show 2 * i * e + k = i * (2 * e) + k by ring, getD_flatMap hlen hget (by omega),
        List.getD_append _ _ _ _ (by omega), getD_chunks _ hk]
    · rw [show (2 * i + 1) * e + k = i * (2 * e) + (e + k) by ring, getD_flatMap hlen hget (by omega),
        List.getD_append_right _ _ _ _ (by omega), hchunk, Nat.add_sub_cancel_left, getD_chunks _ hk]

/-- Every second group of A and B. -/
theorem unzip_groups :
    let l := (List.range (2 * q)).flatMap (fun j => chunks e (a ++ b) (2 * j + h))
    l.length = 64 ∧ ∀ j < 2 * q, ∀ k < e, l.getD (j * e + k) 0 = (a ++ b).getD ((2 * j + h) * e + k) 0 := by
  have hlen : ∀ j ∈ List.range (2 * q), (chunks e (a ++ b) (2 * j + h)).length = e := by
    intro j hj
    have hj := List.mem_range.mp hj
    refine length_chunks ?_
    rw [List.length_append, ha, hb]
    exact group_le (q := 4 * q) (by rw [Nat.mul_assoc, hq]) (by omega)
  refine ⟨?_, fun j hj k hk => ?_⟩
  · rw [length_flatMap_of_length hlen, List.length_range]
    linarith
  · rw [getD_flatMap hlen (x := j) (by simp [hj]) hk, getD_chunks _ hk]

end

section
variable (a : List Nat) {e n : Nat} (ha : a.length = 64) (hn : n * e = 64) (sel : Nat → Bool)
include ha hn

/-- The selected groups one after the other. -/
theorem compressed_groups :
    let l := ((List.range n).filter sel).flatMap (chunks e a)
    l.length = e * ((List.range n).filter sel).length ∧
      ∀ j < n, sel j = true → ∀ k < e, l.getD (((List.range j).filter sel).length * e + k) 0 = a.getD (j * e + k) 0 := by
  have hlen : ∀ j ∈ (List.range n).filter sel, (chunks e a j).length = e := fun j hj =>
    length_chunks (ha ▸ group_le hn (List.mem_range.mp (List.mem_of_mem_filter hj)))
  exact ⟨length_flatMap_of_length hlen, fun j hj hs k hk => by
    rw [getD_flatMap hlen (getElem_filter_range hj hs) hk, getD_chunks _ hk]⟩

/-- The groups spread to the selected places. -/
theorem expanded_groups :
    let l := (List.range n).flatMap (fun j =>
      if sel j then chunks e a ((List.range j).filter sel).length else List.replicate e 0)
    l.length = 64 ∧ ∀ j < n, ∀ k < e,
      l.getD (j * e + k) 0 = if sel j = true then a.getD (((List.range j).filter sel).length * e + k) 0 else 0 := by
  have hlen : ∀ j ∈ List.range n,
      (if sel j then chunks e a ((List.range j).filter sel).length else List.replicate e 0).length = e := by
    intro j hj
    split
    · refine length_chunks (ha ▸ group_le hn ?_)
      exact ((List.length_filter_le _ _).trans_eq List.length_range).trans_lt (List.mem_range.mp hj)
    · exact List.length_replicate
  refine ⟨?_, fun j hj k hk => ?_⟩
  · rw [length_flatMap_of_length hlen, List.length_range]
    linarith
  · rw [getD_flatMap hlen (x := j) (by simp [hj]) hk]
    split
    · exact getD_chunks a hk
    · simp [hk]

end

/-- The selector bits are the bits of register b. -/
theorem selBit_window (s : State) (r : BitVec 5) {j : Nat} (hj : j < 64) :
    selBit (s.xWindow true r) j = (s.readV true r.toNat).bits.getLsbD j := by
  have hdm : 8 * (j / 8) + j % 8 = j := Nat.div_add_mod j 8
  rw [selBit, State.xWindow, getD_elemsOf _ (by omega), bitOf, BitVec.getLsbD, Nat.testBit_mod_two_pow,
    decide_eq_true (Nat.mod_lt j (by decide)), Bool.true_and, Nat.testBit_div_two_pow, Nat.add_comm, hdm]

section
variable {s : State}

theorem execXzip_next {o : OpXZ} (hg : s.guardOn o.g o.n = true) :
    let e := 2 ^ o.e.toNat
    let h := if o.h then 1 else 0
    execXzip o s = .next (s.xWrite o.f o.d o.a o.b ((List.range (32 / e)).flatMap (fun i =>
      chunks e (s.xWindow false o.a) (32 / e * h + i) ++ chunks e (s.xWindow true o.b) (32 / e * h + i)))) := by
  refine xnOp_next hg ?_
  simp only [mul_ite, Nat.mul_one, Nat.mul_zero]

variable {o : OpXC} (hg : s.guardOn o.g o.n = true)
  (hsel : ∀ j < 64 / 2 ^ o.e.toNat, selBit (s.xWindow true o.b) j = (s.readV true o.b.toNat).bits.getLsbD j)
include hg hsel

theorem execXcmp_next :
    execXcmp o s = .next (s.xWrite o.f o.d o.a o.b
      (((List.range (64 / 2 ^ o.e.toNat)).filter (fun j => (s.readV true o.b.toNat).bits.getLsbD j)).flatMap
        (chunks (2 ^ o.e.toNat) (s.xWindow false o.a)))) := by
  refine xnOp_next hg ?_
  dsimp only
  rw [List.filter_congr (fun j hj => hsel j (List.mem_range.mp hj))]

theorem execXexp_next :
    execXexp o s = .next (s.xWrite o.f o.d o.a o.b ((List.range (64 / 2 ^ o.e.toNat)).flatMap (fun j =>
      if (s.readV true o.b.toNat).bits.getLsbD j then
        chunks (2 ^ o.e.toNat) (s.xWindow false o.a) ((List.range j).filter (fun i => (s.readV true o.b.toNat).bits.getLsbD i)).length
      else List.replicate (2 ^ o.e.toNat) 0))) := by
  refine xnOp_next hg ?_
  refine congrArg (s.xWrite o.f o.d o.a o.b) (List.flatMap_congr fun j hj => ?_)
  have hj := List.mem_range.mp hj
  rw [hsel j hj, List.filter_congr (fun i hi => hsel i ((List.mem_range.mp hi).trans hj))]

end

/-! ### The bit network -/

theorem getD_bits_range {n k : Nat} (f : Nat → Bool) (h : k < n) : ((List.range n).map f).getD k false = f k := by
  simp [List.getD_eq_getElem?_getD, h]

theorem getLsbD_wordOf (l : List Bool) (k : Nat) : (wordOf l).getLsbD k = (decide (k < 64) && l.getD k false) := by
  rw [wordOf, BitVec.getLsbD_ofNat, testBit_packElems_one]

theorem length_route (pair pat : Nat) : (route pair pat).length = 64 := by simp [route, elemsOf]

/-- A routed bit: the bit of the pair that an enabled entry names. -/
theorem getD_route {pair : BitVec 128} {pat d : Nat} (hd : d < 64) :
    (route pair.toNat pat).getD d false =
      (decide (128 ≤ pat / 2 ^ (8 * d) % 256) && pair.getLsbD (pat / 2 ^ (8 * d) % 256 % 128)) := by
  simp [route, elemsOf, List.getD_eq_getElem?_getD, hd, bitOf, BitVec.getLsbD]

theorem nPair_eq (s : State) (k : BitVec 3) :
    s.nPair k = (s.readY (2 * k.toNat + 1) ++ s.readY (2 * k.toNat) : BitVec 128).toNat := by
  rw [BitVec.toNat_append, ← Nat.shiftLeft_add_eq_or_of_lt (s.readY (2 * k.toNat)).isLt, Nat.shiftLeft_eq, State.nPair]
  ring

/-- The XOR of a list is the parity of its true elements. -/
theorem foldl_bne (p : Nat → Bool) (l : List Nat) (b : Bool) :
    (l.map p).foldl (fun a c => a != c) b = (b != decide ((l.filter p).length % 2 = 1)) := by
  induction l generalizing b with
  | nil => simp
  | cons x t ih =>
    rw [List.map_cons, List.foldl_cons, ih]
    cases hx : p x
    · simp [hx]
    · have hpar : decide ((t.filter p).length % 2 = 1) = !decide (((t.filter p).length + 1) % 2 = 1) := by
        rw [← decide_not]
        exact decide_eq_decide.mpr (by omega)
      simp only [List.filter_cons, hx, if_true, List.length_cons, hpar]
      cases b <;> simp

theorem foldGroup_eq {t : List Bool} {g i : Nat} (h : (i + 1) * 2 ^ g ≤ t.length) :
    foldGroup t g i = decide (((List.range (2 ^ g)).filter (fun j => t.getD (i * 2 ^ g + j) false)).length % 2 = 1) := by
  have hgroup : (t.drop (i * 2 ^ g)).take (2 ^ g) = (List.range (2 ^ g)).map (fun j => t.getD (i * 2 ^ g + j) false) := by
    rw [Nat.succ_mul] at h
    refine List.ext_getElem (by simp; omega) (fun j h1 h2 => ?_)
    have hj : j < 2 ^ g := by simpa using h2
    rw [List.getElem_take, List.getElem_drop, List.getElem_map, List.getElem_range, List.getD_eq_getElem _ _ (by omega)]
  rw [foldGroup, hgroup, foldl_bne, Bool.false_bne]

section
variable {s : State}

theorem execNmap_next {o : OpNM} (hg : s.guardOn o.g o.n = true) (he : s.early (kW o.p.toNat) = false) :
    execNmap o s = .next (s.writeY o.d.toNat (wordOf (route (s.nPair o.k) (s.readW o.p.toNat).toNat)) 2) := by
  refine xnOp_next hg ?_
  rw [State.withW, he, if_neg (by decide)]

theorem execNmapx_next {o : OpNMx} (hg : s.guardOn o.g o.n = true) (he : s.early (kW o.p.toNat) = false) :
    execNmapx o s = .next (s.writeY o.d.toNat (wordOf ((List.range (64 / 2 ^ o.c.toNat)).map
      (foldGroup (route (s.nPair o.k) (s.readW o.p.toNat).toNat) o.c.toNat))) 2) := by
  refine xnOp_next hg ?_
  rw [State.withW, he, if_neg (by decide)]

/-- Byte d of the pattern that NPLD loads. -/
theorem npld_byte (y : Nat → W64) {d : Nat} (hd : d < 64) :
    (BitVec.ofNat 512 (packElems 64 ((List.range 8).map (fun i => (y i).toNat)))).toNat / 2 ^ (8 * d) % 256 =
      (y (d / 8)).toNat / 2 ^ (8 * (d % 8)) % 256 := by
  have hlt : packElems 64 ((List.range 8).map (fun i => (y i).toNat)) < 2 ^ 512 := packElems_lt 64 _
  have hword := packElems_element 64 ((List.range 8).map (fun i => (y i).toNat)) (d / 8)
  rw [getD_map_range _ (show d / 8 < 8 by omega), Nat.mod_eq_of_lt (y (d / 8)).isLt] at hword
  rw [BitVec.toNat_ofNat, Nat.mod_eq_of_lt hlt, ← hword]
  generalize packElems 64 ((List.range 8).map (fun i => (y i).toNat)) = x
  have hsplit : 8 * d = 64 * (d / 8) + 8 * (d % 8) := by omega
  have hdvd : 2 ^ 64 = 2 ^ (8 * (d % 8)) * 2 ^ (64 - 8 * (d % 8)) := by rw [← pow_add]; congr 1; omega
  have h256 : 2 ^ 8 ∣ 2 ^ (64 - 8 * (d % 8)) := Nat.pow_dvd_pow 2 (by omega)
  rw [hsplit, pow_add, ← Nat.div_div_eq_div_mul, hdvd, Nat.mod_mul_right_div_self]
  exact (Nat.mod_mod_of_dvd _ h256).symm

end

/-- Settles O42: each word by its branches, its groups and its bits. -/
theorem crossbarAndBitNetwork : Obligations.CrossbarAndBitNetwork := by
  unfold Obligations.CrossbarAndBitNetwork
  refine ⟨⟨fun o s => ?xprm, fun o s hg => ?xpld, fun o s hg => ?xzip, fun o s hg => ?xcmp⟩,
    fun o s hg he => ?nmap, fun o s hg he => ?nmapx, fun o s hg => ?npld, fun o s hg => ?nmov, fun o s hg => ?nli⟩
  case xprm =>
    exact ⟨(execXprm_waits : _ → _ → execXprm o s = _), (execXprm_collides : _ → _ → ∃ info, execXprm o s = _),
      fun hg hc he => ⟨_, (execXprm_delivers hg hc he : execXprm o s = _), by simp,
        fun i hi hen => (getD_map_range _ (Nat.mod_lt _ (by decide))).trans (delivered_enabled _ hc hi hen),
        fun d hd hno => (getD_map_range _ hd).trans (delivered_none _ hd hno)⟩⟩
  case xpld =>
    exact ⟨_, _, (xnOp_next hg rfl : execXpldA o s = _), (xnOp_next hg rfl : execXpldB o s = _),
      fun i hi => ⟨xClean_byte _ hi, xClean_byte _ hi⟩⟩
  case xzip =>
    obtain ⟨hq, hq2⟩ := element_sizes o.e
    have hh : (if o.h then 1 else 0) ≤ 1 := by split <;> decide
    have hA := length_xWindow s false o.a
    have hB := length_xWindow s true o.b
    refine ⟨⟨_, (execXzip_next hg : execXzip o s = _), zip_groups _ _ hA hB hq hh⟩, ?_⟩
    have hun := unzip_groups _ _ hA hB hq hh
    rw [← hq2] at hun
    exact ⟨_, (xnOp_next hg rfl : execXuzp o s = _), hun⟩
  case xcmp =>
    have hn : 64 / 2 ^ o.e.toNat * 2 ^ o.e.toNat = 64 := by
      obtain ⟨hq, hq2⟩ := element_sizes o.e
      rw [hq2, Nat.mul_assoc, hq]
    have hsel : ∀ j < 64 / 2 ^ o.e.toNat, selBit (s.xWindow true o.b) j = (s.readV true o.b.toNat).bits.getLsbD j := fun j hj =>
      selBit_window s o.b (hj.trans_le (Nat.div_le_self _ _))
    exact ⟨⟨_, (execXcmp_next hg hsel : execXcmp o s = _), compressed_groups _ (length_xWindow s false o.a) hn _⟩,
      ⟨_, (execXexp_next hg hsel : execXexp o s = _), expanded_groups _ (length_xWindow s false o.a) hn _⟩⟩
  case nmap =>
    refine ⟨_, (execNmap_next hg he : execNmap o s = _), fun d hd => ?_⟩
    rw [getLsbD_wordOf, decide_eq_true hd, Bool.true_and, nPair_eq, getD_route hd]
  case nmapx =>
    refine ⟨_, (execNmapx_next hg he : execNmapx o s = _), fun i hi => ?_, fun i hi => ?_⟩
    · have hin : (i + 1) * 2 ^ o.c.toNat ≤ 64 := (Nat.le_div_iff_mul_le (by positivity)).mp hi
      have hi64 : i < 64 := hi.trans_le (Nat.div_le_self _ _)
      rw [getLsbD_wordOf, decide_eq_true hi64, Bool.true_and, getD_bits_range _ hi, foldGroup_eq (hin.trans_eq (length_route _ _).symm)]
      rw [nPair_eq, List.filter_congr (fun j hj => ?_)]
      rw [Nat.succ_mul] at hin
      have hj := List.mem_range.mp hj
      exact getD_route (by omega)
    · rw [getLsbD_wordOf, List.getD_eq_default _ _ (by simpa using hi), Bool.and_false]
  case npld => exact ⟨_, (xnOp_next hg rfl : execNpld o s = _), fun d hd => npld_byte (fun i => s.readY ((if o.s then 8 else 0) + i)) hd⟩
  case nmov => exact (xnOp_next hg rfl : execNmov o s = _)
  case nli => exact (xnOp_next hg rfl : execNli o s = _)

end Sys2Proof.Proofs.CrossbarAndBitNetwork
end

section
/-! Proofs. Method dispatch (R213, R214, R217, R503). -/

namespace Sys2Proof.Proofs.MethodDispatch
open Sys2Proof Sys2Proof.Machine

/-- What dispatch makes of the entry that it takes, by the entry's second word. -/
def taken (e w : Nat) (reduced : Bool) (kind ta tb mode ra rb : Nat) : Except (Nat × Nat) (Nat × Nat × Nat × Nat × Nat) :=
  let act := w / 2 ^ 9 % 4
  let rout := w / 2 ^ 12 % 16
  let ring := w / 2 ^ 16 % 16
  let ctag := w / 2 ^ 20 % 2 ^ 12
  let src := if act - 1 = 1 then ta else tb
  if act = 0 then .error (1, e)
  else if 9 ≤ rout then .error (2, e)
  else if act - 1 ≠ 0 ∧ (ring = ra ∨ ring = rb ∨ tagSparse ctag ≠ 0 ∨ tagLayout ctag = 3) then .error (6, e)
  else if act - 1 ≠ 0 ∧ (tagFmt ctag = 13 ∨ tagFmt ctag = 14 ∨ tagLayout src = 3) then .error (7, e)
  else match routRefuses reduced rout (kind == 2) (if act - 1 = 1 then ctag else ta) (if act - 1 = 2 then ctag else tb) mode with
    | some sub => .error (sub, e)
    | none => .ok (e, rout, act - 1, ctag, ring)

section
variable {k : Core} {reduced : Bool} {kind ta tb mode ra rb : Nat}

theorem dispatch_none (h : ∀ e < 64, methodMatches (k.method e) kind ta tb mode = false) :
    k.dispatch reduced kind ta tb mode ra rb = .error (0, 64) := by
  have hfind : (List.range 64).find? (fun e => methodMatches (k.method e) kind ta tb mode) = none :=
    List.find?_eq_none.mpr (fun e he => by simpa using h e (List.mem_range.mp he))
  rw [Core.dispatch, hfind]

theorem dispatch_first {e : Nat} (he : e < 64) (hit : methodMatches (k.method e) kind ta tb mode = true)
    (hfirst : ∀ f < e, methodMatches (k.method f) kind ta tb mode = false) :
    k.dispatch reduced kind ta tb mode ra rb = taken e (k.method e).2 reduced kind ta tb mode ra rb := by
  have hfind : (List.range 64).find? (fun e => methodMatches (k.method e) kind ta tb mode) = some e :=
    List.find?_range_eq_some.mpr ⟨hit, List.mem_range.mpr he, fun f hf => by simp [hfirst f hf]⟩
  rw [Core.dispatch, hfind]
  rfl

end

/-- In reduced service the routines of the absent units are refused. -/
theorem routRefuses_reduced {rout : Nat} (conv : Bool) (ta tb mode : Nat) (h : rout ∈ [0, 2, 4, 5, 7]) :
    routRefuses true rout conv ta tb mode = some 3 := by
  rw [routRefuses, if_pos (by rwa [Bool.true_and, List.contains_iff_mem])]

/-- Past its conditions an entry is refused by its routine or taken. -/
theorem taken_good {e w ta tb mode ra rb kind : Nat} {reduced : Bool}
    (hact : w / 2 ^ 9 % 4 ≠ 0) (hrout : w / 2 ^ 12 % 16 < 9)
    (h6 : ¬ (w / 2 ^ 9 % 4 - 1 ≠ 0 ∧ (w / 2 ^ 16 % 16 = ra ∨ w / 2 ^ 16 % 16 = rb ∨ tagSparse (w / 2 ^ 20 % 2 ^ 12) ≠ 0 ∨
      tagLayout (w / 2 ^ 20 % 2 ^ 12) = 3)))
    (h7 : ¬ (w / 2 ^ 9 % 4 - 1 ≠ 0 ∧ (tagFmt (w / 2 ^ 20 % 2 ^ 12) = 13 ∨ tagFmt (w / 2 ^ 20 % 2 ^ 12) = 14 ∨
      tagLayout (if w / 2 ^ 9 % 4 - 1 = 1 then ta else tb) = 3))) {r : Option Nat}
    (hr : routRefuses reduced (w / 2 ^ 12 % 16) (kind == 2) (if w / 2 ^ 9 % 4 - 1 = 1 then w / 2 ^ 20 % 2 ^ 12 else ta)
      (if w / 2 ^ 9 % 4 - 1 = 2 then w / 2 ^ 20 % 2 ^ 12 else tb) mode = r) :
    taken e w reduced kind ta tb mode ra rb =
      r.elim (.ok (e, w / 2 ^ 12 % 16, w / 2 ^ 9 % 4 - 1, w / 2 ^ 20 % 2 ^ 12, w / 2 ^ 16 % 16)) (fun sub => .error (sub, e)) := by
  unfold taken
  dsimp only
  rw [if_neg hact, if_neg (Nat.not_le.mpr hrout), if_neg h6, if_neg h7, hr]
  cases r with
  | none => rfl
  | some sub => rfl

/-- Settles O43: the first entry that matches decides, and its conditions are asked in their order. -/
theorem methodDispatch : Obligations.MethodDispatch := by
  unfold Obligations.MethodDispatch
  intro k reduced kind ta tb mode ra rb hit
  refine ⟨dispatch_none, fun e he hhit hfirst => ?_⟩
  rw [dispatch_first he hhit hfirst]
  intro w act rout ring ctag bad6 bad7 refused
  refine ⟨fun h => ?inactive, fun h h9 => ?routine, fun h h9 => ⟨fun h2 h6 => ?six, fun h2 h6 h7 => ?seven, fun hgood => ?good⟩⟩
  case inactive => exact if_pos h
  case routine => exact (if_neg h).trans (if_pos h9)
  case six => exact (if_neg h).trans ((if_neg (Nat.not_le.mpr h9)).trans (if_pos ⟨by omega, h6⟩))
  case seven =>
    have hsrc : (if act - 1 = 1 then ta else tb) = if act = 2 then ta else tb := if_congr (by omega) rfl rfl
    refine (if_neg h).trans ((if_neg (Nat.not_le.mpr h9)).trans ((if_neg (fun hb => h6 hb.2)).trans (if_pos ⟨by omega, ?_⟩)))
    exact hsrc ▸ h7
  case good =>
    have hsrc : (if act - 1 = 1 then ta else tb) = if act = 2 then ta else tb := if_congr (by omega) rfl rfl
    have hA : (if act - 1 = 1 then ctag else ta) = if act = 2 then ctag else ta := if_congr (by omega) rfl rfl
    have hB : (if act - 1 = 2 then ctag else tb) = if act = 3 then ctag else tb := if_congr (by omega) rfl rfl
    have h6 : ¬ (act - 1 ≠ 0 ∧ bad6) := fun hb => hgood.elim (fun h1 => hb.1 (by omega)) (fun hg => hg.1 hb.2)
    have h7 : ¬ (act - 1 ≠ 0 ∧ (tagFmt ctag = 13 ∨ tagFmt ctag = 14 ∨ tagLayout (if act - 1 = 1 then ta else tb) = 3)) := by
      rw [hsrc]
      exact fun hb => hgood.elim (fun h1 => hb.1 (by omega)) (fun hg => hg.2 hb.2)
    have hr : routRefuses reduced rout (kind == 2) (if act - 1 = 1 then ctag else ta) (if act - 1 = 2 then ctag else tb) mode =
        refused := by
      rw [hA, hB]
    refine ⟨fun hred hmem => ?_, fun sub hsub => ?_, fun hnone => ?_⟩
    · subst hred
      exact routRefuses_reduced _ _ _ _ hmem
    · exact taken_good h h9 h6 h7 (hr.trans hsub)
    · exact taken_good h h9 h6 h7 (hr.trans hnone)

end Sys2Proof.Proofs.MethodDispatch
end

section
/-! Proofs. The commands of the M slot at issue (R199, R203, R229 to R235). -/

namespace Sys2Proof.Proofs.MatrixCommands
open Sys2Proof Sys2Proof.Machine Sys2Proof.Proofs.Copies Sys2Proof.Proofs.Checkpoints

/-! ### Tiles and rings -/

theorem whenFree_of_free {s : State} {z : Nat} {f : State → State} (h : s.core.tileBusy z = false) : s.whenFree z f = f s := by
  rw [State.whenFree, h, if_neg (by decide)]

theorem whenFree_busy {s : State} {z : Nat} {f : State → State} (h : s.core.tileBusy z = true) (hc : s.core.ckptHere = true) :
    s.whenFree z f = s.stallOn 6 := by
  rw [State.whenFree, if_pos h, if_pos hc]

theorem ringCheck_of_valid {s : State} {slot r : Nat} {f : State → State}
    (h : s.ringValid s.focus (s.pre.rings.get {} r) = true) : s.ringCheck slot r f = f s := by
  rw [State.ringCheck, if_pos h]

theorem ringCheck_invalid {s : State} {slot r : Nat} {f : State → State}
    (h : ¬ s.ringValid s.focus (s.pre.rings.get {} r) = true) : s.ringCheck slot r f = s.raise slot 0x61 (BitVec.ofNat 64 r) := by
  rw [State.ringCheck, if_neg h]

/-- A WARN bit is no part of a core's queue. -/
theorem mq_warn (s : State) (bit : Nat) (c : Bool) : (s.warn bit c).core.mq = s.core.mq := by
  rw [State.warn]
  split
  · exact (congrArg Core.mq (core_modSync s (fun y => { y with warn := setBit bit y.warn })) :)
  · rfl

/-! ### MMA, MMAZ and MCONV -/

/-- The command that a tile instruction queues once dispatch has found its routine; `late` is the time of a method lookup. -/
def mmaCmd (s : State) (o : OpMM) (op rout conv ctag cring late : Nat) : MCmd :=
  { s.mBase op with
    zd := o.zd.toNat, ra := o.ra.toNat, rb := o.rb.toNat, kb := max 1 o.kb.toNat, acc := o.acc, shp := o.shp.toNat
    zmode := s.core.tileStat s.pre o.zd.toNat % 4
    tagA := (s.pre.rings.get {} o.ra.toNat).tag, tagB := (s.pre.rings.get {} o.rb.toNat).tag
    rout := rout, conv := conv, ctag := ctag, cring := cring, ready := s.now + 1 + late
    ringA := s.pre.rings.get {} o.ra.toNat, ringB := s.pre.rings.get {} o.rb.toNat, ringC := s.pre.rings.get {} cring
    shape := s.core.planeBytes (0x400 + 32 * o.shp.toNat) 32, word := mmWord o op }

/-- The state with the command queued: a lookup that misses is counted, and the method cache takes `cache`. -/
def mmaQueued (s : State) (o : OpMM) (hit : Bool) (cache : List (Nat × Nat × Nat × Nat × Nat)) (c : MCmd) : State :=
  (((if hit then s else s.count 38 1).modCore (fun k => { k with mcache := if k.mcen then cache else k.mcache })).mIssue c).warn wKZERO (o.kb == 0)

theorem mq_mmaQueued (s : State) (o : OpMM) (hit : Bool) (cache : List (Nat × Nat × Nat × Nat × Nat)) (c : MCmd) :
    (mmaQueued s o hit cache c).core.mq = s.core.mq ++ [c] := by
  have hcount : (if hit then s else s.count 38 1).core.mq = s.core.mq := by
    split
    · rfl
    · have h := CountsOnly.countAt s s.focus 38 1
      rw [State.count, State.core, h.focus]
      exact (sameRun_of_uncounted (h.core s.focus)).mq
  rw [mmaQueued, mq_warn, State.mIssue, core_modCore, core_modCore]
  simp only [hcount]

section
variable {s : State} {o : OpMM} {op kind : Nat} (hg : s.guardOn o.g o.n = true)
include hg

theorem mmaOp_busy (h : s.core.tileBusy o.zd.toNat = true) (hc : s.core.ckptHere = true) : mmaOp s o op kind = .next (s.stallOn 6) :=
  xnOp_next hg (whenFree_busy h hc)

variable (hfree : s.core.tileBusy o.zd.toNat = false)
include hfree

theorem mmaOp_invalid (h : ¬ s.ringValid s.focus (s.pre.rings.get {} o.ra.toNat) = true) :
    mmaOp s o op kind = .next (s.raise 3 0x61 (BitVec.ofNat 64 o.ra.toNat)) :=
  xnOp_next hg ((whenFree_of_free hfree).trans (ringCheck_invalid h))

variable (hA : s.ringValid s.focus (s.pre.rings.get {} o.ra.toNat) = true)
  (hB : s.ringValid s.focus (s.pre.rings.get {} o.rb.toNat) = true)
  (hshape : kind = 2 → shapeOk (s.core.planeBytes (0x400 + 32 * o.shp.toNat) 32) = true)
include hA hB hshape

theorem mmaOp_nomethod {sub e : Nat}
    (hd : s.core.dispatch (s.plat.stage == 2) kind (s.pre.rings.get {} o.ra.toNat).tag (s.pre.rings.get {} o.rb.toNat).tag
      (s.core.tileStat s.pre o.zd.toNat % 4) o.ra.toNat o.rb.toNat = .error (sub, e)) :
    mmaOp s o op kind = .next (s.raise 3 0x20 (BitVec.ofNat 64 (sub + 256 * e))) := by
  refine xnOp_next hg ?_
  rw [whenFree_of_free hfree, ringCheck_of_valid hA, ringCheck_of_valid hB]
  have hno : (decide (kind = 2) && !shapeOk (s.core.planeBytes (0x400 + 32 * o.shp.toNat) 32)) = false := by
    by_cases h : kind = 2 <;> simp [h, hshape]
  simp only [hd, hno, Bool.false_eq_true, if_false]

/-- The command enters the queue, whatever the method cache gives. -/
theorem mmaOp_queued {e rout conv ctag cring : Nat}
    (hd : s.core.dispatch (s.plat.stage == 2) kind (s.pre.rings.get {} o.ra.toNat).tag (s.pre.rings.get {} o.rb.toNat).tag
      (s.core.tileStat s.pre o.zd.toNat % 4) o.ra.toNat o.rb.toNat = .ok (e, rout, conv, ctag, cring))
    (hC : conv = 0 ∨ s.ringValid s.focus (s.pre.rings.get {} cring) = true) :
    ∃ hit cache, mmaOp s o op kind = .next (mmaQueued s o hit cache (mmaCmd s o op rout conv ctag cring (if hit then 0 else 4))) := by
  have hno : (decide (kind = 2) && !shapeOk (s.core.planeBytes (0x400 + 32 * o.shp.toNat) 32)) = false := by
    by_cases h : kind = 2 <;> simp [h, hshape]
  let l := cacheLookup s.core.mcache (kind, (s.pre.rings.get {} o.ra.toNat).tag, (s.pre.rings.get {} o.rb.toNat).tag,
    s.core.tileStat s.pre o.zd.toNat % 4) e
  refine ⟨s.core.mcen && l.1, l.2, xnOp_next hg ?_⟩
  rw [whenFree_of_free hfree, ringCheck_of_valid hA, ringCheck_of_valid hB]
  simp only [hd, hno, Bool.false_eq_true, if_false]
  by_cases hz : conv = 0
  · rw [if_pos hz]
    rfl
  · rw [if_neg hz, ringCheck_of_valid (hC.resolve_left hz)]
    rfl

end

/-! ### The other commands -/

section
variable {s : State}

theorem execMldz_queued {o : OpML} (hg : s.guardOn o.g o.n = true) (hfree : s.core.tileBusy o.zd.toNat = false)
    (hA : s.ringValid s.focus (s.pre.rings.get {} o.ra.toNat) = true) :
    let r := s.pre.rings.get {} o.ra.toNat
    execMldz o s = .next ((s.mIssue { s.mBase 5 with
      zd := o.zd.toNat, ra := o.ra.toNat, tagA := r.tag, ringA := r, zmode := s.core.tileStat s.pre o.zd.toNat % 4 }).warn
        wFMTOP (tagFmt r.tag == 13 || tagLayout r.tag == 3)) := by
  refine xnOp_next hg ?_
  rw [whenFree_of_free hfree, ringCheck_of_valid hA]
  simp only [tagVoid, Bool.false_and, Bool.or_false]

section
variable {o : OpMS} (hg : s.guardOn o.g o.n = true) (hfree : s.core.tileBusy o.zs.toNat = false)
  (hA : s.ringValid s.focus (s.pre.rings.get {} o.ra.toNat) = true)
include hg hfree hA

/-- What MSTZ queues with rounding mode rm. -/
def mstzQueued (s : State) (o : OpMS) (rm : Nat) : State :=
  s.mIssue { s.mBase 6 with
    zd := o.zs.toNat, ra := o.ra.toNat, tagA := (s.pre.rings.get {} o.ra.toNat).tag, ringA := s.pre.rings.get {} o.ra.toNat,
    rm := rm, rng := s.core.sync.rng }

theorem execMstz_queued :
    let r := s.pre.rings.get {} o.ra.toNat
    let void := tagVoid r.tag true
    let quant := !void && tagFmt r.tag == 12
    let t := mstzQueued s o (if quant then 0 else o.rm.toNat)
    execMstz o s = .next (((if o.rm.toNat = 4 && !void && !quant then t.modSync (fun y => { y with rng := rngSteps 4096 s.core.sync.rng })
      else t).warn wFMTOP void).warn wRNDNA (quant && o.rm.toNat != 0)) := by
  refine xnOp_next hg ?_
  rw [whenFree_of_free hfree, ringCheck_of_valid hA]
  rfl

theorem execMstz_void (hv : tagVoid (s.pre.rings.get {} o.ra.toNat).tag true = true) :
    execMstz o s = .next ((mstzQueued s o o.rm.toNat).warn wFMTOP true) := by
  rw [execMstz_queued hg hfree hA]
  simp only [hv, Bool.not_true, Bool.and_false, Bool.false_and, Bool.false_eq_true, if_false]
  rfl

variable (hv : tagVoid (s.pre.rings.get {} o.ra.toNat).tag true = false)
include hv

theorem execMstz_block (hq : tagFmt (s.pre.rings.get {} o.ra.toNat).tag = 12) :
    execMstz o s = .next ((mstzQueued s o 0).warn wRNDNA (o.rm.toNat != 0)) := by
  rw [execMstz_queued hg hfree hA]
  simp only [hv, hq, Bool.not_false, Bool.true_and, beq_self_eq_true, if_true, Bool.not_true, Bool.and_false, Bool.false_eq_true,
    if_false]
  rfl

variable (hq : tagFmt (s.pre.rings.get {} o.ra.toNat).tag ≠ 12)
include hq

theorem execMstz_mode (hr : o.rm.toNat ≠ 4) : execMstz o s = .next (mstzQueued s o o.rm.toNat) := by
  rw [execMstz_queued hg hfree hA]
  simp only [hv, beq_eq_false_iff_ne.mpr hq, hr, decide_false, Bool.false_and, Bool.and_false, Bool.false_eq_true, if_false]
  rfl

theorem execMstz_stochastic (hr : o.rm.toNat = 4) :
    execMstz o s = .next ((mstzQueued s o o.rm.toNat).modSync (fun y => { y with rng := rngSteps 4096 s.core.sync.rng })) := by
  rw [execMstz_queued hg hfree hA]
  simp only [hv, beq_eq_false_iff_ne.mpr hq, hr, decide_true, Bool.not_false, Bool.true_and, Bool.and_false, Bool.false_and,
    Bool.false_eq_true, if_false, if_true]
  rfl

end

theorem execMwait_passes {o : OpMW} (hg : s.guardOn o.g o.n = true)
    (h : ∀ z < 8, bitOf z o.kb.toNat = true → s.core.tileBusy z = false) : execMwait o s = .next s := by
  refine xnOp_next hg (if_neg ?_)
  rw [List.any_eq_true]
  rintro ⟨z, hz, hb⟩
  rw [Bool.and_eq_true] at hb
  rw [h z (List.mem_range.mp hz) hb.1] at hb
  exact absurd hb.2 (by decide)

theorem execMwait_waits {o : OpMW} (hg : s.guardOn o.g o.n = true) {z : Nat} (hz : z < 8) (hb : bitOf z o.kb.toNat = true)
    (hbusy : s.core.tileBusy z = true) : execMwait o s = .next (s.stallOn 7) :=
  xnOp_next hg (if_pos (List.any_eq_true.mpr ⟨z, List.mem_range.mpr hz, by rw [hb, hbusy]; rfl⟩))

end

theorem tagVoid_iff (t : Nat) : tagVoid t true = true ↔ tagFmt t = 13 ∨ tagLayout t = 3 ∨ tagSparse t ≠ 0 := by
  simp [tagVoid, or_assoc]

theorem base_eq (s : State) (op : Nat) : s.mBase op =
    { op := op, zd := 0, ra := 0, rb := 0, kb := 0, acc := false, shp := 0, rm := 0, zmode := 0, tagA := 0, tagB := 0, rout := 0, conv := 0,
      ctag := 0, cring := 0, rng := 0, seqNo := s.core.seqNo, issued := s.cx.addr, ready := s.now + 1 } := rfl

/-- Settles O44: each command by the checks that it passes or fails, in their order. -/
theorem matrixCommandsQueue : Obligations.MatrixCommandsQueue := by
  unfold Obligations.MatrixCommandsQueue
  intro s free valid ring mode queue base
  refine ⟨fun o hg => ?mma, fun o hg hf => ?mzero, fun o hg hf hA => ?mldz, fun o hg hf hA => ?mstz, fun o hg => ?mtag,
    fun o hg hA => ?mskp, fun o hg => ?mwait⟩
  case mma =>
    have hexec : ∀ p ∈ [(Instr.mma o, 1, 0), (.mmaz o, 2, 1), (.mconv o, 3, 2)], exec p.1 s = mmaOp s o p.2.1 p.2.2 := by
      simp only [List.forall_mem_cons]
      exact ⟨(rfl : execMma o s = _), (rfl : execMmaz o s = _), (rfl : execMconv o s = _), by simp⟩
    intro p hp
    rw [hexec p hp]
    refine ⟨mmaOp_busy hg, mmaOp_invalid hg, fun hf hA hB hS => ⟨fun sub e hd => mmaOp_nomethod hg hf hA hB hS hd,
      fun e rout conv ctag cring hd hC => ?_⟩⟩
    obtain ⟨hit, cache, h⟩ := mmaOp_queued (op := p.2.1) hg hf hA hB hS hd hC
    exact ⟨_, _, h, mq_mmaQueued _ _ _ _ _, rfl, rfl, rfl, rfl, rfl, rfl, rfl, rfl, rfl, rfl, rfl, rfl, rfl, rfl, rfl, rfl, rfl,
      by cases hit <;> simp [mmaCmd]⟩
  case mzero => exact (xnOp_next hg (whenFree_of_free hf) : execMzero o s = _)
  case mldz => exact (execMldz_queued hg hf hA : execMldz o s = _)
  case mstz =>
    intro r rm void t
    have hno (h : ¬ void) : tagVoid r.tag true = false := by
      rw [← Bool.not_eq_true, tagVoid_iff]
      exact h
    exact ⟨fun h => (execMstz_void hg hf hA ((tagVoid_iff _).mpr h) : execMstz o s = _),
      fun h hq => (execMstz_block hg hf hA (hno h) hq : execMstz o s = _),
      fun h hq hr => (execMstz_mode hg hf hA (hno h) hq hr : execMstz o s = _),
      fun h hq hr => (execMstz_stochastic hg hf hA (hno h) hq hr : execMstz o s = _)⟩
  case mtag => exact (xnOp_next hg rfl : execMtag o s = _)
  case mskp => exact (xnOp_next hg (ringCheck_of_valid hA) : execMskp o s = _)
  case mwait =>
    exact ⟨fun h => (execMwait_passes hg h : execMwait o s = _), fun z hz hb hbusy => (execMwait_waits hg hz hb hbusy : execMwait o s = _)⟩

end Sys2Proof.Proofs.MatrixCommands
end

section
/-! Proofs. The temporal commands at issue (R342, R345 to R349). -/

namespace Sys2Proof.Proofs.TemporalCommands
open Sys2Proof Sys2Proof.Machine Sys2Proof.Proofs.Copies Sys2Proof.Proofs.MatrixCommands

section
variable {s : State} {o : OpT0} (hg : s.guardOn o.g o.n = true)
include hg

theorem execTacq_holding (h : s.tHolds s.focus = true) :
    execTacq o s = .next (s.tIssue { s.tBase 0x10 with noop := true }) := by
  refine xnOp_next hg ?_
  simp only [h, Bool.true_or, if_true, Bool.not_true, Bool.false_and]
  rfl

/-- A request that stands behind no TREL of its core enters the queue at once. -/
theorem execTacq_enters (h : s.tHolds s.focus = false) (hrel : ∀ c ∈ s.core.tq, c.op ≠ 0x11) :
    execTacq o s = .next ((s.tIssue { s.tBase 0x10 with begun := true }).modCl (clOf s.focus)
      (fun c => { c with arr := c.arr.enter (s.focus % 8) s.now })) := by
  have hlater : s.core.tq.any (fun c => c.op == 0x11) = false := by
    rw [List.any_eq_false]
    exact fun c hc => by simpa using hrel c hc
  refine xnOp_next hg ?_
  simp only [h, hlater, Bool.or_self, Bool.false_eq_true, if_false, Bool.not_false, Bool.and_self]
  rfl

end

theorem enter_behind {a : TArray} {core now : Nat} (h : a.late.2 ≠ now ∨ a.late.1 ≤ core) :
    a.enter core now = { a with queue := a.queue ++ [core] } := by
  rw [TArray.enter, if_neg (by omega)]

theorem enter_before {a : TArray} {core now : Nat} (h : a.late.2 = now) (hlt : core < a.late.1) :
    a.enter core now =
      { a with queue := a.queue.takeWhile (fun x => x != a.late.1) ++ core :: a.queue.dropWhile (fun x => x != a.late.1) } := by
  rw [TArray.enter, if_pos ⟨h, hlt⟩]

/-- What a change makes of the cluster that stands there is all that counts. -/
theorem modCl_congr {s : State} {i : Nat} {f g : Cluster → Cluster} (h : f (s.clAt i) = g (s.clAt i)) : s.modCl i f = s.modCl i g := by
  rw [State.modCl, State.modCl, h]

/-! ### The checks of R345 and R346 -/

section
variable {s : State} {op : Nat} {f : State → State}

theorem tCheck_held (h : s.tHolds s.focus = true) (hg : s.tGranted s.focus = true) : s.tCheck op f = f s := by
  rw [State.tCheck, h, hg]
  rfl

theorem tCheck_not_held (h : s.tHolds s.focus = false) : s.tCheck op f = s.raise 3 0x65 (BitVec.ofNat 64 op) := by
  rw [State.tCheck, h]
  rfl

theorem tCheck_waits (h : s.tHolds s.focus = true) (hg : s.tGranted s.focus = false) : s.tCheck op f = s.stallOn 14 := by
  rw [State.tCheck, h, hg]
  rfl

end

section
variable {s : State} {o : OpTL} (hg : s.guardOn o.g o.n = true) (hh : s.tHolds s.focus = true) (hgr : s.tGranted s.focus = true)
include hg hh hgr

theorem execTlnc_dirty (hd : (s.tDirty s.focus).1 = true) :
    execTlnc o s = .next (s.raise 3 0x66 (BitVec.ofNat 64 (s.tDirty s.focus).2)) :=
  xnOp_next hg ((tCheck_held hh hgr).trans (if_pos hd))

/-- The command of a TLNC without its arrivals. -/
def tlncCmd (s : State) (o : OpTL) : TCmd :=
  { s.tBase 0x13 with ra := o.ra.toNat, join := o.join, fb := o.fb, src := o.src }

variable (hd : (s.tDirty s.focus).1 = false)
include hd

theorem execTlnc_ring (hsrc : o.src = false) (hA : s.ringValid s.focus (s.pre.rings.get {} o.ra.toNat) = true) :
    let r := s.pre.rings.get {} o.ra.toNat
    execTlnc o s = .next ((s.tIssue { tlncCmd s o with tag := r.tag, ring := r }).warn wFMTOP
      (tagFmt r.tag == 12 || tagFmt r.tag == 13 || tagSparse r.tag != 0 || tagLayout r.tag == 3)) := by
  refine xnOp_next hg ((tCheck_held hh hgr).trans ?_)
  simp only [hd, hsrc, Bool.false_eq_true, if_false, ringCheck_of_valid hA]
  simp only [tlncCmd, hsrc]
  rfl

theorem execTlnc_stream (hsrc : o.src = true) {t : State} {l : List Nat} (hr : s.readStream 3 o.ra.toNat 256 = (t, some l)) :
    let f := (s.pre.streams.get {} o.ra.toNat).dfmt
    execTlnc o s = .next ((t.tIssue { tlncCmd s o with tag := f, arrivals := l.map (fun v => if f = 12 ∨ f = 13 then 255
      else if f = 14 then v % 256 else convElem .rne f 14 v) }).warn wFMTOP (decide (f = 12 ∨ f = 13))) := by
  refine xnOp_next hg ((tCheck_held hh hgr).trans ?_)
  simp only [hd, hsrc, Bool.false_eq_true, if_false, if_true, hr]
  simp only [tlncCmd, hsrc, toArrival, Bool.or_eq_true, decide_eq_true_eq, Bool.decide_or, beq_eq_decide]

end

/-- Settles O45: each command by the checks of R345 and R346, and the place of a request in the queue by the cycle of the
last one. -/
theorem temporalCommandsQueue : Obligations.TemporalCommandsQueue := by
  unfold Obligations.TemporalCommandsQueue
  intro s base queue held valid ring
  refine ⟨fun o hg => ⟨fun h => ?holding, fun h hrel => ?enters, ?checks⟩, fun o hg => ⟨fun hh hA => ?loads, ?loadChecks⟩, fun o hg hh => ?tlnc⟩
  case holding => exact (execTacq_holding hg h : execTacq o s = _)
  case enters =>
    have henters {l : List Nat} (hl : (s.clAt (clOf s.focus)).arr.enter (s.focus % 8) s.now = { (s.clAt (clOf s.focus)).arr with queue := l }) :
        execTacq o s = .next ((queue { base 0x10 with begun := true }).modCl (clOf s.focus)
          (fun c => { c with arr := { c.arr with queue := l } })) :=
      (execTacq_enters hg h hrel).trans (congrArg Host.Outcome.next (modCl_congr (congrArg (fun a => { s.clAt (clOf s.focus) with arr := a }) hl)))
    exact ⟨fun hb => henters (enter_behind hb), fun hn hlt => henters (enter_before hn hlt)⟩
  case checks =>
    simp only [List.forall_mem_cons]
    exact ⟨⟨fun h => (xnOp_next hg (tCheck_held h.1 h.2) : execTrel o s = _), fun h => (xnOp_next hg (tCheck_not_held h) : execTrel o s = _),
        fun h h' => (xnOp_next hg (tCheck_waits h h') : execTrel o s = _)⟩,
      ⟨fun h => (xnOp_next hg (tCheck_held h.1 h.2) : execTrst o s = _), fun h => (xnOp_next hg (tCheck_not_held h) : execTrst o s = _),
        fun h h' => (xnOp_next hg (tCheck_waits h h') : execTrst o s = _)⟩, by simp⟩
  case loads =>
    refine ⟨(xnOp_next hg ((tCheck_held hh.1 hh.2).trans (ringCheck_of_valid hA)) : execTldw o s = _),
      (xnOp_next hg ((tCheck_held hh.1 hh.2).trans ((ringCheck_of_valid hA).trans ?_)) : execTcap o s = _)⟩
    simp only [tagVoid, Bool.true_and]
    rfl
  case loadChecks =>
    simp only [List.forall_mem_cons]
    exact ⟨fun h => (xnOp_next hg (tCheck_not_held h) : execTldw o s = _), fun h => (xnOp_next hg (tCheck_not_held h) : execTcap o s = _),
      by simp⟩
  case tlnc =>
    exact ⟨fun hd => (execTlnc_dirty hg hh.1 hh.2 hd : execTlnc o s = _),
      fun hd hsrc hA => (execTlnc_ring hg hh.1 hh.2 hd hsrc hA : execTlnc o s = _),
      fun hd hsrc t l hr => (execTlnc_stream hg hh.1 hh.2 hd hsrc hr : execTlnc o s = _)⟩

end Sys2Proof.Proofs.TemporalCommands
end

section
/-! Proofs. The copy slots at issue: commands, BIND and UNBD, CWAIT and CFLAG (R237, R243, R246, R253 to R264). -/

namespace Sys2Proof.Proofs.CopyCommands
open Sys2Proof Sys2Proof.Machine Sys2Proof.Proofs.Copies Sys2Proof.Proofs.MatrixCommands

/-! ### Register operations -/

theorem add_signExtend {w : Nat} (x : W64) (i : BitVec w) : x + i.signExtend 64 = BitVec.ofInt 64 (x.toNat + i.toInt) := by
  rw [BitVec.ofInt_add, BitVec.ofInt_natCast, BitVec.ofNat_toNat, BitVec.setWidth_eq]
  rfl

/-! ### GTHR and SCTR -/

/-- The command of a gather or scatter, with the status that it carries. -/
def gatherCmd (s : State) (o : OpCG) (op : Nat) (res : Option (Nat × Nat)) : CCmd :=
  let q := s.pre.streams.get {} o.q.toNat
  { s.cBase op with
    q := o.q.toNat, a := s.rh o.cb o.a, f := o.ix.toNat, len := o.len.toNat, epoch := q.epoch
    desc := toLe 8 q.cbase.toNat ++ toLe 8 q.cdim.toNat ++ toLe 8 q.cstr.toNat ++ toLe 8 q.cblk.toNat, res := res }

theorem boundTo_iff {q : Stream} {cb : Bool} : q.boundTo cb = true ↔ q.bnd = if cb then 2 else 1 := by
  rw [Stream.boundTo, beq_iff_eq]

section
variable {s : State} {o : OpCG} {op : Nat} {out : Bool}

theorem gatherOp_good (h : (s.pre.streams.get {} o.q.toNat).bnd = (if o.cb then 2 else 1) ∧
      (s.pre.streams.get {} o.q.toNat).gmode = true ∧ (s.pre.streams.get {} o.q.toNat).isOut = out) :
    gatherOp s o op out = s.cScoped o.cb o.scope (gatherCmd s o op none) := by
  obtain ⟨hb, hm, ho⟩ := h
  simp only [gatherOp, boundTo_iff.mpr hb, hm, ho, beq_self_eq_true, Bool.and_self, if_true]
  rfl

theorem gatherOp_bad (h : ¬ ((s.pre.streams.get {} o.q.toNat).bnd = (if o.cb then 2 else 1) ∧
      (s.pre.streams.get {} o.q.toNat).gmode = true ∧ (s.pre.streams.get {} o.q.toNat).isOut = out)) :
    gatherOp s o op out = s.cScoped o.cb o.scope (gatherCmd s o op (some (0x60, 0))) := by
  have hbad : ((s.pre.streams.get {} o.q.toNat).boundTo o.cb && (s.pre.streams.get {} o.q.toNat).gmode &&
      (s.pre.streams.get {} o.q.toNat).isOut == out) = false := by
    rw [← Bool.not_eq_true, Bool.and_eq_true, Bool.and_eq_true, boundTo_iff, beq_iff_eq, and_assoc]
    exact h
  simp only [gatherOp, hbad, Bool.false_eq_true, if_false]
  rfl

end

/-- Settles O46: each command is queued with what its word names; the ring, the stream's mode and a replay decide the rest. -/
theorem copyCommandsQueue : Obligations.CopyCommandsQueue := by
  unfold Obligations.CopyCommandsQueue
  intro s cb queue base h narrowed valid
  have hq (c : CCmd) : s.cIssue cb c = queue c := by cases cb <;> rfl
  have hn (sc : BitVec 3) (c : CCmd) : s.cScoped cb sc c = narrowed sc c :=
    congrArg (fun t => State.warnScope t sc.toNat) (hq _)
  refine ⟨fun o hcb hg => ?hadd, fun o hcb hg => ?hmov, fun o hcb hg => ?hli, fun o hcb hg => ?cpy, fun o hcb hg => ?cpys,
    fun o hcb hg => ?cpyt, fun o hcb hg => ?evblk, fun o hcb hg => ?gather, fun o hcb hg => ?csig, fun o hcb hg => ?coll⟩
  all_goals subst hcb
  case hadd => exact (xnOp_next hg (congrArg (fun v => s.writeH o.cb o.a.toNat v 1) (add_signExtend _ _)) : execHadd o s = _)
  case hmov => exact (xnOp_next hg rfl : execHmov o s = _)
  case hli => exact (xnOp_next hg rfl : execHli o s = _)
  case cpy => exact (xnOp_next hg (hn _ _) : execCpy o s = _)
  case cpys => exact (xnOp_next hg (hn _ _) : execCpys o s = _)
  case cpyt =>
    refine ⟨fun hA => ⟨(xnOp_next hg ((ringCheck_of_valid hA).trans (hn _ _)) : execCpyt o s = _),
      (xnOp_next hg ((ringCheck_of_valid hA).trans (hn _ _)) : execCpyw o s = _)⟩, fun hA => ?_,
      (xnOp_next hg (hn _ _) : execLdblk o s = _)⟩
    simp only [List.forall_mem_cons]
    exact ⟨(xnOp_next hg (ringCheck_invalid hA) : execCpyt o s = _), (xnOp_next hg (ringCheck_invalid hA) : execCpyw o s = _), by simp⟩
  case evblk => exact (xnOp_next hg (hq _) : execEvblk o s = _)
  case gather =>
    exact ⟨fun hgood => (xnOp_next hg ((gatherOp_good hgood).trans (hn _ _)) : execGthr o s = _),
      fun hbad => (xnOp_next hg ((gatherOp_bad hbad).trans (hn _ _)) : execGthr o s = _),
      fun hgood => (xnOp_next hg ((gatherOp_good hgood).trans (hn _ _)) : execSctr o s = _),
      fun hbad => (xnOp_next hg ((gatherOp_bad hbad).trans (hn _ _)) : execSctr o s = _)⟩
  case csig =>
    exact (xnOp_next hg (congrArg (fun t => State.warn t wORDFIT (o.order.toNat % 2 == 1)) (hn _ _)) : execCsig o s = _)
  case coll =>
    exact ⟨fun hr => (xnOp_next hg ((if_neg (by rw [hr]; decide)).trans (hn _ _)) : execColl o s = _),
      fun hr => (xnOp_next hg (if_pos hr) : execColl o s = _)⟩

/-! ### BIND and UNBD -/

/-- The base of a stream with an address of 48 bits under the flags that it holds. -/
theorem base_with_address (b : W64) {a : Nat} (ha : a < 2 ^ 48) :
    (b &&& 0xFFFF000000000000) ||| BitVec.ofNat 64 a = BitVec.ofNat 64 (b.toNat / 2 ^ 48 * 2 ^ 48 + a) := by
  have hmask : ∀ i < 64, (0xFFFF000000000000 : W64).getLsbD i = decide (48 ≤ i) := by decide
  refine BitVec.eq_of_getLsbD_eq fun i hi => ?_
  rw [BitVec.getLsbD_or, BitVec.getLsbD_and, hmask i hi, BitVec.getLsbD_ofNat, BitVec.getLsbD_ofNat, decide_eq_true hi, Bool.true_and,
    Bool.true_and, Nat.mul_comm, Nat.testBit_two_pow_mul_add _ ha]
  by_cases h : i < 48
  · rw [if_pos h, decide_eq_false (by omega), Bool.and_false, Bool.false_or]
  · rw [if_neg h, decide_eq_true (by omega), Bool.and_true, Nat.testBit_div_two_pow, Nat.sub_add_cancel (by omega),
      Nat.testBit_lt_two_pow (ha.trans_le (Nat.pow_le_pow_right (by decide) (by omega))), Bool.or_false, BitVec.getLsbD]

section
variable {s : State}

theorem core_warnScope (s : State) (sc : Nat) :
    (s.warnScope sc).core.cqa = s.core.cqa ∧ (s.warnScope sc).core.cqb = s.core.cqb ∧
      (s.warnScope sc).core.sync.streams = s.core.sync.streams := by
  have hwarn (b : Nat) : (s.warn b true).core = { s.core with sync := { s.core.sync with warn := setBit b s.core.sync.warn } } :=
    (core_modSync s (fun y => { y with warn := setBit b y.warn }) :)
  rw [State.warnScope]
  split
  · rw [hwarn]
    exact ⟨rfl, rfl, rfl⟩
  · exact ⟨rfl, rfl, rfl⟩

theorem cq_cScoped (s : State) (cb : Bool) (sc : BitVec 3) (c : CCmd) :
    (s.cScoped cb sc c).core.cq cb = s.core.cq cb ++ [{ c with scope := (s.effScope sc.toNat).1 }] := by
  obtain ⟨ha, hb, -⟩ := core_warnScope (s.cIssue cb { c with scope := (s.effScope sc.toNat).1 }) sc.toNat
  cases cb
  · exact ha.trans (congrArg Core.cqa (core_modCore s _))
  · exact hb.trans (congrArg Core.cqb (core_modCore s _))

theorem streams_cScoped (s : State) (cb : Bool) (sc : BitVec 3) (c : CCmd) :
    (s.cScoped cb sc c).core.sync.streams = s.core.sync.streams := by
  refine (core_warnScope _ _).2.2.trans ?_
  rw [State.cIssue, core_modCore]
  cases cb <;> rfl

theorem streams_modStream (s : State) (q : Nat) (f : Stream → Stream) :
    (s.modStream q f).core.sync.streams = s.core.sync.streams.set q (f (s.core.sync.streams.get {} q)) := by
  rw [State.modStream, core_modSync]

theorem cq_modStream (s : State) (q : Nat) (f : Stream → Stream) (cb : Bool) : (s.modStream q f).core.cq cb = s.core.cq cb := by
  rw [State.modStream, core_modSync]
  rfl

/-- The base that BIND gives its stream. -/
def bindBase (s : State) (o : OpCBd) : W64 :=
  let q := s.pre.streams.get {} o.q.toNat
  if o.useA then BitVec.ofNat 64 (q.qbase.toNat / 2 ^ 48 * 2 ^ 48 + (s.readH o.cb o.a.toNat).toNat % 2 ^ 48) else q.qbase

theorem bindBase_eq (s : State) (o : OpCBd) :
    (if o.useA then ((s.pre.streams.get {} o.q.toNat).qbase &&& 0xFFFF000000000000) ||| BitVec.ofNat 64 (s.rh o.cb o.a % 2 ^ 48)
      else (s.pre.streams.get {} o.q.toNat).qbase) = bindBase s o := by
  rw [base_with_address _ (Nat.mod_lt _ (by positivity))]
  rfl

end

section
variable {s : State} {o : OpCBd} (hg : s.guardOn o.g o.n = true)
include hg

theorem execBind_bad (h : ({ s.pre.streams.get {} o.q.toNat with
      cbase := bindBase s o, cdim := (s.pre.streams.get {} o.q.toNat).qdim, cstr := (s.pre.streams.get {} o.q.toNat).qstr,
      cblk := (s.pre.streams.get {} o.q.toNat).qblk } : Stream).badDesc = true) :
    execBind o s = .next (s.raise (cSlot o.cb) 0x64 (BitVec.ofNat 64 o.q.toNat)) := by
  refine xnOp_next hg ?_
  simp only [bindBase_eq, h, if_true]

/-- The earlier bindings of a stream whose appended elements still wait, the present one among them. -/
def oldBindings (s : State) (q : Nat) (x : Stream) : List (Nat × W64 × W64 × W64 × W64) :=
  (x.olds ++ [(x.epoch, x.cbase, x.cdim, x.cstr, x.cblk)]).filter (fun p => s.core.outq.any (fun e => e.1 == q && e.2.1 == p.1))

/-- A good description is bound at position 0. -/
theorem execBind_good (h : ({ s.pre.streams.get {} o.q.toNat with
      cbase := bindBase s o, cdim := (s.pre.streams.get {} o.q.toNat).qdim, cstr := (s.pre.streams.get {} o.q.toNat).qstr,
      cblk := (s.pre.streams.get {} o.q.toNat).qblk } : Stream).badDesc = false) :
    let q := s.pre.streams.get {} o.q.toNat
    execBind o s = .next (s.modStream o.q.toNat (fun x => { x with
      qbase := bindBase s o, cbase := bindBase s o, cdim := q.qdim, cstr := q.qstr, cblk := q.qblk, olds := oldBindings s o.q.toNat x
      bnd := if o.cb then 2 else 1, pos := 0, buf := [], fetched := 0, epoch := x.epoch + 1 })) := by
  refine xnOp_next hg ?_
  simp only [bindBase_eq, h, Bool.false_eq_true, if_false]
  rfl

end

/-- The command of UNBD: for a stream of the other queue it carries STREAMFLT. -/
def unbdCmd (s : State) (o : OpCU) : CCmd :=
  let q := s.pre.streams.get {} o.q.toNat
  { s.cBase 8 with q := o.q.toNat, epoch := q.epoch, res := if q.bnd != 0 && !q.boundTo o.cb then some (0x60, 0) else none }

/-- UNBD queues its command; a stream of the other queue stays bound. -/
theorem execUnbd_next {s : State} {o : OpCU} (hg : s.guardOn o.g o.n = true) :
    let q := s.pre.streams.get {} o.q.toNat
    let other := q.bnd != 0 && !q.boundTo o.cb
    let t := s.cScoped o.cb o.scope (unbdCmd s o)
    execUnbd o s = .next (if other then t else t.modStream o.q.toNat (fun x => { x with bnd := 0, buf := [] })) :=
  xnOp_next hg rfl

/-! ### CWAIT and CFLAG -/

theorem cntReached_eq (c n : Nat) : cntReached c n = decide (0 ≤ (BitVec.ofNat 32 c - BitVec.ofNat 32 n).toInt) := by
  rw [cntReached]
  refine decide_eq_decide.mpr ?_
  rw [BitVec.toInt_eq_toNat_cond, BitVec.toNat_sub, BitVec.toNat_ofNat, BitVec.toNat_ofNat]
  split <;> omega

section
variable {s : State} {cb : Bool} {f : State → State}

theorem copyErr_clear (h : (s.core.seen cb).1.err = false) : s.copyErr cb f = f s := by
  rw [State.copyErr]
  exact if_neg (by rw [h]; decide)

theorem copyErr_set (h : (s.core.seen cb).1.err = true) :
    s.copyErr cb f = s.raise (cSlot cb) 0x63 (BitVec.ofNat 64 ((if cb then 1 else 0) + 256 * (s.core.seen cb).1.ecause)) := by
  rw [State.copyErr]
  exact if_pos h

end

/-- Settles O47: BIND by its check, UNBD by the queue of its stream, the waits by their count and the queue's ERR. -/
theorem streamAndQueueState : Obligations.StreamAndQueueState := by
  unfold Obligations.StreamAndQueueState
  intro s cb slot
  refine ⟨fun o hcb hg => ?bind, fun o hcb hg => ?unbd, ?waits⟩
  case bind =>
    subst hcb
    refine ⟨fun h => (execBind_bad hg h : execBind o s = _), fun h => ?_⟩
    refine ⟨_, (execBind_good hg h : execBind o s = _), ?_⟩
    rw [streams_modStream, Tab.get_set_self]
    exact ⟨rfl, rfl, rfl, rfl, rfl, rfl, rfl, rfl, fun j hj => Tab.get_set_ne _ _ _ _ _ hj⟩
  case unbd =>
    subst hcb
    intro q other
    have hother : (q.bnd != 0 && !q.boundTo o.cb) = true ↔ other := by
      rw [Bool.and_eq_true, bne_iff_ne, Bool.not_eq_true', ← Bool.not_eq_true, boundTo_iff]
    refine ⟨_, { unbdCmd s o with scope := (s.effScope o.scope.toNat).1 }, (execUnbd_next hg : execUnbd o s = _), ?_, rfl, rfl, rfl, if_congr hother rfl rfl, fun h => ?_, fun h => ?_⟩
    · split
      · exact cq_cScoped _ _ _ _
      · rw [cq_modStream, cq_cScoped]
    · rw [if_neg (by rwa [hother]), streams_modStream, Tab.get_set_self]
      exact ⟨rfl, rfl⟩
    · rw [if_pos (hother.mpr h), streams_cScoped]
  case waits =>
    intro st reached err
    have hreached (n : Nat) : cntReached st.ccnt n = true ↔ reached n := by rw [cntReached_eq, decide_eq_true_eq]
    refine ⟨fun o hcb hg => ?_, fun o hcb hg => ?_⟩
    all_goals subst hcb
    · exact ⟨fun h he => (xnOp_next hg ((if_pos ((hreached _).mpr h)).trans (copyErr_clear he)) : execCwait o s = _),
        fun h he => (xnOp_next hg ((if_pos ((hreached _).mpr h)).trans (copyErr_set he)) : execCwait o s = _),
        fun h => (xnOp_next hg (if_neg (fun hr => h ((hreached _).mp hr))) : execCwait o s = _)⟩
    · refine ⟨fun he => (xnOp_next hg (copyErr_set he) : execCflag o s = _), fun he hd => ?_, fun he hd => ?_⟩
      · refine (xnOp_next hg ((copyErr_clear he).trans ?_) : execCflag o s = _)
        rw [if_pos hd, cntReached_eq]
      · refine (xnOp_next hg ((copyErr_clear he).trans ?_) : execCflag o s = _)
        rw [if_neg (by omega), show o.di.toNat % 16 = o.di.toNat - 16 by omega]

end Sys2Proof.Proofs.CopyCommands
end

section
/-! Proofs. The events of a core (R128, R137, R269, R298, R301, R307, R309, R317, R319, R322, R406). -/

namespace Sys2Proof.Proofs.CoreEvents
open Sys2Proof Sys2Proof.Machine Sys2Proof.Proofs.Checkpoints

/-! ### FETCH_FILL -/

section
variable {s : State} {n : Nat}

/-- The core with its fetch buffer emptied at the program counter. -/
def refetching (k : Core) : Core := { k with fbBase := k.sync.pc, fbBytes := [], fbFault := none }

/-- A line of the L1 fills the empty fetch buffer from the program counter on. -/
theorem fbPut_refetching (k : Core) {b : List Nat} (h : b.length ≤ 256) :
    ((refetching k).fbPut b).fbBase = k.sync.pc ∧ ((refetching k).fbPut b).fbBytes = b := by
  have hn : (refetching k).fbBytes.length + b.length - 256 = 0 := by
    show 0 + b.length - 256 = 0
    omega
  rw [Core.fbPut, hn]
  exact ⟨rfl, rfl⟩

theorem fetchStep_hit {e : TlbEnt} {pa sel : Nat} {l : L1Line} (hdue : s.fetchDue n = true) (hused : (s.coreAt n).fbUsed = false)
    (hpc : (s.coreAt n).sync.pc < 2 ^ 48) (hap : inAperture (s.coreAt n).sync.pc = false)
    (htlb : (s.modCoreAt n refetching).tlb1 n (s.coreAt n).sync.pc 0 = some e) (hdeny : e.deny 0 = none)
    (htgt : e.tgt (s.coreAt n).sync.pc = .mem pa sel) (hl : (s.coreAt n).l1Find pa sel = some l) (hbad : (s.coreAt n).lineBad l = false) :
    s.fetchStep n = (s.modCoreAt n refetching).modCoreAt n (fun k => k.fbPut (l.data.drop (pa % 128))) := by
  have hu : s.modCoreAt n (fun k => if k.fbUsed then k else { k with fbBase := k.sync.pc, fbBytes := [], fbFault := none }) =
      s.modCoreAt n refetching := by
    rw [State.modCoreAt, hused]
    rfl
  rw [State.fetchStep, hdue, hu]
  simp only [Bool.not_true, Bool.false_eq_true, if_false, coreAt_modCoreAt_self]
  have hva : (refetching (s.coreAt n)).fbBase + (refetching (s.coreAt n)).fbBytes.length = (s.coreAt n).sync.pc := rfl
  simp only [hva, if_neg (Nat.not_le.mpr hpc), hap, Bool.false_eq_true, if_false, htlb, hdeny, htgt]
  have hl : (refetching (s.coreAt n)).l1Find pa sel = some l := hl
  have hbad : (refetching (s.coreAt n)).lineBad l = false := hbad
  simp only [hl, hbad, Bool.false_eq_true, if_false]

end

/-! ### Branches -/

/-- The core when branch b turns out to have been predicted wrong. -/
def squashed (b : Branch) (k : Core) : Core :=
  let k := k.cancelFrom (b.seqNo + 1)
  { k with
    branches := k.branches.filter (fun x => x.seqNo != b.seqNo)
    sync := b.snap, rstack := b.rstack, ckptHere := false, yieldPend := if b.yields then some b.seqNo else k.yieldPend
    stallWhy := 0, readyAt := max (b.resolveAt + 1) b.after }

section
variable {s : State} {n : Nat} {b : Branch}

theorem CountsOnly.dropRequests (s : State) (n : Nat) : CountsOnly s (s.dropRequests n) := ⟨rfl, rfl, rfl, rfl, fun _ => rfl⟩

theorem uncounted_squashed (b : Branch) {k k' : Core} (h : uncounted k = uncounted k') :
    uncounted (squashed b k) = uncounted (squashed b k') := (congrArg (fun k => uncounted (squashed b k)) h :)

theorem squash_core (s : State) (n : Nat) (b : Branch) :
    uncounted ((s.squash n b).coreAt n) = uncounted (squashed b (s.coreAt n)) := by
  obtain ⟨u, he⟩ : ∃ u, u = (if (s.coreAt n).acquiring (b.seqNo + 1) then s.dropArray n else s).dropRequests n := ⟨_, rfl⟩
  have hu : CountsOnly s u := he ▸ (CountsOnly.ite (.dropArray s n) (.refl s)).trans (CountsOnly.dropRequests _ n)
  have hsq : s.squash n b = ((u.modCoreAt n (squashed b)).countAt n 6 1).countAt n 3 ((s.coreAt n).seqNo - (b.seqNo + 1)) := by
    rw [he]
    rfl
  rw [hsq, ((CountsOnly.countAt _ n 6 1).trans (CountsOnly.countAt _ n 3 _)).core, coreAt_modCoreAt_self]
  exact uncounted_squashed b (hu.core n)

variable {r : List Branch} (hbr : (s.coreAt n).branches = b :: r) (hdue : b.resolveAt ≤ s.now)
include hbr hdue

theorem branchReady_oldest : s.branchReady n = some b := by
  rw [State.branchReady, hbr]
  exact if_pos hdue

theorem resolveBranch_wrong (hw : b.wrong = true) :
    uncounted ((s.resolveBranch n).coreAt n) = uncounted (squashed b (s.coreAt n)) := by
  have hr : s.resolveBranch n = (if b.taken then (((s.squash n b).settle n).countAt n 5 1).traceRec n 1 0 b.frm b.target
      else (s.squash n b).settle n) := by
    rw [State.resolveBranch, branchReady_oldest hbr hdue]
    simp only [hw, if_true]
  have hc := (CountsOnly.settle (s.squash n b) n).trans (CountsOnly.ite (p := b.taken = true)
    ((CountsOnly.countAt _ n 5 1).trans (CountsOnly.traceRec _ n 1 0 b.frm b.target)) (.refl ((s.squash n b).settle n)))
  rw [hr, hc.core, squash_core]

theorem resolveBranch_right (hw : b.wrong = false) (ht : b.taken = false) :
    uncounted ((s.resolveBranch n).coreAt n) =
      uncounted { s.coreAt n with branches := (b :: r).filter (fun x => x.seqNo != b.seqNo) } := by
  have hr : s.resolveBranch n =
      (s.modCoreAt n (fun k => { k with branches := k.branches.filter (fun x => x.seqNo != b.seqNo) })).settle n := by
    rw [State.resolveBranch, branchReady_oldest hbr hdue]
    simp only [hw, ht, Bool.false_eq_true, if_false]
  rw [hr, (CountsOnly.settle _ n).core, coreAt_modCoreAt_self, hbr]

end

/-! ### Checkpoints, stores and loads -/

section
variable {s : State} {n : Nat}

theorem ckptReady_oldest {k : Core} {c : Ckpt} {r : List Ckpt} (hc : k.ckpts = c :: r) (h : ∀ b ∈ k.branches, c.seqNo ≤ b.seqNo) :
    k.ckptReady = some c := by
  rw [Core.ckptReady, hc]
  exact if_pos (List.all_eq_true.mpr fun b hb => decide_eq_true (h b hb))

theorem execCheckpoint_core {c : Ckpt} {r : List Ckpt} (hc : (s.coreAt n).ckpts = c :: r)
    (h : ∀ b ∈ (s.coreAt n).branches, c.seqNo ≤ b.seqNo) :
    ∃ t, execCheckpoint n s = .next t ∧ (t.coreAt n).shadow = c.snap.landed s.free ∧ (t.coreAt n).ckptAddr = c.addr ∧
      (t.coreAt n).ckptSeq = c.seqNo := by
  have hrun := sameRun_of_uncounted (takeCkpt_core s n c.addr c.seqNo c.snap)
  refine ⟨(s.takeCkpt n c.addr c.seqNo c.snap).modCoreAt n (fun k => { k with ckpts := k.ckpts.drop 1 }), ?_, ?_⟩
  · rw [execCheckpoint, ckptReady_oldest hc h]
  · rw [coreAt_modCoreAt_self]
    exact ⟨hrun.shadow, hrun.ckptAddr, hrun.ckptSeq⟩

/-- A released store whose requests are through is performed and leaves the buffer. -/
theorem storeStep_performed {x : Store} {u : State} (hack : s.storeAcked n = none) (hfront : (s.coreAt n).storeFront = some x)
    (hdue : s.storeDue n = true) (hserved : s.storeUnits n x = 0 ∨ s.served n storeTag = true)
    (hat : s.collecting.storeAt n x = (u, .ok ())) (hthrough : s.Through (engPayer s n storeTag) u) :
    s.storeStep n = ((u.paidUp (engPayer s n storeTag)).useAdm n storeTag).modCoreAt n (fun k => { k with stores := k.stores.erase x }) := by
  have hask : (s.storeUnits n x != 0 && !s.served n storeTag) = false := by
    rcases hserved with h | h <;> simp [h]
  have hreg := regulated_through s (engPayer s n storeTag) waitsCar (fun t => t.storeAt n x) (by rw [hat]; exact hthrough) (by rw [hat]; rfl)
  rw [hat] at hreg
  simp only [State.storeStep, hack, hfront, hdue, hask, hreg, Bool.not_true, Bool.false_eq_true, if_false]

/-- The answer of the other car ends a store; without one it has failed. -/
theorem storeDone_core (x : Store) (ok : Bool) :
    ((s.storeDone n x ok).coreAt n).stores = (s.coreAt n).stores.erase x ∧
      ((s.storeDone n x ok).coreAt n).asyncs.length = (s.coreAt n).asyncs.length + (if ok = true then 0 else 1) := by
  rw [State.storeDone, coreAt_modCoreAt_self]
  cases ok
  · exact ⟨rfl, List.length_append⟩
  · exact ⟨rfl, rfl⟩

/-- The line of a missed load enters the L1 and the load goes on. -/
theorem execLoadDataReturn_line {r : SReq} (hr : (s.coreAt n).req = some r) (hstage : r.stage = 3) (hdue : r.dueAt ≤ s.now)
    (htgt : r.tgt ≠ 0) (hop : r.op = 4) (hf : r.fault = 0) :
    execLoadDataReturn n s = .next ((((s.modCoreAt n (fun k => { k with req := none })).remDone n 0).l1Put n
      { pa := r.pa / 128 * 128, sel := r.sel, data := r.data, dirty := [], va := r.va / 128 * 128 }).modCoreAt n
        (fun k => { k with missed := true, missedFar := true })) := by
  have hret : s.returnDue n = true := by
    simp only [State.returnDue, hr, hstage, hdue, bne_iff_ne.mpr htgt, le_refl, decide_true, Bool.true_or, Bool.and_self]
  simp only [execLoadDataReturn, hr, hret, Bool.not_true, Bool.false_eq_true, if_false, htgt, false_and, State.takeAnswer, hop, hf,
    and_self, if_true, show ¬ (4 = 5) by decide]

/-! ### Traps, saves and signals -/

theorem execAsyncTrap_ready {r : TrapReq} {rest : List TrapReq} (ha : (s.coreAt n).asyncs = r :: rest)
    (hready : (s.coreAt n).asyncReady = true) :
    execAsyncTrap n s = .next (((if r.cause = cBUDGET then (s.stopMoves n).keepHeld n else s.stopMoves n).modCoreAt n
      (fun k => { k with asyncs := rest })).takeTrap n
        { r with flt := if r.slots = 1 then r.flt else (s.coreAt n).sync.pc, slots := 0, async := true }) := by
  simp only [execAsyncTrap, ha, hready, Bool.not_true, Bool.false_eq_true, if_false]

/-- The core that a forced save leaves: the shadow of its program, or of the trap that it handles. -/
def forcedOut (handler : Bool) (x : Core) : Core :=
  if handler then
    let y := { x.trapShadow with pc := x.trap.addr }
    { x with mode := .saving, inHandler := false, saveKind := 2, saveWhy := x.ywhy, sync := y, shadow := y, ckptAddr := y.pc }
  else { x with mode := .saving, inHandler := false, saveKind := 1, saveWhy := x.ywhy }

theorem uncounted_forcedOut (handler : Bool) (k : Core) :
    uncounted (forcedOut handler (uncounted k)) = uncounted (forcedOut handler k) := by
  cases handler <;> rfl

theorem coreAt_hostEv (s : State) (code detail addr n : Nat) : (s.hostEv code detail addr).coreAt n = s.coreAt n := rfl

theorem execForcedSave_core (hdue : (s.coreAt n).forcedDue = true) :
    ∃ t, execForcedSave n s = .next t ∧
      uncounted (t.coreAt n) = uncounted (forcedOut ((s.coreAt n).mode == .handler) (rolledBack (s.coreAt n))) := by
  obtain ⟨u, hu⟩ : ∃ u, u = if s.evacuating n then s.rollback n cYDEADLINE
    else (s.rollback n cYDEADLINE).hostEv cYDEADLINE (s.coreAt n).guest n := ⟨_, rfl⟩
  have hcore : u.coreAt n = (s.rollback n cYDEADLINE).coreAt n := by
    rw [hu]
    split
    · rfl
    · exact coreAt_hostEv _ _ _ _ n
  refine ⟨u.modCoreAt n (forcedOut ((s.coreAt n).mode == .handler)), ?_, ?_⟩
  · rw [hu, execForcedSave, hdue]
    rfl
  · have hroll := rollback_core s n cYDEADLINE
    rw [coreAt_modCoreAt_self, hcore, ← uncounted_forcedOut, hroll, uncounted_forcedOut]

/-- The state in which core n has taken its event. -/
def signalled (s : State) (n : Nat) (e : Nat × Nat) : State :=
  (s.modCl (clOf n) (fun c => { c with
    evs := (mapFirst (fun x => x == e) (fun x => (x.1, x.2 - 2 ^ (n % 8))) c.evs).filter (fun x => x.2 % 256 != 0) })).modCoreAt n
      (fun k => { k with latch := true })

theorem execEventLatchSet_core {e : Nat × Nat} (he : s.eventFor n = some e) (hlive : (s.coreAt n).live (e.2 / 256) = true) :
    ∃ t, execEventLatchSet n s = .next t ∧ (t.coreAt n).latch = true ∧ (t.coreAt n).sync = (s.coreAt n).sync := by
  refine ⟨signalled s n e, ?_, ?_⟩
  · rw [execEventLatchSet, he]
    exact congrArg Host.Outcome.next (if_pos hlive)
  rw [signalled, coreAt_modCoreAt_self]
  exact ⟨rfl, rfl⟩

end

/-- Settles O48: each event by its guard and what it makes of its core. -/
theorem coreEvents : Obligations.CoreEvents := by
  unfold Obligations.CoreEvents
  intro s n k
  refine ⟨fun e pa sel l => ?fetch, fun b r hbr hdue => ⟨fun hw => ?wrong, fun hw ht => ?right⟩,
    fun c r hc h => execCheckpoint_core hc h, fun x u hack hfront hdue hserved hat hthrough => ?store, fun x ok hack => ?acked,
    fun r hr hstage hdue htgt hop hf => (execLoadDataReturn_line hr hstage hdue htgt hop hf : execLoadDataReturn n s = _),
    fun r rest ha hready => (execAsyncTrap_ready ha hready : execAsyncTrap n s = _), fun hdue => ?forced, fun hm hf => ?savewait,
    fun e he hlive => execEventLatchSet_core he hlive, fun h => ?capstan⟩
  case fetch =>
    intro u hdue hused hpc hap htlb hdeny htgt hl hbad hlen
    refine ⟨_, (congrArg Host.Outcome.next (fetchStep_hit hdue hused hpc hap htlb hdeny htgt hl hbad) : execFetchFill n s = _), ?_⟩
    rw [coreAt_modCoreAt_self, coreAt_modCoreAt_self]
    exact fbPut_refetching k (by rw [List.length_drop]; omega)
  case wrong =>
    have hrun := sameRun_of_uncounted (resolveBranch_wrong hbr hdue hw)
    refine ⟨_, (rfl : execBranchResolution n s = _), hrun.sync, hrun.rstack, hrun.readyAt, fun x hx => ?_⟩
    rw [hrun.branches] at hx
    have hx := List.mem_of_mem_filter hx
    exact of_decide_eq_true (List.mem_filter.mp hx).2
  case right =>
    have hrun := sameRun_of_uncounted (resolveBranch_right hbr hdue hw ht)
    exact ⟨_, (rfl : execBranchResolution n s = _), hrun.sync, hrun.branches⟩
  case store =>
    exact (congrArg Host.Outcome.next (storeStep_performed hack hfront hdue hserved hat hthrough) : execStorePerform n s = _)
  case acked =>
    have hstep : s.storeStep n = s.storeDone n x ok := by rw [State.storeStep, hack]
    exact ⟨_, (congrArg Host.Outcome.next hstep : execStorePerform n s = _), storeDone_core x ok⟩
  case forced =>
    obtain ⟨t, ht, hcore⟩ := execForcedSave_core hdue
    have hrun := sameRun_of_uncounted hcore
    have hkind : (t.coreAt n).saveKind = (forcedOut (k.mode == .handler) (rolledBack k)).saveKind := (congrArg Core.saveKind hcore :)
    refine ⟨t, ht, hrun.mode.trans ?_, fun hm => ?_, fun hm => ?_⟩
    · cases k.mode == .handler <;> rfl
    · have hb : (k.mode == .handler) = false := by rw [hm]; rfl
      rw [hb] at hrun hkind
      exact ⟨hrun.sync, hkind⟩
    · have hb : (k.mode == .handler) = true := by rw [hm]; rfl
      rw [hb] at hrun hkind
      exact ⟨hrun.sync, hrun.shadow.trans hrun.sync.symm, hkind⟩
  case savewait =>
    have hdue : s.savewaitDue n = true :=
      Bool.and_eq_true _ _ ▸ ⟨beq_iff_eq.mpr hm, bne_iff_ne.mpr hf⟩
    exact (congrArg Host.Outcome.next (if_pos hdue) : execSavewaitEnd n s = _)
  case capstan => exact (congrArg Host.Outcome.next (if_pos h) : execCapstanIssue n s = _)

end Sys2Proof.Proofs.CoreEvents
end

section
/-! Proofs. The events of the engines (R181, R196, R197, R222, R230, R244, R250) and of a cluster (R336, R342 to R346). -/

namespace Sys2Proof.Proofs.EngineEvents
open Sys2Proof Sys2Proof.Machine Sys2Proof.Proofs.Checkpoints

/-! ### A state without its cores and its memory system -/

/-- A state with its cores, the caches, memory and what accesses are charged left out. -/
def apart (s : State) : State :=
  { s with
    cores := [], l2 := [], mem := [], memKey := [], memBad := [], memue := [], memLog := [], l2Draws := [], buckets := [], held := []
    pays := .post }

/-- A write-back changes cores and the memory system alone. -/
def Apart (s t : State) : Prop := apart t = apart s

namespace Apart

variable {s t u : State}

theorem refl (s : State) : Apart s s := rfl

theorem trans (h : Apart s t) (h' : Apart t u) : Apart s u := Eq.trans h' h

theorem foldl {α : Type} {f : State → α → State} (hf : ∀ s a, Apart s (f s a)) : ∀ (l : List α) (s : State), Apart s (l.foldl f s)
  | [], s => refl s
  | a :: l, s => (hf s a).trans (foldl hf l (f s a))

theorem ite {p : Prop} [Decidable p] (h : Apart s t) (h' : Apart s u) : Apart s (if p then t else u) := by
  split
  · exact h
  · exact h'

theorem cls (h : Apart s t) : t.cls = s.cls := (congrArg State.cls h :)

theorem charge (s : State) (die point g u : Nat) : Apart s (s.charge die point g u) := by
  unfold State.charge
  split <;> rfl

theorem l2Evict (s : State) (l : L2Line) : Apart s (s.l2Evict l) := by
  have hback : Apart s (s.l2WriteBack l) := by
    unfold State.l2WriteBack
    refine ite (refl s) (ite rfl ?_)
    dsimp only
    split <;> rfl
  exact hback.trans rfl

theorem l2Alloc (s : State) (g line sel : Nat) (d : Bool) (b : List Nat) : Apart s (s.l2Alloc g line sel d b) := by
  unfold State.l2Alloc
  dsimp only
  split
  · rfl
  · split
    · rfl
    · split
      · exact (l2Evict s _).trans rfl
      · rfl

theorem homeWrite (s : State) (g sel pa : Nat) (b : List Nat) : Apart s (s.homeWrite g sel pa b).1 := by
  simp only [State.homeWrite, State.ctlPut, State.chargeCtl]
  split
  · split <;> rfl
  · split
    · split
      · exact trans rfl (charge _ _ _ _ _)
      · split
        · exact (charge s _ _ _ _).trans rfl
        · exact trans rfl (charge _ _ _ _ _)
    · split
      · exact l2Alloc s _ _ _ _ _
      · split
        · exact (charge s _ _ _ _).trans rfl
        · exact (charge s _ _ _ _).trans (l2Alloc _ _ _ _ _ _)

theorem modCoreAt (s : State) (n : Nat) (f : Core → Core) : Apart s (s.modCoreAt n f) := rfl

theorem l1WriteBack (s : State) (n : Nat) (l : L1Line) : Apart s (s.l1WriteBack n l) := by
  refine foldl (fun t r => ?_) _ _
  dsimp only
  have hpay : Apart t (if t.pays = .direct then t.charge (dieOf n) (clOf n % 8) (s.coreAt n).guest (unitsOf r.2.length)
      else t.post (some n) (dieOf n) (clOf n % 8) (s.coreAt n).guest (unitsOf r.2.length)) := ite (charge t _ _ _ _) rfl
  exact ite (hpay.trans (homeWrite _ _ _ _ _)) ((hpay.trans (homeWrite _ _ _ _ _)).trans (modCoreAt _ _ _))

theorem l1Clean (s : State) (n : Nat) : Apart s (s.l1Clean n) :=
  (foldl (fun t l => l1WriteBack t n l) _ s).trans (modCoreAt _ _ _)

theorem clAt (h : Apart s t) (i : Nat) : t.clAt i = s.clAt i := by rw [State.clAt, h.cls, State.clAt]

end Apart

/-! ### The matrix engine -/

theorem mem_modM {k : Core} {q : Nat} {f : MCmd → MCmd} {x : MCmd} (hx : x ∈ (k.modM q f).mq)
    (hq : x.seqNo = q) : ∃ y ∈ k.mq, y.seqNo = q ∧ x = f y := by
  obtain ⟨y, hy, rfl⟩ := List.mem_map.mp hx
  by_cases h : y.seqNo = q
  · exact ⟨y, hy, h, if_pos (beq_iff_eq.mpr h)⟩
  · rw [if_neg (by simpa using h)] at hq
    exact absurd hq h

section
variable {s : State} {n : Nat} {c : MCmd}

theorem isMma_mzero (hop : c.op = 4) : c.isMma = false := by
  rw [MCmd.isMma, hop]
  rfl

/-- MZERO takes no slot of a ring. -/
theorem mSlots_mzero (k : Core) (hop : c.op = 4) : k.mSlots c = some (0, 0, 0) := by
  simp only [Core.mSlots, isMma_mzero hop, hop, Bool.false_eq_true, if_false, show ¬ (4 = 5) by decide, show ¬ (4 = 6) by decide]

theorem mStart_mzero (s : State) (n : Nat) (hop : c.op = 4) :
    ∃ at_, s.mStart n c = s.modCoreAt n (fun k => k.modM c.seqNo (fun c => { c with stepAt := at_, doneAt := s.now + 5 })) := by
  refine ⟨max s.now c.convAt + 8, ?_⟩
  rw [State.mStart, mSlots_mzero _ hop]
  simp only [hop, if_true]

/-- The front MZERO begins, and ends 5 cc later. -/
theorem mBegin_mzero (hfront : (s.coreAt n).mFront = some c) (hcan : (s.coreAt n).mCanBegin s.now c = true) (hop : c.op = 4)
    (hdone : c.doneAt = 0) :
    ∀ x ∈ ((s.mBegin n).coreAt n).mq, x.seqNo = c.seqNo → x.begun = true ∧ x.doneAt = s.now + 5 := by
  obtain ⟨u, hu⟩ : ∃ u, u = (s.modCoreAt n (fun k => k.modM c.seqNo (fun c => { c with begun := true, stopped := false }))).countAt n 36 1 :=
    ⟨_, rfl⟩
  have hconv : c.toConvert = false := by rw [MCmd.toConvert, isMma_mzero hop]; rfl
  have hbegin : s.mBegin n = u.mStart n c := by
    simp only [State.mBegin, hfront, hcan, hu, hdone, hop, hconv, Bool.or_true, if_true, ne_eq, not_true_eq_false, if_false,
      Bool.false_eq_true, show ¬ (4 = 8) by decide]
  have hcounts := CountsOnly.countAt (s.modCoreAt n (fun k => k.modM c.seqNo (fun c => { c with begun := true, stopped := false }))) n 36 1
  rw [← hu] at hcounts
  have hmq : (u.coreAt n).mq = ((s.coreAt n).modM c.seqNo (fun c => { c with begun := true, stopped := false })).mq := by
    rw [(sameRun_of_uncounted (hcounts.core n)).mq, coreAt_modCoreAt_self]
  obtain ⟨at_, hstart⟩ := mStart_mzero u n hop
  intro x hx hq
  rw [hbegin, hstart, coreAt_modCoreAt_self] at hx
  obtain ⟨y, hy, hyq, rfl⟩ := mem_modM hx hq
  rw [hmq] at hy
  obtain ⟨z, -, -, rfl⟩ := mem_modM hy hyq
  exact ⟨rfl, congrArg (· + 5) hcounts.now⟩

theorem pend_mapSync (s : State) (n : Nat) (f : Sync → Sync) : ((s.mapSync n f).coreAt n).pend = (s.coreAt n).pend := by
  rw [State.mapSync, coreAt_modCoreAt_self]

theorem pend_mVersion (s : State) (n : Nat) (c : MCmd) (t : Tile) :
    ((s.mVersion n c 0 t).coreAt n).pend = (s.coreAt n).pend.filter (fun p => !(p.1 == c.zd && p.2.writer == c.seqNo)) ++
      [(c.zd, { tile := { t with flags := 0 ||| t.flags }, writer := c.seqNo })] := by
  rw [State.mVersion, coreAt_modCoreAt_self, ← pend_mapSync s n]

/-- MZERO ends with a zero version of its tile. -/
theorem mFinish_mzero (hop : c.op = 4) :
    ((s.mFinish n c).coreAt n).pend = (s.coreAt n).pend.filter (fun p => !(p.1 == c.zd && p.2.writer == c.seqNo)) ++
        [(c.zd, { tile := { mode := c.zmode, flags := 0, cells := [], written := false }, writer := c.seqNo })] ∧
      ∀ x ∈ ((s.mFinish n c).coreAt n).mq, x.seqNo = c.seqNo → x.done = true := by
  have hinherits (old : Tile) : c.inherits old = 0 := by rw [MCmd.inherits, isMma_mzero hop]; rfl
  have hfin : s.mFinish n c = (s.mVersion n c 0 { mode := c.zmode, flags := 0, cells := [], written := false }).modCoreAt n
      (fun k => k.modM c.seqNo (fun c => { c with done := true, out := [] })) := by
    simp only [State.mFinish, mSlots_mzero _ hop, hop, if_true, hinherits]
  rw [hfin, coreAt_modCoreAt_self]
  refine ⟨?_, fun x hx hq => ?_⟩
  · exact (pend_mVersion s n c _).trans (by rw [Nat.zero_or])
  · obtain ⟨y, -, -, rfl⟩ := mem_modM hx hq
    rfl

theorem mComplete_finishes (hpub : (s.coreAt n).mPublishable = none) (hfront : (s.coreAt n).mFront = some c) (hb : c.begun = true)
    (hdone : c.doneAt ≠ 0) (hdue : c.doneAt ≤ s.now) : s.mComplete n = s.mFinish n c := by
  simp only [State.mComplete, hpub, hfront, hb, bne_iff_ne.mpr hdone, hdue, decide_true, Bool.and_self, if_true]

/-- The version of a published MZERO becomes that of its tile. -/
theorem mComplete_publishes {p : Nat × PendTile} (hpub : (s.coreAt n).mPublishable = some c) (hout : c.out = []) (hop : c.op = 4)
    (hp : (s.coreAt n).pend.find? (fun p => p.2.writer == c.seqNo) = some p) :
    let t := s.mComplete n
    (t.coreAt n).tiles.get {} p.1 = p.2.tile ∧
      (t.coreAt n).sync.zst.get 0 p.1 = p.2.tile.mode + 4 * (s.coreAt n).sync.flagsLeft p.1 (1 + c.seqNo) none p.2.tile.flags ∧
      (t.coreAt n).mq = (s.coreAt n).mq.filter (fun x => x.seqNo != c.seqNo) := by
  have hmoves : c.moves = [] := by
    simp only [MCmd.moves, isMma_mzero hop, hop]
    split <;> rfl
  simp only [State.mComplete, hpub, State.mPublish, hout, hmoves, List.foldl_nil, hp, State.mapSync, coreAt_modCoreAt_self, Tab.get_set_self,
    and_self]

end

/-! ### The copy engine and the streams -/

section
variable {s u : State} {n : Nat} {cb : Bool} {c : CCmd}

theorem queue_of_index (cb : Bool) : ((if cb then 1 else 0 : Nat) == 1) = cb := by cases cb <;> rfl

theorem cq_setCq (k : Core) (cb : Bool) (l : List CCmd) : (k.setCq cb l).cq cb = l := by cases cb <;> rfl

/-- A command that has ended well is counted and leaves its queue. -/
theorem copyStep_publishes (hpub : (s.coreAt n).cPublishable cb = some c) (hres : c.res = some (0, 0)) :
    ((s.copyStep n cb).coreAt n).cq cb = ((s.coreAt n).cq cb).drop 1 ∧
      (((s.copyStep n cb).coreAt n).cstat cb).ccnt = (((s.coreAt n).cstat cb).ccnt + 1) % 2 ^ 32 ∧
      (((s.copyStep n cb).coreAt n).cstat cb).err = ((s.coreAt n).cstat cb).err := by
  obtain ⟨t, ht⟩ : ∃ t, t = s.modCoreAt n (fun k => (k.setCq cb ((k.cq cb).drop 1)).setCstat cb
      { k.cstat cb with ccnt := ((k.cstat cb).ccnt + 1) % 2 ^ 32 }) := ⟨_, rfl⟩
  have hstep : s.copyStep n cb = t.countAt n 37 (unitsOf c.bytesMoved) := by
    simp only [State.copyStep, hpub, State.cPublish, hres, Option.getD_some, if_true, ht]
  have hcore : uncounted ((s.copyStep n cb).coreAt n) = uncounted (t.coreAt n) := hstep ▸ (CountsOnly.countAt t n 37 _).core n
  have hcq (k : Core) : k.cq cb = (uncounted k).cq cb := by cases cb <;> rfl
  have hstat (k : Core) : k.cstat cb = (uncounted k).cstat cb := by cases cb <;> rfl
  rw [hcq, hstat, hcore, ← hcq, ← hstat, ht, coreAt_modCoreAt_self]
  cases cb <;> exact ⟨rfl, rfl, rfl⟩

/-- The front command whose requests are served performs and settles. -/
theorem copyStep_performs {r : CRes} (hpub : (s.coreAt n).cPublishable cb = none) (henter : (s.coreAt n).cEntering cb = none)
    (hfront : (s.coreAt n).cFront cb = some c) (hready : s.cReady n cb c = true) (hmoved : (c.need (s.coreAt n).halfL1).length ≤ c.moved)
    (hperf : s.collecting.cPerform n cb c = (u, r)) (hwait : r ≠ .wait) (hthrough : s.Through (engPayer s n (cTag c.seqNo cb)) u) :
    s.copyStep n cb = (u.paidUp (engPayer s n (cTag c.seqNo cb))).cSettle n cb c r := by
  have hreg := regulated_through s (engPayer s n (cTag c.seqNo cb)) (fun x => x == CRes.wait) (fun t => t.cPerform n cb c)
    (by rwa [hperf]) (by rw [hperf]; exact beq_eq_false_iff_ne.mpr hwait)
  rw [hperf] at hreg
  simp only [State.copyStep, hpub, henter, hfront, hready, Bool.not_true, Bool.false_eq_true, if_false, Nat.not_lt.mpr hmoved, hreg]

/-- A group whose requests are served enters the buffer of its stream. -/
theorem arrive_enters {j : Nat} {b : List Nat} {q : Stream} (hq : (s.coreAt n).sync.streams.get {} j = q) (hdue : s.arrivalDue n j = true)
    (hserved : readReqs q.groupRuns = [] ∨ s.served n (fetchTag j) = true)
    (hread : s.collecting.readRuns n (fetchTag j) q.groupRuns = (u, .ok b)) (hthrough : s.Through (engPayer s n (fetchTag j)) u) :
    ((s.arrive n j).coreAt n).sync.streams.get {} j =
      { q with buf := q.buf ++ (q.groupElemsOf b).map (fun v => { v := v }), fetched := q.fetched + q.nextGroup.2 } := by
  have hgo : (!(readReqs q.groupRuns).isEmpty && !s.served n (fetchTag j)) = false := by
    obtain h | h := hserved
    · rw [h]; rfl
    · rw [h, Bool.not_true, Bool.and_false]
  subst hq
  simp only [State.arrive, hdue, Bool.not_true, Bool.false_eq_true, if_false, hgo]
  rw [regulated_through s _ _ _ (by simpa only [hread] using hthrough) (by simp only [hread]; rfl)]
  simp only [hread, coreAt_modCoreAt_self, Tab.get_set_self]

/-- A written group leaves the queue of the appended elements. -/
theorem outWrite_leaves {j : Nat} {q : Stream} {l : List (Nat × Nat × Nat × Nat × Nat)} (hdue : s.outputDue n j = true)
    (hgroup : (s.coreAt n).outGroup j = some (q, l)) (hheld : ∀ e ∈ (s.coreAt n).outHeld, e.stream ≠ j)
    (hserved : runReqs ((joinWrites (q.outRuns l)).map (fun p => (p.1, p.2.length))) = [] ∨ s.served n (writeTag j) = true)
    (hwrite : s.collecting.writeRows n (writeTag j) (joinWrites (q.outRuns l)) = (u, .ok ()))
    (hthrough : s.Through (engPayer s n (writeTag j)) u) : ∀ e ∈ ((s.outWrite n j).coreAt n).outq, e ∉ l := by
  have hgo : (!(runReqs ((joinWrites (q.outRuns l)).map (fun p => (p.1, p.2.length)))).isEmpty && !s.served n (writeTag j)) = false := by
    obtain h | h := hserved
    · rw [h]; rfl
    · rw [h, Bool.not_true, Bool.and_false]
  have hnone : (s.coreAt n).outHeld.find? (fun e => e.stream == j) = none :=
    List.find?_eq_none.mpr fun e he => by simpa using hheld e he
  intro e he hel
  simp only [State.outWrite, hdue, Bool.not_true, Bool.false_eq_true, if_false, hgroup, hgo, hnone] at he
  rw [regulated_through s _ _ _ (by simpa only [hwrite] using hthrough) (by simp only [hwrite]; rfl)] at he
  simp only [hwrite, coreAt_modCoreAt_self] at he
  exact absurd (List.mem_filter.mp he).2 (by simpa using hel)

end

/-! ### The events of a cluster -/

section
variable {s : State} {cl : Nat}

/-- The unit acts on its oldest access, and has then acted on every access of that core. -/
theorem barrierAct_acts {r : BarReq} (hr : (s.clAt cl).breqs.find? (fun r => !r.acted && decide (r.actAt ≤ s.now)) = some r) :
    ((s.barrierAct cl).clAt cl).bars.get {} r.bar = ((s.clAt cl).bars.get {} r.bar).act r ∧
      ∀ x ∈ ((s.barrierAct cl).clAt cl).breqs, x.core = r.core → x.acted = true := by
  simp only [State.barrierAct, hr, clAt_modCl_self, (Apart.l1Clean s _).clAt, Tab.get_set_self, true_and]
  intro x hx hcore
  obtain ⟨y, -, rfl⟩ := List.mem_map.mp hx
  by_cases h : y.core = r.core
  · simp only [h, beq_self_eq_true, if_true, Bool.true_and]
    split
    · split <;> rfl
    · rfl
  · simp only [beq_eq_false_iff_ne.mpr h, Bool.false_eq_true, if_false] at hcore
    refine absurd (Eq.trans ?_ hcore) h
    split
    · split <;> rfl
    · rfl

/-- A head of the queue whose guest is that of the last holder receives the array. -/
theorem grantArray_grants {x : Nat} {rest : List Nat} (hdue : s.grantDue cl = true) (hqueue : (s.clAt cl).arr.queue = x :: rest)
    (hlast : (s.clAt cl).arr.lastGuest = none ∨ (s.clAt cl).arr.lastGuest = some (s.coreAt (8 * cl + x)).guest) :
    ((s.grantArray cl).clAt cl).arr = { (s.clAt cl).arr with
      holder := some x, queue := rest, lastGuest := some (s.coreAt (8 * cl + x)).guest, dirtyAddr := 0 } := by
  have hsame : ((s.clAt cl).arr.lastGuest.isSome && (s.clAt cl).arr.lastGuest != some (s.coreAt (8 * cl + x)).guest) = false := by
    obtain h | h := hlast <;> simp [h]
  simp only [State.grantArray, hdue, Bool.not_true, Bool.false_eq_true, if_false, hqueue, hsame, clAt_modCl_self]

/-- For another guest than the last the array is scrubbed first. -/
theorem grantArray_scrubs {x h : Nat} {rest : List Nat} (hdue : s.grantDue cl = true) (hqueue : (s.clAt cl).arr.queue = x :: rest)
    (hlast : (s.clAt cl).arr.lastGuest = some h) (hne : h ≠ (s.coreAt (8 * cl + x)).guest) :
    ((s.grantArray cl).clAt cl).arr = { (s.clAt cl).arr.scrubbed with
      lastGuest := some (s.coreAt (8 * cl + x)).guest, freeAt := s.now + 520 } := by
  have hother : ((s.clAt cl).arr.lastGuest.isSome && (s.clAt cl).arr.lastGuest != some (s.coreAt (8 * cl + x)).guest) = true := by
    simpa [hlast] using hne
  simp only [State.grantArray, hdue, Bool.not_true, Bool.false_eq_true, if_false, hqueue, hother, if_true, clAt_modCl_self]

theorem holder_none_of_grantDue (hdue : s.grantDue cl = true) : (s.clAt cl).arr.holder = none := by
  simp only [State.grantDue, Bool.and_eq_true] at hdue
  exact Option.isNone_iff_eq_none.mp hdue.1.1

/-- A temporal command that begins has its time. -/
theorem tBegin_begins {n : Nat} {x : TCmd} (hfront : s.tFront cl = some (n, x)) (hdue : s.tBeginDue cl = true) :
    ∀ y ∈ ((s.tBegin cl).coreAt n).tq, y.seqNo = x.seqNo → y.begun = true ∧ y.doneAt = s.now + y.time := by
  simp only [State.tBegin, hfront, hdue, if_true, coreAt_modCoreAt_self, Core.modT]
  intro y hy hq
  obtain ⟨z, -, rfl⟩ := List.mem_map.mp hy
  by_cases h : z.seqNo = x.seqNo
  · rw [if_pos (beq_iff_eq.mpr h)]
    exact ⟨rfl, rfl⟩
  · rw [if_neg (by simpa using h)] at hq
    exact absurd hq h

/-- The cluster once a TRST has run on its array. -/
def wiresLow (c : Cluster) : Cluster := { c with arr := { c.arr with rows := [], cols := [], dirty := false, dirtyAddr := 0 } }

/-- TRST leaves every wire low and the array clean. -/
theorem tComplete_trst {n : Nat} {x : TCmd} (hcut : (s.clAt cl).arr.cut = none) (htacq : s.tacqDone cl = none)
    (hfront : s.tFront cl = some (n, x)) (hbegun : x.begun = true) (hdone : x.doneAt ≤ s.now) (hop : x.op = 0x15) :
    ((s.tComplete cl).clAt cl).arr = (wiresLow (s.clAt cl)).arr := by
  have hfin : s.tComplete cl = s.tFinish cl n x := by
    simp only [State.tComplete, hcut, htacq, hfront, hbegun, hdone, decide_true, Bool.and_self, if_true]
  have htrst : s.tFinish cl n x = (s.modCl cl wiresLow).modCoreAt n
      (fun k => { k with tq := k.tq.filter (fun y => y.seqNo != x.seqNo || y.op != x.op) }) := by
    simp only [State.tFinish, hop, Bool.false_eq_true, if_false]
    rfl
  rw [hfin, htrst]
  exact congrArg Cluster.arr (clAt_modCl_self s cl wiresLow)

theorem tComplete_tacq {n : Nat} (hcut : (s.clAt cl).arr.cut = none) (htacq : s.tacqDone cl = some n) :
    s.tComplete cl = s.modCoreAt n (fun k => { k with tq := k.tq.drop 1 }) := by
  simp only [State.tComplete, hcut, htacq]

end

/-! ### The obligation -/

/-- Settles O49: each event at the front of its queue, in the order of the statement. -/
theorem engineAndClusterEvents : Obligations.EngineAndClusterEvents := by
  unfold Obligations.EngineAndClusterEvents
  refine ⟨fun s n => ?_, fun s cl => ?_⟩
  · intro k
    refine ⟨?_, ?_, ?_, ?_, ?_, ?_, ?_⟩
    · intro c hfront hcan hop hdone _
      exact ⟨_, rfl, mBegin_mzero hfront hcan hop hdone⟩
    · intro c hpub hfront hb hdone hdue hop
      exact ⟨_, rfl, mComplete_finishes hpub hfront hb hdone hdue ▸ mFinish_mzero hop⟩
    · intro c p hpub hout hop hp
      exact ⟨_, rfl, mComplete_publishes hpub hout hop hp⟩
    · intro cb c hpub hres
      exact ⟨_, rfl, (queue_of_index cb).symm ▸ copyStep_publishes hpub hres⟩
    · intro cb c u r hpub henter hfront hready hmoved hperf hwait hthrough
      exact congrArg Host.Outcome.next ((queue_of_index cb).symm ▸
        copyStep_performs hpub henter hfront hready hmoved hperf hwait hthrough)
    · intro j u b q hdue hserved hread hthrough
      exact ⟨_, rfl, arrive_enters rfl hdue hserved hread hthrough⟩
    · intro j q l u hdue hgroup hheld hserved hwrite hthrough
      exact ⟨_, rfl, outWrite_leaves hdue hgroup hheld hserved hwrite hthrough⟩
  · intro c
    refine ⟨?_, ?_, ?_, ?_, ?_⟩
    · intro r hr
      exact ⟨_, rfl, barrierAct_acts hr⟩
    · intro x rest hdue hqueue g
      refine ⟨fun hlast => ⟨_, rfl, ?_⟩, fun h hlast hne => ⟨_, rfl, ?_⟩⟩
      · rw [grantArray_grants hdue hqueue hlast]
        exact ⟨rfl, rfl, rfl⟩
      · rw [grantArray_scrubs hdue hqueue hlast hne]
        exact ⟨holder_none_of_grantDue hdue, rfl, rfl, rfl, rfl⟩
    · intro n x hfront hdue
      exact ⟨_, rfl, tBegin_begins hfront hdue⟩
    · intro n x hcut htacq hfront hbegun hdone hop
      refine ⟨_, rfl, ?_⟩
      rw [tComplete_trst hcut htacq hfront hbegun hdone hop]
      exact ⟨rfl, rfl, rfl, rfl⟩
    · intro n hcut htacq
      exact congrArg Host.Outcome.next (tComplete_tacq hcut htacq)

end Sys2Proof.Proofs.EngineEvents
end

section
/-! Proofs. The events of the memory system (R366 to R370, R377 to R381). -/

namespace Sys2Proof.Proofs.MemoryEvents
open Sys2Proof Sys2Proof.Machine Sys2Proof.Proofs.Checkpoints Sys2Proof.Proofs.Traps

/-! ### Regulation points -/

theorem bucket_modBucket (s : State) (die point g : Nat) (f : Bucket → Bucket) :
    (s.modBucket die point g f).bucket die point g = f (s.bucket die point g) := Tab.get_set_self ..

section
variable {s : State} {die point g : Nat}

theorem bkey_die (hp : point < 32) (hg : g < 16) : bkey die point g / 512 = die := by unfold bkey; omega

theorem bkey_point (hp : point < 32) (hg : g < 16) : bkey die point g / 16 % 32 = point := by unfold bkey; omega

theorem bkey_guest (hg : g < 16) : bkey die point g % 16 = g := by unfold bkey; omega

/-- An admitted request is debited and leaves its run. -/
theorem admitStep_admits {h : HeldReq} (hout : s.outsideReady die point g = none) (hadm : s.admittable die point g = some h) :
    (s.admitStep die point g).held = flatFirst (fun x => x == h) HeldReq.admitted s.held ∧
      ((s.admitStep die point g).bucket die point g).level = ((s.bucket die point g).debit h.units).level := by
  simp only [State.admitStep, hout, hadm, bucket_modBucket, State.debit]
  exact ⟨rfl, rfl⟩

theorem admitDue_of_admittable {h : HeldReq} (hadm : s.admittable die point g = some h) : s.admitDue die point g = true := by
  simp [State.admitDue, hadm]

/-- At a point where nothing stands the hold alone can be cleared. -/
theorem admitAll_one_of_empty (hheld : s.held = []) (hparked : s.parked = []) :
    ((s.admitAll die point g 1).bucket die point g).level = (s.bucket die point g).level ∧
      ((s.admitAll die point g 1).bucket die point g).depth = (s.bucket die point g).depth ∧
      (s.admitAll die point g 1).held = [] ∧ (s.admitAll die point g 1).ticked = s.ticked := by
  have hout : s.outsideReady die point g = none := by rw [State.outsideReady, hparked]; rfl
  have hat : s.heldAt die point g = [] := by rw [State.heldAt, hheld]; rfl
  have hadm : s.admittable die point g = none := by rw [State.admittable, hat]; rfl
  have hserv : s.servable die point g = none := by rw [State.servable, hat]; rfl
  simp only [State.admitAll, State.admitStep, hout, hadm, hserv]
  split
  · exact ⟨by rw [bucket_modBucket], by rw [bucket_modBucket], hheld, rfl⟩
  · exact ⟨rfl, rfl, hheld, rfl⟩

theorem holds_of_empty (hheld : s.held = []) : s.holds die point g = false := by rw [State.holds, State.heldAt, hheld]; rfl

/-- A tick of the one bucket that was written, with no request anywhere. -/
theorem regulatorTick_refills {b : Bucket} (hheld : s.held = []) (hparked : s.parked = []) (hp : point < 32) (hg : g < 16)
    (hb : s.buckets = [(bkey die point g, b)]) :
    ∃ t, execRegulatorTick s = .next t ∧ t.ticked = s.ticked + 1 ∧
      (t.bucket die point g).level = min (b.depth : Int) (b.level + b.rate) ∧ (t.bucket die point g).hcnt = 0 ∧
      (t.bucket die point g).held = false := by
  have hkeys : s.bucketKeys = [bkey die point g] := by simp [State.bucketKeys, hb, hheld]
  have hbucket : s.bucket die point g = b := by rw [State.bucket, hb, Tab.get, if_pos rfl]
  obtain ⟨u, hu⟩ : ∃ u : State, u = ({ s with ticked := s.ticked + 1 } : State).modBucket die point g
    (fun b => { b with level := min (b.depth : Int) (b.level + b.rate) }) := ⟨_, rfl⟩
  have huheld : u.held = [] := hu ▸ hheld
  have hulevel : (u.bucket die point g).level = min (b.depth : Int) (b.level + b.rate) := by
    rw [hu, bucket_modBucket, ← hbucket]
    rfl
  obtain ⟨hlevel, -, hvheld, hticked⟩ := admitAll_one_of_empty (die := die) (point := point) (g := g) huheld (hu ▸ hparked : u.parked = [])
  refine ⟨(u.admitAll die point g 1).modBucket die point g (fun b => b.count false), ?_, ?_, ?_, ?_, ?_⟩
  · simp only [execRegulatorTick, hkeys, List.foldl_cons, List.foldl_nil, bkey_die hp hg, bkey_point hp hg, bkey_guest hg, ← hu, huheld,
      List.map_nil, List.sum_nil, Nat.mul_zero, Nat.zero_add, holds_of_empty hvheld]
  · exact hticked.trans (hu ▸ rfl)
  all_goals rw [bucket_modBucket]
  · exact hlevel.trans hulevel
  · rfl
  · rfl

/-- BUDGET with no request of a core held at its point is a status event. -/
theorem budget_reports (hraised : (s.bucket die point g).raised = 1) (hat : s.heldAt die point g = []) :
    execBudget die point g s =
      .next ((s.modBucket die point g (fun b => { b with raised := 2 })).statusEvent g 1 cBUDGET 0 (point + 64 * die)) := by
  simp only [execBudget, hraised, ne_eq, not_true_eq_false, if_false, hat]
  rfl

end

/-! ### The S path at its home -/

section
variable {s u : State} {n : Nat} {r : SReq}

/-- The answer of a slice or a controller once the requests of its access have passed. -/
theorem sAnswer_through {b : List Nat} (hperf : s.collecting.sPerform n r = (u, .ok b)) (hthrough : s.Through (s.sPayer n) u) :
    s.sAnswer n r = (u.paidUp (s.sPayer n)).modCoreAt n
      (fun k => { k with req := some { r with stage := 3, dueAt := s.now, data := b, fault := 0 } }) := by
  have hreg := regulated_through s (s.sPayer n) waitsCar (fun t => t.sPerform n r) (by rwa [hperf]) (by rw [hperf]; rfl)
  simp only [State.sAnswer, hreg, hperf]

/-- The request that brings an access to a controller. -/
def ctlRequest (s : State) (n die point : Nat) : HeldReq :=
  { die := die, point := point, guest := (s.sPayer n).guest, own := (s.sPayer n).guest, core := some n, units := 2, since := s.now }

/-- A request of 2 units for a controller that nothing has paid for. -/
theorem short_controller {o : Payer} {key : Nat} (hgrants : s.grants = []) : s.short o [(key, 2)] = [(key, [2])] := by
  have hpaid (k : Nat) : unitsAt [] k = 0 := rfl
  simp only [State.short, hgrants, List.filter_nil, List.map_nil, List.map_cons, hpaid, show [key].eraseDups = [key] from rfl]
  simp [unpaid]

theorem requestsOf_controller (die point : Nat) :
    (s.sPayer n).requestsOf die point (s.sPayer n).guest s.now ([2].flatMap chargeParts) = [ctlRequest s n die point] := rfl

/-- What lacks the service of a controller is brought to the point of that controller. -/
theorem regulated_controller {α : Type} {die point : Nat} {wait : α → Bool} {f : State → State × α} (hpays : s.pays = .post)
    (hwaiting : s.waiting (s.sPayer n) = false) (hgrants : s.grants = [])
    (hcharges : (f s.collecting).1.charges = [(bkey die point (s.sPayer n).guest, 2)]) (hdie : die < 4) (hp : 16 ≤ point) (hp' : point < 28)
    (hg : (s.sPayer n).guest < 16) :
    s.regulated (s.sPayer n) wait f = ({ s with held := s.held ++ [ctlRequest s n die point] }, none) := by
  have hkey : bkey die point (s.sPayer n).guest < 4096 := by unfold bkey; omega
  have hpoint : bkey die point (s.sPayer n).guest / 16 % 32 = point := bkey_point (by omega) hg
  have hlook : ((bkey die point (s.sPayer n).guest, [2]).1 == tlbKey) = false := beq_eq_false_iff_ne.mpr (by unfold tlbKey; dsimp only; omega)
  have hinit : initiator (bkey die point (s.sPayer n).guest) = false := by
    rw [initiator, hpoint, decide_eq_false (Nat.not_lt.mpr hp), Bool.false_and]
  have hbring : State.bring (s.sPayer n) s (bkey die point (s.sPayer n).guest, [2]) = { s with held := s.held ++ [ctlRequest s n die point] } := by
    simp only [State.bring, hkey, if_true, bkey_die (show point < 32 by omega) hg, hpoint, bkey_guest hg, requestsOf_controller]
  have hnot9 : (point == 9) = false := beq_eq_false_iff_ne.mpr (by omega)
  unfold State.regulated
  rw [hpays, show ({ s with pays := .collect [] } : State) = s.collecting from rfl]
  generalize f s.collecting = r at hcharges
  obtain ⟨u, x⟩ := r
  cases hu : u.pays with
  | post => simp only [State.charges, hu, reduceCtorEq] at hcharges
  | direct => simp only [State.charges, hu, reduceCtorEq] at hcharges
  | collect l =>
    simp only [State.charges, hu] at hcharges
    simp only [hwaiting, Bool.false_eq_true, if_false, hu, hcharges, short_controller hgrants, List.filter_cons, hlook, hinit, List.filter_nil,
      List.isEmpty_nil, if_true, List.isEmpty_cons, hpoint, List.any_cons, List.any_nil, hnot9, Bool.false_and, Bool.or_false, List.foldl_cons,
      List.foldl_nil, hbring, hpays]

/-- A request that lacks a controller's service waits at the point of that controller. -/
theorem sAnswer_controller {x : Except Nat (List Nat)} {die point : Nat} (hperf : s.collecting.sPerform n r = (u, x)) (hpays : s.pays = .post)
    (hwaiting : s.waiting (s.sPayer n) = false) (hgrants : s.grants = []) (hcharges : u.charges = [(bkey die point (s.sPayer n).guest, 2)])
    (hdie : die < 4) (hp : 16 ≤ point) (hp' : point < 28) (hg : (s.sPayer n).guest < 16) :
    s.sAnswer n r = ({ s with held := s.held ++ [ctlRequest s n die point] } : State).modCoreAt n
      (fun k => { k with req := some { r with stage := 2, dueAt := s.now, data := [], fault := 0 } }) := by
  have hreg := regulated_controller (wait := waitsCar) (f := fun t => t.sPerform n r) hpays hwaiting hgrants (by rw [hperf]; exact hcharges)
    hdie hp hp' hg
  simp only [State.sAnswer, hreg]

theorem execL2Lookup_due (hreq : (s.coreAt n).req = some r) (hdue : s.lookupDue n = true) : execL2Lookup n s = .next (s.sAnswer n r) := by
  simp only [execL2Lookup, hreq, hdue, if_true]

theorem execControllerAccess_due (hreq : (s.coreAt n).req = some r) (hdue : s.controllerDue n = true) :
    execControllerAccess n s = .next (s.sAnswer n r) := by
  simp only [execControllerAccess, hreq, hdue, if_true]

end

/-! ### Walks -/

section
variable {s u : State} {n : Nat} {w : AccReq} (hw : (s.coreAt n).walk = some w) (hdue : s.walkDue n = true)
include hw hdue

theorem walkStep_hits (hhit : s.tlb2Hit n w = true) : s.walkStep n =
    (((s.leaveWalker (s.walkPayer n)).translate n w.va w.kind).1).walkTaken n w ((s.leaveWalker (s.walkPayer n)).translate n w.va w.kind).2 := by
  simp only [State.walkStep, hw, hdue, hhit, Bool.not_true, Bool.false_eq_true, if_false, if_true]

theorem walkStep_joins (hhit : s.tlb2Hit n w = false) (hasked : s.walkAsked (s.walkPayer n) = false) :
    s.walkStep n = s.modGuest (s.coreAt n).guest (fun x => { x with
      walks := x.walks.filter (fun y => s.wantsWalk y.1) ++ [(s.walkPayer n, some (w.va / 4096))] }) := by
  simp only [State.walkStep, hw, hdue, hhit, hasked, State.joinWalker, Bool.not_true, Bool.not_false, Bool.false_eq_true, if_false, if_true]
  rfl

theorem walkStep_walks {x : Except Nat TlbEnt} (hhit : s.tlb2Hit n w = false) (hasked : s.walkAsked (s.walkPayer n) = true)
    (hjoined : s.joined n w = []) (htr : s.collecting.translate n w.va w.kind = (u, x)) (hthrough : s.Through (s.walkPayer n) u) :
    s.walkStep n = ((u.paidUp (s.walkPayer n)).leaveWalker (s.walkPayer n)).walkTaken n w x := by
  have hreg := regulated_through s (s.walkPayer n) (fun _ => false) (fun t => t.translate n w.va w.kind) (by rwa [htr]) rfl
  simp only [State.walkStep, hw, hdue, hhit, hasked, hjoined, hreg, htr, Bool.not_true, Bool.false_eq_true, if_false, List.foldl_nil]

end

/-! ### The answers to WPGT -/

/-- The answer of the host to one core, before the trap of a failed write. -/
def answered (s : State) (n : Nat) (ok : Bool) : State :=
  { s.modCoreAt n (fun k => k.wpgtEnd ok) with
    guests := (s.modCoreAt n (fun k => k.wpgtEnd ok)).guests.map (fun (p : Nat × Guest) => (p.1, { p.2 with saved := p.2.saved.map (fun (v : SavedCtx) =>
      if 8 * v.cl + v.core = n then
        { v with ctx := { v.ctx.wpgtEnd ok with held := match v.ctx.wpgt with
          | some w => if ok then v.ctx.held else some { cause := cPROT, slots := 1, info := BitVec.ofNat 64 w.1, flt := w.2, async := false }
          | none => v.ctx.held } }
      else v) })) }

theorem coreAt_answered (s : State) (n : Nat) (ok : Bool) : (answered s n ok).coreAt n = (s.coreAt n).wpgtEnd ok :=
  (coreAt_modCoreAt_self s n (fun k => k.wpgtEnd ok) :)

section
variable {s : State} {n : Nat} {w : Nat × Nat} (hw : (s.coreAt n).wpgt = some w)
include hw

theorem execWpgtAnswer_resume : execWpgtAnswer n 1 s = .next (answered s n true) := by
  simp only [execWpgtAnswer, hw]
  rfl

theorem execWpgtAnswer_fail (hmode : (s.coreAt n).mode = .run) : execWpgtAnswer n 0 s = .next ((answered s n false).takeTrap n
    { cause := cPROT, slots := 1, info := BitVec.ofNat 64 w.1, flt := w.2, async := false }) := by
  simp only [execWpgtAnswer, hw, hmode]
  rfl

end

/-! ### Invalidation -/

theorem get_map_value {α : Type} (d : α) (f : α → α) : ∀ (t : Tab α) (n : Nat),
    Tab.get d (t.map (fun p => (p.1, f p.2))) n = if (t.any (fun p => p.1 == n)) then f (t.get d n) else d
  | [], _ => rfl
  | (j, v) :: t, n => by
    simp only [List.map_cons, Tab.get, List.any_cons]
    by_cases h : j = n
    · simp [h]
    · simp only [h, if_false, beq_eq_false_iff_ne.mpr h, Bool.false_or]
      exact get_map_value d f t n

theorem get_of_not_any {α : Type} (d : α) : ∀ (t : Tab α) (n : Nat), (t.any (fun p => p.1 == n)) = false → t.get d n = d
  | [], _, _ => rfl
  | (j, v) :: t, n, h => by
    simp only [List.any_cons, Bool.or_eq_false_iff, beq_eq_false_iff_ne] at h
    rw [Tab.get, if_neg h.1, get_of_not_any d t n h.2]

/-- A field of every entry of a table is filtered, that of the absent ones, which is empty, too. -/
theorem field_get_map {α β : Type} (d : α) (f : α → α) (field : α → List β) (p : β → Bool) (hf : ∀ x, field (f x) = (field x).filter p)
    (hd : field d = []) (t : Tab α) (n : Nat) :
    field (Tab.get d (t.map (fun q => (q.1, f q.2))) n) = (field (t.get d n)).filter p := by
  rw [get_map_value]
  split
  · exact hf _
  · next h => rw [get_of_not_any d t n (Bool.eq_false_iff.mpr h), hd, List.filter_nil]

/-- A core without the entries that an invalidation matches. -/
def invalidated (g lo hi : Nat) (k : Core) : Core :=
  { k with
    tlb := k.tlb.filter (fun e => !(e.guest == g && covers lo hi e.va e.bits))
    walkFault := if k.guest = g then none else k.walkFault
    fbFault := if k.guest = g then none else k.fbFault }

/-- A cluster without the entries that an invalidation matches. -/
def invalidated2 (g lo hi : Nat) (c : Cluster) : Cluster :=
  { c with tlb2 := c.tlb2.filter (fun e => !(e.guest == g && covers lo hi e.va e.bits)) }

/-! ### The obligation -/

/-- Settles O50: each event at its point, in the order of the statement. -/
theorem memoryEvents : Obligations.MemoryEvents := by
  unfold Obligations.MemoryEvents
  intro s
  refine ⟨?_, ?_, ?_, ?_, ?_, ?_, ?_⟩
  · intro die point g h hout hadm
    exact ⟨_, (congrArg Host.Outcome.next (if_pos (admitDue_of_admittable hadm)) : execRegulationAdmit die point g s = _), admitStep_admits hout hadm⟩
  · intro die point g b hheld hparked hp hg hb
    exact regulatorTick_refills hheld hparked hp hg hb
  · intro die point g hraised hat
    exact budget_reports hraised hat
  · intro n r u x hreq hperf
    dsimp only
    refine ⟨?_, ?_, ?_⟩
    · rintro hdue b rfl hthrough
      exact (execL2Lookup_due hreq hdue).trans (congrArg _ (sAnswer_through hperf hthrough))
    · rintro hdue b rfl hthrough
      exact (execControllerAccess_due hreq hdue).trans (congrArg _ (sAnswer_through hperf hthrough))
    · intro die point hdue hpays hwaiting hgrants hcharges hdie hp hp' hg
      refine ⟨_, (execL2Lookup_due hreq hdue).trans (congrArg _ (sAnswer_controller hperf hpays hwaiting hgrants hcharges hdie hp hp' hg)), ?_, rfl⟩
      rw [coreAt_modCoreAt_self]
  · intro n w hw hdue
    refine ⟨?_, ?_, ?_⟩
    · intro hhit
      exact congrArg Host.Outcome.next (walkStep_hits hw hdue hhit)
    · intro hhit hasked
      refine ⟨_, congrArg Host.Outcome.next (walkStep_joins hw hdue hhit hasked), ?_, hw⟩
      rw [guestAt_modGuest_self]
    · intro u x hhit hasked hjoined htr hthrough
      exact congrArg Host.Outcome.next (walkStep_walks hw hdue hhit hasked hjoined htr hthrough)
  · intro n w hw
    refine ⟨⟨_, execWpgtAnswer_resume hw, ?_⟩, fun hmode hen => ⟨_, execWpgtAnswer_fail hw hmode, ?_⟩⟩
    · rw [coreAt_answered]
      exact ⟨rfl, rfl, rfl⟩
    · have hk : (answered s n false).coreAt n = (s.coreAt n).wpgtEnd false := coreAt_answered s n false
      have hrun : ((s.coreAt n).wpgtEnd false).mode = .run := hmode
      have h := takeTrap_core (s := answered s n false) (n := n)
        (r := { cause := cPROT, slots := 1, info := BitVec.ofNat 64 w.1, flt := w.2, async := false })
        (.inl (by rw [hk, hrun]; decide)) (by rw [hk]; exact hen) (.inl (show cPROT ≠ 0x42 by decide))
      rw [h.mode, h.trap]
      exact ⟨rfl, rfl, rfl⟩
  · intro g lo hi
    refine ⟨_, rfl, fun n => ?_, fun cl => ?_, rfl⟩
    · exact field_get_map {} (invalidated g lo hi) Core.tlb _ (fun _ => rfl) rfl s.cores n
    · exact field_get_map {} (invalidated2 g lo hi) Cluster.tlb2 _ (fun _ => rfl) rfl s.cls cl

end Sys2Proof.Proofs.MemoryEvents
end

section
/-! Proofs. The events of failure and repair (R351 to R353, R383, R499, R500, R510 to R512). -/

namespace Sys2Proof.Proofs.RepairEvents
open Sys2Proof Sys2Proof.Machine Sys2Proof.Proofs.Checkpoints

/-! ### Minima, channels and ways -/

/-- With no loaded guest there is no minimum to cut. -/
theorem cutMinima_of_no_guest {s t : State} (h : s.loaded = []) (hg : t.guests = s.guests) (kind : Nat) : t.cutMinima kind = t := by
  have ht : t.loaded = [] := by
    rw [← h]
    simp only [State.loaded, State.gc, State.guestAt, hg]
  simp only [State.cutMinima, ht, List.map_nil, List.sum_nil, Nat.zero_le, if_true]

section
variable {s : State} {die ch : Nat} (hdie : die < 4) (hch : ch < 12) (hin : s.plat.chRet.contains (12 * die + ch) = false)
include hdie hch hin

theorem channel_in_service : ¬ (4 ≤ die ∨ 12 ≤ ch ∨ s.plat.chRet.contains (12 * die + ch) = true) := by
  rw [hin]
  simp only [Bool.false_eq_true, or_false]
  omega

theorem channelRetirement_refused (hfits : s.channelFits (12 * die + ch) = false) :
    execChannelRetirement die ch s = .next (s.hostEv cCHRETIRE (12 * die + ch + 2 ^ 9) 0) := by
  simp only [execChannelRetirement, if_neg (channel_in_service hdie hch hin), hfits, Bool.not_false, if_true]

/-- A channel without an unreadable line, in a machine without guests, is retired. -/
theorem channelRetirement_retires (hfits : s.channelFits (12 * die + ch) = true) (hbad : s.memBad = []) (hloaded : s.loaded = []) :
    execChannelRetirement die ch s = .next (({ s with plat := { s.plat with
      chRet := s.plat.chRet ++ [12 * die + ch], memRet := s.plat.memRet ||| 2 ^ (12 * die + ch) } } : State).hostEv cCHRETIRE (12 * die + ch) 0) := by
  have hnone : s.badLinesOn (12 * die + ch) = [] := by rw [State.badLinesOn, hbad, List.filter_nil, List.mergeSort_nil]
  simp only [execChannelRetirement, if_neg (channel_in_service hdie hch hin), hfits, Bool.not_true, Bool.false_eq_true, if_false, hnone,
    hloaded, List.filterMap_nil, List.foldl_nil, State.repairEvent, List.isEmpty_nil, if_true, List.head?_nil, Option.bind_none,
    Option.getD_none, Nat.add_zero]
  refine congrArg Host.Outcome.next (cutMinima_of_no_guest hloaded ?_ 2)
  rfl

end

theorem l2WayRetire_retires {s : State} {way : Nat} (hway : way < 32) (hin : bitOf way s.waysOut = false) (hloaded : s.loaded = [])
    (hl2 : s.l2 = []) : execL2WayRetire way s = .next { s with waysOut := s.waysOut + 2 ^ way } := by
  simp only [execL2WayRetire, hin, Bool.false_eq_true, or_false, if_neg (Nat.not_le.mpr hway), hloaded, hl2, List.filter_nil, List.foldl_nil]
  refine congrArg Host.Outcome.next (cutMinima_of_no_guest hloaded ?_ 1)
  rfl

/-! ### Contexts that are to be saved -/

theorem evacuate_cons (s : State) (m : Nat) (l : List Nat) : s.evacuate (m :: l) =
    (s.modCoreAt m (fun k => if k.hasContext then { k with yreq := true, ydl := 0 } else k)).evacuate l := rfl

theorem evacuate_cls (l : List Nat) : ∀ s : State, (s.evacuate l).cls = s.cls := by
  induction l with
  | nil => exact fun _ => rfl
  | cons m l ih => exact fun s => ih _

theorem evacuate_clAt (s : State) (l : List Nat) (i : Nat) : (s.evacuate l).clAt i = s.clAt i := by
  rw [State.clAt, evacuate_cls, State.clAt]

/-- Asking for saves changes no core but in its request. -/
theorem evacuate_core {α : Type} (field : Core → α) (hfield : ∀ k : Core, field { k with yreq := true, ydl := 0 } = field k) (n : Nat)
    (l : List Nat) : ∀ s : State, field ((s.evacuate l).coreAt n) = field (s.coreAt n) := by
  induction l with
  | nil => exact fun _ => rfl
  | cons m l ih =>
    intro s
    rw [evacuate_cons, ih]
    by_cases h : n = m
    · subst h
      rw [coreAt_modCoreAt_self]
      split
      · exact hfield _
      · rfl
    · rw [coreAt_modCoreAt_ne _ _ _ _ h]

/-- A core that has been asked stays asked. -/
theorem evacuate_stays {n : Nat} (l : List Nat) : ∀ s : State, (s.coreAt n).yreq = true ∧ (s.coreAt n).ydl = 0 →
    ((s.evacuate l).coreAt n).yreq = true ∧ ((s.evacuate l).coreAt n).ydl = 0 := by
  induction l with
  | nil => exact fun _ h => h
  | cons m l ih =>
    intro s h
    rw [evacuate_cons]
    refine ih _ ?_
    by_cases hm : n = m
    · subst hm
      rw [coreAt_modCoreAt_self]
      split
      · exact ⟨rfl, rfl⟩
      · exact h
    · rwa [coreAt_modCoreAt_ne _ _ _ _ hm]

theorem evacuate_asks {n : Nat} (l : List Nat) : ∀ s : State, n ∈ l → (s.coreAt n).hasContext = true →
    ((s.evacuate l).coreAt n).yreq = true ∧ ((s.evacuate l).coreAt n).ydl = 0 := by
  induction l with
  | nil => exact fun _ h => absurd h (by simp)
  | cons m l ih =>
    intro s hn hk
    rw [evacuate_cons]
    by_cases hm : n = m
    · subst hm
      refine evacuate_stays l _ ?_
      rw [coreAt_modCoreAt_self, if_pos hk]
      exact ⟨rfl, rfl⟩
    · refine ih _ (List.mem_of_ne_of_mem hm hn) ?_
      rwa [coreAt_modCoreAt_ne _ _ _ _ hm]

theorem mem_coresOf {n cl : Nat} (h : clOf n = cl) : n ∈ coresOf cl :=
  List.mem_map.mpr ⟨n % 8, List.mem_range.mpr (Nat.mod_lt _ (by decide)), by rw [← h]; exact Nat.div_add_mod n 8⟩

section
variable {s : State} {cl : Nat} (hcl : cl < 32) (hret : (s.clAt cl).retired = false)
include hcl hret

theorem retireCluster_in_service : s.retireCluster cl = (s.modCl cl (fun c => { c with pend := 2 })).evacuate (coresOf cl) := by
  simp only [State.retireCluster, hret, decide_eq_false (Nat.not_le.mpr hcl), Bool.or_self, Bool.false_eq_true, if_false]

theorem swapCluster_in_service (hpend : (s.clAt cl).pend = 0) : s.swapCluster cl =
    if (s.dieAt (cl / 8)).spareUsed then s.retireCluster cl else (s.modCl cl (fun c => { c with pend := 1 })).evacuate (coresOf cl) := by
  simp only [State.swapCluster, hret, hpend, decide_eq_false (Nat.not_le.mpr hcl), bne_self_eq_false, Bool.or_self, Bool.false_eq_true, if_false]

theorem retireCluster_pend : ((s.retireCluster cl).clAt cl).pend = 2 := by
  rw [retireCluster_in_service hcl hret, evacuate_clAt, clAt_modCl_self]

theorem swapCluster_pend (hpend : (s.clAt cl).pend = 0) :
    ((s.swapCluster cl).clAt cl).pend = if (s.dieAt (cl / 8)).spareUsed then 2 else 1 := by
  rw [swapCluster_in_service hcl hret hpend]
  split
  · exact retireCluster_pend hcl hret
  · rw [evacuate_clAt, clAt_modCl_self]

end

theorem retireCore_retires {s : State} {n : Nat} (hn : n < 256) (hret : (s.coreAt n).retired = false)
    (hspare : (s.dieAt (dieOf n)).spareUsed = true) : ((s.retireCore n).coreAt n).retiring = true := by
  have hgo : s.retireCore n = (s.modCoreAt n (fun k => { k with retiring := true })).evacuate (s.gangOf n) := by
    simp only [State.retireCore, hret, hspare, decide_eq_false (Nat.not_le.mpr hn), Bool.or_self, Bool.not_true, Bool.false_eq_true, if_false]
  rw [hgo, evacuate_core Core.retiring (fun _ => rfl), coreAt_modCoreAt_self]

/-! ### Spare rows -/

/-- A core one of whose rows a spare one has replaced. -/
def spareRowUsed (row : Nat) (k : Core) : Core :=
  { k with spareRows := k.spareRows + 1, badWords := k.badWords.filter (fun w => w / 128 != row) }

/-- A row whose words can all be corrected is copied to a spare row. -/
theorem sramRowRepair_copies {s : State} {n row : Nat} (hn : n < 256) (hspare : (s.coreAt n).spareRows < 32)
    (hgood : ∀ w ∈ (s.coreAt n).badWords, w / 128 ≠ row) :
    ∃ t, execSramRowRepair n row s = .next t ∧ uncounted (t.coreAt n) = uncounted (spareRowUsed row (s.coreAt n)) := by
  have hnone : ((s.coreAt n).badWords.filter (fun w => w / 128 == row)).mergeSort (fun a b => decide (a ≤ b)) = [] := by
    rw [List.filter_eq_nil_iff.mpr fun w hw => by simpa using hgood w hw, List.mergeSort_nil]
  obtain ⟨u, hu⟩ : ∃ u : State, u = if (s.clAt (clOf n)).phys = 0
      then { s.modCoreAt n (spareRowUsed row) with plat := { s.plat with sramMap := s.plat.sramMap.set n ((s.coreAt n).spareRows + 1) } }
      else s.modCoreAt n (spareRowUsed row) := ⟨_, rfl⟩
  have hcore : u.coreAt n = spareRowUsed row (s.coreAt n) := by
    rw [hu]
    split
    · exact coreAt_modCoreAt_self s n _
    · exact coreAt_modCoreAt_self s n _
  refine ⟨(u.countAt n 39 (Config.freeNat s.free row % 129)).tickFree, ?_, ?_⟩
  · simp only [execSramRowRepair, if_neg (Nat.not_le.mpr hn), if_neg (Nat.not_le.mpr hspare), hnone, List.isEmpty_nil, if_true]
    rw [hu]
    rfl
  · rw [← hcore]
    exact (CountsOnly.countAt u n 39 _).core n

/-! ### Links -/

theorem dieLinkLoss_ring {s : State} {link : Nat} (hlink : link < 4) (hfatal : s.plat.fatal = false) :
    ∃ u : State, execDieLinkLoss link s = .next (
      if ({ s.plat with ringLost := s.plat.ringLost ||| 2 ^ link } : Plat).cutOff then
        (({ u with plat := { u.plat with fatal := true } } : State).updSafe).hostIrq 0
      else { s with plat := { s.plat with ringLost := s.plat.ringLost ||| 2 ^ link } }) := by
  have h8 : ¬ 8 ≤ link := by omega
  refine ⟨(s.cores.filter (fun c => c.2.occupied)).foldl (fun t c => t.stopCore c.1 false)
    { s with plat := { s.plat with ringLost := s.plat.ringLost ||| 2 ^ link } }, ?_⟩
  simp only [execDieLinkLoss, if_neg h8, if_pos hlink, hfatal, Bool.not_false, Bool.and_true]

theorem fatal_hostIrq (u : State) : ((({ u with plat := { u.plat with fatal := true } } : State).updSafe).hostIrq 0).plat.fatal = true ∧
    ((({ u with plat := { u.plat with fatal := true } } : State).updSafe).hostIrq 0).plat.safeN = true := by
  unfold State.hostIrq
  dsimp only
  split
  · exact ⟨rfl, rfl⟩
  · exact ⟨rfl, rfl⟩

/-! ### The obligation -/

/-- Settles O51: each repair, in the order of the statement. -/
theorem repairEvents : Obligations.RepairEvents := by
  unfold Obligations.RepairEvents
  intro s
  refine ⟨fun _ _ => rfl, ?_, ?_, ?_, ?_, ?_, ?_, ?_⟩
  · intro die ch hdie hch hin
    refine ⟨channelRetirement_refused hdie hch hin, fun hfits hbad hloaded => ?_⟩
    exact ⟨_, channelRetirement_retires hdie hch hin hfits hbad hloaded, rfl, rfl, rfl⟩
  · intro cl hcl hret
    refine ⟨⟨_, rfl, retireCluster_pend hcl hret, fun n hn hk => ?_⟩, fun hpend => ⟨_, rfl, swapCluster_pend hcl hret hpend⟩⟩
    rw [retireCluster_in_service hcl hret]
    exact evacuate_asks _ _ (mem_coresOf hn) hk
  · intro n hn hret hspare
    exact ⟨_, rfl, retireCore_retires hn hret hspare⟩
  · intro n row hn hspare hgood
    obtain ⟨t, ht, hcore⟩ := sramRowRepair_copies hn hspare hgood
    exact ⟨t, ht, (congrArg Core.spareRows hcore :), (congrArg Core.spad hcore :)⟩
  · intro way hway hin hloaded hl2
    exact l2WayRetire_retires hway hin hloaded hl2
  · intro die hdie
    exact ⟨congrArg Host.Outcome.next (if_neg (Nat.not_le.mpr hdie)), congrArg Host.Outcome.next (if_neg (Nat.not_le.mpr hdie))⟩
  · intro link hlink hfatal p
    obtain ⟨u, hu⟩ := dieLinkLoss_ring hlink hfatal
    refine ⟨fun hcut => hu.trans (congrArg _ (if_neg (Bool.eq_false_iff.mp hcut))), fun hcut => ⟨_, hu.trans (congrArg _ (if_pos hcut)), fatal_hostIrq u⟩⟩

end Sys2Proof.Proofs.RepairEvents
end

section
/-! Proofs. The events of command streams, nodes and dispatch (R413 to R429, R438). -/

namespace Sys2Proof.Proofs.CommandStreams
open Sys2Proof Sys2Proof.Machine

/-! ### Guests and their streams -/

theorem cms_modCms (s : State) (g k : Nat) (f : Cms → Cms) : (s.modCms g k f).cms g k = f (s.cms g k) := by
  rw [State.cms, State.modCms, guestAt_modGuest_self, Tab.get_set_self]
  rfl

/-- A change of a stream depends on what it makes of that stream alone. -/
theorem modCms_congr {s : State} {g k : Nat} {f f' : Cms → Cms} (h : f (s.cms g k) = f' (s.cms g k)) : s.modCms g k f = s.modCms g k f' := by
  rw [State.cms] at h
  rw [State.modCms, State.modCms, State.modGuest, State.modGuest, h]

/-- What an agent leaves when it has paid changes of a guest its walks alone. -/
theorem guestAt_paidUp {α : Type} (field : Guest → α) (hfield : ∀ (x : Guest) l, field { x with walks := l } = field x) (u : State) (o : Payer)
    (g : Nat) : field ((u.paidUp o).guestAt g) = field (u.guestAt g) := by
  show field ((u.leaveWalker o).guestAt g) = _
  unfold State.leaveWalker
  split
  · by_cases h : g = o.guest
    · subst h
      rw [guestAt_modGuest_self, hfield]
    · rw [guestAt_modGuest_ne _ _ _ _ h]
  · rfl

theorem cms_paidUp (u : State) (o : Payer) (g k : Nat) : (u.paidUp o).cms g k = u.cms g k :=
  congrArg (fun t : Tab Cms => Tab.get ({} : Cms) t k) (guestAt_paidUp Guest.cms (fun _ _ => rfl) u o g)

theorem execCommandStreamTailWrite_free {s : State} {g : Nat} (k v : Nat) (h : ∀ p ∈ s.parked, p.2.ofHost g = false) :
    execCommandStreamTailWrite g k v s = .next (s.tailWrite g k v) := by
  have hno : ¬ s.parked.any (fun p => p.2.ofHost g) = true := by
    rw [List.any_eq_true]
    rintro ⟨p, hp, hof⟩
    rw [h p hp] at hof
    exact Bool.noConfusion hof
  exact congrArg Host.Outcome.next (if_neg hno)

theorem execCommandStreamTailWrite_parked {s : State} {g : Nat} (k v : Nat) (h : ∃ p ∈ s.parked, p.2.ofHost g = true) :
    execCommandStreamTailWrite g k v s = .next (s.park (.tail g k v)) :=
  congrArg Host.Outcome.next (if_pos (List.any_eq_true.mpr h))

/-! ### Entries -/

section
variable {s u : State} {g k : Nat} {b : List Nat} (hdue : s.takeDue g k = true)
  (hread : (s.collecting.modCms g k (fun q => { q with head := (q.head + 1) % 2 ^ 32 })).gRead g ((s.cms g k).slot (s.cms g k).head) 8 = (u, .ok b))
include hdue hread

/-- The stream once its entry has started a graph at node w. -/
def graphStarted (w : Nat) (q : Cms) : Cms :=
  { q with run := true, gHead := w, node := w, entered := false, epoch := 0, arm := false, reached := 0, leaving := false }

theorem streamEntryTake_starts (halign : ofLe b % 32 = 0) (hsize : ofLe b < 2 ^ 48) (hthrough : s.Through (cpPayer g) u) :
    execStreamEntryTake g k s = .next ((u.modCms g k (graphStarted (ofLe b))).paidUp (cpPayer g)) := by
  have hgood : ¬ (bitsOf 63 48 (ofLe b) ≠ 0 ∨ bitsOf 4 0 (ofLe b) ≠ 0) := by
    simp only [bitsOf]
    omega
  have hread' : (s.collecting.modCms g k (fun q => { q with head := (q.head + 1) % 2 ^ 32 })).gRead g
    ((s.collecting.cms g k).slot (s.collecting.cms g k).head) 8 = (u, .ok b) := hread
  simp only [execStreamEntryTake, hdue, Bool.not_true, Bool.false_eq_true, if_false]
  rw [cpGate_through]
  · simp only [hread', if_neg hgood]
    rfl
  · simp only [hread', if_neg hgood]
    exact hthrough

theorem streamEntryTake_halts (hbad : ofLe b % 32 ≠ 0)
    (hthrough : s.Through (cpPayer g) (u.haltStream g k 2 0 ((s.cms g k).slot (s.cms g k).head))) :
    execStreamEntryTake g k s = .next ((u.haltStream g k 2 0 ((s.cms g k).slot (s.cms g k).head)).paidUp (cpPayer g)) := by
  have hodd : bitsOf 63 48 (ofLe b) ≠ 0 ∨ bitsOf 4 0 (ofLe b) ≠ 0 := by
    simp only [bitsOf]
    omega
  have hread' : (s.collecting.modCms g k (fun q => { q with head := (q.head + 1) % 2 ^ 32 })).gRead g
    ((s.collecting.cms g k).slot (s.collecting.cms g k).head) 8 = (u, .ok b) := hread
  simp only [execStreamEntryTake, hdue, Bool.not_true, Bool.false_eq_true, if_false]
  rw [cpGate_through]
  · simp only [hread', if_pos hodd]
    rfl
  · simp only [hread', if_pos hodd]
    exact hthrough

end

/-! ### Walks -/

section
variable {s u : State} {g k : Nat} {n : Node}

theorem nodeEnter_enters (hdue : s.enterDue g k = true) (hentered : (s.cms g k).entered = false)
    (hread : s.collecting.nodeRead g (s.cms g k).node = (u, .ok n)) (hok : nodeOk (u.guestAt g).gc n = true)
    (hlimit : n.kind ≠ 1 ∨ u.unfinished g < 256 ∧ ((s.cms g k).reached ≠ 0 ∨ u.limitQueue g k = false)) (hkind : n.kind ≠ 5)
    (hflag : n.flag 3 = false) (hthrough : s.Through (cpPayer g) u) :
    execNodeEnter g k s = .next ((((u.enterNode g k (s.cms g k).epoch n).modCms g k
        (fun q => { q with reached := 0, inst := (u.guestAt g).nextId, entered := true })).modCms g k (fun q => q.goTo n.next)).paidUp (cpPayer g)) := by
  have hroom : ¬ (n.kind = 1 ∧ (256 ≤ u.unfinished g ∨ ((s.cms g k).reached = 0 ∧ u.limitQueue g k = true))) := by
    rintro ⟨h1, h⟩
    rcases hlimit with hl | ⟨hl, hl'⟩
    · exact hl h1
    · rcases h with h | ⟨hr, hq⟩
      · omega
      · rcases hl' with hl' | hl'
        · exact hl' hr
        · rw [hl'] at hq
          exact Bool.noConfusion hq
  have hon : ¬ (n.kind = 5 ∨ n.flag 3 = true) := by simp [hkind, hflag]
  simp only [execNodeEnter, hdue, hentered, Bool.not_true, Bool.false_eq_true, if_false]
  rw [cpGate_through]
  · simp only [hread, hok, Bool.not_true, Bool.false_eq_true, if_false, if_neg hroom, if_neg hon]
  · simp only [hread, hok, Bool.not_true, Bool.false_eq_true, if_false, if_neg hroom, if_neg hon]
    exact hthrough

theorem nodeEnter_leaves (hdue : s.enterDue g k = true) (hentered : (s.cms g k).entered = true)
    (hnode : s.nodeAt g (s.cms g k).inst = some n) : execNodeEnter g k s = .next (s.modCms g k (fun q => q.goTo n.next)) := by
  simp only [execNodeEnter, hdue, hentered, Bool.not_true, Bool.false_eq_true, if_false, if_true]
  exact congrArg _ (modCms_congr (by rw [hnode]))

/-- Where a walk goes on that its stream does not abandon. -/
theorem goTo_cases (p : Cms) (node : Nat) (hleave : p.leaving = false) :
    p.rearmAt node = { p with node := node, epoch := (p.epoch + 1) % 2 ^ 32, entered := false } ∧
      (node ≠ 0 → p.goTo node = { p with node := node, entered := false }) ∧
      (p.arm = true → p.goTo 0 = { p with node := p.gHead, epoch := (p.epoch + 1) % 2 ^ 32, arm := false, entered := false }) ∧
      (p.arm = false → p.goTo 0 = { p with run := false, entered := false }) := by
  refine ⟨?_, fun h => ?_, fun h => ?_, fun h => ?_⟩
  · simp only [Cms.rearmAt, hleave, Bool.false_eq_true, if_false]
  · simp only [Cms.goTo, hleave, Bool.false_eq_true, if_false, if_pos h]
  · simp only [Cms.goTo, Cms.rearmAt, hleave, h, Bool.false_eq_true, if_false, ne_eq, not_true_eq_false, if_true]
  · simp only [Cms.goTo, hleave, h, Bool.false_eq_true, if_false, ne_eq, not_true_eq_false]

/-! ### Nodes that act -/

theorem nodeDone_pays (s : State) (g id : Nat) : (s.nodeDone g id).pays = s.pays := by
  unfold State.nodeDone
  split
  · rfl
  · dsimp only
    split <;> rfl

theorem nodeDone_grps (s : State) (g id : Nat) : ((s.nodeDone g id).guestAt g).grps = (s.guestAt g).grps := by
  unfold State.nodeDone
  split
  · rfl
  · dsimp only
    split
    · rw [State.evAdd, State.modNode, guestAt_modGuest_self, guestAt_modGuest_self]
    · rw [State.modNode, guestAt_modGuest_self]

theorem condNode_branches {b : List Nat} (hrun : (s.cms g k).run = true) (hentered : (s.cms g k).entered = true) (hhalt : (s.cms g k).halt = false)
    (hact : s.actDue g (s.cms g k).inst 5 = some n) (hread : s.collecting.gRead g (n.field 32 8) 8 = (u, .ok b)) (hthrough : s.Through (cpPayer g) u) :
    execCondNode g k s = .next (((u.nodeDone g n.id).modCms g k (fun q =>
        if condHolds (n.byte 16) (ofLe b &&& n.field 48 8) (n.field 24 8) then q.rearmAt (n.field 40 8) else q.goTo n.next)).paidUp (cpPayer g)) := by
  obtain ⟨hpays, hwaiting, hshort⟩ := hthrough
  simp only [execCondNode, hrun, hentered, hhalt, hact, Bool.not_false, Bool.and_self, Bool.not_true, Bool.false_eq_true, if_false]
  rw [cpGate_through]
  · simp only [hread]
  · simp only [hread]
    refine ⟨hpays, hwaiting, ?_⟩
    rw [State.charges, State.modCms, modGuest_pays, nodeDone_pays]
    exact hshort

theorem ofLe_toLe (k : Nat) : ∀ w : Nat, ofLe (toLe k w) = w % 256 ^ k := by
  induction k with
  | zero => exact fun w => (Nat.mod_one w).symm
  | succ k ih =>
    intro w
    rw [toLe, ofLe, ih, Nat.pow_succ, Nat.mul_comm (256 ^ k), Nat.mod_mul]

theorem kernelRecordReady_counts {id : Nat} (hact : s.actDue g id 1 = some n) (hflag : n.flag 0 = false) (hcount : n.field 24 4 % 2 ^ 32 ≠ 0) :
    execKernelRecordReady g id s = .next ((s.modNode g id
        (fun n' => { n' with st := 1, count := n.field 24 4 % 2 ^ 32, order := (s.guestAt g).nextOrder })).modGuest g
        (fun x => { x with nextOrder := x.nextOrder + 1 })) := by
  have hle : ofLe (toLe 4 (n.field 24 4)) = n.field 24 4 % 2 ^ 32 := ofLe_toLe 4 _
  simp only [execKernelRecordReady, hact, hflag, Bool.false_eq_true, if_false, hle, if_neg hcount]

/-! ### Splices -/

section
variable {id : Nat} (hact : s.actDue g id 3 = some n)
include hact

theorem execSpliceNode_sends (hsent : n.sent = 0) :
    execSpliceNode g id s = .next (s.cpGate g (fun s =>
      let r := s.gRead g (n.field 32 8) (n.field 18 2)
      match r.2 with
      | .error _ => r.1.failNode g id 5 cSPLICEBAD
      | .ok l =>
        let cores := (List.range 256).filter (fun c => bitOf (c / 8) (n.field 20 4) && bitOf (c % 8) (n.byte 17))
        let z := cores.foldl (fun (p : State × Bool) c =>
          let q := p.1.spliceCore g c id (n.byte 16) (n.field 24 4) (n.field 40 8) l; (q.1, p.2 && q.2)) (r.1, true)
        z.1.modNode g id (fun x => { x with sent := if z.2 then 1 else 2 }))) := by
  simp only [execSpliceNode, hact, hsent, if_true] <;> rfl

theorem execSpliceNode_ends (hsent : n.sent ≠ 0) (hover : s.splicing g id = false) :
    execSpliceNode g id s = .next (if n.sent = 1 then s.nodeDone g id else s.failNode g id 5 cSPLICEBAD) := by
  simp only [execSpliceNode, hact, if_neg hsent, hover, Bool.false_eq_true, if_false]

end

/-- A Splice that a core is sent. -/
def spliceReq (s : State) (node seqNo crc image : Nat) (l : List Nat) : SpliceReq :=
  { node := node, since := s.now, due := s.now + (78 + (l.length + 127) / 128), seqNo := seqNo, crc := crc, image := image, list := l }

theorem due_spliceReq (s : State) (l : List Nat) : s.now + spliceTime l.length = s.now + (78 + (l.length + 127) / 128) := by
  simp only [spliceTime, ceilDiv]
  omega

section
variable {c node seqNo crc image : Nat} {l : List Nat}

theorem spliceCore_running (hlive : (s.coreAt c).live g = true) (hmode : (s.coreAt c).mode = .run ∨ (s.coreAt c).mode = .handler) :
    (s.spliceCore g c node seqNo crc image l).1.coreAt c =
        { s.coreAt c with arriving := (s.coreAt c).arriving ++ [spliceReq s node seqNo crc image l] } ∧
      ((∀ v ∈ (s.guestAt g).saved, 8 * v.cl + v.core ≠ c) → (s.spliceCore g c node seqNo crc image l).2 = true) := by
  have hrun : ((s.coreAt c).mode == .run || (s.coreAt c).mode == .handler) = true := by
    obtain h | h := hmode <;> rw [h] <;> rfl
  simp only [State.spliceCore, hlive, Bool.not_true, Bool.false_eq_true, if_false, hrun, if_true, Bool.true_and]
  refine ⟨?_, fun hnone => ?_⟩
  · rw [due_spliceReq]
    exact (coreAt_modCoreAt_self s c (fun k => { k with arriving := k.arriving ++ [spliceReq s node seqNo crc image l] }) :)
  · rw [List.all_map, List.all_eq_true]
    intro v hv
    simp only [Function.comp_apply, beq_eq_false_iff_ne.mpr (hnone v hv), Bool.false_eq_true, if_false]

theorem spliceCore_not_live (hlive : (s.coreAt c).live g = false) :
    (s.spliceCore g c node seqNo crc image l).1.coreAt c = s.coreAt c := by
  simp only [State.spliceCore, hlive, Bool.not_false, if_true]
  rfl

theorem coreAt_modGuest (s : State) (g : Nat) (f : Guest → Guest) (c : Nat) : (s.modGuest g f).coreAt c = s.coreAt c := rfl

theorem spliceCore_others {d : Nat} (hd : d ≠ c) : (s.spliceCore g c node seqNo crc image l).1.coreAt d = s.coreAt d := by
  unfold State.spliceCore
  dsimp only
  split
  · rfl
  · split
    · rw [coreAt_modGuest]
      exact coreAt_modCoreAt_ne s c d _ hd
    · rw [coreAt_modGuest]
      exact coreAt_modCoreAt_ne s c d _ hd

end

theorem spliceEnd_planeAct (x : Core) : x.spliceEnd.planeAct = x.planeAct := by
  unfold Core.spliceEnd
  split
  · rfl
  · dsimp only
    split <;> rfl

/-- The configuration word of a core that a Splice keeps busy. -/
theorem busy_cfgWord (w : W64) : bitOf 3 ((w ||| 8) &&& (~~~ 4)).toNat = true ∧ bitOf 2 ((w ||| 8) &&& (~~~ 4)).toNat = false := by
  simp only [bitOf, BitVec.testBit_toNat]
  constructor
  · simp
  · simp

/-- A Splice that begins sets BUSY and leaves the active plane. -/
theorem splice_begins (x : Core) (node due seqNo crc image : Nat) (l : List Nat) :
    let y := (x.splice node due seqNo crc image l).1
    bitOf 3 y.cfgWord.toNat = true ∧ bitOf 2 y.cfgWord.toNat = false ∧ y.planeAct = x.planeAct ∧
      ∃ p, y.splicing = some p ∧ p.node = node ∧ p.due = due ∧ p.ok = (x.splice node due seqNo crc image l).2 := by
  obtain ⟨h3, h2⟩ := busy_cfgWord x.spliceEnd.cfgWord
  have hplane := spliceEnd_planeAct x
  simp only [Core.splice]
  split
  · exact ⟨h3, h2, hplane, _, rfl, rfl, rfl, rfl⟩
  · split
    · exact ⟨h3, h2, hplane, _, rfl, rfl, rfl, rfl⟩
    · exact ⟨h3, h2, hplane, _, rfl, rfl, rfl, rfl⟩

/-! ### Placement and completion -/

/-- A group whose members need no image is placed. -/
theorem placeNow_places {cl : Nat} (hcut : ¬ (n.placed = 0 ∧ spPages (n.byte 19) < (s.guestAt g).gc.woff + (s.guestAt g).gc.wlen))
    (himage : s.needsImage g n cl = false) : ∃ r ∈ ((s.placeNow g n cl).guestAt g).grps, r.node = n.id ∧ r.index = n.placed ∧ r.cl = cl ∧
      r.members.length = n.members.length := by
  have hroom : ¬ (n.placed = 0 && decide (spPages (n.byte 19) < (s.guestAt g).gc.woff + (s.guestAt g).gc.wlen)) = true := by
    simpa only [Bool.and_eq_true, beq_iff_eq, decide_eq_true_eq] using hcut
  have hnone : s.imageFor g n cl = (s, .ok {}) := by simp only [State.imageFor, himage, Bool.not_false, if_true]
  unfold State.placeNow
  dsimp only
  rw [if_neg hroom, hnone]
  dsimp only
  rw [guestAt_modGuest_self]
  exact ⟨_, List.mem_append_right _ (List.mem_singleton.mpr rfl), rfl, rfl, rfl, List.length_map _⟩

/-- With nothing saved the first record of a priority that fits is placed. -/
theorem placeOne_picks {p cl : Nat} (hgrps : (s.guestAt g).grps = []) (hpick : s.pick g ((s.guestAt g).queue p) [] = some (n, cl, []))
    (himage : s.needsImage g n cl = false) : s.placeOne g p = some (s.placeNow g n cl) := by
  simp only [State.placeOne, hgrps, List.filter_nil, List.mergeSort_nil, hpick, State.placeGroup, himage, Bool.false_eq_true, if_false,
    List.foldl_nil, ite_self]

/-- Of priorities in descending order the highest acts at which something can be done. -/
theorem placeFrom_highest {p : Nat} {t : State} (hone : s.placeOne g p = some t) : ∀ l : List Nat, l.Pairwise (· > ·) → p ∈ l →
    (∀ r ∈ l, p < r → s.placeOne g r = none) → s.placeFrom g l = some t
  | [], _, hp, _ => absurd hp (by simp)
  | r :: l, hl, hp, hnone => by
    obtain ⟨hr, hl⟩ := List.pairwise_cons.mp hl
    rw [State.placeFrom]
    obtain rfl | hp := List.mem_cons.mp hp
    · rw [hone]
    · rw [hnone r List.mem_cons_self (hr p hp)]
      exact placeFrom_highest hone l hl hp (fun q hq => hnone q (List.mem_cons_of_mem _ hq))

theorem placeNext_highest {p : Nat} {t : State} (hstate : (s.guestAt g).gc.gstate = 2) (hp : p ≤ 7)
    (hnone : ∀ r, p < r → r ≤ 7 → s.placeOne g r = none) (hone : s.placeOne g p = some t) : execGroupPlacement g s = .next t := by
  have hle (r : Nat) : r ∈ [7, 6, 5, 4, 3, 2, 1, 0] ↔ r ≤ 7 := by
    simp only [List.mem_cons, List.not_mem_nil, or_false]
    omega
  have hfrom := placeFrom_highest hone [7, 6, 5, 4, 3, 2, 1, 0] (by decide) ((hle p).mpr hp) (fun r hr hlt => hnone r hlt ((hle r).mp hr))
  simp only [execGroupPlacement, State.placeNext, hstate, if_true, hfrom, Option.getD_some]

/-- A group that has ended leaves. -/
theorem groupComplete_leaves {id index : Nat} {r : Grp}
    (hr : (s.guestAt g).grps.find? (fun r => r.node == id && r.index == index && r.st == 0 && r.over) = some r) :
    ∃ t, execGroupComplete g id index s = .next t ∧
      (t.guestAt g).grps = (s.guestAt g).grps.filter (fun q => !(q.node == id && q.index == index)) := by
  obtain ⟨t, ht⟩ : ∃ t, t = (((s.modGuest g (fun x => { x with grps := x.grps.filter (fun q => !(q.node == id && q.index == index)) })).modCl r.cl
    (fun c => { c with bars := c.bars.map (fun b =>
      if b.2.owner != 0 && r.members.any (fun m => bitOf m.core b.2.owner) then (b.1, {}) else b) })).modNode g id
    (fun n => { n with complete := n.complete + 1 })) := ⟨_, rfl⟩
  have hgrps : (t.guestAt g).grps = (s.guestAt g).grps.filter (fun q => !(q.node == id && q.index == index)) := by
    rw [ht, State.modNode, guestAt_modGuest_self]
    exact (congrArg Guest.grps (guestAt_modGuest_self s g
      (fun x => { x with grps := x.grps.filter (fun q => !(q.node == id && q.index == index)) })) :)
  refine ⟨_, rfl, ?_⟩
  simp only [hr, ← ht]
  cases t.nodeAt g id with
  | none => exact hgrps
  | some n =>
    dsimp only
    split
    · rw [nodeDone_grps, hgrps]
    · exact hgrps

end

/-! ### The obligation -/

/-- Settles O52: each event of a stream, a node and a group, in the order of the statement. -/
theorem commandStreamEvents : Obligations.CommandStreamEvents := by
  unfold Obligations.CommandStreamEvents
  intro s g k q
  refine ⟨?_, rfl, ?_, ?_, ?_, ?_, ?_, ?_, ?_, ?_, ?_, ?_, ?_, ?_, ?_, ?_, ?_⟩
  · intro v
    refine ⟨execCommandStreamTailWrite_free k v, fun h => ⟨_, execCommandStreamTailWrite_parked k v h, ⟨_, rfl⟩, fun _ _ => rfl⟩⟩
  · intro hhalt
    refine ⟨_, (congrArg Host.Outcome.next (if_pos hhalt) : execHaltClear g k s = _), ?_⟩
    rw [cms_modCms]
    exact ⟨rfl, rfl, rfl⟩
  · intro u b hdue hread
    refine ⟨fun halign hsize hthrough => ⟨_, streamEntryTake_starts hdue hread halign hsize hthrough, ?_⟩,
      fun hbad => streamEntryTake_halts hdue hread hbad⟩
    rw [cms_paidUp, cms_modCms]
    exact ⟨rfl, rfl, rfl, rfl⟩
  · intro u n hdue hentered hread hok hlimit hkind hflag hthrough
    exact nodeEnter_enters hdue hentered hread hok hlimit hkind hflag hthrough
  · intro n hdue hentered hnode
    exact nodeEnter_leaves hdue hentered hnode
  · exact fun p node hleave => goTo_cases p node hleave
  · intro id n hact
    exact congrArg Host.Outcome.next (by rw [hact])
  · intro id n hact
    exact congrArg Host.Outcome.next (by rw [hact])
  · intro id n u hact hsent
    refine ⟨fun l hread => ?_, fun e hread => ?_⟩
    · intro cores z w hthrough
      refine (execSpliceNode_sends hact hsent).trans (congrArg _ ?_)
      rw [cpGate_through]
      · simp only [hread]
        rfl
      · simp only [hread]
        exact hthrough
    · intro w hthrough
      refine (execSpliceNode_sends hact hsent).trans (congrArg _ ?_)
      rw [cpGate_through]
      · simp only [hread]
        rfl
      · simp only [hread]
        exact hthrough
  · intro c node seqNo crc image l r x
    exact ⟨spliceCore_running, spliceCore_not_live, fun d hd => spliceCore_others hd⟩
  · exact splice_begins
  · intro id n hact hsent hover
    exact execSpliceNode_ends hact hsent hover
  · intro u b n hrun hentered hhalt hact hread hthrough
    exact condNode_branches hrun hentered hhalt hact hread hthrough
  · intro id n hact hflag hcount
    exact kernelRecordReady_counts hact hflag hcount
  · intro p n cl hstate hp hnone hgrps hpick himage hcut
    obtain ⟨r, hr, h⟩ := placeNow_places hcut himage
    exact ⟨_, r, placeNext_highest hstate hp hnone (placeOne_picks hgrps hpick himage), hr, h⟩
  · intro id index r hr
    exact groupComplete_leaves hr

end Sys2Proof.Proofs.CommandStreams
end

section
/-! Proofs. The events of frames and contracts (R433 to R435, R446, R451 to R458). -/

namespace Sys2Proof.Proofs.FrameAndGuest
open Sys2Proof Sys2Proof.Machine

/-! ### Folds over states -/

/-- What no step of a fold changes stays. -/
theorem foldl_keeps {α β : Type} {f : State → α → State} (F : State → β) (hf : ∀ s a, F (f s a) = F s) :
    ∀ (l : List α) (s : State), F (l.foldl f s) = F s
  | [], _ => rfl
  | a :: l, s => (foldl_keeps F hf l (f s a)).trans (hf s a)

/-- A change of each core of a list makes of one of them what each such change keeps. -/
theorem foldl_modCoreAt_makes {P Q : Core → Prop} {f : Core → Core} (hmake : ∀ k, Q k → P (f k)) (hkeep : ∀ k, P k → P (f k)) {n : Nat} :
    ∀ (l : List Nat) (s : State), (n ∈ l ∧ Q (s.coreAt n)) ∨ P (s.coreAt n) → P ((l.foldl (fun t c => t.modCoreAt c f) s).coreAt n)
  | [], _, h => h.resolve_left (fun h => absurd h.1 (by simp))
  | c :: l, s, h => by
    refine foldl_modCoreAt_makes hmake hkeep l (s.modCoreAt c f) ?_
    by_cases hc : n = c
    · subst hc
      rw [coreAt_modCoreAt_self]
      exact .inr (h.elim (fun h => hmake _ h.2) (hkeep _))
    · rw [coreAt_modCoreAt_ne _ _ _ _ hc]
      exact h.imp_left (fun ⟨hn, hq⟩ => ⟨List.mem_of_ne_of_mem hc hn, hq⟩)

theorem gc_modGc (s : State) (g : Nat) (f : Contract → Contract) : (s.modGc g f).gc g = f (s.gc g) := by
  rw [State.gc, State.modGc, guestAt_modGuest_self]
  rfl

theorem gc_of_guests {s t : State} (h : t.guests = s.guests) (g : Nat) : t.gc g = s.gc g := by
  rw [State.gc, State.guestAt, h]
  rfl

/-! ### The major frame -/

/-- The registers of the platform once the clock step has followed what the sensors gave, n cool frames on (R509). -/
def followed (stage n : Nat) (down : Bool) (p : Plat) : Plat :=
  if stage != 3 then p
  else if down then { p with cstep := min 4 (p.cstep + 1), coolFrames := 0 }
  else if 4 ≤ n ∧ p.cstep ≠ 0 then { p with cstep := p.cstep - 1, coolFrames := 0 }
  else p

theorem followed_full (stage n : Nat) (down : Bool) (p : Plat) : (followed stage n down p).full = p.full := by
  unfold followed
  split
  · rfl
  · split
    · rfl
    · split <;> rfl

/-- The registers of the platform after the clock step of a frame (R509). -/
def steppedPlat (s : State) : Plat :=
  let avg := Config.freeNat s.free 500 % 2 ^ 16
  let tj := Config.freeNat s.free 501 % 256
  let cap := if s.plat.cap = 0 then packageTdp else s.plat.cap
  let n := if decide (10 * avg < 9 * cap) && decide (tj < 100) then s.plat.coolFrames + 1 else 0
  followed s.plat.stage n (decide (cap < avg) || decide (110 ≤ tj)) { s.plat with avg := avg, tj := tj, coolFrames := n }

theorem clockStep_eq (s : State) : s.clockStep = if 125 ≤ Config.freeNat s.free 501 % 256
    then ({ s with plat := steppedPlat s } : State).tickFree.thermTrip else ({ s with plat := steppedPlat s } : State).tickFree := rfl

theorem steppedPlat_full (s : State) : (steppedPlat s).full = s.plat.full := followed_full ..

theorem thermTrip_frame (s : State) : s.thermTrip.frame = s.frame := rfl
theorem thermTrip_tb (s : State) : s.thermTrip.tb = s.tb := rfl
theorem thermTrip_ticked (s : State) : s.thermTrip.ticked = s.ticked := rfl

theorem hostIrq_full (s : State) (v : Nat) : (s.hostIrq v).plat.full = s.plat.full := by
  unfold State.hostIrq
  dsimp only
  split <;> rfl

theorem thermTrip_full (s : State) : s.thermTrip.plat.full = s.plat.full := hostIrq_full _ _

theorem clockStep_frame (s : State) : s.clockStep.frame = s.frame ∧ s.clockStep.tb = s.tb ∧ s.clockStep.ticked = s.ticked := by
  rw [clockStep_eq]
  split
  · rw [thermTrip_frame, thermTrip_tb, thermTrip_ticked]
    exact ⟨rfl, rfl, rfl⟩
  · exact ⟨rfl, rfl, rfl⟩

theorem clockStep_full (s : State) : s.clockStep.plat.full = s.plat.full := by
  rw [clockStep_eq]
  split
  · rw [thermTrip_full]
    exact steppedPlat_full s
  · exact steppedPlat_full s

/-- The frame registers once a frame has started. -/
def startedFrame (s : State) : State :=
  { s with
    frame := { regs := s.frame.next, next := s.frame.next, werr := (s.frame.werr - (s.frame.werr &&& s.frame.wclr)) ||| s.frame.next.check.2,
               acc := s.frame.next.check.1, guard := [], ended := [], startAt := s.time }
    plat := { s.plat with tsJump := 0 } }

theorem execFrameStart_due {s : State} (hdue : s.frameDue = true) (hjump : s.plat.tsJump = 0) (hfull : s.plat.full = false) :
    execFrameStart s = .next (startedFrame s).clockStep := by
  have hkeep : (startedFrame s).clockStep.plat.full = false := (clockStep_full _).trans hfull
  unfold startedFrame at hkeep ⊢
  simp only [execFrameStart, hdue, Bool.not_true, Bool.false_eq_true, if_false, hjump, Nat.zero_mul, Nat.mul_zero, Nat.add_zero, if_true, hkeep]

theorem askYield_frame (s : State) (c why ydl : Nat) : (s.askYield c why ydl).frame = s.frame := rfl

theorem askYield_guests (s : State) (c why ydl : Nat) : (s.askYield c why ydl).guests = s.guests := rfl

theorem execWindowGuard_due {s : State} {k : Nat} (hdue : s.guardDue k = true) :
    ∃ t, execWindowGuard k s = .next t ∧ t.frame.guard = s.frame.guard ++ [k] ∧
      ∀ c ∈ s.windowCores k, (s.coreAt c).mode = .run → (t.coreAt c).yreq = true := by
  refine ⟨_, congrArg Host.Outcome.next (if_neg (by rw [hdue]; decide)), ?_, fun c hc hmode => ?_⟩
  · exact congrArg (fun f : Frame => f.guard ++ [k]) (foldl_keeps State.frame (fun t c => askYield_frame t c _ _) (s.windowCores k) s)
  · refine foldl_modCoreAt_makes (P := fun k => k.yreq = true) (Q := fun k => k.mode = .run) ?_ ?_ (s.windowCores k) s (.inl ⟨hc, hmode⟩)
    · intro k hk
      simp [hk]
    · intro k hk
      split
      · rfl
      · exact hk

theorem execWindowEnd_due {s : State} {k : Nat} (hdue : s.endDue k = true) :
    ∃ t, execWindowEnd k s = .next t ∧ t.frame.ended = s.frame.ended ++ [k] ∧
      ∀ c ∈ s.windowCores k, (s.coreAt c).yreq = true → (t.coreAt c).ydl = 0 := by
  refine ⟨_, congrArg Host.Outcome.next (if_neg (by rw [hdue]; decide)), ?_, fun c hc hreq => ?_⟩
  · exact congrArg (fun f : Frame => f.ended ++ [k]) (foldl_keeps State.frame (fun t c => modCoreAt_frame t c _) (s.windowCores k) s)
  · refine foldl_modCoreAt_makes (P := fun k => k.ydl = 0) (Q := fun k => k.yreq = true) ?_ ?_ (s.windowCores k) s (.inl ⟨hc, hreq⟩)
    · intro k hk
      rw [if_pos hk]
    · intro k hk
      split
      · rfl
      · exact hk

/-! ### Contracts -/

section
variable {s : State} {g : Nat}

theorem execContractLoad_refuses {v : Nat} (hen : (s.gc g).en = false) (herr : (s.modGc g (fun c => c.ctlFields v)).loadErr g ≠ 0) :
    execContractLoad g v s = .next ((s.modGc g (fun c => c.ctlFields v)).modGc g
      (fun c => { c with err := (s.modGc g (fun c => c.ctlFields v)).loadErr g })) := by
  simp only [execContractLoad, hen, Bool.false_eq_true, if_false, if_pos herr]

theorem execContractLoad_loads {v : Nat} (hen : (s.gc g).en = false) (herr : (s.modGc g (fun c => c.ctlFields v)).loadErr g = 0) :
    ∃ t, execContractLoad g v s = .next t ∧ (t.gc g).en = true ∧ (t.gc g).gstate = 1 ∧ (t.gc g).err = 0 := by
  refine ⟨_, congrArg Host.Outcome.next ((if_neg (by rw [hen]; decide)).trans (if_neg (fun h => h herr))), ?_⟩
  rw [gc_modGc]
  exact ⟨rfl, rfl, rfl⟩

theorem execStart_waiting (h : (s.gc g).gstate = 1 ∨ (s.gc g).gstate = 4) : execStart g s =
    .next (if !(s.gc g).keyValid then s.modGc g (fun c => { c with err := 8 }) else s.modGc g (fun c => { c with gstate := 2 })) :=
  congrArg Host.Outcome.next (if_neg (by omega))

theorem askAll_guests (why : Nat) (l : List Nat) (s : State) :
    (l.foldl (fun t c => t.askYield c why t.frame.regs.pydl) s).guests = s.guests :=
  foldl_keeps State.guests (fun t c => askYield_guests t c _ _) l s

theorem stopBegin_gstate (s : State) (g : Nat) : ((s.stopBegin g).gc g).gstate = 3 := by
  unfold State.stopBegin
  rw [gc_of_guests (askAll_guests 3 _ _), State.gc, guestAt_modGuest_self]

theorem resizeTo_asks (s : State) (g part : Nat) : ((s.resizeTo g part).gc g).rsz = true ∧ ((s.resizeTo g part).guestAt g).newPart = part % 2 ^ 32 := by
  have hg : (s.resizeTo g part).guests =
      (s.modGuest g (fun x => { x with newPart := part % 2 ^ 32, gc := { x.gc with rsz := true } })).guests := askAll_guests 1 _ _
  rw [State.gc, State.guestAt, hg, ← State.guestAt, guestAt_modGuest_self]
  exact ⟨rfl, rfl⟩

theorem execGcMinWrite_writes {v : Nat} (hinstr : s.plat.instr = false) :
    ∃ t, execGcMinWrite g v s = .next t ∧ (t.gc g).minbw = bitsOf 63 48 v ∧ (t.gc g).minways = bitsOf 45 40 v ∧
      (t.gc g).mincl = bitsOf 37 32 v ∧ (t.gc g).minwin = bitsOf 16 0 v := by
  refine ⟨_, congrArg Host.Outcome.next (if_neg ?_), ?_⟩
  · rw [Bool.and_eq_true]
    exact fun h => Bool.noConfusion (hinstr.symm.trans h.1)
  · rw [gc_modGc]
    exact ⟨rfl, rfl, rfl, rfl⟩

end

/-! ### Resets of guests -/

theorem cutArray_guests (s : State) (n : Nat) : (s.cutArray n).guests = s.guests := by
  unfold State.cutArray
  split
  · split <;> rfl
  · rfl

theorem dropArray_guests (s : State) (n : Nat) : (s.dropArray n).guests = s.guests := rfl

theorem stopCore_guests (s : State) (n : Nat) : (s.stopCore n false).guests = s.guests := by
  simp only [State.stopCore, modCl_guests, modCoreAt_guests, dropArray_guests, cutArray_guests, Bool.false_eq_true, if_false]

theorem sendTo_guests (s : State) (car type slot : Nat) (b : List Nat) : (s.sendTo car type slot b).guests = s.guests := by
  unfold State.sendTo
  split <;> rfl

theorem resetColls_guests (s : State) (g : Nat) : (s.resetColls g).guests = s.guests := by
  refine foldl_keeps State.guests (fun t c => ?_) _ s
  exact (foldl_keeps State.guests (fun t c => sendTo_guests t c _ _ _) _ _ : State.guests (State.collTell _ _ _ _) = _)

/-- The guest of which a reset has dropped the records. -/
def forgotten (x : Guest) : Guest := { x with nodes := [], grps := [], saved := [], walks := [], stopWait := false, rpl := {} }

theorem resetBegin_guest (s : State) (g : Nat) : ∃ x : Guest, (s.resetBegin g).guestAt g = forgotten x ∧ x.gc.gstate = 5 := by
  unfold State.resetBegin
  dsimp only
  rw [State.guestAt, resetColls_guests, ← State.guestAt, guestAt_modGuest_self]
  refine ⟨_, rfl, ?_⟩
  refine (congrArg (fun t : Tab Guest => (Tab.get {} t g).gc.gstate)
    (?_ : _ = (s.modGc g (fun c => { c with gstate := 5, rsz := false })).guests)).trans ?_
  · refine (foldl_keeps State.guests (fun t c => modCoreAt_guests t c _) _ _).trans ((foldl_keeps State.guests ?_ _ _).trans
      (foldl_keeps State.guests (fun t c => stopCore_guests t c) _ _))
    intro t r
    split <;> rfl
  · exact congrArg Contract.gstate (gc_modGc s g (fun c => { c with gstate := 5, rsz := false }))

/-! ### The obligation -/

/-- Settles O53: each event of a frame and a contract, in the order of the statement. -/
theorem frameAndGuestEvents : Obligations.FrameAndGuestEvents := by
  unfold Obligations.FrameAndGuestEvents
  intro s g
  refine ⟨?_, fun k => execWindowGuard_due, fun k => execWindowEnd_due, ?_, ?_, ?_, ?_, ?_, fun v => execGcMinWrite_writes⟩
  · intro hdue hjump hfull
    obtain ⟨hframe, htb, hticked⟩ := clockStep_frame (startedFrame s)
    refine ⟨_, execFrameStart_due hdue hjump hfull, ?_⟩
    rw [hframe, htb, hticked]
    exact ⟨rfl, rfl, rfl, rfl, rfl, rfl, rfl, rfl⟩
  · intro v hen u
    exact ⟨execContractLoad_loads hen, execContractLoad_refuses hen⟩
  · intro h
    refine ⟨fun hkey => (execStart_waiting h).trans ?_, fun hkey => (execStart_waiting h).trans ?_⟩
    · rw [hkey]
      rfl
    · rw [hkey]
      rfl
  · intro h
    refine ⟨fun hrsz => ?_, fun hrsz => ⟨_, ?_, stopBegin_gstate s g⟩⟩
    · exact congrArg Host.Outcome.next ((if_neg (fun hne => hne h)).trans (if_pos hrsz))
    · exact congrArg Host.Outcome.next ((if_neg (fun hne => hne h)).trans (if_neg (by rw [hrsz]; decide)))
  · intro h0 h5
    obtain ⟨x, hx, hgs⟩ := resetBegin_guest s g
    refine ⟨rfl, _, congrArg Host.Outcome.next (if_neg (by omega)), ?_⟩
    rw [State.gc, hx]
    exact ⟨hgs, rfl, rfl, rfl⟩
  · intro part hen hgs
    refine ⟨_, congrArg Host.Outcome.next (if_pos ?_), resizeTo_asks _ g part⟩
    rw [hen, Bool.true_and, bne_iff_ne]
    exact hgs

end Sys2Proof.Proofs.FrameAndGuest
end

section
/-! Proofs. The events of keys, frames of the pool, attestation, counters, vectors and resources (R447, R449, R459 to R463). -/

namespace Sys2Proof.Proofs.KeyAndPool
open Sys2Proof Sys2Proof.Machine Sys2Proof.Proofs.Stores Sys2Proof.Proofs.MemoryEvents Sys2Proof.Proofs.FrameAndGuest

/-! ### Keys -/

theorem gc_setKey (s : State) (g : Nat) (key : List Nat) (valid : Bool) :
    (s.setKey g key valid).gc g = { s.gc g with key := key, keyValid := valid } :=
  gc_modGc { s with l2 := s.l2.filter (fun l => l.sel != g) } g (fun c => { c with key := key, keyValid := valid })

/-- What the 72 wrapped bytes at the source of a key read as. -/
def wrappedKey (s : State) (g : Nat) : State × List Nat :=
  (linePieces (s.gc g).keySrc 72).foldl (fun (p : State × List Nat) x =>
    let r := p.1.homeRead g 16 x.1 x.2; (r.1, p.2 ++ r.2.getD [])) (s, [])

section
variable {s : State} {g : Nat} (hfree : s.keyBusy g = false)
include hfree

theorem execGenerate_keys : ∃ t, execGenerate g s = .next t ∧ (t.gc g).keyValid = true ∧ (t.gc g).key.length = 64 ∧
    t.plat.nonce = s.plat.nonce + 1 := by
  refine ⟨_, congrArg Host.Outcome.next (if_neg (Bool.eq_false_iff.mp hfree)), ?_⟩
  rw [gc_setKey]
  exact ⟨rfl, by rw [List.length_map, List.length_range], rfl⟩

theorem execErase_clears : ∃ t, execErase g s = .next t ∧ (t.gc g).keyValid = false ∧ (t.gc g).key = List.replicate 64 0 ∧
    ∀ l ∈ t.l2, l.sel ≠ g := by
  refine ⟨_, congrArg Host.Outcome.next (if_neg (Bool.eq_false_iff.mp hfree)), ?_⟩
  rw [gc_setKey]
  exact ⟨rfl, rfl, fun l hl => bne_iff_ne.mp (List.mem_filter.mp hl).2⟩

theorem execImportKey_unwraps : ∃ (t : State) (b : List Nat), execImportKey g s = .next t ∧ (t.gc g).keyValid = (Config.keyUnwrap b).isSome ∧
    (t.gc g).key = match Config.keyUnwrap b with | some k => fixBytes 64 k | none => [] := by
  have himport : execImportKey g s = .next (match Config.keyUnwrap (wrappedKey s g).2 with
      | some k => (wrappedKey s g).1.setKey g (fixBytes 64 k) true
      | none => (wrappedKey s g).1.setKey g [] false) := congrArg Host.Outcome.next (if_neg (Bool.eq_false_iff.mp hfree))
  refine ⟨_, (wrappedKey s g).2, himport, ?_⟩
  cases Config.keyUnwrap (wrappedKey s g).2 with
  | some k =>
    dsimp only
    rw [gc_setKey]
    exact ⟨rfl, rfl⟩
  | none =>
    dsimp only
    rw [gc_setKey]
    exact ⟨rfl, rfl⟩

end

/-! ### Frames of the pool -/

theorem execPoolAlloc_gives {s : State} {g pa : Nat} {r : List Nat} (h : s.plat.poolClean = pa :: r) :
    execPoolAlloc g s = .next (({ s with plat := { s.plat with poolClean := r } } : State).giveFrame g pa) := by
  simp only [execPoolAlloc, h]

theorem execPoolAlloc_waits {s : State} {g : Nat} (h : s.plat.poolClean = []) :
    execPoolAlloc g s = .next { s with plat := { s.plat with poolWait := s.plat.poolWait ++ [g] } } := by
  simp only [execPoolAlloc, h]

/-- A guest from which a frame has been taken. -/
def withoutFrame (f : Nat) (x : Guest) : Guest := { x with frames := x.frames.filter (fun y => y != f) }

theorem releaseFrame_joins {s : State} {pa : Nat} (hclean : s.plat.poolClean.contains (frameOf pa) = false)
    (hscrub : s.plat.poolScrub.contains (frameOf pa) = false) :
    s.releaseFrame pa = { s with
      l2 := s.l2.filter (fun l => frameOf l.pa != frameOf pa)
      guests := s.guests.map (fun p => (p.1, withoutFrame (frameOf pa) p.2))
      plat := { s.plat with poolScrub := s.plat.poolScrub ++ [frameOf pa] } } := by
  simp only [State.releaseFrame, hclean, hscrub, Bool.or_self, Bool.false_eq_true, if_false, withoutFrame]

/-- A read of a cleared range, and of what lies beside it. -/
theorem memGet_memClear (lo n a : Nat) : ∀ m : List Host.Cell,
    memGet (memClear m lo n) a = if lo ≤ a ∧ a < lo + n then 0 else memGet m a
  | [] => by
    simp only [memClear, List.filter_nil, memGet]
    split <;> rfl
  | (b, v) :: m => by
    have ih := memGet_memClear lo n a m
    simp only [memClear] at ih
    simp only [memClear, List.filter_cons, memGet]
    by_cases hb : lo ≤ b ∧ b < lo + n
    · simp only [hb, decide_true, Bool.and_self, Bool.not_true, Bool.false_eq_true, if_false, ih]
      by_cases h : b = a
      · subst h
        rw [if_pos hb, if_pos hb]
      · rw [if_neg h]
    · have hkeep : (!(decide (lo ≤ b) && decide (b < lo + n))) = true := by
        rwa [← Bool.decide_and, Bool.not_eq_true', decide_eq_false_iff_not]
      rw [if_pos hkeep, memGet, ih]
      by_cases h : b = a
      · subst h
        rw [if_pos rfl, if_neg hb, if_pos rfl]
      · rw [if_neg h, if_neg h]

/-- A frame that no read waits for is clean once it is scrubbed. -/
theorem execFrameScrub_cleans {s : State} {f : Nat} {r : List Nat} (hscrub : s.plat.poolScrub = f :: r) (hwait : s.plat.poolWait = []) :
    ∃ t, execFrameScrub s = .next t ∧ t.plat.poolScrub = r ∧ t.plat.poolClean = s.plat.poolClean ++ [f] ∧ t.mem = memClear s.mem f (2 ^ 21) := by
  refine ⟨_, rfl, ?_⟩
  simp only [hscrub, hwait, and_self]

/-! ### Attestation -/

theorem mixWord_length (kw : BitVec 32) (h : List (BitVec 32)) : (mixWord kw h).length = h.length := by
  unfold mixWord
  split
  · next p q r o u v x z htake hdrop =>
    have hsplit := List.take_append_drop 4 h
    rw [htake, hdrop] at hsplit
    rw [← hsplit]
    rfl
  · rfl

theorem foldl_mixWord_length : ∀ (l h : List (BitVec 32)), (l.foldl (fun h kw => mixWord kw h) h).length = h.length
  | [], _ => rfl
  | kw :: l, h => (foldl_mixWord_length l (mixWord kw h)).trans (mixWord_length kw h)

theorem mixBlock_length (h : List (BitVec 32)) (b : List Nat) : (mixBlock h b).length = h.length := by
  simp only [mixBlock, List.length_zipWith, foldl_mixWord_length, Nat.min_self]

theorem foldl_mixBlock_length (f : Nat → List Nat) : ∀ (l : List Nat) (h : List (BitVec 32)),
    (l.foldl (fun h i => mixBlock h (f i)) h).length = h.length
  | [], _ => rfl
  | i :: l, h => (foldl_mixBlock_length f l (mixBlock h (f i))).trans (mixBlock_length h (f i))

theorem eight_primes : (firstPrimes.take 8).length = 8 := by decide +kernel

theorem length_sha256 (m : List Nat) : (sha256 m).length = 32 := by
  have hbe (w : BitVec 32) : (toBe 4 w.toNat).length = 4 := by rw [toBe, List.length_reverse, length_toLe]
  simp only [sha256, List.length_flatMap, hbe, List.map_const', List.sum_replicate, foldl_mixBlock_length, List.length_map, eight_primes]
  rfl

theorem length_fixBytes (n : Nat) (l : List Nat) : (fixBytes n l).length = n := by rw [fixBytes, List.length_map, List.length_range]

theorem reportBody_length (s : State) (g : Nat) (nonce : List Nat) : (s.reportBody g nonce []).length = 224 + nonce.length := by
  simp only [State.reportBody, fwBytes, List.length_append, length_toLe, length_sha256, length_fixBytes, List.length_replicate, List.length_cons,
    List.length_nil, List.isEmpty_nil, if_true]
  omega

section
variable {s : State} {g : Nat} (hen : (s.gc g).en = true)
include hen

theorem execAttestation_exhausted (hhss : 2 ^ 30 ≤ s.plat.hss) :
    execAttestation g s = .next (s.statusEvent g 6 0 1 (s.guestAt g).attOut) :=
  congrArg Host.Outcome.next ((if_neg (by rw [show (s.guestAt g).gc.en = true from hen]; decide)).trans (if_pos hhss))

/-- The state that a report leaves, of a guest whose last record named no image. -/
def reported (s u : State) (g : Nat) (nonce : List Nat) : State × Except (Nat × Nat) Unit :=
  ({ u with plat := { u.plat with hss := u.plat.hss + 1 } } : State).gWrite g (s.guestAt g).attOut
    (u.reportBody g nonce [] ++ hssBytes s.plat.hss (u.reportBody g nonce []))

theorem execAttestation_reports {u : State} {nonce : List Nat} (hhss : s.plat.hss < 2 ^ 30) (himg : (s.guestAt g).lastImg = 0)
    (hread : s.gRead g (s.guestAt g).attNonce 32 = (u, .ok nonce)) :
    execAttestation g s = .next (match (reported s u g nonce).2 with
      | .ok () => (reported s u g nonce).1.statusEvent g 6 0 0 (s.guestAt g).attOut
      | .error e => (reported s u g nonce).1.statusEvent g 1 e.1 0 e.2) := by
  have hen' : (s.guestAt g).gc.en = true := hen
  simp only [execAttestation, hen', Bool.not_true, Bool.false_eq_true, if_false, if_neg (Nat.not_le.mpr hhss), hread, himg, if_true]
  unfold reported
  generalize State.gWrite _ g _ _ = r
  obtain ⟨t, e | ⟨⟩⟩ := r
  · rfl
  · rfl

end

/-! ### Vectors and resources -/

theorem irq_modGuest (s : State) (g v : Nat) (q : IrqVec) :
    (((s.modGuest g (fun x => { x with irq := x.irq.set v q })).guestAt g).irq.get {} v) = q := by
  rw [guestAt_modGuest_self]
  exact Tab.get_set_self ..

/-- The message of an unmasked vector is sent at once. -/
theorem sendMsg_unmasked {s : State} {g v : Nat} (h : ((s.guestAt g).irq.get {} v).masked = false) :
    (((s.sendMsg g v).guestAt g).irq.get {} v).masked = false ∧ (s.sendMsg g v).msgs = s.msgs ++ [(g + 1, v)] := by
  simp only [State.sendMsg, h, Bool.false_eq_true, if_false]
  exact ⟨congrArg IrqVec.masked (irq_modGuest s g v _), rfl⟩

theorem execVectorUnmask_sends (s : State) (g v : Nat) : ∃ t, execVectorUnmask g v s = .next t ∧ ((t.guestAt g).irq.get {} v).masked = false ∧
    t.msgs = s.msgs ++ (if ((s.guestAt g).irq.get {} v).waiting then [(g + 1, v)] else []) := by
  have hq := irq_modGuest s g v { (s.guestAt g).irq.get {} v with masked := false }
  cases hw : ((s.guestAt g).irq.get {} v).waiting with
  | true => exact ⟨_, congrArg Host.Outcome.next (if_pos hw), sendMsg_unmasked (congrArg IrqVec.masked hq)⟩
  | false => exact ⟨_, congrArg Host.Outcome.next (if_neg (Bool.eq_false_iff.mp hw)), congrArg IrqVec.masked hq, (List.append_nil _).symm⟩

theorem resKey_bank {id : Nat} (h : id < 256) : resKey id = some (id, id / 8) := if_pos (Nat.div_eq_of_lt h)

section
variable (s : State) {id : Nat} (hid : id < 256)
include hid

theorem execHostClaim_bank : ∃ t, execHostClaim id s = .next t ∧ t.plat.res.get 0 id =
    (if s.plat.res.get 0 id = 0 then 17 else if s.plat.res.get 0 id < 17 then s.plat.res.get 0 id + 17 else s.plat.res.get 0 id) := by
  have hbank : ¬ (256 ≤ id ∧ 1 ≤ s.plat.res.get 0 id ∧ s.plat.res.get 0 id < 17) := by omega
  refine ⟨_, rfl, ?_⟩
  simp only [resKey_bank hid, if_neg hbank, Tab.get_set_self]

theorem execHostRelease_bank : ∃ t, execHostRelease id s = .next t ∧ t.plat.res.get 0 id =
    (if s.plat.res.get 0 id = 17 then 0 else if 18 ≤ s.plat.res.get 0 id then s.plat.res.get 0 id - 17 else s.plat.res.get 0 id) := by
  refine ⟨_, rfl, ?_⟩
  simp only [resKey_bank hid, if_neg (Nat.not_le.mpr hid)]
  by_cases h17 : s.plat.res.get 0 id = 17
  · simp only [h17, if_true, Tab.get_del_self]
  · simp only [if_neg h17]
    split
    · exact Tab.get_set_self ..
    · rfl

end

/-! ### The obligation -/

/-- Settles O54: each event, in the order of the statement. -/
theorem keyAndPoolEvents : Obligations.KeyAndPoolEvents := by
  unfold Obligations.KeyAndPoolEvents
  intro s g
  refine ⟨fun hfree => ⟨execGenerate_keys hfree, execErase_clears hfree, execImportKey_unwraps hfree⟩, ?_, execPoolAlloc_waits, ?_, ?_,
    execAttestation_exhausted, ?_, ?_, ?_, execVectorUnmask_sends s g, fun id hid => ⟨execHostClaim_bank s hid, execHostRelease_bank s hid⟩⟩
  · intro pa r h
    refine ⟨_, execPoolAlloc_gives h, rfl, ?_, rfl⟩
    rw [State.giveFrame, guestAt_modGuest_self]
    rfl
  · intro pa hclean hscrub
    refine ⟨_, congrArg Host.Outcome.next (releaseFrame_joins hclean hscrub), rfl, fun h f hf => ?_, fun l hl => bne_iff_ne.mp (List.mem_filter.mp hl).2⟩
    have hframes := field_get_map {} (withoutFrame (frameOf pa)) Guest.frames _ (fun _ => rfl) rfl s.guests h
    exact bne_iff_ne.mp (List.mem_filter.mp ((congrArg (f ∈ ·) hframes).mp hf)).2
  · intro f r hscrub hwait
    obtain ⟨t, ht, hs, hc, hm⟩ := execFrameScrub_cleans hscrub hwait
    refine ⟨t, ht, hs, hc, fun a hlo hhi => ?_, fun a hout => ?_⟩
    · rw [hm, memGet_memClear, if_pos ⟨hlo, hhi⟩]
    · rw [hm, memGet_memClear, if_neg hout]
  · intro u nonce hen hhss himg hread w body r
    exact ⟨reportBody_length u g nonce, rfl, execAttestation_reports hen hhss himg hread⟩
  · intro e v he
    refine ⟨_, rfl, ?_⟩
    rw [Nat.mod_eq_of_lt he, State.evAdd, guestAt_modGuest_self]
    exact Tab.get_set_self ..
  · intro v hdue
    exact congrArg Host.Outcome.next (if_pos hdue)

end Sys2Proof.Proofs.KeyAndPool
end

section
/-! Proofs. The events of debug, trace and replay (R219, R475 to R484, R489, R490). -/

namespace Sys2Proof.Proofs.DebugEvents
open Sys2Proof Sys2Proof.Machine Sys2Proof.Proofs.WriteBack Sys2Proof.Proofs.FrameAndGuest

/-! ### Cleaning the L1 leaves the synchronous state of every core -/

/-- The synchronous state of every core is the same. -/
def SameSync (s t : State) : Prop := ∀ c, (t.coreAt c).sync = (s.coreAt c).sync

namespace SameSync

theorem refl (s : State) : SameSync s s := fun _ => rfl

theorem trans {s t u : State} (h : SameSync s t) (h' : SameSync t u) : SameSync s u := fun c => (h' c).trans (h c)

theorem of_cores {s t : State} (h : t.cores = s.cores) : SameSync s t := fun c => by rw [State.coreAt, h]; rfl

theorem modCoreAt (s : State) (n : Nat) {f : Core → Core} (hf : ∀ k, (f k).sync = k.sync) : SameSync s (s.modCoreAt n f) := by
  intro c
  by_cases h : c = n
  · rw [h, coreAt_modCoreAt_self, hf]
  · rw [coreAt_modCoreAt_ne _ _ _ _ h]

theorem foldl {α : Type} {f : State → α → State} (hf : ∀ s a, SameSync s (f s a)) : ∀ (l : List α) (s : State), SameSync s (l.foldl f s)
  | [], s => refl s
  | a :: l, s => (hf s a).trans (foldl hf l (f s a))

theorem ite {s t u : State} {p : Prop} [Decidable p] (h : SameSync s t) (h' : SameSync s u) : SameSync s (if p then t else u) := by
  split
  · exact h
  · exact h'

theorem homeRead (s : State) (g sel pa n : Nat) : SameSync s (s.homeRead g sel pa n).1 := by
  refine of_cores ?_
  unfold State.homeRead
  dsimp only
  split
  · split <;> rfl
  · split
    · rw [cores_logMemue, cores_chargeCtl]
    · split
      · rw [cores_chargeCtl]
      · rw [cores_l2Alloc, cores_chargeCtl]

theorem l1WriteBack (s : State) (n : Nat) (l : L1Line) : SameSync s (s.l1WriteBack n l) := by
  refine foldl (fun t r => ?_) _ _
  dsimp only
  have hpay : SameSync t (if t.pays = .direct then t.charge (dieOf n) (clOf n % 8) (s.coreAt n).guest (unitsOf r.2.length)
      else t.post (some n) (dieOf n) (clOf n % 8) (s.coreAt n).guest (unitsOf r.2.length)) := ite (of_cores (cores_charge t _ _ _ _)) (refl t)
  exact ite (hpay.trans (of_cores (homeWrite_core _ _ _ _ _).1))
    ((hpay.trans (of_cores (homeWrite_core _ _ _ _ _).1)).trans (modCoreAt _ n (fun k => by split <;> rfl)))

theorem l1Clean (s : State) (n : Nat) : SameSync s (s.l1Clean n) :=
  (foldl (fun t l => l1WriteBack t n l) _ s).trans (modCoreAt _ n (fun _ => rfl))

theorem l1Refresh (s : State) (n : Nat) (l : L1Line) : SameSync s (s.l1Refresh n l) := by
  have hread := homeRead (s.post (some n) (dieOf n) (clOf n % 8) (s.coreAt n).guest 2) (s.coreAt n).guest l.sel l.pa 128
  unfold State.l1Refresh
  dsimp only
  split
  · exact hread
  · exact SameSync.trans hread (modCoreAt _ n (fun _ => rfl))

theorem l1DropClean (s : State) (n : Nat) : SameSync s (s.l1DropClean n) := by
  have hdrop : SameSync s (s.modCoreAt n (fun k => { k with l1 := k.l1.filter (fun l => l.dirty.any id || !l.pins.isEmpty) })) :=
    modCoreAt s n (fun _ => rfl)
  exact SameSync.trans hdrop (foldl (fun t l => ite (l1Refresh t n l) (refl t)) _ _)

end SameSync

/-! ### Stops -/

section
variable {s : State} {n : Nat}

theorem coreAt_traceRec (s : State) (c type aux addr data m : Nat) : (s.traceRec c type aux addr data).coreAt m = s.coreAt m := by
  unfold State.traceRec State.traceRecAt
  dsimp only
  rw [apply_ite (fun t : State => t.coreAt m)]
  exact ite_self _

/-- A core that stands in a stop. -/
def stoppedBy (why : Nat) (k : Core) : Core :=
  { k with dbg := { k.dbg.idle with stopped := true, why := why, code := k.stopCode why, addr := k.sync.pc } }

theorem debugStop_checkpoints {why : Nat} (hwhy : s.stopWhy n = some why) (hdue : s.stopDue n = true) (hck : (s.coreAt n).dbg.ck = false) :
    execDebugStop n s = .next ((s.ckptBase n (s.coreAt n).sync.pc (s.coreAt n).seqNo (s.coreAt n).sync).modCoreAt n
      (fun k => { k with dbg := { k.dbg with ck := true } })) := by
  simp only [execDebugStop, hwhy, hdue, hck, Bool.not_true, Bool.not_false, Bool.false_eq_true, if_false, if_true]

theorem debugStop_stops {why : Nat} (hwhy : s.stopWhy n = some why) (hdue : s.stopDue n = true) (hck : (s.coreAt n).dbg.ck = true) :
    execDebugStop n s = .next ((s.modCoreAt n (stoppedBy why)).traceRec n 6 why (s.coreAt n).sync.pc 0) := by
  simp only [execDebugStop, hwhy, hdue, hck, Bool.not_true, Bool.false_eq_true, if_false]
  rfl

/-- A core that goes on after a stop. -/
def resumed (now : Nat) (c : Nat × Nat) (k : Core) : Core :=
  { k with fbBytes := [], fbFault := none, readyAt := max k.readyAt now, dbg := { k.dbg.idle with step := true, skip := bitOf 4 c.1 } }

theorem resumeBy_resumes {c : Nat × Nat} (hstop : (s.coreAt n).dbg.stopped = true) :
    s.resumeBy n (some c) = ((s.l1Clean n).l1DropClean n).modCoreAt n (resumed s.now c) := by
  simp only [State.resumeBy, hstop, Bool.not_true, Bool.false_eq_true, if_false]
  rfl

/-- A write of a register file of a stopped core. -/
def dbgPutBy (c : Nat × Nat) (v : Nat) (k : Core) : Core :=
  { k with sync := k.sync.dbgPut (k.mode == .handler) (bitsOf 31 28 c.2) (bitsOf 24 16 c.2) (bitsOf 4 0 c.2) (BitVec.ofNat 64 v) }

theorem dbgWrite_puts {c : Nat × Nat} {v : Nat} (hstop : (s.coreAt n).dbg.stopped = true) (hfile : bitsOf 31 28 c.2 ≠ 9) :
    s.dbgWrite n (some c) v = (s.modCoreAt n (dbgPutBy c v)).modCoreAt n (fun k => { k with shadow := k.sync.landed s.free }) := by
  simp only [State.dbgWrite, hstop, Bool.not_true, Bool.false_eq_true, if_false, if_neg hfile]
  rfl

end

/-! ### Trace -/

theorem set_set {α : Type} : ∀ (t : Tab α) (k : Nat) (v w : α), (t.set k v).set k w = t.set k w
  | [], k, v, w => by simp [Tab.set]
  | (j, x) :: t, k, v, w => by
    have ih := set_set t k v w
    simp only [Tab.set]
    by_cases hlt : k < j
    · simp [hlt, Tab.set]
    · by_cases heq : j = k
      · simp [heq, Tab.set]
      · simp [hlt, heq, Tab.set, ih]

theorem modCl_modCl (s : State) (i : Nat) (f h : Cluster → Cluster) : (s.modCl i f).modCl i h = s.modCl i (fun c => h (f c)) := by
  have hcl := clAt_modCl_self s i f
  rw [State.modCl, hcl]
  exact congrArg (fun t => { s with cls := t }) (set_set s.cls i (f (s.clAt i)) (h (f (s.clAt i))))

section
variable {s : State} {cl j : Nat} (hj : j < 8) (hdue : s.sampleDue cl j = true)
include hj hdue

/-- The trace unit with the time of the next sample of core j moved on. -/
def sampled (j now : Nat) (c : Cluster) : Cluster := { c with trc := { c.trc with nextAt := c.trc.nextAt.set j (now + c.trc.period) } }

theorem execTraceSample_due (hcl : cl < 32) : execTraceSample cl j s = .next (if (s.coreAt (8 * cl + j)).hasContext
    then (s.modCl cl (sampled j s.now)).traceRec (8 * cl + j) 5 ((s.coreAt (8 * cl + j)).mClass s.now) (s.coreAt (8 * cl + j)).sync.pc
      ((s.coreAt (8 * cl + j)).sampleData s.now)
    else s.modCl cl (sampled j s.now)) := by
  simp only [execTraceSample, hdue, decide_eq_false (Nat.not_le.mpr hcl), decide_eq_false (Nat.not_le.mpr hj), Bool.not_true, Bool.or_self,
    Bool.false_eq_true, if_false]
  rfl

/-- A record of a core that its trace unit traces enters the unit. -/
theorem traceRec_sampled {aux addr data : Nat} (htypes : bitOf 5 (s.clAt cl).trc.types = true)
    (hhost : 17 ≤ s.plat.res.get 0 (256 + cl) → bitOf (s.coreAt (8 * cl + j)).guest (s.clAt cl).trc.gmask = true)
    (hguest : s.plat.res.get 0 (256 + cl) < 17 → s.plat.res.get 0 (256 + cl) = (s.coreAt (8 * cl + j)).guest + 1) :
    (s.modCl cl (sampled j s.now)).traceRec (8 * cl + j) 5 aux addr data = s.modCl cl (fun x => { x with trc := { x.trc with
      nextAt := x.trc.nextAt.set j (s.now + x.trc.period)
      recs := x.trc.recs ++ [(j, (s.coreAt (8 * cl + j)).guest,
        [5, (s.coreAt (8 * cl + j)).traceFlags] ++ toLe 2 ((if s.portUp 0 || s.portUp 1 then s.fab.car else 0) * 256 + (8 * cl + j) +
          (s.coreAt (8 * cl + j)).guest * 4096) ++ toLe 2 aux ++ [0, 0] ++ toLe 8 addr ++ toLe 8 (s.coreAt (8 * cl + j)).cycle ++ toLe 8 data)] } }) := by
  have hclOf : clOf (8 * cl + j) = cl := by unfold clOf; omega
  have hmod : (8 * cl + j) % 8 = j := by omega
  simp only [State.sampleDue, Bool.and_eq_true] at hdue
  obtain ⟨⟨⟨hen, -⟩, hcores⟩, -⟩ := hdue
  have hmine : (if 17 ≤ s.plat.res.get 0 (256 + cl) then bitOf (s.coreAt (8 * cl + j)).guest (s.clAt cl).trc.gmask
      else s.plat.res.get 0 (256 + cl) == (s.coreAt (8 * cl + j)).guest + 1) = true := by
    split
    · next h => exact hhost h
    · next h => exact beq_iff_eq.mpr (hguest (Nat.lt_of_not_le h))
  have htraced : (!((s.clAt cl).trc.en && bitOf j (s.clAt cl).trc.cores && bitOf 5 (s.clAt cl).trc.types &&
      (if 17 ≤ s.plat.res.get 0 (256 + cl) then bitOf (s.coreAt (8 * cl + j)).guest (s.clAt cl).trc.gmask
        else s.plat.res.get 0 (256 + cl) == (s.coreAt (8 * cl + j)).guest + 1))) = false := by
    rw [hen, hcores, htypes, hmine]
    rfl
  unfold State.traceRec State.traceRecAt
  rw [hclOf, hmod, clAt_modCl_self]
  exact (if_neg (Bool.eq_false_iff.mp htraced)).trans (modCl_modCl s cl _ _)

end

/-! ### Replays -/

theorem rplAt_modRpl (s : State) (g : Nat) (f : Replay → Replay) : (s.modRpl g f).rplAt g = f (s.rplAt g) :=
  congrArg Guest.rpl (guestAt_modGuest_self s g (fun x => { x with rpl := f x.rpl }))

theorem freshResource_guests (s : State) (k : Nat) : (s.freshResource k).guests = s.guests := by
  unfold State.freshResource
  split
  · rfl
  · exact foldl_keeps State.guests (fun t i => modCoreAt_guests t _ _) _ _

theorem guestClaim_rplAt (s : State) (g id : Nat) : ((s.guestClaim g id).1).rplAt g = s.rplAt g := by
  unfold State.guestClaim
  split
  · rfl
  · split
    · rfl
    · dsimp only
      split
      · simp only [State.rplAt, State.guestAt, State.modGuest, Tab.get_set_self, freshResource_guests]
      · split <;> rfl

section
variable {s v : State} {g : Nat} {node : Node}

/-- The replay block of a replay that is to start. -/
def freshReplay (r : Replay) : Replay :=
  { r with reason := 0, firstmm := 0, done := 0, pass := 0, abort := false, sigs := [], sigs1 := [], shots := [], winPages := 0 }

theorem execReplayGo_starts {cl : Nat} (hg : g < 16) (hbusy : (s.rplAt g).busy = false)
    (hread : (s.modRpl g freshReplay).nodeRead g (s.rplAt g).node = (v, .ok node)) (hrep : v.replayable g node = true)
    (hcl : v.replayCluster g node = some cl) (hclaim : ∀ c ∈ node.coresOn cl, (v.guestClaim g c).2 = 0) :
    execReplayGo g s = .next (((node.coresOn cl).foldl (fun t c => (t.guestClaim g c).1) v).modRpl g
      (fun r => { r with busy := true, cl := cl })) := by
  have hnone : ((node.coresOn cl).any (fun c => (v.guestClaim g c).2 != 0)) = false := by
    rw [List.any_eq_false]
    intro c hc
    rw [hclaim c hc]
    decide
  unfold freshReplay at hread
  simp only [execReplayGo, hbusy, decide_eq_false (Nat.not_le.mpr hg), Bool.or_self, Bool.false_eq_true, if_false, hread, hrep, hcl, hnone]

theorem claimed_rplAt (l : List Nat) (v : State) (g : Nat) : ((l.foldl (fun t c => (t.guestClaim g c).1) v).rplAt g) = v.rplAt g :=
  foldl_keeps (fun t => t.rplAt g) (fun t c => guestClaim_rplAt t g c) l v

/-- The READY record of a pass. -/
def passRecord (node : Node) (x : Guest) : Node := { node with id := x.nextId, st := 1, count := 1, order := x.nextOrder, replay := true }

/-- The guest that has entered the record of a pass. -/
def passEntered (node : Node) (x : Guest) : Guest :=
  { x with
    nodes := x.nodes.filter (fun m => !m.replay) ++ [passRecord node x]
    nextId := x.nextId + 1, nextOrder := x.nextOrder + 1, lastImg := node.field 40 8 }

theorem passEntered_replay (node : Node) (x : Guest) : (passEntered node x).nodes.filter (fun m => m.replay) = [passRecord node x] := by
  have hold : (x.nodes.filter (fun m => !m.replay)).filter (fun m => m.replay) = [] := by
    simp only [List.filter_filter, Bool.and_not_self, List.filter_false]
  rw [passEntered, List.filter_append, hold]
  rfl

/-- What a pass that can find its record and has room for its windows ends with. -/
theorem passStart_enters {p : Nat} (hread : s.nodeRead g (s.rplAt g).node = (v, .ok node)) (hrep : v.replayable g node = true)
    (hroom : p = 1 → (node.coresOn (s.rplAt g).cl).length * (s.gc g).wlen ≤ (s.rplAt g).pages) :
    ∃ e : State × List Nat, s.passStart g p =
      ((((node.coresOn (s.rplAt g).cl).foldl (fun t c => t.modCoreAt c (fun k => k.passBank e.2)) e.1).modGuest g (passEntered node)).modRpl g
        (fun r => { r with pass := p, sigs := [] })) := by
  have hfits : ¬ (p = 1 ∧ (s.rplAt g).pages < (node.coresOn (s.rplAt g).cl).length * (s.guestAt g).gc.wlen) :=
    fun h => absurd h.2 (Nat.not_lt.mpr (hroom h.1))
  unfold State.passStart
  simp only [hread, hrep, Bool.not_true, Bool.false_eq_true, if_false, if_neg hfits]
  exact ⟨_, rfl⟩

theorem passBank_counts (k : Core) (sel : List Nat) : ∀ i < 4, ((k.passBank sel).pmc.get {} i).count = 0 := by
  intro i hi
  match i, hi with
  | 0, _ | 1, _ | 2, _ | 3, _ => rfl

theorem banked_cores {e : State × List Nat} {l : List Nat} : ∀ c ∈ l,
    (((l.foldl (fun t c => t.modCoreAt c (fun k => k.passBank e.2)) e.1).coreAt c).mcyc = [] ∧
      ((l.foldl (fun t c => t.modCoreAt c (fun k => k.passBank e.2)) e.1).coreAt c).pmctl = 0xF ∧
      ∀ i < 4, (((l.foldl (fun t c => t.modCoreAt c (fun k => k.passBank e.2)) e.1).coreAt c).pmc.get {} i).count = 0) := by
  intro c hc
  refine foldl_modCoreAt_makes (P := fun k => k.mcyc = [] ∧ k.pmctl = 0xF ∧ ∀ i < 4, (k.pmc.get {} i).count = 0) (Q := fun _ => True)
    (fun k _ => ⟨rfl, rfl, passBank_counts k _⟩) (fun k _ => ⟨rfl, rfl, passBank_counts k _⟩) l e.1 (.inl ⟨hc, trivial⟩)

theorem execReplayPass_first (hbusy : (s.rplAt g).busy = true) (hpass : (s.rplAt g).pass = 0) : execReplayPass g s = .next (s.passStart g 1) := by
  have hdue : s.passDue g = true := by simp [State.passDue, hbusy, hpass]
  simp only [execReplayPass, hdue, hpass, Bool.not_true, Bool.false_eq_true, if_false, if_true]

theorem execReplayPass_next (hdue : s.passDue g = true) (hpass : (s.rplAt g).pass ≠ 0) :
    execReplayPass g s = .next (match s.replayNode g with
      | none => s.replayStop g 4
      | some n => if ((s.passEnd g n).rplAt g).busy then (s.passEnd g n).passStart g ((s.rplAt g).pass + 1) else s.passEnd g n) := by
  simp only [execReplayPass, hdue, Bool.not_true, Bool.false_eq_true, if_false, if_neg hpass] <;> rfl

end

/-! ### The obligation -/

/-- Settles O55: each event, in the order of the statement. -/
theorem debugEvents : Obligations.DebugEvents := by
  unfold Obligations.DebugEvents
  intro s n k
  refine ⟨?_, ?_, ?_, ?_, ?_, ?_, ?_, ?_, ?_, ?_, ?_, ?_, ?_⟩
  · intro why hwhy hdue
    refine ⟨debugStop_checkpoints hwhy hdue, fun hck _ => ⟨_, debugStop_stops hwhy hdue hck, ?_⟩⟩
    rw [coreAt_traceRec, coreAt_modCoreAt_self]
    exact ⟨rfl, rfl, rfl, rfl⟩
  · intro hview hstop
    refine congrArg Host.Outcome.next (if_pos ?_)
    rw [hview, Bool.true_and, Bool.not_eq_true']
    exact hstop
  · intro c hview hstop
    refine ⟨⟨((s.l1Clean n).l1DropClean n).modCoreAt n (resumed s.now c), ?_, ?_⟩, fun v hfile => ?_⟩
    · rw [← resumeBy_resumes hstop, ← hview]
      rfl
    · have hsync := (SameSync.l1Clean s n).trans (SameSync.l1DropClean _ n) n
      rw [coreAt_modCoreAt_self]
      exact ⟨rfl, rfl, hsync, rfl⟩
    · refine ⟨(s.modCoreAt n (dbgPutBy c v)).modCoreAt n (fun k => { k with shadow := k.sync.landed s.free }), ?_, ?_⟩
      · rw [← dbgWrite_puts hstop hfile, ← hview]
        rfl
      · rw [coreAt_modCoreAt_self, coreAt_modCoreAt_self]
        exact ⟨rfl, rfl⟩
  · intro cl v hcl hbit
    refine ⟨_, congrArg Host.Outcome.next (if_neg (Nat.not_le.mpr hcl)), ?_⟩
    rw [clAt_modCl_self]
    exact ⟨hbit, if_pos hbit, rfl⟩
  · intro cl j hcl hj hdue hctx
    rw [show exec (.traceSample cl j) s = _ from execTraceSample_due hj hdue hcl, hctx]
    rfl
  · intro cl j hcl hj hdue hctx c u holder up flags record htypes hhost hguest
    rw [show exec (.traceSample cl j) s = _ from execTraceSample_due hj hdue hcl, if_pos hctx, traceRec_sampled hj hdue htypes hhost hguest]
    have hflags : (s.coreAt (8 * cl + j)).traceFlags = flags := by simp only [Core.traceFlags, beq_iff_eq]; rfl
    have hup : (if s.portUp 0 || s.portUp 1 then s.fab.car else 0) = if up then s.fab.car else 0 := by simp only [Bool.or_eq_true]; rfl
    rw [hflags, hup]
  · intro hn hres hbank
    refine ⟨?_, fun i hi => ?_⟩
    · refine congrArg Host.Outcome.next ((if_neg (by omega)).trans ?_)
      simp only [hbank, Bool.false_eq_true, if_false]
    · refine congrArg Host.Outcome.next ((if_neg (by omega)).trans ?_)
      simp only [hbank, Bool.false_eq_true, if_false]
  · intro hn
    exact congrArg Host.Outcome.next (if_neg (Nat.not_le.mpr hn))
  · intro g hg hbusy u v node cl hread hrep hcl hclaim
    refine ⟨_, execReplayGo_starts hg hbusy hread hrep hcl hclaim, ?_⟩
    rw [rplAt_modRpl, claimed_rplAt]
    exact ⟨rfl, rfl, rfl⟩
  · intro g hbusy
    exact congrArg Host.Outcome.next (if_pos hbusy)
  · intro g p v node hread hrep cores hroom t
    obtain ⟨e, he⟩ := passStart_enters hread hrep hroom
    have ht : t = _ := he
    refine ⟨?_, ?_, ?_, ?_, ?_⟩
    · rw [ht, rplAt_modRpl]
    · rw [ht, rplAt_modRpl]
    · obtain ⟨x, hx⟩ : ∃ x, (t.guestAt g).nodes.filter (fun x => x.replay) = [passRecord node x] := by
        rw [ht, State.modRpl, guestAt_modGuest_self, guestAt_modGuest_self]
        exact ⟨_, passEntered_replay node _⟩
      exact ⟨_, hx, rfl, rfl, rfl⟩
    · intro c hc
      rw [ht]
      exact banked_cores c hc
    · intro hbusy hpass hp
      subst hp
      exact execReplayPass_first hbusy hpass
  · intro g n hdue hpass hnode t
    refine ⟨fun hbusy => ?_, fun hbusy => ?_⟩
    · rw [show exec (.replayPass g) s = _ from execReplayPass_next hdue hpass, hnode]
      exact congrArg _ (if_pos hbusy)
    · rw [show exec (.replayPass g) s = _ from execReplayPass_next hdue hpass, hnode]
      exact congrArg _ (if_neg (Bool.eq_false_iff.mp hbusy))
  · intro g hdue hpass hnode
    rw [show exec (.replayPass g) s = _ from execReplayPass_next hdue hpass, hnode]

end Sys2Proof.Proofs.DebugEvents
end

section
/-! Proofs. The events of the platform and of the host (R493 to R495, R501 to R509): bring-up, time, power, the host port, the
debug pins and the registers. -/

namespace Sys2Proof.Proofs.PlatformEvents
open Sys2Proof Sys2Proof.Machine Sys2Proof.Proofs.EngineEvents Sys2Proof.Proofs.Step

/-! ### Bring-up (R501, R502) -/

theorem find_filter_self {x : Slot} {p : Plat} (h : p.accepts x = true) : Option.filter p.accepts (some x) = some x := by
  rw [Option.filter_some, if_pos h]

theorem bootSlot_first {p : Plat} {x : Slot} (hx : p.slotA = some x) (ha : p.accepts x = true) : p.bootSlot = some x := by
  rw [Plat.bootSlot, hx, List.findSome?_cons, find_filter_self ha]

theorem bootSlot_second {p : Plat} {y : Slot} (hy : p.slotB = some y) (ha : p.accepts y = true)
    (hno : ∀ x, p.slotA = some x → p.accepts x = false) : p.bootSlot = some y := by
  have hfirst : Option.filter p.accepts p.slotA = none := by
    cases hx : p.slotA with
    | none => rfl
    | some x => rw [Option.filter_some, hno x hx]; rfl
  rw [Plat.bootSlot, List.findSome?_cons, hfirst, hy, List.findSome?_cons, find_filter_self ha]

theorem dieBringup_first {s : State} {x : Slot} (p : Nat) (h0 : s.plat.stage = 0) (hx : s.plat.bootSlot = some x) :
    execDieBringup 0 p s = .next (({ s with plat := s.plat.started x } : State).bringDie 0 (p == 1)) := by
  unfold execDieBringup
  rw [if_neg (by rw [h0]; omega), if_pos h0, hx]
  exact congrArg Host.Outcome.next (if_pos rfl)

theorem dieBringup_later {s : State} {die : Nat} (p : Nat) (hdie : 0 < die) (h0 : s.plat.stage = 0) :
    execDieBringup die p s = .next s := by
  unfold execDieBringup
  refine congrArg Host.Outcome.next ?_
  by_cases h : 4 ≤ die ∨ 2 < s.plat.stage
  · exact if_pos h
  · rw [if_neg h, if_pos h0]
    cases s.plat.bootSlot with
    | none => rfl
    | some x => exact if_neg hdie.ne'

theorem dieBringup_next {s : State} {die : Nat} (p : Nat) (hdie : die < 4) (hst : s.plat.stage = 1 ∨ s.plat.stage = 2) :
    execDieBringup die p s = .next (if die = s.plat.dieTried then s.bringDie die (p == 1) else s) := by
  unfold execDieBringup
  rw [if_neg (by omega), if_neg (by omega)]

theorem bringDie_fails (s : State) (die : Nat) : (s.bringDie die false).plat = { s.plat with dieTried := die + 1 } := rfl

theorem bringDie_first {s : State} {die : Nat} (h : s.plat.stage = 1) :
    (s.bringDie die true).plat =
      { s.plat with stage := 2, dieTried := die + 1, reddie := die, dieup := s.plat.dieup ||| 2 ^ die, cstep := 4 } := by
  unfold State.bringDie
  dsimp only
  rw [if_neg (by decide), if_pos h]

theorem bringDie_second {s : State} {die : Nat} (h : s.plat.stage = 2) :
    (s.bringDie die true).plat = { s.plat with dieTried := die + 1, dieup := s.plat.dieup ||| 2 ^ die } := by
  unfold State.bringDie
  dsimp only
  rw [if_neg (by decide), if_neg (by rw [h]; decide)]

/-- The repair map of a die gives its cores their spare rows. -/
theorem bringDie_spareRows {s : State} {die n : Nat} {rows : Nat} (pass : Bool) (hmap : s.plat.sramMap = [(n, rows)])
    (hn : dieOf n = die) : ((s.bringDie die pass).coreAt n).spareRows = rows := by
  have hcores : (s.bringDie die pass).cores = s.cores.set n { s.coreAt n with spareRows := rows } := by
    unfold State.bringDie
    dsimp only
    rw [hmap, List.filter_cons, if_pos (beq_iff_eq.mpr hn)]
    split
    · rfl
    · split <;> rfl
  rw [State.coreAt, hcores, Tab.get_set_self]

/-! ### Time and power (R504, R506, R509) -/

theorem thermalTrip_masked {s : State} (h : (s.plat.pfIrq.get {} 0).masked = true) :
    s.thermTrip.msgs = s.msgs ∧ (s.thermTrip.plat.pfIrq.get {} 0).waiting = true := by
  constructor
  · exact (congrArg (s.msgs ++ ·) (if_pos h)).trans (List.append_nil _)
  · unfold State.thermTrip State.hostIrq
    dsimp only [State.updSafe]
    rw [if_pos h, Tab.get_set_self]

theorem thermalTrip_unmasked {s : State} (h : (s.plat.pfIrq.get {} 0).masked = false) :
    s.thermTrip.msgs = s.msgs ++ [(0, 0)] :=
  congrArg (s.msgs ++ ·) (if_neg (Bool.eq_false_iff.mp h))

/-- An interrupt of the host changes no field of the platform but the state of its vectors. -/
theorem plat_hostIrq (s : State) (v : Nat) : ∃ irq, (s.hostIrq v).plat = { s.plat with pfIrq := irq } := by
  unfold State.hostIrq
  dsimp only
  split
  · exact ⟨_, rfl⟩
  · exact ⟨s.plat.pfIrq, rfl⟩

theorem thermalTrip_safe (s : State) : s.thermTrip.plat.cstep = 4 ∧ s.thermTrip.plat.therm = true ∧ s.thermTrip.plat.safeN = true ∧
    125 ≤ s.thermTrip.plat.tj := by
  obtain ⟨irq, h⟩ := plat_hostIrq
    ({ s with plat := { s.plat with cstep := 4, coolFrames := 0, therm := true, tj := max 125 s.plat.tj } } : State).updSafe 0
  rw [State.thermTrip, h]
  exact ⟨rfl, rfl, by simp [State.updSafe], le_max_left _ _⟩

theorem tsync_rate (x : Int) : -200 ≤ max (-200) (min 200 x) ∧ max (-200) (min 200 x) ≤ (200 : Int) := by omega

theorem execTsync_enabled {s : State} (h : s.plat.tsEn = true) : ∃ t, execTsync s = .next t ∧ t.plat.tsLock = true ∧
    t.plat.tsLast = s.time ∧ -200 ≤ t.plat.tsPpm ∧ t.plat.tsPpm ≤ 200 := by
  refine ⟨_, congrArg Host.Outcome.next (if_neg (by rw [h]; decide)), rfl, rfl, ?_⟩
  exact tsync_rate _

theorem execTsyncTimeout_due {s : State} (hl : s.plat.tsLock = true) (ht : s.plat.tsLast + 3000000 ≤ s.time) :
    execTsyncTimeout s = .next { s with plat := { s.plat with tsLock := false } } := by
  have hdue : s.timeoutDue = true := by rw [State.timeoutDue, hl, decide_eq_true ht]; rfl
  unfold execTsyncTimeout
  rw [if_pos hdue]

/-! ### The host port (R493, R494) -/

theorem not_answers {s : State} (h : s.plat.stage = 0 ∨ s.plat.stage = 7) : s.answers = false := by
  rw [State.answers]
  rcases h with h | h <;> rw [h] <;> rfl

theorem answers_of {s : State} (h0 : s.plat.stage ≠ 0) (h7 : s.plat.stage ≠ 7) : s.answers = true := by
  rw [State.answers, bne_iff_ne.mpr h0, bne_iff_ne.mpr h7]
  rfl

theorem execRegisterWrite_ignored {s : State} {sp off v : Nat} (h : (decide (off % 8 ≠ 0) || !s.answers) = true) :
    execRegisterWrite sp off v s = .next s := by
  unfold execRegisterWrite
  dsimp only
  rw [if_pos h]

theorem le_foldl_max {α : Type} (f : α → Nat) : ∀ (l : List α) (m : Nat), m ≤ l.foldl (fun m p => max m (f p)) m
  | [], _ => le_rfl
  | _ :: l, _ => (le_max_left _ _).trans (le_foldl_max f l _)

theorem mem_le_foldl_max {α : Type} (f : α → Nat) {a : α} : ∀ (l : List α) (m : Nat), a ∈ l → f a ≤ l.foldl (fun m p => max m (f p)) m
  | b :: l, m, h => by
    rcases List.mem_cons.mp h with rfl | h
    · exact (le_max_right _ _).trans (le_foldl_max f l _)
    · exact mem_le_foldl_max f l _ h

/-- The number of an access that is parked is above those of the accesses that wait. -/
theorem park_number (s : State) (i : Outside) : ∃ n, s.park i = { s with parked := s.parked ++ [(n, i)] } ∧ ∀ p ∈ s.parked, p.1 < n :=
  ⟨_, rfl, fun _ hp => mem_le_foldl_max (fun p : Nat × Outside => p.1 + 1) s.parked 100 hp⟩

theorem execHostWindowAccess_parks {s : State} (g w addr : Nat) (d : List Nat) (h0 : s.plat.stage ≠ 0) (h7 : s.plat.stage ≠ 7) :
    execHostWindowAccess g w addr d s = .next (s.park (.host g (w == 1) addr d)) := by
  unfold execHostWindowAccess
  rw [if_neg (by omega)]

theorem execHostPhysicalAccess_reads {s : State} {addr : Nat} {d b : List Nat} (h0 : s.plat.stage ≠ 0) (h7 : s.plat.stage ≠ 7)
    (hb : s.hostRead addr d.length = some b) :
    execHostPhysicalAccess 0 addr d s = .next { s with plat := { s.plat with hostOut := some b } } := by
  unfold execHostPhysicalAccess
  rw [if_neg (by omega), if_neg (by decide), hb]

theorem execPmcsrWrite_idle {s : State} (d3 : Nat) (h : ∀ p ∈ s.guests, p.2.gc.gstate ≠ 2 ∧ p.2.gc.gstate ≠ 3 ∧ p.2.gc.gstate ≠ 5) :
    execPmcsrWrite d3 s = .next { s with plat := { s.plat with d3 := d3 == 1 } } := by
  have hbusy : s.guests.any (fun p => p.2.gc.gstate == 2 || p.2.gc.gstate == 3 || p.2.gc.gstate == 5) = false := by
    rw [List.any_eq_false]
    intro p hp
    obtain ⟨h2, h3, h5⟩ := h p hp
    simp [h2, h3, h5]
  unfold execPmcsrWrite
  dsimp only
  rw [hbusy, Bool.not_false, Bool.and_true]

/-! ### The host's window: what its access leaves waiting (R399) -/

theorem parked {s t : State} (h : Apart s t) : t.parked = s.parked := (congrArg State.parked h :)

theorem parked_homeRead (s : State) (g sel pa n : Nat) : (s.homeRead g sel pa n).1.parked = s.parked := by
  have hpay (line u : Nat) : (s.chargeCtl g line u).parked = s.parked := parked (Apart.charge s _ _ _ _)
  unfold State.homeRead
  dsimp only
  split
  · split <;> rfl
  · split
    · exact hpay _ _
    · split
      · exact hpay _ _
      · exact (parked (Apart.l2Alloc _ _ _ _ _ _)).trans (hpay _ _)

theorem parked_homeWrite (s : State) (g sel pa : Nat) (b : List Nat) : (s.homeWrite g sel pa b).1.parked = s.parked :=
  parked (Apart.homeWrite s g sel pa b)

theorem parked_l2Flush (s : State) (line : Nat) : (s.l2Flush line).parked = s.parked :=
  parked (Apart.foldl (fun t l => Apart.l2Evict t l) _ s)

theorem parked_ctlPut (s : State) (g line sel off : Nat) (b : List Nat) : (s.ctlPut g line sel off b).1.parked = s.parked := by
  have hpay (t : State) (u : Nat) : (t.chargeCtl g line u).parked = t.parked := parked (Apart.charge t _ _ _ _)
  unfold State.ctlPut
  split
  · exact hpay _ _
  · split
    · exact hpay _ _
    · exact hpay _ _

theorem parked_uncRead (s : State) (g sel pa n : Nat) : (s.uncRead g sel pa n).1.parked = s.parked := by
  have hpay (t : State) (line u : Nat) : (t.chargeCtl g line u).parked = t.parked := parked (Apart.charge t _ _ _ _)
  unfold State.uncRead
  dsimp only
  split <;> exact (hpay _ _ _).trans (parked_l2Flush s _)

theorem parked_uncWrite (s : State) (g sel pa : Nat) (b : List Nat) : (s.uncWrite g sel pa b).1.parked = s.parked :=
  (parked_ctlPut _ _ _ _ _ _).trans (parked_l2Flush s _)

theorem parked_charge (s : State) (die point g u : Nat) : (s.charge die point g u).parked = s.parked :=
  parked (Apart.charge s die point g u)

theorem parked_walkRead (s : State) (g die pa grp n : Nat) : (s.walkRead g die pa grp n).1.parked = s.parked := by
  have hread : (((s.charge die 9 g 1).homeRead g 16 pa 8).1).parked = s.parked :=
    (parked_homeRead _ _ _ _ _).trans (parked_charge s _ _ _ _)
  unfold State.walkRead
  dsimp only
  split
  · exact hread
  · split
    · exact hread
    · exact (parked_homeRead _ _ _ _ _).trans hread

theorem parked_ite {α : Type} {c : Prop} [Decidable c] {x y : State × α} {l : List (Nat × Outside)} (hx : x.1.parked = l)
    (hy : y.1.parked = l) : (if c then x else y).1.parked = l := by
  split
  · exact hx
  · exact hy

theorem parked_walkLevel (g die gen va kind : Nat) : ∀ (levels : List Nat) (s : State) (table : Nat),
    (s.walkLevel g die gen va kind levels table).1.parked = s.parked
  | [], _, _ => rfl
  | level :: rest, s, table => by
    have hread (pa grp n : Nat) : (s.walkRead g die pa grp n).1.parked = s.parked := parked_walkRead s g die pa grp n
    unfold State.walkLevel
    dsimp only
    split
    · exact hread _ _ _
    · split
      · exact hread _ _ _
      · split
        · split
          · exact hread _ _ _
          · split
            · exact hread _ _ _
            · exact parked_ite (((parked_homeWrite _ _ _ _ _).trans (parked_charge _ _ _ _ _)).trans (hread _ _ _)) (hread _ _ _)
        · split
          · exact hread _ _ _
          · split
            · exact hread _ _ _
            · exact (parked_walkLevel g die gen va kind rest _ _).trans (hread _ _ _)

theorem walk_cases (s : State) (g die va kind : Nat) : (∃ x, s.walk g die va kind = (s, x)) ∨
    ∃ wd gen levels table, s.walk g die va kind = s.walkLevel g wd gen va kind levels table := by
  unfold State.walk
  dsimp only
  split
  · exact .inl ⟨_, rfl⟩
  · split
    · exact .inr ⟨_, _, _, _, rfl⟩
    · split
      · exact .inr ⟨_, _, _, _, rfl⟩
      · split <;> exact .inr ⟨_, _, _, _, rfl⟩

theorem parked_walk (s : State) (g die va kind : Nat) : (s.walk g die va kind).1.parked = s.parked := by
  rcases walk_cases s g die va kind with ⟨x, h⟩ | ⟨wd, gen, levels, table, h⟩
  · rw [h]
  · rw [h, parked_walkLevel]

theorem gResolve_cases (s : State) (g va kind : Nat) :
    s.gResolve g va kind = (s, .error cNOTMAP) ∨ ∃ x, s.gResolve g va kind = ((s.walk g 0 va kind).1, x) := by
  rw [State.gResolve]
  split
  · exact .inl rfl
  · split
    · exact .inl rfl
    · exact .inr ⟨_, rfl⟩

theorem parked_fst {α : Type} {p : State × α} {u : State} {x : α} {l : List (Nat × Outside)} (h : p = (u, x)) (hu : u.parked = l) :
    p.1.parked = l := by
  rw [h, hu]

theorem parked_gResolve (s : State) (g va kind : Nat) : (s.gResolve g va kind).1.parked = s.parked := by
  rcases gResolve_cases s g va kind with h | ⟨x, h⟩
  · exact parked_fst h rfl
  · exact parked_fst h (parked_walk s g 0 va kind)

theorem parked_gReadP (g : Nat) : ∀ (l : List (Nat × Nat)) (s : State), (s.gReadP g l).1.parked = s.parked
  | [], _ => rfl
  | (a, n) :: t, s => by
    have hres : (s.gResolve g a 1).1.parked = s.parked := parked_gResolve s g a 1
    have hpaid : ((s.gResolve g a 1).1.charge 0 8 g (unitsOf n)).parked = s.parked := (parked_charge _ _ _ _ _).trans hres
    unfold State.gReadP
    dsimp only
    split
    · exact hres
    · rename_i tg _
      cases tg <;> dsimp only
      case mem =>
        rename_i pa sel _
        have hread := (parked_homeRead ((s.gResolve g a 1).1.charge 0 8 g (unitsOf n)) g sel pa n).trans hpaid
        split
        · exact (parked_gReadP g t _).trans hread
        all_goals exact hread
      case unc =>
        rename_i pa sel _
        have hread := (parked_uncRead ((s.gResolve g a 1).1.charge 0 8 g (unitsOf n)) g sel pa n).trans hpaid
        split
        · exact (parked_gReadP g t _).trans hread
        all_goals exact hread
      all_goals exact hpaid

theorem parked_gWriteP (g die point : Nat) : ∀ (l : List (Nat × Nat)) (s : State) (b : List Nat),
    (s.gWriteP g die point l b).1.parked = s.parked
  | [], _, _ => rfl
  | (a, n) :: t, s, b => by
    have hres : (s.gResolve g a 6).1.parked = s.parked := parked_gResolve s g a 6
    have hpaid : ((s.gResolve g a 6).1.charge die point g (unitsOf n)).parked = s.parked := (parked_charge _ _ _ _ _).trans hres
    unfold State.gWriteP
    dsimp only
    split
    · exact hres
    · rename_i tg _
      cases tg <;> dsimp only
      case mem =>
        rename_i pa sel _
        have hput := (parked_homeWrite ((s.gResolve g a 6).1.charge die point g (unitsOf n)) g sel pa (b.take n)).trans hpaid
        split
        · exact hput
        · exact (parked_gWriteP g die point t _ _).trans hput
      case unc =>
        rename_i pa sel _
        have hput := (parked_uncWrite ((s.gResolve g a 6).1.charge die point g (unitsOf n)) g sel pa (b.take n)).trans hpaid
        split
        · exact hput
        · exact (parked_gWriteP g die point t _ _).trans hput
      all_goals exact hpaid

theorem parked_paidUp (u : State) (o : Payer) : (u.paidUp o).parked = u.parked := by
  unfold State.paidUp State.leaveWalker
  split <;> rfl

theorem hostOut_paidUp (u : State) (o : Payer) : (u.paidUp o).plat = u.plat := by
  unfold State.paidUp State.leaveWalker
  split <;> rfl

/-- The window of the host, where it reads. -/
theorem outside_read {s u : State} {g addr : Nat} {d b : List Nat}
    (h : s.gRead g (bitsOf 47 36 (s.guestAt g).hwin * 2 ^ 36 + addr % 2 ^ 36) d.length = (u, .ok b)) :
    s.outside (.host g false addr d) = { u with plat := { u.plat with hostOut := some b } } := by
  unfold State.outside State.hostWindow
  dsimp only
  rw [if_neg (by decide), h]

theorem outside_write {s u : State} {g addr : Nat} {d : List Nat}
    (h : s.gWrite g (bitsOf 47 36 (s.guestAt g).hwin * 2 ^ 36 + addr % 2 ^ 36) d = (u, .ok ())) :
    s.outside (.host g true addr d) = u := by
  unfold State.outside State.hostWindow
  dsimp only
  rw [if_pos rfl, h]

/-- An access from outside whose requests have passed is performed and waits no more. -/
theorem outsideStep_performed {s : State} {g : Nat} {p : Nat × Outside}
    (h : s.Through (outPayer g p.1) (s.collecting.outside p.2)) :
    s.outsideStep g p = { (s.collecting.outside p.2).paidUp (outPayer g p.1) with
      parked := ((s.collecting.outside p.2).paidUp (outPayer g p.1)).parked.filter (fun q => q.1 != p.1) } := by
  unfold State.outsideStep
  rw [regulated_through s (outPayer g p.1) (fun _ => false) (fun t => (t.outside p.2, ())) h rfl]

theorem regulationAdmit_outside {s : State} {die point g : Nat} {p : Nat × Outside} (h : s.outsideReady die point g = some p) :
    execRegulationAdmit die point g s =
      .next ((s.outsideStep g p).modBucket die point g (fun b => { b with held := (s.outsideStep g p).holds die point g })) := by
  have hdue : s.admitDue die point g = true := by rw [State.admitDue, h]; rfl
  unfold execRegulationAdmit State.admitStep
  rw [if_pos hdue, h]

theorem regulationAdmit_host_read {s u : State} {g i addr : Nat} {d b : List Nat}
    (hr : s.outsideReady 0 8 g = some (i, .host g false addr d))
    (hread : s.collecting.gRead g (bitsOf 47 36 (s.guestAt g).hwin * 2 ^ 36 + addr % 2 ^ 36) d.length = (u, .ok b))
    (hu : s.Through (outPayer g i) u) :
    ∃ t, execRegulationAdmit 0 8 g s = .next t ∧ t.plat.hostOut = some b ∧ t.parked = s.parked.filter (fun q => q.1 != i) := by
  have hout : s.collecting.outside (.host g false addr d) = { u with plat := { u.plat with hostOut := some b } } := outside_read hread
  have hkept : u.parked = s.parked := by
    have := parked_gReadP g (linePieces (bitsOf 47 36 (s.guestAt g).hwin * 2 ^ 36 + addr % 2 ^ 36) d.length) s.collecting
    rwa [show s.collecting.gReadP g _ = _ from hread] at this
  refine ⟨_, regulationAdmit_outside hr, ?_⟩
  rw [outsideStep_performed (by rw [hout]; exact hu), hout]
  constructor
  · exact congrArg Plat.hostOut (hostOut_paidUp _ _)
  · exact congrArg (List.filter _) ((parked_paidUp _ _).trans hkept)

theorem regulationAdmit_host_write {s u : State} {g i addr : Nat} {d : List Nat}
    (hr : s.outsideReady 0 8 g = some (i, .host g true addr d))
    (hput : s.collecting.gWrite g (bitsOf 47 36 (s.guestAt g).hwin * 2 ^ 36 + addr % 2 ^ 36) d = (u, .ok ()))
    (hu : s.Through (outPayer g i) u) :
    ∃ t, execRegulationAdmit 0 8 g s = .next t ∧ t.mem = u.mem ∧ t.l2 = u.l2 ∧ t.parked = s.parked.filter (fun q => q.1 != i) := by
  have hout : s.collecting.outside (.host g true addr d) = u := outside_write hput
  have hkept : u.parked = s.parked := by
    have := parked_gWriteP g 0 8 (linePieces (bitsOf 47 36 (s.guestAt g).hwin * 2 ^ 36 + addr % 2 ^ 36) d.length) s.collecting d
    rwa [show s.collecting.gWriteP g 0 8 _ d = _ from hput] at this
  refine ⟨_, regulationAdmit_outside hr, ?_⟩
  rw [outsideStep_performed (by rw [hout]; exact hu), hout]
  exact ⟨paidUp_mem u _, paidUp_l2 u _, congrArg (List.filter _) ((parked_paidUp u _).trans hkept)⟩

/-! ### The debug pins, recovery and the registers (R501, R507, R508) -/

theorem length_lowFirst (n v : Nat) : (lowFirst n v).length = n := by
  rw [lowFirst, List.length_map, List.length_range]

/-- A number beside a variable that it does not depend on: the kernel, which computes with closed numbers, leaves a sum with it as it is. -/
abbrev beside (_ x : Nat) : Nat := x

/-- The word of IDCODE, closed but for a variable that it does not depend on. -/
theorem idcode_eq (n : Nat) : idcode = beside n 1 + Config.jedecCode % 2 ^ 11 * 2 + 0x0A38 * 2 ^ 12 + 1 * 2 ^ 28 := by
  exact Eq.refl idcode

theorem odd_sum {k m p : Nat} (a b c : Nat) (hk : k = 1) (hm : 2 ∣ m) (hp : 2 ∣ p) : bitOf 0 (k + a * 2 + b * m + c * p) = true := by
  obtain ⟨x, rfl⟩ := hm
  obtain ⟨y, rfl⟩ := hp
  rw [hk, bitOf, Nat.testBit_zero, show 1 + a * 2 + b * (2 * x) + c * (2 * y) = 1 + 2 * (a + b * x + c * y) by ring,
    Nat.add_mul_mod_self_left]
  rfl

theorem idcode_odd (n : Nat) : bitOf 0 idcode = true := by
  have h12 : 2 ∣ 2 ^ 12 := by decide
  have h28 : 2 ∣ 2 ^ 28 := by decide
  rw [idcode_eq n]
  exact odd_sum _ _ _ rfl h12 h28

theorem idcode_shifted : ((lowFirst 32 idcode ++ List.replicate 32 0).take (List.replicate 32 0).length) = lowFirst 32 idcode := by
  rw [List.length_replicate, List.take_left' (length_lowFirst 32 idcode)]

theorem ieee11491_idcode (s : State) : ∃ t, execIeee11491 0 (List.replicate 32 0) s = .next t ∧ t.plat.jtagOut.length = 32 ∧
    t.plat.jtagOut.headD 0 = 1 := by
  refine ⟨({ s with plat := { s.plat with ir := 0, jtagOut := lowFirst 32 idcode } } : State).tickFree, ?_, ?_⟩
  · rw [← idcode_shifted]
    rfl
  dsimp only [State.tickFree]
  refine ⟨length_lowFirst 32 idcode, ?_⟩
  rw [lowFirst, show List.range 32 = 0 :: (List.range 31).map Nat.succ from rfl, List.map_cons, List.headD_cons, idcode_odd 0]
  rfl

theorem execRecoveryMailbox_answers {s : State} (d : List Nat) (h : s.plat.stage = 0 ∧ s.plat.bootSlot = none ∨ s.plat.stage = 7) :
    execRecoveryMailbox d s =
      .next ({ s with plat := { s.plat with stage := 7, recov := true, mailOut := Config.mailboxAnswer d } } : State).updSafe := by
  have hrec : s.plat.stage = 7 ∨ (s.plat.stage = 0 ∧ s.plat.bootSlot.isNone = true) :=
    h.symm.imp_right (fun ⟨h0, hn⟩ => ⟨h0, by rw [hn]; rfl⟩)
  unfold execRecoveryMailbox
  rw [if_pos hrec]

theorem updSafe_recov {s : State} (h : s.plat.recov = true) : s.updSafe.plat.safeN = true := by
  simp [State.updSafe, h]

theorem execRegisterWrite_cap {s : State} {v : Nat} (hv : v < 2 ^ 64) (h0 : s.plat.stage ≠ 0) (h7 : s.plat.stage ≠ 7) :
    execRegisterWrite 0 0xC00038 v s = .next { s with plat := { s.plat with cap := v % 2 ^ 16 } } := by
  unfold execRegisterWrite
  dsimp only
  rw [answers_of h0 h7, Nat.mod_eq_of_lt hv]
  simp [State.putBowline, State.putPlatform, bitsOf]

theorem execIllegalEncoding_traps {s : State} {n : Nat} {b : Bundle} {c : Nat × Nat} (hrun : (s.coreAt n).running = true)
    (hheld : (s.coreAt n).held = none) (hb : (s.coreAt n).bundle = some b) (hc : bundleCause b = some c) :
    execIllegalEncoding n s = .next { ({ s with focus := n } : State).fetchTrap c.1 c.2 with focus := s.focus } := by
  unfold execIllegalEncoding
  dsimp only
  rw [hrun, hheld, if_neg (by decide), hb]
  simp only [hc]

theorem idleBundle_issues {s : State} {h : Nat} (hm : (readHeader h).mask = 0) (hr : (readHeader h).rsv = false)
    (hrun : s.core.running = true) (hck : s.needsCkpt [] = false) :
    execIdleBundle h s = .next (s.issued (s.slotState { hdr := readHeader h, words := [], len := 4 } [])
      { hdr := readHeader h, words := [], len := 4 } []) := by
  unfold execIdleBundle
  dsimp only
  rw [if_neg (by simp [hm, hr, hrun])]
  exact issueGood_of_runSlots (.inl hck) rfl

/-- Settles O56, a lemma for each event of the platform. -/
theorem platformEvents : Obligations.PlatformEvents := by
  unfold Obligations.PlatformEvents
  intro s
  refine ⟨?_, ⟨fun x => bootSlot_first, fun y => bootSlot_second⟩, ?_, ?_, ?_, ?_, ?_, fun h => execTsync_enabled h,
    fun hl ht => execTsyncTimeout_due hl ht, ?_, ?_, fun g i addr d u b => regulationAdmit_host_read,
    fun g i addr d u => regulationAdmit_host_write, fun addr d b h0 h7 hb => execHostPhysicalAccess_reads h0 h7 hb,
    fun d3 h => execPmcsrWrite_idle d3 h, ieee11491_idcode s, fun d => ⟨_, rfl, rfl⟩, ?_,
    fun v hv h0 h7 => execRegisterWrite_cap hv h0 h7, ?_, fun n b c hrun hheld hb hc => execIllegalEncoding_traps hrun hheld hb hc, ?_⟩
  · intro i hi
    simp only [List.mem_cons, List.not_mem_nil, or_false] at hi
    rcases hi with rfl | rfl
    · exact ⟨_, rfl, rfl, rfl, rfl, rfl, rfl, rfl, rfl, rfl, rfl⟩
    · exact ⟨_, rfl, rfl, rfl, rfl, rfl, rfl, rfl, rfl, rfl, rfl⟩
  · intro x h0 hx
    have hp := bringDie_first (s := { s with plat := s.plat.started x }) (die := 0) rfl
    refine ⟨⟨_, dieBringup_first 1 h0 hx, ?_⟩, fun p hne => ⟨_, dieBringup_first p h0 hx, ?_⟩⟩
    · rw [show ((1 : Nat) == 1) = true from rfl, hp]
      exact ⟨rfl, rfl, rfl, rfl, rfl, rfl, rfl, rfl⟩
    · rw [beq_eq_false_iff_ne.mpr hne]
      exact ⟨rfl, rfl, rfl⟩
  · exact fun die hdie h0 p => dieBringup_later p hdie h0
  · intro die hdie hst
    refine ⟨fun hne p => (dieBringup_next p hdie hst).trans (congrArg Host.Outcome.next (if_neg hne)), fun heq => ?_⟩
    have hnext (p : Nat) : execDieBringup die p s = .next (s.bringDie die (p == 1)) :=
      (dieBringup_next p hdie hst).trans (congrArg Host.Outcome.next (if_pos heq))
    refine ⟨⟨_, hnext 1, ?_⟩, fun p hne => ⟨_, hnext p, ?_⟩⟩
    · rw [show ((1 : Nat) == 1) = true from rfl]
      rcases hst with h | h
      · rw [bringDie_first h]
        exact ⟨rfl, rfl, rfl, fun _ => ⟨rfl, rfl⟩, fun h2 => by omega, fun n rows hmap hn => bringDie_spareRows true hmap hn⟩
      · rw [bringDie_second h]
        exact ⟨h, rfl, rfl, fun h1 => by omega, fun _ => rfl, fun n rows hmap hn => bringDie_spareRows true hmap hn⟩
    · rw [beq_eq_false_iff_ne.mpr hne, bringDie_fails]
      exact ⟨rfl, rfl, rfl⟩
  · exact fun h2 hd => congrArg Host.Outcome.next (if_pos ⟨h2, hd⟩)
  · obtain ⟨hstep, htherm, hsafe, htj⟩ := thermalTrip_safe s
    exact ⟨_, rfl, hstep, htherm, hsafe, htj, thermalTrip_unmasked, thermalTrip_masked⟩
  · intro h
    refine ⟨fun g w addr d => congrArg Host.Outcome.next (if_pos h), fun w addr d => congrArg Host.Outcome.next (if_pos h),
      fun sp off v => execRegisterWrite_ignored ?_⟩
    rw [not_answers h, Bool.not_false, Bool.or_true]
  · intro g w addr d h0 h7
    obtain ⟨n, hn, hlt⟩ := park_number s (.host g (w == 1) addr d)
    refine ⟨n, ?_, hlt⟩
    rw [← hn]
    exact execHostWindowAccess_parks g w addr d h0 h7
  · intro d h
    exact ⟨_, execRecoveryMailbox_answers d h, rfl, rfl, rfl, updSafe_recov rfl⟩
  · exact fun sp off v hoff => execRegisterWrite_ignored (by rw [decide_eq_true hoff]; rfl)
  · exact fun h hm hr hrun hck => ⟨_, idleBundle_issues hm hr hrun hck, rfl⟩

end Sys2Proof.Proofs.PlatformEvents
end

section
/-! Proofs. The events of the fabric: its ports and their link layer (R513 to R520, R530, R531), remote windows and collectives
(R521 to R531). -/

namespace Sys2Proof.Proofs.FabricEvents
open Sys2Proof Sys2Proof.Machine

/-! ### Ports -/

@[simp] theorem portAt_modPort_self (s : State) (p : Nat) (f : Port → Port) : (s.modPort p f).portAt p = f (s.portAt p) := by
  simp only [State.portAt, State.modPort, Tab.get_set_self]

theorem portAt_modPort_ne (s : State) {p r : Nat} (f : Port → Port) (h : r ≠ p) : (s.modPort p f).portAt r = s.portAt r := by
  simp only [State.portAt, State.modPort, Tab.get_set_ne _ _ _ _ _ h]

/-- Nothing has changed but the messages that wait at the ports, to which some may have come. -/
def Queued (s t : State) : Prop :=
  ∃ ports, t = { s with fab := { s.fab with ports := ports } } ∧
    ∀ p, ∃ l, t.portAt p = { s.portAt p with outq := (s.portAt p).outq ++ l }

namespace Queued

variable {s t u : State}

theorem refl (s : State) : Queued s s := ⟨s.fab.ports, rfl, fun p => ⟨[], by rw [List.append_nil]⟩⟩

theorem trans (h : Queued s t) (h' : Queued t u) : Queued s u := by
  obtain ⟨ports, ht, hp⟩ := h
  obtain ⟨ports', hu, hp'⟩ := h'
  refine ⟨ports', by rw [hu, ht], fun p => ?_⟩
  obtain ⟨l, hl⟩ := hp p
  obtain ⟨l', hl'⟩ := hp' p
  exact ⟨l ++ l', by rw [hl', hl, List.append_assoc]⟩

theorem foldl {α : Type} {f : State → α → State} (hf : ∀ s a, Queued s (f s a)) : ∀ (l : List α) (s : State), Queued s (l.foldl f s)
  | [], s => refl s
  | a :: l, s => (hf s a).trans (foldl hf l (f s a))

theorem sendTo (s : State) (car type owner : Nat) (b : List Nat) : Queued s (s.sendTo car type owner b) := by
  unfold State.sendTo
  split
  · exact refl s
  · rename_i p _
    refine ⟨_, rfl, fun r => ?_⟩
    by_cases h : r = p
    · exact ⟨_, by rw [h, portAt_modPort_self]⟩
    · exact ⟨[], by rw [portAt_modPort_ne s _ h, List.append_nil]⟩

theorem tell (s : State) (cars b : List Nat) : Queued s (s.tell cars b) := foldl (fun t c => sendTo t c 4 0xFF b) cars s

end Queued

/-! ### Flits that are sent at once -/

/-- Flits have left a port that is not UP: its next number has moved, and nothing else of it has. -/
structure Emitted (p : Nat) (s t : State) : Prop where
  flits : ∃ l, t.flits = s.flits ++ l ∧ ∀ f ∈ l, f.1 = p
  plat : t.plat = s.plat
  port : ∃ n, t.portAt p = { s.portAt p with txSeq := n }

namespace Emitted

variable {p : Nat} {s t u : State}

theorem refl (p : Nat) (s : State) : Emitted p s s := ⟨⟨[], by simp⟩, rfl, _, rfl⟩

theorem trans (h : Emitted p s t) (h' : Emitted p t u) : Emitted p s u := by
  obtain ⟨⟨l, hl, hp⟩, hplat, n, hn⟩ := h
  obtain ⟨⟨l', hl', hp'⟩, hplat', n', hn'⟩ := h'
  refine ⟨⟨l ++ l', by rw [hl', hl, List.append_assoc], fun f hf => ?_⟩, hplat'.trans hplat, n', by rw [hn', hn]⟩
  exact (List.mem_append.mp hf).elim (hp f) (hp' f)

theorem emit (hne : (s.portAt p).state ≠ 3) (slot : Nat) (m : FlitMsg) : Emitted p s (s.emit p slot m) := by
  refine ⟨⟨[(p, (s.portAt p).bytes (s.portAt p).txSeq slot m)], rfl, fun f hf => ?_⟩, rfl, (s.portAt p).txSeq + 1, ?_⟩
  · rw [List.mem_singleton.mp hf]
  · rw [State.emit, portAt_modPort_self]
    exact congrArg (fun k => ({ s.portAt p with txSeq := (s.portAt p).txSeq + 1, kept := k } : Port)) (if_neg hne)

theorem state (h : Emitted p s t) : (t.portAt p).state = (s.portAt p).state := by
  obtain ⟨-, -, n, hn⟩ := h
  rw [hn]

theorem foldl {α : Type} {slot : α → Nat} {m : α → FlitMsg} : ∀ (l : List α) (s : State), (s.portAt p).state ≠ 3 →
    Emitted p s (l.foldl (fun t x => t.emit p (slot x) (m x)) s)
  | [], s, _ => refl p s
  | x :: l, s, hne => by
    have hx : Emitted p s (s.emit p (slot x) (m x)) := emit hne (slot x) (m x)
    exact hx.trans (foldl l _ (by rw [hx.state]; exact hne))

theorem emitAll (hne : (s.portAt p).state ≠ 3) (l : List FlitMsg) : Emitted p s (s.emitAll p l) := by
  unfold State.emitAll
  exact foldl (slot := fun x : FlitMsg × Nat => ((List.range 32).filter (fun i => (s.portAt p).owner i == 0xFF)).getD
    (x.2 % max 1 ((List.range 32).filter (fun i => (s.portAt p).owner i == 0xFF)).length) 0) (m := fun x => x.1) _ s hne

end Emitted

/-- The flits grow by one with each message. -/
theorem length_flits_foldl {α : Type} {p : Nat} {slot : α → Nat} {m : α → FlitMsg} : ∀ (l : List α) (s : State),
    (l.foldl (fun t x => t.emit p (slot x) (m x)) s).flits.length = s.flits.length + l.length
  | [], _ => rfl
  | x :: l, s => by
    rw [List.foldl_cons, length_flits_foldl l, show (s.emit p (slot x) (m x)).flits.length = s.flits.length + 1 by
      rw [State.emit]; exact List.length_append, List.length_cons]
    omega

theorem length_flits_emitAll (s : State) (p : Nat) (l : List FlitMsg) : (s.emitAll p l).flits.length = s.flits.length + l.length := by
  unfold State.emitAll
  rw [length_flits_foldl (slot := fun x : FlitMsg × Nat => ((List.range 32).filter (fun i => (s.portAt p).owner i == 0xFF)).getD
    (x.2 % max 1 ((List.range 32).filter (fun i => (s.portAt p).owner i == 0xFF)).length) 0) (m := fun x => x.1)]
  simp

theorem flitsOf_pos (type owner dest src : Nat) (b : List Nat) : 0 < (flitsOf type owner dest src b).length := by
  rw [flitsOf, List.length_map, List.length_range]
  omega

/-- A state whose link report has been drawn. -/
def drawn (s : State) : State :=
  { s with plat := { s.plat with nonce := s.plat.nonce + 1, hss := if s.plat.hss < 2 ^ 30 then s.plat.hss + 1 else s.plat.hss } }

theorem drawn_portAt (s : State) (p : Nat) : (drawn s).portAt p = s.portAt p := rfl
theorem drawn_nonce (s : State) : (drawn s).plat.nonce = s.plat.nonce + 1 := rfl
theorem drawn_flits (s : State) : (drawn s).flits = s.flits := rfl
theorem modPort_plat (s : State) (p : Nat) (f : Port → Port) : (s.modPort p f).plat = s.plat := rfl
theorem modPort_flits (s : State) (p : Nat) (f : Port → Port) : (s.modPort p f).flits = s.flits := rfl

/-- The bytes of a link report before its signature. -/
def reportBody (s : State) : List Nat :=
  toLe 2 0x0002 ++ List.replicate 6 0 ++ toLe 8 s.plat.hss ++ (List.range 32).map (fun i => (Config.randomByte s.plat.nonce i).toNat) ++
    fwBytes ++ List.replicate 32 0 ++ [s.fab.car, s.fab.topo, s.fab.ncar] ++ List.replicate 29 0

/-- The flits of a link report. -/
def reportFlits (s : State) (p : Nat) : List FlitMsg :=
  flitsOf 4 0xFF ((s.fab.neighbour p).getD 0) s.fab.car
    (reportBody s ++ (kemBytes s.plat.nonce).take 112 ++
      (if s.plat.hss < 2 ^ 30 then hssBytes s.plat.hss (reportBody s ++ sha256 (kemBytes s.plat.nonce)) else []) ++ (kemBytes s.plat.nonce).drop 112)

theorem sendReport_eq (s : State) (p : Nat) : s.sendReport p =
    ((drawn s).modPort p (fun x => { x with nonce := (List.range 32).map (fun i => (Config.randomByte s.plat.nonce i).toNat),
                                            draw := s.plat.nonce })).emitAll p (reportFlits s p) := rfl

/-- A link report leaves by its port, whose state and rate it does not change. -/
theorem sendReport_sends {s : State} {p : Nat} (hne : (s.portAt p).state ≠ 3) :
    ((s.sendReport p).portAt p).state = (s.portAt p).state ∧ ((s.sendReport p).portAt p).rate = (s.portAt p).rate ∧
    (s.sendReport p).plat.nonce = s.plat.nonce + 1 ∧
    ∃ l, (s.sendReport p).flits = s.flits ++ l ∧ l ≠ [] ∧ ∀ f ∈ l, f.1 = p := by
  have hsend := sendReport_eq s p
  have hpos : 0 < (reportFlits s p).length := flitsOf_pos _ _ _ _ _
  generalize (List.range 32).map (fun i => (Config.randomByte s.plat.nonce i).toNat) = nonce, reportFlits s p = msgs at hsend hpos
  have hself := portAt_modPort_self (drawn s) p (fun x => { x with nonce := nonce, draw := s.plat.nonce })
  have hlen := length_flits_emitAll ((drawn s).modPort p (fun x => { x with nonce := nonce, draw := s.plat.nonce })) p msgs
  obtain ⟨⟨l, hl, hp⟩, hplat, n, hn⟩ := Emitted.emitAll
    (s := (drawn s).modPort p (fun x => { x with nonce := nonce, draw := s.plat.nonce })) (p := p) (by rw [hself, drawn_portAt]; exact hne) msgs
  rw [modPort_flits, drawn_flits] at hl hlen
  rw [hsend, hn, hplat, hself, modPort_plat, drawn_nonce, drawn_portAt]
  refine ⟨rfl, rfl, rfl, l, hl, ?_, hp⟩
  rintro rfl
  rw [hl, List.append_nil] at hlen
  omega

/-! ### The loss of a link (R530) -/

theorem fabLogPut_eq (s : State) (why pa : Nat) : ∃ log, s.fabLogPut why pa = { s with fab := { s.fab with log := log } } := by
  unfold State.fabLogPut
  split
  · exact ⟨_, rfl⟩
  · exact ⟨s.fab.log, rfl⟩

/-- Failures that are logged change the log alone. -/
theorem foldl_fabLogPut : ∀ (l : List RemReq) (s : State), ∃ log, l.foldl (fun t r => t.fabLogPut 7 r.pa) s = { s with fab := { s.fab with log := log } }
  | [], s => ⟨s.fab.log, rfl⟩
  | r :: l, s => by
    obtain ⟨log, h⟩ := foldl_fabLogPut l (s.fabLogPut 7 r.pa)
    obtain ⟨log', h'⟩ := fabLogPut_eq s 7 r.pa
    exact ⟨log, by rw [List.foldl_cons, h, h']⟩

/-- Without guests no guest is told. -/
theorem tellGuests_none {s : State} (hg : s.guests = []) (car : Nat) (memb : Nat → Nat) (l : List Nat) :
    l.foldl (fun t g => if (t.guestAt g).gc.en && (t.mapsCar g car || bitOf car (memb g)) then t.statusEvent g 1 cPEERLOST car 0 else t) s
      = s := by
  induction l with
  | nil => rfl
  | cons g l ih =>
    have hen : (s.guestAt g).gc.en = false := by rw [State.guestAt, hg]; rfl
    rw [List.foldl_cons, hen, Bool.false_and, if_neg Bool.false_ne_true, ih]

/-- Without guests the host alone is told of the cars that are lost. -/
theorem tellHost_none (memb : Nat → Nat) : ∀ (lost : List Nat) (s : State), s.guests = [] →
    lost.foldl (fun t car =>
      let t := (List.range 16).foldl (fun t g =>
        if (t.guestAt g).gc.en && (t.mapsCar g car || bitOf car (memb g)) then t.statusEvent g 1 cPEERLOST car 0 else t) t
      t.hostEv cPEERLOST car 0) s = { s with hostEvs := s.hostEvs ++ lost.map (fun c => (cPEERLOST, c, 0)) }
  | [], s, _ => by rw [List.foldl_nil, List.map_nil, List.append_nil]
  | car :: lost, s, hg => by
    rw [List.foldl_cons]
    dsimp only
    rw [tellGuests_none hg, tellHost_none memb lost (s.hostEv cPEERLOST car 0) hg, List.map_cons]
    simp only [State.hostEv, List.append_assoc, List.singleton_append]

/-- The cars that `old` reached and s does not. -/
def lostCars (s old : State) : List Nat := old.reachable.filter (fun c => !s.reachable.contains c)

/-- A request fails when a link is lost: it is sent over the link, or to a car that is lost. -/
def hitReq (s old : State) (link : Nat) (r : RemReq) : Bool :=
  r.ans.isNone && ((lostCars s old).contains r.car || (r.sent && (s.fab.path s.fab.car r.port r.car).contains link))

/-- A request after the loss of a link. -/
def lostReq (s old : State) (link : Nat) (r : RemReq) : RemReq := if hitReq s old link r then { r with ans := some (false, []) } else r

/-- The guests and the host are told of a lost car. -/
def tellLoss (s t : State) (car : Nat) : State :=
  ((List.range 16).foldl (fun t g => if (t.guestAt g).gc.en && (t.mapsCar g car || bitOf car (s.fab.grp.get {} g).memb)
    then t.statusEvent g 1 cPEERLOST car 0 else t) t).hostEv cPEERLOST car 0

/-- Without guests the host alone is told of the cars that are lost. -/
theorem tellLoss_none (s : State) : ∀ (lost : List Nat) (t : State), t.guests = [] →
    lost.foldl (tellLoss s) t = { t with hostEvs := t.hostEvs ++ lost.map (fun c => (cPEERLOST, c, 0)) }
  | [], t, _ => by rw [List.foldl_nil, List.map_nil, List.append_nil]
  | car :: lost, t, hg => by
    have hcar : tellLoss s t car = t.hostEv cPEERLOST car 0 := by
      unfold tellLoss
      rw [tellGuests_none hg car (fun g => (s.fab.grp.get {} g).memb)]
    rw [List.foldl_cons, hcar, tellLoss_none s lost (t.hostEv cPEERLOST car 0) hg, List.map_cons]
    simp only [State.hostEv, List.append_assoc, List.singleton_append]

/-- Step 2 of R530, for every request. -/
def failed (s old : State) (link : Nat) : State := { s with fab := { s.fab with reqs := s.fab.reqs.map (lostReq s old link) } }

/-- A collective that aborts when a link is lost. -/
def deadColl (s old : State) (link : Nat) (c : Coll) : Bool :=
  (lostCars s old).any (fun x => bitOf x (s.fab.grp.get {} c.guest).memb) || s.fab.collUses old.linkUp (s.fab.grp.get {} c.guest).memb link

theorem loseLink_eq (s old : State) (link : Nat) : s.loseLink old link =
    (lostCars s old).foldl (tellLoss s)
      ((s.fab.colls.filter (deadColl s old link)).foldl
        (fun t c => (t.abortColl c cPEERLOST).modGrpReg c.guest (fun (r : Fcgrp) => { r with broken := true }))
        ((s.fab.reqs.filter (hitReq s old link)).foldl (fun t r => t.fabLogPut 7 r.pa) (failed s old link))) := rfl

/-- Without collectives and guests the loss of a link ends requests, and the host is told. -/
theorem loseLink_alone {s : State} (old : State) (link : Nat) (hc : s.fab.colls = []) (hg : s.guests = []) :
    ∃ log, s.loseLink old link = { s with
      fab := { s.fab with reqs := s.fab.reqs.map (lostReq s old link), log := log }
      hostEvs := s.hostEvs ++ (lostCars s old).map (fun c => (cPEERLOST, c, 0)) } := by
  obtain ⟨log, hlog⟩ := foldl_fabLogPut (s.fab.reqs.filter (hitReq s old link)) (failed s old link)
  refine ⟨log, ?_⟩
  rw [loseLink_eq, hc, List.filter_nil, List.foldl_nil, hlog]
  exact tellLoss_none s (lostCars s old) _ hg

/-! ### A port that goes DOWN (R530) -/

theorem downPort_closed {s : State} {p : Nat} (why : Nat) (h : s.portOpen p = false) :
    s.downPort p why = s.modPort p (fun x => x.downed why) := by
  unfold State.downPort
  dsimp only
  rw [h]
  rfl

/-- The state after the loss of an own link, before the other cars are told. -/
def lossOf (s : State) (p why : Nat) : State := (s.modPort p (fun x => x.downed why)).loseLink s (s.fab.linkOf p)

/-- The aborts that a port which goes DOWN leaves. -/
def keptAborts (s t : State) (p : Nat) : State :=
  { t with fab := { t.fab with aborts := t.fab.aborts.filter (fun a => s.routeTo a.1 != some p && t.reachable.contains a.1) } }

theorem downPort_open {s : State} {p : Nat} (why : Nat) (h : s.portOpen p = true) :
    s.downPort p why = keptAborts s ((lossOf s p why).tell (s.modPort p (fun x => x.downed why)).reachable [1, s.fab.linkOf p, 0]) p := by
  unfold State.downPort
  dsimp only
  rw [h]
  rfl

theorem keptAborts_portAt (s t : State) (p r : Nat) : (keptAborts s t p).portAt r = t.portAt r := rfl

/-- Whether a request fails, in the words of R530 step 2. -/
theorem lostReq_eq (s old : State) (link : Nat) (r : RemReq) : lostReq s old link r =
    if r.ans = none ∧ ((r.car ∈ old.reachable ∧ r.car ∉ s.reachable) ∨ (r.sent = true ∧ link ∈ s.fab.path s.fab.car r.port r.car))
    then { r with ans := some (false, []) } else r := by
  refine if_congr ?_ rfl rfl
  simp [hitReq, lostCars]

/-- A port that was part of a path goes DOWN on a car without guests. -/
theorem downPort_alone {s : State} {p : Nat} (why : Nat) (hopen : s.portOpen p = true) (hc : s.fab.colls = []) (hg : s.guests = []) :
    ((s.downPort p why).portAt p).state = 0 ∧ ((s.downPort p why).portAt p).why = why ∧ ((s.downPort p why).portAt p).kept = [] ∧
    (s.downPort p why).mem = s.mem ∧
    (s.downPort p why).hostEvs = s.hostEvs ++ (lostCars (s.modPort p (fun x => x.downed why)) s).map (fun c => (cPEERLOST, c, 0)) ∧
    (s.downPort p why).fab.reqs = s.fab.reqs.map (lostReq (s.modPort p (fun x => x.downed why)) s (s.fab.linkOf p)) := by
  obtain ⟨log, hlog⟩ := loseLink_alone (s := s.modPort p (fun x => x.downed why)) s (s.fab.linkOf p) hc hg
  have hport : (lossOf s p why).portAt p = (s.portAt p).downed why := by
    rw [lossOf, hlog]
    exact portAt_modPort_self s p (fun x => x.downed why)
  obtain ⟨ports, htell, hp⟩ := Queued.tell (lossOf s p why) (s.modPort p (fun x => x.downed why)).reachable [1, s.fab.linkOf p, 0]
  obtain ⟨l, hl⟩ := hp p
  rw [downPort_open why hopen, keptAborts_portAt, hl, hport]
  refine ⟨rfl, rfl, rfl, ?_⟩
  rw [htell, lossOf, hlog]
  exact ⟨rfl, rfl, rfl⟩

/-! ### A link report (R519) -/

theorem fits_iff {s : State} {p : Nat} {r : LinkRep} : (s.fab.neighbour p == some r.car && r.topo == s.fab.topo && r.ncar == s.fab.ncar) = true ↔
    s.fab.neighbour p = some r.car ∧ r.topo = s.fab.topo ∧ r.ncar = s.fab.ncar := by
  simp [and_assoc]

theorem refusal_wiring {s : State} {p : Nat} {r : LinkRep}
    (h : ¬ (s.fab.neighbour p = some r.car ∧ r.topo = s.fab.topo ∧ r.ncar = s.fab.ncar)) : s.refusal p r = some 3 := by
  unfold State.refusal
  exact if_pos (by rw [Bool.eq_false_iff.mpr (fun hf => h (fits_iff.mp hf))]; rfl)

theorem good_iff {s : State} {r : LinkRep} :
    (!(r.sigOk && r.rootHash == s.fab.rootBytes && r.fwHash == fwBytes) || (decide (r.car < s.fab.car) && r.cipher.isEmpty)) = false ↔
    r.sigOk = true ∧ r.rootHash = s.fab.rootBytes ∧ r.fwHash = fwBytes ∧ (r.car < s.fab.car → r.cipher ≠ []) := by
  simp [and_assoc]

theorem refusal_fits {s : State} {p : Nat} {r : LinkRep} (h : s.fab.neighbour p = some r.car ∧ r.topo = s.fab.topo ∧ r.ncar = s.fab.ncar) :
    s.refusal p r = if (!(r.sigOk && r.rootHash == s.fab.rootBytes && r.fwHash == fwBytes) || (decide (r.car < s.fab.car) && r.cipher.isEmpty)) = true
      then some 5 else none := by
  unfold State.refusal
  rw [fits_iff.mpr h, Bool.not_true, if_neg Bool.false_ne_true]

theorem sendCipher_emits {s : State} {p : Nat} (r : LinkRep) (hne : (s.portAt p).state ≠ 3) :
    ∃ n, (s.sendCipher p r).portAt p = { s.portAt p with txSeq := n } := by
  unfold State.sendCipher
  split
  · exact (Emitted.emitAll (s := { s with plat := { s.plat with nonce := s.plat.nonce + 1 } }) hne _).port
  · exact ⟨_, rfl⟩

/-- The port that an accepted report leaves: raised, with what the rekey kept ahead of what waits. -/
theorem acceptReport_raises {s : State} {p : Nat} {r : LinkRep} (hst : (s.portAt p).state = 2) (hok : s.refusal p r = none) :
    ∃ n time l, (s.acceptReport p r).portAt p =
      { ({ s.portAt p with txSeq := n } : Port).raised (s.fab.car < r.car) r (s.linkSecret p r) time with
        outq := (({ s.portAt p with txSeq := n } : Port).raised (s.fab.car < r.car) r (s.linkSecret p r) time).outq ++ l } := by
  obtain ⟨n, hn⟩ := sendCipher_emits (s := s) (p := p) r (by rw [hst]; decide)
  have hraised := portAt_modPort_self (s.sendCipher p r) p
    (fun q => q.raised (s.fab.car < r.car) r (s.linkSecret p r) (s.flitTimes q))
  rw [hn] at hraised
  have hqueued : Queued ((s.sendCipher p r).modPort p (fun q => q.raised (s.fab.car < r.car) r (s.linkSecret p r) (s.flitTimes q)))
      (s.acceptReport p r) := by
    unfold State.acceptReport
    rw [hok]
    refine Queued.trans ?_ (Queued.foldl (fun t l => Queued.tell t _ _) _ _)
    split
    · exact Queued.refl _
    · exact Queued.tell _ _ _
  obtain ⟨ports, -, hp⟩ := hqueued
  obtain ⟨l, hl⟩ := hp p
  exact ⟨n, _, l, by rw [hl, hraised]⟩

/-! ### Flits that arrive (R514, R516) -/

theorem acknowledge_eq (q : Port) (ack : Nat) : ∃ acked kept, q.acknowledge ack = { q with acked := acked, kept := kept } := by
  unfold Port.acknowledge
  dsimp only
  split
  · exact ⟨_, _, rfl⟩
  · exact ⟨q.acked, q.kept, rfl⟩

theorem acknowledge_rxSeq (q : Port) (ack : Nat) : (q.acknowledge ack).rxSeq = q.rxSeq := by
  obtain ⟨acked, kept, h⟩ := acknowledge_eq q ack
  rw [h]

theorem bits24 (x : Nat) : bitsOf 23 0 x = x % 2 ^ 24 := by
  rw [bitsOf, pow_zero, Nat.div_one]

theorem receive_inTurn {q : Port} {f : Flit} (h : f.seqNo % 2 ^ 24 = q.rxSeq % 2 ^ 24) :
    (q.receive f).rxSeq = q.rxSeq + 1 ∧ (q.receive f).fails = 0 := by
  unfold Port.receive
  dsimp only
  rw [acknowledge_rxSeq, if_pos (by rw [bits24, bits24, h]; exact beq_self_eq_true _)]
  exact ⟨rfl, rfl⟩

theorem receive_outOfTurn {q : Port} {f : Flit} (h : f.seqNo % 2 ^ 24 ≠ q.rxSeq % 2 ^ 24) : (q.receive f).rxSeq = q.rxSeq := by
  unfold Port.receive
  dsimp only
  rw [acknowledge_rxSeq, if_neg (by rw [bits24, bits24]; simpa using h)]
  exact acknowledge_rxSeq q _

theorem flitReceive_good {s : State} {p : Nat} {f : Flit} (hst : 3 ≤ (s.portAt p).state) (hgood : f.good = true) (htype : f.type ≤ 4) :
    execFlitReceive p f s = .next (if ((s.portAt p).receive f).rxSeq == (s.portAt p).rxSeq then s.modPort p (fun x => x.receive f)
      else (s.modPort p (fun x => x.receive f)).deliverFlit p f) := by
  unfold execFlitReceive
  dsimp only
  rw [if_neg (by omega), hgood, Bool.not_true, Bool.false_or, if_neg (by simpa using htype), portAt_modPort_self]

theorem flitReceive_bad {s : State} {p : Nat} {f : Flit} (hst : 3 ≤ (s.portAt p).state) (hbad : f.good = false) :
    execFlitReceive p f s = .next (if 7 ≤ (s.portAt p).fails then s.downPort p 1 else s.modPort p (fun x => { x with fails := x.fails + 1 })) := by
  unfold execFlitReceive
  rw [if_neg (by omega), hbad, Bool.not_false, Bool.true_or, if_pos rfl]

theorem other_port (p : Nat) : p ≠ 1 - p := by omega

theorem deliverFlit_portAt (s : State) (p : Nat) (f : Flit) : (s.deliverFlit p f).portAt p = s.portAt p := by
  unfold State.deliverFlit
  dsimp only
  split
  · rfl
  · split
    · split
      · exact portAt_modPort_ne s _ (other_port p)
      · rfl
    · split <;> rfl

theorem deliverFlit_forwards {s : State} {p : Nat} {f : Flit} (htype : f.type ≠ 0) (hcar : f.payload.getD 0 0 ≠ s.fab.car)
    (hopen : s.portOpen (1 - p) = true) : s.deliverFlit p f = s.modPort (1 - p) (fun q => { q with
      outq := q.outq ++ [{ type := f.type, owner := f.payload.getD 2 0, payload := f.payload }] }) := by
  unfold State.deliverFlit
  dsimp only
  rw [if_neg htype, if_pos hcar, if_pos hopen]

theorem portOpen_modPort_ne (s : State) {p r : Nat} (f : Port → Port) (h : r ≠ p) : (s.modPort p f).portOpen r = s.portOpen r := by
  rw [State.portOpen, portAt_modPort_ne s f h, State.portOpen]

/-- The layout of a flit (R516). -/
theorem bytes_head (q : Port) (n slot : Nat) (m : FlitMsg) : (q.bytes n slot m).take 8 = [m.type, slot] ++ toLe 3 n ++ toLe 3 q.rxSeq := by
  unfold Port.bytes
  dsimp only
  rw [List.append_assoc, List.take_left']
  simp [Stores.length_toLe]

theorem bytes_clear {q : Port} (n slot : Nat) (m : FlitMsg) (h : q.txKey = []) :
    (q.bytes n slot m).drop 8 = (List.range 232).map (fun i => m.payload.getD i 0) ++ List.replicate 16 0 := by
  unfold Port.bytes
  dsimp only
  rw [if_pos h, List.append_assoc, List.drop_left']
  simp [Stores.length_toLe]

theorem ackLate_of {s : State} {p : Nat} (h : ∃ a ∈ s.fab.aborts, s.routeTo a.1 = some p ∧ a.2.2.2 + 1000 ≤ s.time) : s.ackLate p = true := by
  obtain ⟨a, ha, hr, ht⟩ := h
  exact List.any_eq_true.mpr ⟨a, ha, by rw [hr, beq_self_eq_true, Bool.true_and, decide_eq_true ht]⟩

theorem not_ackLate {s : State} {p : Nat} (h : ∀ a ∈ s.fab.aborts, s.routeTo a.1 = some p → s.time < a.2.2.2 + 1000) : s.ackLate p = false := by
  rw [State.ackLate, List.any_eq_false]
  intro a ha
  simpa using h a ha

/-- Settles O57, event by event of a port. -/
theorem fabricEvents : Obligations.FabricEvents := by
  unfold Obligations.FabricEvents
  intro s p q
  refine ⟨?_, ?_, fun h => congrArg Host.Outcome.next (if_neg h), fun h => congrArg Host.Outcome.next (if_pos h),
    fun h => congrArg Host.Outcome.next (if_pos h), fun why h => congrArg Host.Outcome.next (if_neg h), ?_, ?_, ?_,
    fun h => congrArg Host.Outcome.next (if_neg (Nat.not_lt.mpr h)),
    fun n slot m => ⟨bytes_head q n slot m, bytes_clear n slot m⟩, ?_, ?_, ⟨_, rfl, rfl, rfl⟩,
    fun h => congrArg Host.Outcome.next (if_pos (ackLate_of h)),
    fun h => congrArg Host.Outcome.next (if_neg (Bool.eq_false_iff.mp (not_ackLate h)))⟩
  · exact fun hen h0 => congrArg Host.Outcome.next (if_pos (by rw [hen, Bool.true_and]; exact beq_iff_eq.mpr h0))
  · intro h1
    have hself := portAt_modPort_self s p (fun x => { x with state := 2, rate := true })
    obtain ⟨hst, hrate, hnonce, hflits⟩ := sendReport_sends (s := s.modPort p (fun x => { x with state := 2, rate := true })) (p := p)
      (by rw [hself]; exact (by decide : (2 : Nat) ≠ 3))
    rw [hself] at hst hrate
    exact ⟨_, congrArg Host.Outcome.next (if_pos (beq_iff_eq.mpr h1)), hst, hrate, hnonce, hflits⟩
  · intro why u t
    refine ⟨downPort_closed why, fun hopen hc hg => ?_⟩
    obtain ⟨hst, hwhy, hkept, hmem, hevs, hreqs⟩ := downPort_alone why hopen hc hg
    refine ⟨hst, hwhy, hkept, hmem, hevs, hreqs.trans (List.map_congr_left fun r _ => lostReq_eq _ s _ r)⟩
  · intro r h2 fits good
    have hexec : execLinkReport p r s = .next (s.acceptReport p r) := congrArg Host.Outcome.next (if_pos h2)
    refine ⟨fun hf hg => ⟨_, hexec, ?_⟩, fun hf => hexec.trans ?_, fun hf hg => hexec.trans ?_⟩
    · have hok : s.refusal p r = none := by
        rw [refusal_fits hf, good_iff.mpr hg]
        rfl
      obtain ⟨n, time, l, hl⟩ := acceptReport_raises h2 hok
      dsimp only
      rw [hl]
      simp only [Port.raised, State.linkSecret, decide_eq_true_eq, true_and]
      exact ⟨rfl, rfl, _, rfl⟩
    · rw [State.acceptReport, refusal_wiring hf]
    · rw [State.acceptReport, refusal_fits hf, if_pos (Bool.not_eq_false _ ▸ fun h => hg (good_iff.mp h))]
  · intro f h3
    refine ⟨fun hgood htype => ⟨fun hseq => ?_, fun hseq => ?_⟩, fun hbad hfails => ?_, fun hbad hfails => ?_⟩
    · obtain ⟨hrx, hfails⟩ := receive_inTurn hseq
      have hexec := (flitReceive_good h3 hgood htype).trans (congrArg Host.Outcome.next (if_neg (by
        rw [beq_iff_eq]; exact fun h => (Nat.succ_ne_self _) (hrx.symm.trans h))))
      have hport : ((s.modPort p (fun x => x.receive f)).deliverFlit p f).portAt p = q.receive f :=
        (deliverFlit_portAt _ p f).trans (portAt_modPort_self s p _)
      refine ⟨_, hexec, hport, by rw [hport]; exact hrx, by rw [hport]; exact hfails, fun ht hcar hopen => ?_⟩
      have hopen' : (s.modPort p (fun x => x.receive f)).portOpen (1 - p) = true :=
        (portOpen_modPort_ne s _ (other_port p).symm).trans hopen
      rw [deliverFlit_forwards (s := s.modPort p (fun x => x.receive f)) ht hcar hopen', portAt_modPort_self, portAt_modPort_ne s _ (other_port p).symm]
    · have hrx := receive_outOfTurn hseq
      exact ⟨(flitReceive_good h3 hgood htype).trans (congrArg Host.Outcome.next (if_pos (beq_iff_eq.mpr hrx))), hrx⟩
    · exact (flitReceive_bad h3 hbad).trans (congrArg Host.Outcome.next (if_neg (Nat.not_le.mpr hfails)))
    · exact (flitReceive_bad h3 hbad).trans (congrArg Host.Outcome.next (if_pos hfails))
  · intro h3
    have hself := portAt_modPort_self s p (fun x => { x with state := 2 })
    obtain ⟨hst, -⟩ := sendReport_sends (s := s.modPort p (fun x => { x with state := 2 })) (p := p)
      (by rw [hself]; exact (by decide : (2 : Nat) ≠ 3))
    rw [hself] at hst
    exact ⟨_, congrArg Host.Outcome.next (if_pos h3), hst⟩
  · refine ⟨_, rfl, fun h0 h1 => ?_⟩
    have hfirst : ∀ t : State, (t.portAt 0).state = 0 → (t.portAt 1).state = 0 →
        [0, 1].foldl (fun t p => if (t.portAt p).state = 0 then t else t.downPort p 6) t = t := by
      intro t h0 h1
      rw [List.foldl_cons, if_pos h0, List.foldl_cons, if_pos h1, List.foldl_nil]
    exact congrArg State.fab (hfirst { s with fab := { s.fab with en := false } } h0 h1)

end Sys2Proof.Proofs.FabricEvents
end

section
/-! Proofs. The events of remote windows and of collectives (R514, R521 to R531). -/

namespace Sys2Proof.Proofs.RemoteEvents
open Sys2Proof Sys2Proof.Machine Sys2Proof.Proofs.PlatformEvents Sys2Proof.Proofs.FabricEvents

/-! ### Remote accesses (R522, R523) -/

theorem sendTo_unreachable {s : State} {car : Nat} (type owner : Nat) (b : List Nat) (h : s.routeTo car = none) :
    s.sendTo car type owner b = s := by
  unfold State.sendTo
  rw [h]

theorem sendTo_waits {s : State} {car p : Nat} (type owner : Nat) (b : List Nat) (h : s.routeTo car = some p) :
    s.sendTo car type owner b = s.modPort p (fun q => { q with outq := q.outq ++ flitsOf type owner car s.fab.car b }) := by
  unfold State.sendTo
  rw [h]

theorem execRemoteAccess_refused {s : State} {a : RemAcc} {y : Nat} (h : s.winCheck a.tenant a.win a.off a.len (a.kind != 0) = some y) :
    execRemoteAccess a s = .next (s.respond a y []) := by
  unfold execRemoteAccess
  rw [h]

theorem execRemoteAccess_admitted {s : State} {a : RemAcc} (h : s.winCheck a.tenant a.win a.off a.len (a.kind != 0) = none) :
    execRemoteAccess a s = .next (s.park (.car a (s.winPlace a.win a.off).1 (s.winPlace a.win a.off).2.1 (s.winPlace a.win a.off).2.2)) := by
  unfold execRemoteAccess
  rw [h]

theorem winPlace_eq (s : State) (w off : Nat) : s.winPlace w off =
    ((s.fab.wins.get {} w).base * 2 ^ 21 + off, (s.fab.wins.get {} w).guest,
      if (s.fab.wins.get {} w).enc = true ∨ (s.gc (s.fab.wins.get {} w).guest).cls = 3 then (s.fab.wins.get {} w).guest else 16) := by
  unfold State.winPlace
  dsimp only
  refine congrArg (Prod.mk _) (congrArg (Prod.mk _) (if_congr ?_ rfl rfl))
  rw [Bool.or_eq_true, beq_iff_eq]
  rfl

theorem parked_serve (s : State) (a : RemAcc) (p : Nat × Nat × Nat) : (s.serve a p).1.parked = s.parked := by
  have hread : (((s.charge (s.homeDie p.1) 8 p.2.1 (unitsOf a.len)).homeRead p.2.1 p.2.2 p.1 a.len).1).parked = s.parked :=
    (parked_homeRead _ _ _ _ _).trans (parked_charge s _ _ _ _)
  unfold State.serve
  dsimp only
  split
  · exact hread
  · split
    · exact (parked_homeWrite _ _ _ _ _).trans (parked_charge s _ _ _ _)
    · split
      · exact hread
      · split
        · exact hread
        · exact (parked_homeWrite _ _ _ _ _).trans hread

theorem respond_queued (u : State) (a : RemAcc) (why : Nat) (b : List Nat) : Queued u (u.respond a why b) := Queued.sendTo u _ _ _ _

theorem outside_served {s u : State} {a : RemAcc} {pa h sel : Nat} {b : List Nat} (hs : s.serve a (pa, h, sel) = (u, some b)) :
    s.outside (.car a pa h sel) = u.respond a 0 b := by
  unfold State.outside State.remoteServe
  dsimp only
  rw [hs]

theorem outside_failed {s u : State} {a : RemAcc} {pa h sel : Nat} (hs : s.serve a (pa, h, sel) = (u, none)) :
    s.outside (.car a pa h sel) = u.respond a 7 [] := by
  unfold State.outside State.remoteServe
  dsimp only
  rw [hs]

/-- What an access from outside leaves, once it has been performed. -/
theorem admitted_state {s t : State} {die point g : Nat} {p : Nat × Outside} (hr : s.outsideReady die point g = some p)
    (ht : s.collecting.outside p.2 = t) (hth : s.Through (outPayer g p.1) t) :
    ∃ v, execRegulationAdmit die point g s = .next v ∧ v.fab = t.fab ∧ v.mem = t.mem ∧ v.l2 = t.l2 ∧
      v.parked = t.parked.filter (fun q => q.1 != p.1) := by
  refine ⟨_, regulationAdmit_outside hr, ?_⟩
  rw [outsideStep_performed (by rw [ht]; exact hth), ht]
  exact ⟨paidUp_fab t _, paidUp_mem t _, paidUp_l2 t _, congrArg (List.filter _) (parked_paidUp t _)⟩

/-! ### Responses (R523) -/

/-- A request that has its answer. -/
def answered (id : Nat) (good : Bool) (data : List Nat) (r : RemReq) : RemReq :=
  if r.id == id then { r with ans := some (good, if good then data else []) } else r

theorem answered_ans {id : Nat} {good : Bool} {data : List Nat} {x : RemReq} {l : List RemReq} (hx : x ∈ l.map (answered id good data))
    (hid : x.id = id) : x.ans = some (good, if good then data else []) := by
  obtain ⟨r, -, rfl⟩ := List.mem_map.mp hx
  by_cases h : r.id = id
  · exact congrArg RemReq.ans (if_pos (beq_iff_eq.mpr h))
  · rw [answered, if_neg (by simpa using h)] at hid
    exact absurd hid h

theorem execRemoteResponse_answers {s : State} {id : Nat} {r : RemReq} (ok : Nat) (data : List Nat)
    (h : s.fab.reqs.find? (fun r => r.id == id && r.ans.isNone) = some r) :
    execRemoteResponse id ok data s = .next
      (if (ok == 1) = true then { s with fab := { s.fab with reqs := s.fab.reqs.map (answered id (ok == 1) data) } }
      else ({ s with fab := { s.fab with reqs := s.fab.reqs.map (answered id (ok == 1) data) } } : State).fabLogPut (data.headD 7 % 8) r.pa) := by
  unfold execRemoteResponse
  rw [h]
  rfl

/-! ### Collectives (R525 to R528, R531) -/

theorem collReady_guest {s : State} {g : Nat} {c : Coll} (h : s.collReady g = some c) : c.guest = g := by
  unfold State.collReady at h
  split at h
  · cases h
  · rename_i c' hfind
    split at h
    · cases h
      exact beq_iff_eq.mp (List.find?_some (p := fun c : Coll => c.guest == g) hfind :)
    · cases h

theorem agrees_iff (c : Coll) (p : PeerInput) : c.agrees p = true ↔ p.kind = c.kind ∧ p.len = c.len ∧ p.di = c.di ∧ p.data.length = c.len := by
  simp [Coll.agrees, and_assoc]

theorem collFirst_iff (s : State) (g : Nat) : s.collFirst g = true ↔ ∀ x < s.fab.car, bitOf x (s.fab.grp.get {} g).memb = false := by
  simp [State.collFirst]

/-- A collective whose participants have all brought their input. -/
theorem execCollectiveComplete_full {s : State} {g : Nat} {c : Coll} {peers : List PeerInput} (hready : s.collReady g = some c)
    (hall : ∀ x ∈ s.participants g, x ≠ s.fab.car → ∃ p ∈ peers, p.car = x) :
    execCollectiveComplete g peers s = .next
      (if peers.any (fun p => ((s.participants g).filter (fun x => x != s.fab.car)).contains p.car && !c.agrees p) = true
      then (s.abortColl c cFABERR).collTell g c.num 6
      else (if s.collFirst g = true then s else s.collSend c (s.collInputs c peers)).modCoreAt c.core (fun k => k.modC c.queueB c.seqNo (fun x =>
        { x with pos := 2, desc := collCombine c.kind c.len c.di (s.collInputs c peers) }))) := by
  have hbrought : ((s.participants g).filter (fun x => x != s.fab.car)).all (fun x => peers.any (fun p => p.car == x)) = true := by
    simp only [List.all_eq_true, List.mem_filter, bne_iff_ne, List.any_eq_true, beq_iff_eq]
    exact fun x ⟨hx, hne⟩ => hall x hx hne
  unfold execCollectiveComplete
  rw [hready]
  dsimp only
  rw [hbrought, if_neg (by decide)]

theorem disagree_iff {s : State} {g : Nat} {c : Coll} {peers : List PeerInput} :
    peers.any (fun p => ((s.participants g).filter (fun x => x != s.fab.car)).contains p.car && !c.agrees p) = true ↔
    ∃ p ∈ peers, p.car ∈ s.participants g ∧ p.car ≠ s.fab.car ∧ ¬ (p.kind = c.kind ∧ p.len = c.len ∧ p.di = c.di ∧ p.data.length = c.len) := by
  simp only [List.any_eq_true, Bool.and_eq_true, List.contains_iff_mem, List.mem_filter, bne_iff_ne, Bool.not_eq_true', ← agrees_iff,
    Bool.not_eq_true, and_assoc]

theorem collInputs_eq {s : State} {g : Nat} {c : Coll} (peers : List PeerInput) (hg : c.guest = g) : s.collInputs c peers =
    ((List.range 8).filter (fun x => bitOf x (s.fab.grp.get {} g).memb)).map (fun x =>
      (x, if x = s.fab.car then c.inp else ((peers.find? (fun p => p.car == x)).map (fun p => p.data)).getD [])) := by
  rw [State.collInputs, hg]
  rfl

theorem grp_modGrpReg (s : State) (g : Nat) (f : Fcgrp → Fcgrp) : (s.modGrpReg g f).fab.grp.get {} g = f (s.fab.grp.get {} g) :=
  Tab.get_set_self _ _ _ _

theorem note_memb (r : Fcgrp) (num cause : Nat) : (r.note num cause).memb = r.memb := by
  unfold Fcgrp.note
  rw [apply_ite Fcgrp.memb]
  exact ite_self _

/-- The state in which an abort message has ended its collective or kept its number. -/
def abortNoted (s : State) (g : Nat) (m : AbortNews) : State :=
  ((match s.fab.colls.find? (fun c => c.guest == g && c.num == m.num) with
    | some c => s.abortColl c cABORTRESET
    | none => s.modGrpReg g (fun r => r.note m.num cABORTRESET)) : State).modGrpReg g (fun r => { r with broken := true })

/-- An abort message touches no port, no guest and no member of the group. -/
theorem abortNoted_keeps (s : State) (g : Nat) (m : AbortNews) : (abortNoted s g m).fab.ports = s.fab.ports ∧
    (∀ car, (abortNoted s g m).routeTo car = s.routeTo car) ∧ (abortNoted s g m).fab.car = s.fab.car ∧ (abortNoted s g m).guests = s.guests ∧
    ((abortNoted s g m).fab.grp.get {} g).memb = (s.fab.grp.get {} g).memb ∧ ((abortNoted s g m).fab.grp.get {} g).broken = true := by
  unfold abortNoted
  rw [grp_modGrpReg]
  cases s.fab.colls.find? (fun c => c.guest == g && c.num == m.num) with
  | some c => exact ⟨rfl, fun _ => rfl, rfl, rfl, rfl, rfl⟩
  | none => exact ⟨rfl, fun _ => rfl, rfl, rfl, by rw [grp_modGrpReg]; exact note_memb _ _ _, rfl⟩

theorem execAbortMessage_eq (s : State) (g : Nat) (m : AbortNews) : execAbortMessage g m s = .next ((abortNoted s g m).sendTo m.car 4 0xFF
    ([2, ((abortNoted s g m).guestAt g).gc.tenant, ((abortNoted s g m).fab.grp.get {} g).memb] ++ toLe 4 m.num)) := by
  unfold execAbortMessage abortNoted
  rfl

theorem abortNoted_unknown {s : State} {g : Nat} {m : AbortNews} (hno : ∀ c ∈ s.fab.colls, c.guest = g → c.num ≠ m.num)
    (hle : (s.fab.grp.get {} g).seqNo ≤ m.num) :
    ((abortNoted s g m).fab.grp.get {} g).done = (s.fab.grp.get {} g).done ++ [(m.num, cABORTRESET)] := by
  have hfind : s.fab.colls.find? (fun c => c.guest == g && c.num == m.num) = none := by
    rw [List.find?_eq_none]
    intro c hc
    simpa using hno c hc
  unfold abortNoted
  rw [hfind, grp_modGrpReg]
  dsimp only
  rw [grp_modGrpReg, Fcgrp.note, if_pos hle]

/-! ### Links between other cars (R530) -/

theorem execPeerLossNotice_down {s : State} {link : Nat} (h : link ∉ s.fab.lost) (h0 : link ≠ s.fab.linkOf 0) (h1 : link ≠ s.fab.linkOf 1) :
    execPeerLossNotice ⟨link, false⟩ s = .next (({ s with fab := { s.fab with lost := s.fab.lost ++ [link] } } : State).loseLink s link) := by
  unfold execPeerLossNotice
  rw [if_neg Bool.false_ne_true, if_neg (by simp [h, h0, h1])]

theorem execPeerLossNotice_known {s : State} {link : Nat} (h : link ∈ s.fab.lost ∨ link = s.fab.linkOf 0 ∨ link = s.fab.linkOf 1) :
    execPeerLossNotice ⟨link, false⟩ s = .next s := by
  unfold execPeerLossNotice
  rw [if_neg Bool.false_ne_true, if_pos (by simpa [or_assoc] using h)]

/-- Settles O58, event by event of the remote traffic. -/
theorem remoteEvents : Obligations.RemoteEvents := by
  unfold Obligations.RemoteEvents
  intro s
  refine ⟨fun car type owner b => ⟨sendTo_unreachable type owner b, fun p => sendTo_waits type owner b⟩, fun a y b => rfl,
    fun a y h => execRemoteAccess_refused h, ?_, ?_, ?_, ?_, ?_, ?_, fun link => rfl, ?_, fun link h => execPeerLossNotice_known h, ?_, ?_,
    fun car => rfl⟩
  · intro a h f sel
    have hplace := winPlace_eq s a.win a.off
    obtain ⟨n, hn, hlt⟩ := park_number s (.car a (s.winPlace a.win a.off).1 (s.winPlace a.win a.off).2.1 (s.winPlace a.win a.off).2.2)
    refine ⟨n, ?_, hlt⟩
    rw [hplace] at hn
    refine (execRemoteAccess_admitted h).trans ?_
    rw [hplace]
    exact congrArg Host.Outcome.next hn
  · intro die g i a pa h sel u hr
    refine ⟨fun b hs hth => ?_, fun hs hth => ?_⟩
    · obtain ⟨v, hv, hfab, hmem, hl2, hparked⟩ := admitted_state hr (outside_served hs) hth
      obtain ⟨ports, hq, -⟩ := respond_queued u a 0 b
      have hkept : u.parked = s.parked := by
        have := parked_serve s.collecting a (pa, h, sel)
        rwa [hs] at this
      refine ⟨v, hv, hfab, hmem.trans ?_, hl2.trans ?_, hparked.trans ?_⟩
      · rw [hq]
      · rw [hq]
      · rw [hq]
        exact congrArg (List.filter _) hkept
    · obtain ⟨v, hv, hfab, -⟩ := admitted_state hr (outside_failed hs) hth
      exact ⟨v, hv, hfab⟩
  · intro id r data hr
    refine ⟨⟨_, execRemoteResponse_answers 1 data hr, fun x hx hid => answered_ans (good := true) hx hid, rfl⟩, fun ok hok => ?_⟩
    refine ⟨_, (execRemoteResponse_answers ok data hr).trans (congrArg Host.Outcome.next (if_neg (by simpa using hok))), fun x hx hid => ?_⟩
    obtain ⟨log, hlog⟩ := fabLogPut_eq ({ s with fab := { s.fab with reqs := s.fab.reqs.map (answered id (ok == 1) data) } } : State)
      (data.headD 7 % 8) r.pa
    rw [hlog, beq_eq_false_iff_ne.mpr hok] at hx
    exact answered_ans (good := false) hx hid
  · intro g c peers hready memb data agrees first hall l ends
    have hexec := execCollectiveComplete_full hready hall
    have hl : s.collInputs c peers = l := collInputs_eq peers (collReady_guest hready)
    rw [hl] at hexec
    refine ⟨fun hagree => ?_, fun hdis => hexec.trans (congrArg Host.Outcome.next (if_pos (disagree_iff.mpr hdis)))⟩
    rw [if_neg (fun h => by
      obtain ⟨p, hp, hcar, hne, hno⟩ := disagree_iff.mp h
      exact hno (hagree p hp hcar hne))] at hexec
    refine ⟨fun hfirst => ?_, fun hfirst => ?_⟩
    · rw [if_pos ((collFirst_iff s g).mpr hfirst)] at hexec
      exact hexec
    · rw [if_neg (fun h => hfirst ((collFirst_iff s g).mp h))] at hexec
      exact hexec
  · intro g c h
    refine (?_ : execCollectiveTimeout g s = _)
    unfold execCollectiveTimeout
    rw [h]
  · intro g v hc
    refine ⟨_, rfl, ?_⟩
    rw [hc, List.filter_nil, List.foldl_nil, grp_modGrpReg]
    exact ⟨rfl, rfl, rfl, rfl⟩
  · intro link hlost h0 h1 hreqs hcolls hguests
    obtain ⟨log, hl⟩ := loseLink_alone (s := { s with fab := { s.fab with lost := s.fab.lost ++ [link] } }) s link hcolls hguests
    refine ⟨_, (execPeerLossNotice_down hlost h0 h1).trans (congrArg Host.Outcome.next hl), rfl, rfl⟩
  · intro g k car
    obtain ⟨hports, hroute, hcar, hguests, hmemb, hbroken⟩ := abortNoted_keeps s g ⟨k, car⟩
    obtain ⟨ports, hq, -⟩ := Queued.sendTo (abortNoted s g ⟨k, car⟩) car 4 0xFF
      ([2, ((abortNoted s g ⟨k, car⟩).guestAt g).gc.tenant, ((abortNoted s g ⟨k, car⟩).fab.grp.get {} g).memb] ++ toLe 4 k)
    refine ⟨_, execAbortMessage_eq s g ⟨k, car⟩, ?_, fun p hp => ?_, fun hno hle => ?_⟩
    · rw [hq]
      exact hbroken
    · rw [sendTo_waits 4 0xFF _ ((hroute car).trans hp), portAt_modPort_self, hcar, State.guestAt, hguests, hmemb, State.portAt, hports]
      rfl
    · rw [hq]
      exact abortNoted_unknown (m := ⟨k, car⟩) hno hle
  · intro w base cfg hw
    refine ⟨_, rfl, ?_⟩
    dsimp only
    rw [Nat.mod_eq_of_lt hw, Tab.get_set_self]
    exact ⟨rfl, rfl, rfl, rfl, rfl, rfl, rfl⟩

end Sys2Proof.Proofs.RemoteEvents
end

section
/-! Proofs. The frames of the register instructions (R112, R149, R183, R190, R237): each stays in the frame of its effect. -/

namespace Sys2Proof.Proofs.RegisterFrame
open Sys2Proof Sys2Proof.Machine

section
variable {s : State} {g : BitVec 4} {n : Bool} {f : State → State} {keep : RegFile → Nat → Prop} {bits : List Nat}

/-! ### Writes beside WARN -/

/-- A write of an s register beside a bit of WARN. -/
theorem writeS_warn_frame (d lat bit : Nat) (v : W64) (c : Bool) (h : bit ∈ bits) :
    s.Frame (s.allButS d) bits ((s.writeS d v lat).warn bit c) :=
  frame_trans (writeS_frame ..) (warn_frame _ _ _ _ _ h)

theorem writeG_warn_frame (e lat bit : Nat) (v c : Bool) (h : bit ∈ bits) : s.Frame (allButG e) bits ((s.writeG e v lat).warn bit c) :=
  frame_trans (writeG_frame ..) (warn_frame _ _ _ _ _ h)

theorem vput_warn_frame (sl m : Bool) (d w k tag : Nat) (e : List Nat) (lat bit : Nat) (c : Bool) (h : bit ∈ bits) :
    s.Frame (s.allButV sl d) bits ((s.vput sl m d w k tag e lat).warn bit c) :=
  frame_trans (vput_frame ..) (warn_frame _ _ _ _ _ h)

/-- A frame keeps the rotation that the bundle reads by. -/
theorem frame_rrb {t : State} (h : s.Frame keep bits t) : t.pre.rrb = s.pre.rrb := by
  obtain ⟨e, -, hc, -⟩ := h
  have hcx : t.cx.on = s.cx.on ∧ t.cx.pre = s.cx.pre := by
    rcases e with rfl | ⟨w, e⟩
    · exact ⟨rfl, rfl⟩
    · rw [e]
      exact ⟨rfl, rfl⟩
  unfold State.pre
  rw [hcx.1, hcx.2, apply_ite Sync.rrb, apply_ite Sync.rrb, hc.rrb]

theorem allButV_congr {t : State} (h : t.pre.rrb = s.pre.rrb) (sl : Bool) (d : Nat) : t.allButV sl d = s.allButV sl d := by
  unfold State.allButV
  rw [h]

/-! ### Scalar floats -/

theorem sfOp_frame (o : OpSF) (fn : RMode → Machine.Num → Machine.Num → Machine.Num) :
    ∀ t, sfOp s o fn = .next t → s.Frame (s.allButS o.d.toNat) [wFMTRSV] t :=
  sOp_frame s o.g o.n _ (writeS_warn_frame _ _ _ _ _ (List.mem_singleton.mpr rfl))

theorem sfMinMax_frame (o : OpSF) (fn : Machine.Num → Machine.Num → Machine.Num) :
    ∀ t, sfMinMax s o fn = .next t → s.Frame (s.allButS o.d.toNat) [wFMTRSV, wRNDNA] t :=
  sOp_frame s o.g o.n _ (frame_trans (writeS_warn_frame _ _ _ _ _ (by decide)) (warn_frame _ _ _ _ _ (by decide)))

/-! ### Operand B -/

/-- Operand B from a stream: its group is taken, or the slot stalls or traps. -/
theorem readStream_cases (slot k m : Nat) : (∃ w, s.readStream slot k m = (s.stallOn w, none)) ∨
    (∃ info, s.readStream slot k m = (s.raise slot 0x60 info, none)) ∨ ∃ f l, s.readStream slot k m = (s.modStream k f, some l) := by
  unfold State.readStream
  dsimp only
  split
  · exact .inr (.inl ⟨_, rfl⟩)
  · split
    · exact .inl ⟨_, rfl⟩
    · split
      · exact .inr (.inl ⟨_, rfl⟩)
      · exact .inr (.inr ⟨_, _, rfl⟩)

theorem vB_local {sl : Bool} {b : BitVec 6} (W : Nat) (h : b.toNat < 32 ∨ 48 ≤ b.toNat) : ∃ ob, s.vB sl b W = (s, some ob) := by
  unfold State.vB
  dsimp only
  by_cases h32 : b.toNat < 32
  · exact ⟨_, if_pos h32⟩
  · exact ⟨_, (if_neg h32).trans (if_neg (by omega))⟩

theorem vB_stream {sl : Bool} {b : BitVec 6} (W : Nat) (h : ¬ b.toNat < 32) (h' : b.toNat < 48) :
    ∃ m k, s.vB sl b W = ((s.readStream (if sl then 2 else 1) (b.toNat - 32) m).1, (s.readStream (if sl then 2 else 1) (b.toNat - 32) m).2.map k) := by
  unfold State.vB
  dsimp only
  rw [if_neg h, if_pos h']
  exact ⟨_, _, rfl⟩

/-! ### The vector words -/

/-- What a word with operand B does once its guard holds: the stall or trap of its stream, or a frame beside the stream. -/
def VResult (u : State) (ob : Option VOpd) (o : OpV3) (t : State) : Prop :=
  (ob = none → t = u) ∧ (ob ≠ none → u.Frame (u.allButV o.sl o.d.toNat) [wTAGMIX, wFMTOP] t)

theorem vResult_none (u : State) (o : OpV3) : VResult u none o u := ⟨fun _ => rfl, fun h => absurd rfl h⟩

theorem vResult_some {u t : State} {x : VOpd} {o : OpV3} (h : u.Frame (u.allButV o.sl o.d.toNat) [wTAGMIX, wFMTOP] t) :
    VResult u (some x) o t := ⟨fun e => absurd e (Option.some_ne_none x), fun _ => h⟩

variable {o : OpV3} {u : State} {ob : Option VOpd}

theorem vput_warns_frame {t : State} (sl m : Bool) (d w k tag : Nat) (e : List Nat) (lat : Nat) {l : List Nat}
    (h : ∀ b ∈ l, b ∈ [wTAGMIX, wFMTOP]) :
    t.Frame (t.allButV sl d) [wTAGMIX, wFMTOP] ((t.vput sl m d w k tag e lat).warns l) :=
  frame_trans (vput_frame ..) (warns_frame _ _ _ _ h)

theorem vArith_result (ok : Nat → Bool) (useD : Bool) (lat : Nat → Nat) (fn : Nat → Nat → Nat → Nat → Nat)
    (hg : s.guardOn o.g false = true) (hb : s.vB o.sl o.b (vWidth o.w) = (u, ob)) :
    ∀ t, vArith s o ok useD lat fn = .next t → VResult u ob o t := by
  intro t e
  simp only [vArith, vOp, if_pos hg, hb] at e
  cases ob with
  | none => cases e; exact vResult_none u o
  | some x =>
    refine vResult_some ?_
    dsimp only at e
    cases e
    split
    · exact fmtop_frame _ _ _ _ _ _ _ _ _ (by decide)
    · refine frame_trans (vput_warns_frame _ _ _ _ _ _ _ _ (vConv_bits s _ _ _ _)) (warns_frame _ _ _ _ ?_)
      split
      · exact vConv_bits s _ _ _ _
      · exact fun b hb => absurd hb List.not_mem_nil

theorem vdot4_result (hg : s.guardOn o.g false = true) (hb : s.vB o.sl o.b (vWidth o.w) = (u, ob)) :
    ∀ t, execVdot4 o s = .next t → VResult u ob o t := by
  intro t e
  simp only [execVdot4, vOp, if_pos hg, hb] at e
  cases ob with
  | none => cases e; exact vResult_none u o
  | some x =>
    refine vResult_some ?_
    dsimp only at e
    cases e
    split
    · exact fmtop_frame _ _ _ _ _ _ _ _ _ (by decide)
    · exact vput_warns_frame _ _ _ _ _ _ _ _ (vConv_bits s _ _ _ _)

theorem vBitwise_result (fn : Nat → Nat → Nat) (hg : s.guardOn o.g false = true) (hb : s.vB o.sl o.b (vWidth o.w) = (u, ob)) :
    ∀ t, vBitwise s o fn = .next t → VResult u ob o t := by
  intro t e
  simp only [vBitwise, vOp, if_pos hg, hb] at e
  cases ob with
  | none => cases e; exact vResult_none u o
  | some x =>
    refine vResult_some ?_
    dsimp only at e
    cases e
    refine vput_warns_frame _ _ _ _ _ _ _ _ ?_
    split
    · exact fun b hb => absurd hb List.not_mem_nil
    · exact vConv_bits s _ _ _ _

theorem vsel_result (hg : s.guardOn o.g false = true) (hb : s.vB o.sl o.b (vWidth o.w) = (u, ob)) :
    ∀ t, execVsel o s = .next t → VResult u ob o t := by
  intro t e
  simp only [execVsel, vOp, if_pos hg, hb] at e
  cases ob with
  | none => cases e; exact vResult_none u o
  | some x =>
    refine vResult_some ?_
    dsimp only at e
    cases e
    exact vput_warns_frame _ _ _ _ _ _ _ _ (vConv_bits s _ _ _ _)

/-! ### The other vector words -/

/-- A compare writes its mask register and WARN. -/
theorem vCompare_frame {c : OpVC} (fn : Bool × Bool → Bool) (hb : c.b.toNat < 32 ∨ 48 ≤ c.b.toNat) :
    ∀ t, vCompare s c fn = .next t → s.Frame (allButK ((if c.sl then 8 else 0) + c.k.toNat)) [wTAGMIX, wFMTOP, wMSKIGN] t := by
  intro t e
  obtain ⟨ob, hob⟩ := vB_local (s := s) (sl := c.sl) (vWidth c.w) hb
  refine vOp_frame s c.g _ ?_ t e
  dsimp only
  rw [hob]
  dsimp only
  generalize (if c.sl then 8 else 0) + c.k.toNat = k
  have hmsk : s.Frame (allButK k) [wTAGMIX, wFMTOP, wMSKIGN] (s.warn wMSKIGN c.m) :=
    warn_frame _ _ _ _ _ (by decide)
  split
  · exact frame_trans hmsk (frame_trans (writeK_frame ..) (warn_frame _ _ _ _ _ (by decide)))
  · refine frame_trans hmsk (frame_trans (writeK_frame ..) (warns_frame _ _ _ _ fun b hb => ?_))
    exact List.subset_append_left [wTAGMIX, wFMTOP] [wMSKIGN] (vConv_bits s _ _ _ _ b hb)

theorem vMask_frame {sl m : Bool} {k j h : BitVec 3} {l : BitVec 2} (fn : BitVec 256 → BitVec 256 → BitVec 256) :
    ∀ t, vMask s sl m g k j h l fn = .next t → s.Frame (allButK ((if sl then 8 else 0) + k.toNat)) [wMSKIGN, wLPIGN] t :=
  vOp_frame s g _ (frame_trans (frame_trans (writeK_frame ..) (warn_frame _ _ _ _ _ (by decide))) (warn_frame _ _ _ _ _ (by decide)))

section
variable {u : OpV2}

theorem vUnary_frame (ok : Nat → Bool) (lat : Nat → Nat) (fn : Nat → Nat → Nat → Nat → Nat) :
    ∀ t, vUnary s u ok lat fn = .next t → s.Frame (s.allButV u.sl u.d.toNat) [wFMTOP] t := by
  refine vOp_frame s u.g _ ?_
  dsimp only
  split
  · exact fmtop_frame _ _ _ _ _ _ _ _ _ (by decide)
  · exact vput_frame ..

theorem vReduce_frame (ff : Nat → Machine.Num → Machine.Num → Machine.Num) (pre : Machine.Num → Machine.Num) (idF : Machine.Num)
    (fi : Nat → List Int → Int) (idI : Nat → Int) :
    ∀ t, vReduce s u ff pre idF fi idI = .next t → s.Frame (s.allButV u.sl u.d.toNat) [wFMTOP] t := by
  refine vOp_frame s u.g _ ?_
  dsimp only
  split
  · exact fmtop_frame _ _ _ _ _ _ _ _ _ (by decide)
  · exact vput_frame ..

theorem vscan_frame : ∀ t, execVscan u s = .next t → s.Frame (s.allButV u.sl u.d.toNat) [wFMTOP] t := by
  refine vOp_frame s u.g _ ?_
  dsimp only
  split
  · exact fmtop_frame _ _ _ _ _ _ _ _ _ (by decide)
  · exact vput_frame ..

theorem vxab_frame : ∀ t, execVxab u s = .next t → s.Frame (s.allButV (!u.sl) u.d.toNat) [] t := by
  refine vOp_frame s u.g _ ?_
  dsimp only
  split
  · exact writeVMerged_frame ..
  · exact writeV_frame ..

end

theorem vcvt_frame {v : OpVCv} (hr : v.r.toNat ≠ 4) :
    ∀ t, execVcvt v s = .next t → s.Frame (s.allButV v.sl v.d.toNat) [wFMTOP, wRNDNA] t := by
  refine vOp_frame s v.g _ ?_
  dsimp only
  split
  · exact fmtop_frame _ _ _ _ _ _ _ _ _ (by decide)
  · split
    · exact vput_warn_frame _ _ _ _ _ _ _ _ _ _ (by decide)
    · exact vput_frame ..

/-- What follows a write of WARN stays in the frame that the state before it has. -/
theorem frame_after_warn {bit : Nat} {c : Bool} {sl : Bool} {d : Nat} {t : State} (hbit : bit ∈ bits)
    (h : (s.warn bit c).Frame ((s.warn bit c).allButV sl d) bits t) : s.Frame (s.allButV sl d) bits t := by
  have hw : s.Frame (s.allButV sl d) bits (s.warn bit c) := warn_frame _ _ _ _ _ hbit
  rw [allButV_congr (frame_rrb hw)] at h
  exact frame_trans hw h

theorem vrnd_frame {v : OpVRn} :
    ∀ t, execVrnd v s = .next t → s.Frame (s.allButV v.sl v.d.toNat) [wFMTOP, wRNDNA, wSTOCH] t := by
  refine vOp_frame s v.g _ (frame_after_warn (bit := wSTOCH) (c := v.r.toNat == 4) (by decide) ?_)
  dsimp only
  split
  · exact fmtop_frame _ _ _ _ _ _ _ _ _ (by decide)
  · split
    · exact vput_frame ..
    · exact vput_warn_frame _ _ _ _ _ _ _ _ _ _ (by decide)

theorem vqblk_frame {v : OpVQb} : ∀ t, execVqblk v s = .next t →
    s.Frame (fun f i => s.allButV v.sl v.d.toNat f i ∧ s.allButV v.sl (v.d.toNat + 1) f i) [wFMTOP] t := by
  refine vOp_frame s v.g _ ?_
  dsimp only
  have hfirst (x : VReg) : s.Frame (s.allButV v.sl v.d.toNat) [wFMTOP] (s.writeVMerged v.sl v.d.toNat x 4) := writeVMerged_frame ..
  have hsecond (x y : VReg) : (s.writeVMerged v.sl v.d.toNat x 4).Frame (s.allButV v.sl (v.d.toNat + 1)) [wFMTOP]
      ((s.writeVMerged v.sl v.d.toNat x 4).writeVMerged v.sl (v.d.toNat + 1) y 4) := by
    rw [← allButV_congr (frame_rrb (hfirst x))]
    exact writeVMerged_frame ..
  exact frame_trans (frame_mono (hfirst _) (fun _ _ h => h.1) (fun _ h => h))
    (frame_trans (frame_mono (hsecond _ _) (fun _ _ h => h.2) (fun _ h => h)) (warn_frame _ _ _ _ _ (by decide)))

theorem vdqblk_frame {v : OpVDq} : ∀ t, execVdqblk v s = .next t → s.Frame (s.allButV v.sl v.d.toNat) [wFMTOP] t := by
  refine vOp_frame s v.g _ ?_
  dsimp only
  split
  · exact fmtop_frame _ _ _ _ _ _ _ _ _ (by decide)
  · exact vput_warn_frame _ _ _ _ _ _ _ _ _ _ (by decide)

section
variable {v : OpVB1}

theorem vspl_frame (hb : v.b.toNat < 32 ∨ 48 ≤ v.b.toNat) :
    ∀ t, execVspl v s = .next t → s.Frame (s.allButV v.sl v.d.toNat) [wLPIGN] t := by
  obtain ⟨ob, hob⟩ := vB_local (s := s) (sl := v.sl) (vWidth v.w) hb
  unfold execVspl vSplat
  refine vOp_frame s v.g _ ?_
  dsimp only
  rw [hob]
  exact frame_after_warn (bit := wLPIGN) (c := v.l != 0) (by decide) (vput_frame ..)

theorem viota_frame (hb : v.b.toNat < 32 ∨ 48 ≤ v.b.toNat) :
    ∀ t, execViota v s = .next t → s.Frame (s.allButV v.sl v.d.toNat) [wLPIGN, wFMTOP] t := by
  obtain ⟨ob, hob⟩ := vB_local (s := s) (sl := v.sl) (vWidth v.w) hb
  unfold execViota vSplat
  refine vOp_frame s v.g _ ?_
  dsimp only
  rw [hob]
  refine frame_after_warn (bit := wLPIGN) (c := v.l != 0) (by decide) ?_
  dsimp only
  split
  · exact fmtop_frame _ _ _ _ _ _ _ _ _ (by decide)
  · exact vput_frame ..

end

/-! ### The crossbar and the bit network -/

theorem xWrite_frame (x : Bool) (d a b : BitVec 5) (lanes : List Nat) : s.Frame (s.allButV x d.toNat) bits (s.xWrite x d a b lanes) :=
  writeV_frame ..

theorem xprm_frame {p : OpXP} (hc : collides (xEntries (s.readX p.p.toNat)) = false) :
    ∀ t, execXprm p s = .next t → t = s.stallOn 8 ∨ s.Frame (s.allButV p.f p.d.toNat) [] t := by
  intro t e
  unfold execXprm at e
  dsimp only at e
  rw [hc, if_neg Bool.false_ne_true] at e
  split at e
  · cases e
    exact .inl rfl
  · exact .inr (xnOp_frame s p.g p.n _ (xWrite_frame _ _ _ _ _) t e)

/-- An operation that waits for a routing pattern stalls or takes effect. -/
theorem withW_frame {p : BitVec 3} (h : s.Frame keep bits (f s)) :
    ∀ t, xnOp s g n (fun s => s.withW p f) = .next t → t = s.stallOn 8 ∨ s.Frame keep bits t := by
  intro t e
  rw [xnOp] at e
  cases e
  split
  · unfold State.withW
    split
    · exact .inl rfl
    · exact .inr h
  · exact .inr (frame_refl _ _ _)

/-! ### The words by their forms -/

/-- The meaning of every instruction of a list stays in a frame. -/
def AllIn (s : State) (keep : RegFile → Nat → Prop) (bits : List Nat) (l : List (State → Host.Outcome State Fault Refusal)) : Prop :=
  ∀ m ∈ l, ∀ t, m s = .next t → s.Frame keep bits t

theorem AllIn.exec {l : List Instr} (h : AllIn s keep bits (l.map exec)) : ∀ i ∈ l, ∀ t, Machine.exec i s = .next t → s.Frame keep bits t :=
  fun _ hi => h _ (List.mem_map_of_mem hi)

theorem AllIn.append {l l' : List (State → Host.Outcome State Fault Refusal)} (h : AllIn s keep bits l) (h' : AllIn s keep bits l') :
    AllIn s keep bits (l ++ l') := List.forall_mem_append.mpr ⟨h, h'⟩

/-- The meaning of every instruction of a list does what a word with operand B does. -/
def AllResult (s u : State) (ob : Option VOpd) (o : OpV3) (l : List (State → Host.Outcome State Fault Refusal)) : Prop :=
  ∀ m ∈ l, ∀ t, m s = .next t → VResult u ob o t

theorem AllResult.exec {u : State} {ob : Option VOpd} {o : OpV3} {l : List Instr} (h : AllResult s u ob o (l.map exec)) :
    ∀ i ∈ l, ∀ t, Machine.exec i s = .next t → VResult u ob o t :=
  fun _ hi => h _ (List.mem_map_of_mem hi)

theorem opSR_frame (o : OpSR) : AllIn s (s.allButS o.d.toNat) [] [execAdd o, execSub o, execMul o, execMulh o, execMulhu o, execAnd o,
    execOr o, execXor o, execShl o, execShr o, execSra o, execMin o, execMax o, execMinu o, execMaxu o, execAddw o] := by
  intro m hm
  fin_cases hm <;> refine sOp_frame s o.g o.n _ ?_ <;> exact writeS_frame ..

theorem opSR_div_frame (o : OpSR) : AllIn s (s.allButS o.d.toNat) [wDIVZ] [execDiv o, execDivu o, execRem o, execRemu o] := by
  intro m hm
  fin_cases hm <;> refine sOp_frame s o.g o.n _ ?_ <;> exact writeS_warn_frame _ _ _ _ _ (List.mem_singleton.mpr rfl)

theorem opSR2_frame (o : OpSR2) : AllIn s (s.allButS o.d.toNat) [] [execClz o, execPopc o, execMov o] := by
  intro m hm
  fin_cases hm <;> refine sOp_frame s o.g o.n _ ?_ <;> exact writeS_frame ..

theorem opSI_frame (o : OpSI) : AllIn s (s.allButS o.d.toNat) [] [execAddi o, execAndi o, execOri o, execXori o, execMuli o] := by
  intro m hm
  fin_cases hm <;> refine sOp_frame s o.g o.n _ ?_ <;> exact writeS_frame ..

theorem opSSh_frame (o : OpSSh) : AllIn s (s.allButS o.d.toNat) [] [execShli o, execShri o, execSrai o] := by
  intro m hm
  fin_cases hm <;> refine sOp_frame s o.g o.n _ ?_ <;> exact writeS_frame ..

theorem opSL_frame (o : OpSL) : AllIn s (s.allButS o.d.toNat) [] [execMovi o, execMovhi o, execAddil o] := by
  intro m hm
  fin_cases hm <;> refine sOp_frame s o.g o.n _ ?_ <;> exact writeS_frame ..

theorem opSC_frame (o : OpSC) : AllIn s (allButG o.e.toNat) [] [execCeq o, execCne o, execClt o, execCge o, execCltu o, execCgeu o] := by
  intro m hm
  fin_cases hm <;> refine sOp_frame s o.g o.n _ ?_ <;> exact writeG_frame ..

theorem opSCI_frame (o : OpSCI) : AllIn s (allButG o.e.toNat) [] [execCeqi o, execCnei o, execClti o, execCgei o] := by
  intro m hm
  fin_cases hm <;> refine sOp_frame s o.g o.n _ ?_ <;> exact writeG_frame ..

theorem opSGl_frame (o : OpSGl) : AllIn s (allButG o.e.toNat) [] [execGand o, execGor o, execGxor o] := by
  intro m hm
  fin_cases hm <;> refine sOp_frame s o.g o.n _ ?_ <;> exact writeG_frame ..

theorem opSF_frame (o : OpSF) : AllIn s (s.allButS o.d.toNat) [wFMTRSV] [execFadd o, execFsub o, execFmul o, execFma o] := by
  intro m hm
  fin_cases hm <;> exact sfOp_frame o _

theorem opSF_minmax_frame (o : OpSF) : AllIn s (s.allButS o.d.toNat) [wFMTRSV, wRNDNA] [execFmin o, execFmax o] := by
  intro m hm
  fin_cases hm <;> exact sfMinMax_frame o _

theorem opSFc_frame (o : OpSFc) : AllIn s (allButG o.e.toNat) [wFMTRSV] [execFceq o, execFclt o, execFcle o] := by
  intro m hm
  fin_cases hm <;> refine sOp_frame s o.g o.n _ ?_ <;> exact writeG_warn_frame _ _ _ _ _ (List.mem_singleton.mpr rfl)

theorem opVC_frame (o : OpVC) (hb : o.b.toNat < 32 ∨ 48 ≤ o.b.toNat) : AllIn s (allButK ((if o.sl then 8 else 0) + o.k.toNat))
    [wTAGMIX, wFMTOP, wMSKIGN] [execVceq o, execVcne o, execVclt o, execVcle o] := by
  intro m hm
  fin_cases hm <;> exact vCompare_frame _ hb

theorem opVK_frame (o : OpVK) : AllIn s (allButK ((if o.sl then 8 else 0) + o.k.toNat)) [wMSKIGN, wLPIGN]
    [execKand o, execKor o, execKxor o] := by
  intro m hm
  fin_cases hm <;> exact vMask_frame _

theorem vSpecial_frame {o : OpV2} (fn : SpFn) : ∀ t, vSpecial s o fn = .next t → s.Frame (s.allButV o.sl o.d.toNat) [wFMTOP] t := by
  unfold vSpecial
  exact vUnary_frame _ _ _

theorem opV2_unary_frame (o : OpV2) : AllIn s (s.allButV o.sl o.d.toNat) [wFMTOP] [execVabs o, execVneg o] := by
  intro m hm
  fin_cases hm <;> exact vUnary_frame _ _ _

theorem opV2_special_frame (o : OpV2) : AllIn s (s.allButV o.sl o.d.toNat) [wFMTOP] [execVexp2 o, execVlog2 o, execVrcp o, execVrsq o,
    execVsigm o, execVtanh o] := by
  intro m hm
  fin_cases hm <;> exact vSpecial_frame _

theorem opV2_reduce_frame (o : OpV2) : AllIn s (s.allButV o.sl o.d.toNat) [wFMTOP] [execVrsum o, execVrmax o, execVrmin o, execVamax o] := by
  intro m hm
  fin_cases hm <;> exact vReduce_frame _ _ _ _ _

theorem opV2_rest_frame (o : OpV2) : AllIn s (s.allButV o.sl o.d.toNat) [wFMTOP] [execVscan o, execVmov o] := by
  intro m hm
  fin_cases hm
  · exact vscan_frame
  · exact vUnary_frame _ _ _

section
variable {u : State} {ob : Option VOpd} {o : OpV3} (hg : s.guardOn o.g false = true) (hb : s.vB o.sl o.b (vWidth o.w) = (u, ob))
include hg hb

theorem opV3_arith_result : AllResult s u ob o [execVadd o, execVsub o, execVmul o, execVfma o, execVfms o, execVmin o, execVmax o,
    execVsqd o, execVmulh o] := by
  intro m hm
  fin_cases hm <;> exact vArith_result _ _ _ _ hg hb

theorem opV3_bitwise_result : AllResult s u ob o [execVand o, execVor o, execVxor o] := by
  intro m hm
  fin_cases hm <;> exact vBitwise_result _ hg hb

theorem opV3_shift_result : AllResult s u ob o [execVshl o, execVshr o, execVsra o] := by
  intro m hm
  fin_cases hm <;> exact vArith_result _ _ _ _ hg hb

end

theorem sel_frame (o : OpSSel) : ∀ t, execSel o s = .next t → s.Frame (s.allButS o.d.toNat) [] t :=
  sOp_frame s o.g o.n _ (writeS_frame ..)

theorem lea_frame (o : OpSLea) : ∀ t, execLea o s = .next t → s.Frame (s.allButS o.d.toNat) [] t :=
  sOp_frame s o.g o.n _ (writeS_frame ..)

theorem gset_frame (o : OpSGs) : ∀ t, execGset o s = .next t → s.Frame (allButG o.e.toNat) [] t :=
  sOp_frame s o.g o.n _ (writeG_frame ..)

theorem fcvt_frame (o : OpSFcvt) : ∀ t, execFcvt o s = .next t → s.Frame (s.allButS o.d.toNat) [wRNDNA] t :=
  sOp_frame s o.g o.n _ (writeS_warn_frame _ _ _ _ _ (List.mem_singleton.mpr rfl))

theorem xsv_frame (o : OpSXv) (b : Bool) : ∀ t, xsv s o b = .next t → s.Frame (s.allButV b o.d.toNat) [] t :=
  sOp_frame s o.g o.n _ (writeV_frame ..)

theorem xsh_frame (o : OpSXh) : ∀ t, execXsh o s = .next t → s.Frame (allButIn (· = .h) o.d.toNat) [] t :=
  sOp_frame s o.g o.n _ (writeH_frame s false _ _ _ _)

theorem xsj_frame (o : OpSXh) : ∀ t, execXsj o s = .next t → s.Frame (allButIn (· = .j) o.d.toNat) [] t :=
  sOp_frame s o.g o.n _ (writeH_frame s true _ _ _ _)

theorem xsy_frame (o : OpSXh) : ∀ t, execXsy o s = .next t → s.Frame (allButIn (· = .y) o.d.toNat) [] t :=
  sOp_frame s o.g o.n _ (writeY_frame ..)

theorem knot_frame (o : OpVK1) :
    ∀ t, execKnot o s = .next t → s.Frame (allButK ((if o.sl then 8 else 0) + o.k.toNat)) [wMSKIGN, wLPIGN] t := vMask_frame _

theorem kpop_frame (o : OpVKp) : ∀ t, execKpop o s = .next t → s.Frame (s.allButV o.sl o.d.toNat) [wLPIGN] t :=
  vOp_frame s o.g _ (vput_warn_frame _ _ _ _ _ _ _ _ _ _ (List.mem_singleton.mpr rfl))

theorem vxs_frame (o : OpV2) : ∀ t, execVxs o s = .next t → s.Frame (s.allButS o.d.toNat) [wMSKIGN] t :=
  vOp_frame s o.g _ (writeS_warn_frame _ _ _ _ _ (List.mem_singleton.mpr rfl))

theorem vtag_frame (o : OpVTg) : ∀ t, execVtag o s = .next t → s.Frame (s.allButV o.sl o.d.toNat) [] t :=
  vOp_frame s o.g _ (vput_frame ..)

theorem xpldA_frame (o : OpXL) : ∀ t, execXpldA o s = .next t → s.Frame (allButIn (· = .x) o.p.toNat) [] t :=
  xnOp_frame s o.g o.n _ (writeX_frame ..)

theorem xpldB_frame (o : OpXL) : ∀ t, execXpldB o s = .next t → s.Frame (allButIn (· = .x) o.p.toNat) [] t :=
  xnOp_frame s o.g o.n _ (writeX_frame ..)

theorem xzip_frame (o : OpXZ) : ∀ t, execXzip o s = .next t → s.Frame (s.allButV o.f o.d.toNat) [] t :=
  xnOp_frame s o.g o.n _ (xWrite_frame _ _ _ _ _)

theorem xuzp_frame (o : OpXZ) : ∀ t, execXuzp o s = .next t → s.Frame (s.allButV o.f o.d.toNat) [] t :=
  xnOp_frame s o.g o.n _ (xWrite_frame _ _ _ _ _)

theorem xcmp_frame (o : OpXC) : ∀ t, execXcmp o s = .next t → s.Frame (s.allButV o.f o.d.toNat) [] t :=
  xnOp_frame s o.g o.n _ (xWrite_frame _ _ _ _ _)

theorem xexp_frame (o : OpXC) : ∀ t, execXexp o s = .next t → s.Frame (s.allButV o.f o.d.toNat) [] t :=
  xnOp_frame s o.g o.n _ (xWrite_frame _ _ _ _ _)

theorem nmap_frame (o : OpNM) : ∀ t, execNmap o s = .next t → t = s.stallOn 8 ∨ s.Frame (allButIn (· = .y) o.d.toNat) [] t :=
  withW_frame (writeY_frame ..)

theorem nmapx_frame (o : OpNMx) : ∀ t, execNmapx o s = .next t → t = s.stallOn 8 ∨ s.Frame (allButIn (· = .y) o.d.toNat) [] t :=
  withW_frame (writeY_frame ..)

theorem npld_frame (o : OpNP) : ∀ t, execNpld o s = .next t → s.Frame (allButIn (· = .w) o.p.toNat) [] t :=
  xnOp_frame s o.g o.n _ (writeW_frame ..)

theorem nmov_frame (o : OpNV) : ∀ t, execNmov o s = .next t → s.Frame (allButIn (· = .y) o.d.toNat) [] t :=
  xnOp_frame s o.g o.n _ (writeY_frame ..)

theorem nxs_frame (o : OpNX) : ∀ t, execNxs o s = .next t → s.Frame (s.allButS o.d.toNat) [] t :=
  xnOp_frame s o.g o.n _ (writeS_frame ..)

theorem nli_frame (o : OpNL) : ∀ t, execNli o s = .next t → s.Frame (allButIn (· = .y) o.d.toNat) [] t :=
  xnOp_frame s o.g o.n _ (writeY_frame ..)

theorem hadd_frame (o : OpCH) : ∀ t, execHadd o s = .next t → s.Frame (allButIn (· = if o.cb then .j else .h) o.a.toNat) [] t :=
  xnOp_frame s o.g o.n _ (writeH_frame ..)

theorem hmov_frame (o : OpCM) : ∀ t, execHmov o s = .next t → s.Frame (allButIn (· = if o.cb then .j else .h) o.a.toNat) [] t :=
  xnOp_frame s o.g o.n _ (writeH_frame ..)

theorem hli_frame (o : OpCI) : ∀ t, execHli o s = .next t → s.Frame (allButIn (· = if o.cb then .j else .h) o.a.toNat) [] t :=
  xnOp_frame s o.g o.n _ (writeH_frame ..)

theorem hxs_frame (o : OpCX) : ∀ t, execHxs o s = .next t → s.Frame (s.allButS o.d.toNat) [] t :=
  xnOp_frame s o.g o.n _ (writeS_frame ..)

theorem opV2_frame (o : OpV2) : AllIn s (s.allButV o.sl o.d.toNat) [wFMTOP] [execVabs o, execVneg o, execVexp2 o, execVlog2 o, execVrcp o,
    execVrsq o, execVsigm o, execVtanh o, execVrsum o, execVrmax o, execVrmin o, execVamax o, execVscan o, execVmov o] :=
  (((opV2_unary_frame o).append (opV2_special_frame o)).append (opV2_reduce_frame o)).append (opV2_rest_frame o)

theorem AllResult.append {u : State} {ob : Option VOpd} {o : OpV3} {l l' : List (State → Host.Outcome State Fault Refusal)}
    (h : AllResult s u ob o l) (h' : AllResult s u ob o l') : AllResult s u ob o (l ++ l') := List.forall_mem_append.mpr ⟨h, h'⟩

theorem opV3_result {u : State} {ob : Option VOpd} {o : OpV3} (hg : s.guardOn o.g false = true) (hb : s.vB o.sl o.b (vWidth o.w) = (u, ob)) :
    AllResult s u ob o [execVadd o, execVsub o, execVmul o, execVfma o, execVfms o, execVmin o, execVmax o, execVsqd o, execVmulh o,
      execVdot4 o, execVand o, execVor o, execVxor o, execVshl o, execVshr o, execVsra o, execVsel o] :=
  have hdot : AllResult s u ob o [execVdot4 o] := List.forall_mem_singleton.mpr (vdot4_result hg hb)
  have hsel : AllResult s u ob o [execVsel o] := List.forall_mem_singleton.mpr (vsel_result hg hb)
  ((((opV3_arith_result hg hb).append hdot).append (opV3_bitwise_result hg hb)).append (opV3_shift_result hg hb)).append hsel

/-- The state in which operand B leaves the machine. -/
theorem vB_state {sl : Bool} {b : BitVec 6} {W : Nat} {u : State} {ob : Option VOpd} (hb : s.vB sl b W = (u, ob)) :
    (ob = none → (∃ row, u = s.stallOn row) ∨ ∃ info, u = s.raise (if sl then 2 else 1) 0x60 info) ∧
    (ob ≠ none → b.toNat < 32 ∨ 48 ≤ b.toNat → u = s) ∧
    (ob ≠ none → 32 ≤ b.toNat → b.toNat < 48 → ∃ f, u = s.modStream (b.toNat - 32) f) := by
  by_cases h : b.toNat < 32 ∨ 48 ≤ b.toNat
  · obtain ⟨x, hx⟩ := vB_local (s := s) (sl := sl) W h
    rw [hx] at hb
    cases hb
    exact ⟨fun e => absurd e (Option.some_ne_none x), fun _ _ => rfl, fun _ _ _ => by omega⟩
  · obtain ⟨m, k, hx⟩ := vB_stream (s := s) (sl := sl) (b := b) W (by omega) (by omega)
    rw [hx] at hb
    rcases readStream_cases (s := s) (if sl then 2 else 1) (b.toNat - 32) m with ⟨w, hr⟩ | ⟨info, hr⟩ | ⟨f, l, hr⟩ <;> rw [hr] at hb <;> cases hb
    · exact ⟨fun _ => .inl ⟨w, rfl⟩, fun h => absurd rfl h, fun h => absurd rfl h⟩
    · exact ⟨fun _ => .inr ⟨info, rfl⟩, fun h => absurd rfl h, fun h => absurd rfl h⟩
    · exact ⟨fun e => absurd e (Option.some_ne_none _), fun _ h' => absurd h' h, fun _ _ _ => ⟨f, rfl⟩⟩

end

/-- Settles O59, form by form. -/
theorem registerFrame : Obligations.RegisterFrame := by
  unfold Obligations.RegisterFrame
  intro s frame other
  refine ⟨fun o => ⟨(opSR_frame o).exec, (opSR_div_frame o).exec⟩, fun o => (opSR2_frame o).exec, fun o => sel_frame o, fun o => lea_frame o,
    fun o => (opSI_frame o).exec, fun o => (opSSh_frame o).exec, fun o => (opSL_frame o).exec, fun o => (opSC_frame o).exec,
    fun o => (opSCI_frame o).exec, fun o => (opSGl_frame o).exec, fun o => gset_frame o,
    fun o => ⟨(opSF_frame o).exec, (opSF_minmax_frame o).exec⟩, fun o => fcvt_frame o, fun o => (opSFc_frame o).exec,
    fun o => ⟨xsv_frame o false, xsv_frame o true⟩, fun o => ⟨xsh_frame o, xsj_frame o, xsy_frame o⟩, ?_,
    fun o hb => (opVC_frame o hb).exec, fun o => (opVK_frame o).exec, fun o => knot_frame o, fun o => kpop_frame o,
    fun o => ⟨(opV2_frame o).exec, vxab_frame, vxs_frame o⟩, fun o => vtag_frame o, fun o hr => vcvt_frame hr, fun o => vrnd_frame,
    fun o => vqblk_frame, fun o => vdqblk_frame, fun o hb => ⟨vspl_frame hb, viota_frame hb⟩, fun o hc => xprm_frame hc,
    fun o => ⟨xpldA_frame o, xpldB_frame o⟩, fun o => ⟨xzip_frame o, xuzp_frame o⟩, fun o => ⟨xcmp_frame o, xexp_frame o⟩,
    fun o => nmap_frame o, fun o => nmapx_frame o, fun o => npld_frame o, fun o => nmov_frame o, fun o => nxs_frame o, fun o => nli_frame o,
    fun o => hadd_frame o, fun o => hmov_frame o, fun o => hli_frame o, fun o => hxs_frame o⟩
  intro o u ob hg hb
  obtain ⟨hnone, hlocal, hstream⟩ := vB_state hb
  exact ⟨hnone, hlocal, hstream, (opV3_result hg hb).exec⟩

end Sys2Proof.Proofs.RegisterFrame
end

section
/-! Proofs. The frames of what stores (R126, R195, R222, R250, R301, R396). -/

namespace Sys2Proof.Proofs.MemoryFrame
open Sys2Proof Sys2Proof.Machine Sys2Proof.Proofs.CoreEvents

/-! ### What a queued command leaves -/

/-- A core with its queues, caches of methods and counters left out of what is compared: registers but for WARN and the random
state, the L1, the scratchpad and the withholding buffer. -/
structure SameStores (k l : Core) : Prop where
  l1 : l.l1 = k.l1
  spad : l.spad = k.spad
  stores : l.stores = k.stores
  regs : Sync.AgreeOn allRegs k.sync l.sync
  control : Sync.AgreeControl k.sync l.sync

theorem SameStores.refl (k : Core) : SameStores k k := ⟨rfl, rfl, rfl, Sync.AgreeOn.refl _ _, Sync.AgreeControl.refl _⟩

theorem SameStores.trans {k l m : Core} (h : SameStores k l) (h' : SameStores l m) : SameStores k m :=
  ⟨h'.l1.trans h.l1, h'.spad.trans h.spad, h'.stores.trans h.stores, h.regs.trans h'.regs, h.control.trans h'.control⟩

/-- A core whose synchronous state is the same. -/
theorem SameStores.of_sync {k l : Core} (hl : l.l1 = k.l1) (hp : l.spad = k.spad) (hs : l.stores = k.stores) (hy : l.sync = k.sync) :
    SameStores k l := ⟨hl, hp, hs, hy ▸ Sync.AgreeOn.refl _ _, hy ▸ Sync.AgreeControl.refl _⟩

/-- No byte of memory, of a scratchpad or of an L1 has changed, no buffered store, no register and no other core. -/
structure Quiet (s t : State) : Prop where
  focus : t.focus = s.focus
  mem : t.mem = s.mem
  l2 : t.l2 = s.l2
  others : ∀ n, n ≠ s.focus → t.coreAt n = s.coreAt n
  core : SameStores s.core t.core

namespace Quiet

variable {s t u : State}

theorem refl (s : State) : Quiet s s := ⟨rfl, rfl, rfl, fun _ _ => rfl, .refl _⟩

theorem trans (h : Quiet s t) (h' : Quiet t u) : Quiet s u :=
  ⟨h'.focus.trans h.focus, h'.mem.trans h.mem, h'.l2.trans h.l2,
    fun n hn => (h'.others n (by rw [h.focus]; exact hn)).trans (h.others n hn), h.core.trans h'.core⟩

theorem ite {c : Prop} [Decidable c] (ht : Quiet s t) (hu : Quiet s u) : Quiet s (if c then t else u) := by
  split
  · exact ht
  · exact hu

theorem stallOn (row : Nat) : Quiet s (s.stallOn row) := ⟨rfl, rfl, rfl, fun _ _ => rfl, .refl _⟩

theorem raise (slot cause : Nat) (info : W64) : Quiet s (s.raise slot cause info) := ⟨rfl, rfl, rfl, fun _ _ => rfl, .refl _⟩

theorem modCl (c : Nat) (f : Cluster → Cluster) : Quiet s (s.modCl c f) := ⟨rfl, rfl, rfl, fun _ _ => rfl, .refl _⟩

theorem modCore {f : Core → Core} (hf : SameStores s.core (f s.core)) : Quiet s (s.modCore f) :=
  ⟨rfl, rfl, rfl, fun n hn => coreAt_modCore_ne s n f hn, by rw [core_modCore]; exact hf⟩

theorem modSync {f : Sync → Sync} (hr : Sync.AgreeOn allRegs s.core.sync (f s.core.sync)) (hc : Sync.AgreeControl s.core.sync (f s.core.sync)) :
    Quiet s (s.modSync f) :=
  modCore (f := fun k => { k with sync := f k.sync }) ⟨rfl, rfl, rfl, hr, hc⟩

theorem warn (bit : Nat) (c : Bool) : Quiet s (s.warn bit c) := by
  unfold State.warn
  refine ite ?_ (refl s)
  exact trans (modSync (s := s) (f := fun y => { y with warn := setBit bit y.warn }) (by constructor <;> intros <;> rfl) (by constructor <;> rfl))
    ⟨rfl, rfl, rfl, fun _ _ => rfl, .refl _⟩

theorem count (e n : Nat) : Quiet s (s.count e n) := by
  unfold State.count State.countAt State.countIn
  exact ite (refl s) (ite (modCore (.of_sync rfl rfl rfl rfl)) (ite (modCore (.of_sync rfl rfl rfl rfl)) (refl s)))

/-! ### The commands -/

variable {f : State → State}

theorem whenFree (d : Nat) (h : Quiet s (f s)) : Quiet s (s.whenFree d f) := by
  unfold State.whenFree
  exact ite (stallOn _) h

theorem ringCheck (slot n : Nat) (h : Quiet s (f s)) : Quiet s (s.ringCheck slot n f) := by
  unfold State.ringCheck
  exact ite h (raise _ _ _)

theorem tCheck (op : Nat) (h : Quiet s (f s)) : Quiet s (s.tCheck op f) := by
  unfold State.tCheck
  exact ite (raise _ _ _) (ite (stallOn _) h)

theorem mIssue (c : MCmd) : Quiet s (s.mIssue c) := modCore (.of_sync rfl rfl rfl rfl)

theorem tIssue (c : TCmd) : Quiet s (s.tIssue c) := modCore (.of_sync rfl rfl rfl rfl)

theorem cIssue (cb : Bool) (c : CCmd) : Quiet s (s.cIssue cb c) := by
  cases cb <;> exact modCore (.of_sync rfl rfl rfl rfl)

theorem warnScope (sc : Nat) : Quiet s (s.warnScope sc) := by
  unfold State.warnScope
  split
  · exact warn _ _
  · exact refl s

theorem cScoped (cb : Bool) (sc : BitVec 3) (c : CCmd) : Quiet s (s.cScoped cb sc c) := (cIssue cb _).trans (warnScope _)

theorem xnOp {g : BitVec 4} {n : Bool} (h : Quiet s (f s)) : ∀ t, Machine.xnOp s g n f = .next t → Quiet s t := by
  intro t e
  cases e
  exact ite h (refl s)

end Quiet

section
variable {s : State}

/-- The command of MMA, MMAZ and MCONV: it counts its look into the method cache, and enters its queue. -/
theorem mmaOp_quiet (o : OpMM) (op kind : Nat) : ∀ t, mmaOp s o op kind = .next t → Quiet s t := by
  refine Quiet.xnOp (Quiet.whenFree _ (Quiet.ringCheck _ _ (Quiet.ringCheck _ _ ?_)))
  dsimp only
  refine Quiet.ite (.raise _ _ _) ?_
  split
  · exact .raise _ _ _
  · refine Quiet.ite ?_ (Quiet.ringCheck _ _ ?_)
    all_goals
      exact (((Quiet.ite (.refl s) (.count _ _)).trans (.modCore (.of_sync rfl rfl rfl rfl))).trans (.mIssue _)).trans (.warn _ _)

theorem mstz_quiet (o : OpMS) : ∀ t, execMstz o s = .next t → Quiet s t := by
  refine Quiet.xnOp (Quiet.whenFree _ (Quiet.ringCheck _ _ ?_))
  dsimp only
  refine Quiet.trans (Quiet.trans (Quiet.trans (.mIssue _) (Quiet.ite ?_ (.refl _))) (.warn _ _)) (.warn _ _)
  exact .modSync (by constructor <;> intros <;> rfl) (by constructor <;> rfl)

theorem mwait_quiet (o : OpMW) : ∀ t, execMwait o s = .next t → Quiet s t := Quiet.xnOp (.ite (.stallOn _) (.refl s))

theorem tacq_quiet (o : OpT0) : ∀ t, execTacq o s = .next t → Quiet s t := by
  refine Quiet.xnOp ?_
  dsimp only
  exact .ite (.tIssue _) ((Quiet.tIssue _).trans (.modCl _ _))

theorem ringTemporal_quiet (slot n op : Nat) {c : TCmd} {bit : Nat} {b : Bool} :
    Quiet s (s.tCheck op (fun s => s.ringCheck slot n (fun s => (s.tIssue c).warn bit b))) :=
  .tCheck _ (.ringCheck _ _ ((Quiet.tIssue _).trans (.warn _ _)))

theorem tlnc_quiet (o : OpTL) (hsrc : o.src = false) : ∀ t, execTlnc o s = .next t → Quiet s t := by
  refine Quiet.xnOp (Quiet.tCheck _ ?_)
  dsimp only
  rw [hsrc, if_neg Bool.false_ne_true]
  exact .ite (.raise _ _ _) (.ringCheck _ _ ((Quiet.tIssue _).trans (.warn _ _)))

theorem cwait_quiet (o : OpCW) : ∀ t, execCwait o s = .next t → Quiet s t := by
  refine Quiet.xnOp (.ite ?_ (.stallOn _))
  unfold State.copyErr
  exact .ite (.raise _ _ _) (.refl s)

theorem coll_quiet (o : OpCL) (h : s.replaying s.focus = false) : ∀ t, execColl o s = .next t → Quiet s t := by
  refine Quiet.xnOp ?_
  dsimp only
  rw [h]
  exact .cScoped _ _ _

/-! ### A released store to a scratchpad -/

theorem get_spadPut (a : Nat) : ∀ (b : List Nat) (t : Tab Byte) (o : Nat), ((spadPut t o b).get 0 a).toNat =
    if o ≤ a ∧ a < o + b.length then b.getD (a - o) 0 % 256 else (t.get 0 a).toNat
  | [], t, o => by
    rw [spadPut, if_neg (by simp)]
  | v :: r, t, o => by
    have hself : ((if v % 256 = 0 then t.del o else t.set o (BitVec.ofNat 8 v)).get 0 o).toNat = v % 256 := by
      split
      · rename_i h
        rw [Tab.get_del_self, h]
        rfl
      · rw [Tab.get_set_self, BitVec.toNat_ofNat]
    have hne (h : a ≠ o) : (if v % 256 = 0 then t.del o else t.set o (BitVec.ofNat 8 v)).get 0 a = t.get 0 a := by
      split
      · exact Tab.get_del_ne _ _ _ _ h
      · exact Tab.get_set_ne _ _ _ _ _ h
    rw [spadPut, get_spadPut a r, List.length_cons]
    by_cases ha : a = o
    · have hout : ¬ (o + 1 ≤ a ∧ a < o + 1 + r.length) := by omega
      have hin : o ≤ a ∧ a < o + (r.length + 1) := by omega
      rw [if_neg hout, if_pos hin, ha, hself, Nat.sub_self, List.getD_cons_zero]
    · rw [hne ha]
      by_cases hin : o + 1 ≤ a ∧ a < o + 1 + r.length
      · have hin' : o ≤ a ∧ a < o + (r.length + 1) := by omega
        rw [if_pos hin, if_pos hin', show a - o = a - (o + 1) + 1 by omega, List.getD_cons_succ]
      · have hout : ¬ (o ≤ a ∧ a < o + (r.length + 1)) := by omega
        rw [if_neg hin, if_neg hout]

/-! ### The front of the withholding buffer -/

section
variable {n : Nat} {x : Store} {r : List Store}

/-- A buffer of which nothing has gone out waits for no other car. -/
theorem storeAcked_unsent (hst : (s.coreAt n).stores = x :: r) (hsent : ∀ y ∈ x :: r, y.sent = false) : s.storeAcked n = none := by
  rw [State.storeAcked, hst, List.findSome?_eq_none_iff]
  intro y hy
  rw [hsent y hy]
  rfl

theorem storeFront_unsent (hst : (s.coreAt n).stores = x :: r) (hrel : x.released = true) (hsent : ∀ y ∈ x :: r, y.sent = false) :
    (s.coreAt n).storeFront = some x := by
  have hany : (x :: r).any (fun y => y.sent && ((x.rel && decide (4 ≤ x.scope)) || (x.kind == 4 && y.pa / 128 == x.pa / 128))) = false := by
    rw [List.any_eq_false]
    intro y hy
    rw [hsent y hy, Bool.false_and]
    exact Bool.false_ne_true
  have hfind : (x :: r).find? (fun y => !y.sent) = some x := by rw [List.find?_cons, hsent x List.mem_cons_self]; rfl
  unfold Core.storeFront
  rw [hst, hfind]
  dsimp only
  rw [hany, hrel]
  rfl

theorem storeDue_free (hst : (s.coreAt n).stores = x :: r) (hrel : x.released = true) (hsent : ∀ y ∈ x :: r, y.sent = false)
    (hunits : s.storeUnits n x = 0) (hwait : s.waiting (engPayer s n storeTag) = false) : s.storeDue n = true := by
  rw [State.storeDue, storeAcked_unsent hst hsent, storeFront_unsent hst hrel hsent]
  dsimp only
  rw [hunits, hwait]
  rfl

/-- A store that needs no request at the port of its cluster is performed, and leaves the buffer. -/
theorem storePerform_free {u : State} (hst : (s.coreAt n).stores = x :: r) (hrel : x.released = true)
    (hsent : ∀ y ∈ x :: r, y.sent = false) (hunits : s.storeUnits n x = 0) (hwait : s.waiting (engPayer s n storeTag) = false)
    (hat : s.collecting.storeAt n x = (u, .ok ())) (hthrough : s.Through (engPayer s n storeTag) u) :
    execStorePerform n s = .next (((u.paidUp (engPayer s n storeTag)).useAdm n storeTag).modCoreAt n
      (fun k => { k with stores := k.stores.erase x })) :=
  congrArg Host.Outcome.next (storeStep_performed (storeAcked_unsent hst hsent) (storeFront_unsent hst hrel hsent)
    (storeDue_free hst hrel hsent hunits hwait) (.inl hunits) hat hthrough)

/-! ### The state after a store that left the buffer -/

end

/-- A state whose core n has used up its admission and lost the front of its buffer. -/
def taken (w : State) (n : Nat) (x : Store) : State := (w.useAdm n storeTag).modCoreAt n (fun k => { k with stores := k.stores.erase x })

section
variable (w : State) (n : Nat) (x : Store)

theorem taken_stores : ((taken w n x).coreAt n).stores = (w.coreAt n).stores.erase x := by
  rw [taken, coreAt_modCoreAt_self, State.useAdm, coreAt_modCoreAt_self]

theorem taken_spad (k : Nat) : ((taken w n x).coreAt k).spad = (w.coreAt k).spad := by
  by_cases h : k = n
  · rw [h, taken, coreAt_modCoreAt_self, State.useAdm, coreAt_modCoreAt_self]
  · rw [taken, coreAt_modCoreAt_ne _ _ _ _ h, State.useAdm, coreAt_modCoreAt_ne _ _ _ _ h]

theorem taken_l1 (k : Nat) : ((taken w n x).coreAt k).l1 = (w.coreAt k).l1 := by
  by_cases h : k = n
  · rw [h, taken, coreAt_modCoreAt_self, State.useAdm, coreAt_modCoreAt_self]
  · rw [taken, coreAt_modCoreAt_ne _ _ _ _ h, State.useAdm, coreAt_modCoreAt_ne _ _ _ _ h]

theorem taken_mem : (taken w n x).mem = w.mem := rfl

theorem taken_l2 : (taken w n x).l2 = w.l2 := rfl

end

theorem coreAt_paidUp (u : State) (o : Payer) (k : Nat) : (u.paidUp o).coreAt k = u.coreAt k := by
  rw [State.coreAt, paidUp_cores, State.coreAt]

/-! ### A store to a scratchpad -/

section
variable {n c o : Nat} {x : Store}

/-- A state in which bytes stand in the scratchpad of core c. -/
def spadPatched (t : State) (c o : Nat) (b : List Nat) : State := t.modCoreAt c (fun k => { k with spad := spadPut k.spad o b })

theorem storeAt_spad (t : State) (hk : x.kind = 0) (hrel : x.rel = false) (ht : placeTgt x.kind x.pa x.sel = .spad c o) :
    t.storeAt n x = (spadPatched (t.netUse n c) c o x.bytes, .ok ()) := by
  have hplain : x.plain = false := by rw [Store.plain, hk]; rfl
  have hbar : t.replayBar n true (.spad c o) = 0 := by
    unfold State.replayBar
    exact ite_self _
  unfold State.storeAt
  rw [hrel, Bool.false_and, if_neg Bool.false_ne_true, if_neg (by rw [hk]; decide), ht]
  unfold State.guarded
  dsimp only
  rw [hbar, if_pos rfl, if_pos rfl, hplain, Bool.false_and, if_neg Bool.false_ne_true, if_neg (by rw [hk]; decide)]
  rfl

theorem netUse_cores (t : State) : (t.netUse n c).cores = t.cores ∧ (t.netUse n c).mem = t.mem ∧ (t.netUse n c).l2 = t.l2 := by
  unfold State.netUse State.paysKey
  split
  · exact ⟨rfl, rfl, rfl⟩
  · split <;> exact ⟨rfl, rfl, rfl⟩

/-- The scratchpad of another core is reached through the network, whose port is paid. -/
theorem netUse_charges (s : State) : (s.collecting.netUse n c).charges = if n = c then [] else [(netKey c, 1)] := by
  unfold State.netUse
  split <;> rfl

theorem spadPatched_spad (t : State) (c o : Nat) (b : List Nat) (k a : Nat) : (spadPatched t c o b).spadGet k a =
    if k = c ∧ o ≤ a ∧ a < o + b.length then b.getD (a - o) 0 % 256 else t.spadGet k a := by
  unfold State.spadGet spadPatched
  by_cases hk : k = c
  · rw [hk, coreAt_modCoreAt_self, get_spadPut]
    simp only [true_and]
  · rw [coreAt_modCoreAt_ne _ _ _ _ hk, if_neg (fun h => hk h.1)]

theorem spadPatched_core (t : State) (c o : Nat) (b : List Nat) (k : Nat) : ((spadPatched t c o b).coreAt k).stores = (t.coreAt k).stores ∧
    ((spadPatched t c o b).coreAt k).l1 = (t.coreAt k).l1 := by
  unfold spadPatched
  by_cases hk : k = c
  · rw [hk, coreAt_modCoreAt_self]
    exact ⟨rfl, rfl⟩
  · rw [coreAt_modCoreAt_ne _ _ _ _ hk]
    exact ⟨rfl, rfl⟩

theorem netUse_coreAt (t : State) (k : Nat) : (t.netUse n c).coreAt k = t.coreAt k := by
  rw [State.coreAt, (netUse_cores t).1, State.coreAt]

theorem storePerform_spad {r : List Store} (hst : (s.coreAt n).stores = x :: r) (hreleased : x.released = true) (hrel : x.rel = false)
    (hsent : ∀ y ∈ x :: r, y.sent = false) (hpays : s.pays = .post) (hwait : s.waiting (engPayer s n storeTag) = false) (hk : x.kind = 0)
    (ht : placeTgt x.kind x.pa x.sel = .spad c o) (hpaid : c = n ∨ s.short (engPayer s n storeTag) [(netKey c, 1)] = []) :
    ∃ t, execStorePerform n s = .next t ∧ (t.coreAt n).stores = r ∧
      (∀ i < x.bytes.length, t.spadGet c (o + i) = x.bytes.getD i 0 % 256) ∧
      (∀ k a, k ≠ c ∨ a < o ∨ o + x.bytes.length ≤ a → t.spadGet k a = s.spadGet k a) ∧
      (∀ a, memGet t.mem a = memGet s.mem a) ∧ t.l2 = s.l2 ∧ (∀ k, (t.coreAt k).l1 = (s.coreAt k).l1) := by
  have hat := storeAt_spad (n := n) s.collecting hk hrel ht
  have hunits : s.storeUnits n x = 0 := if_pos (.inl hk)
  have hshort : s.short (engPayer s n storeTag) (spadPatched (s.collecting.netUse n c) c o x.bytes).charges = [] := by
    rw [show (spadPatched (s.collecting.netUse n c) c o x.bytes).charges = (s.collecting.netUse n c).charges from rfl, netUse_charges]
    by_cases hcn : n = c
    · rw [if_pos hcn]
      rfl
    · rw [if_neg hcn]
      exact hpaid.resolve_left (fun h => hcn h.symm)
  have hspad (k a : Nat) : (taken ((spadPatched (s.collecting.netUse n c) c o x.bytes).paidUp (engPayer s n storeTag)) n x).spadGet k a =
      if k = c ∧ o ≤ a ∧ a < o + x.bytes.length then x.bytes.getD (a - o) 0 % 256 else s.spadGet k a := by
    rw [State.spadGet, taken_spad, coreAt_paidUp, ← State.spadGet, spadPatched_spad, State.spadGet, netUse_coreAt]
    rfl
  refine ⟨_, storePerform_free hst hreleased hsent hunits hwait hat ⟨hpays, hwait, hshort⟩, ?_, fun i hi => ?_, fun k a h => ?_, fun a => ?_, ?_,
    fun k => ?_⟩
  · rw [← taken, taken_stores, coreAt_paidUp, (spadPatched_core _ _ _ _ _).1, netUse_coreAt]
    exact (congrArg (List.erase · x) hst).trans (List.erase_cons_head ..)
  · rw [← taken, hspad, if_pos ⟨rfl, by omega, by omega⟩, Nat.add_sub_cancel_left]
  · rw [← taken, hspad, if_neg (by omega)]
  · rw [← taken, taken_mem, paidUp_mem]
    exact congrArg (memGet · a) (netUse_cores _).2.1
  · rw [← taken, taken_l2, paidUp_l2]
    exact (netUse_cores _).2.2
  · rw [← taken, taken_l1, coreAt_paidUp, (spadPatched_core _ _ _ _ _).2, netUse_coreAt]
    rfl

end

/-! ### A store to a line of the L1 -/

section
variable {n : Nat} {x : Store} {r : List Store} {l : L1Line}

/-- A line that holds the bytes of a store. -/
def patchedLine (pa sel : Nat) (b : List Nat) (l : L1Line) : L1Line :=
  if l.pa == pa / 128 * 128 && l.sel == sel then
    { l with data := patch l.data (pa % 128) b,
             dirty := (List.range 128).map (fun i => l.dirty.getD i false || (decide (pa % 128 ≤ i) && decide (i < pa % 128 + b.length))) }
  else l

theorem patchedLine_key (pa sel : Nat) (b : List Nat) (l : L1Line) : (patchedLine pa sel b l).pa = l.pa ∧ (patchedLine pa sel b l).sel = l.sel := by
  unfold patchedLine
  split <;> exact ⟨rfl, rfl⟩

/-- A search by the key of a line finds the patched line. -/
theorem l1Find_patched (k : Core) (pa sel : Nat) (b : List Nat) (pa' sel' : Nat) :
    ({ k with l1 := k.l1.map (patchedLine pa sel b) } : Core).l1Find pa' sel' = (k.l1Find pa' sel').map (patchedLine pa sel b) := by
  unfold Core.l1Find
  rw [List.find?_map]
  refine congrArg (Option.map _) (congrArg (fun p => List.find? p k.l1) (funext fun l => ?_))
  obtain ⟨hpa, hsel⟩ := patchedLine_key pa sel b l
  simp only [Function.comp_apply, hpa, hsel]

theorem storeAt_l1 (t : State) (hplain : x.plain = true) (hrel : x.rel = false) (hmode : (t.coreAt n).mode ≠ .stopped)
    (hrep : t.replaying n = false) (hl : (t.coreAt n).l1Find x.pa x.sel = some l) :
    t.storeAt n x = (t.l1Patch n x.pa x.sel x.bytes, .ok ()) := by
  have hk : x.kind = 1 := beq_iff_eq.mp (Bool.and_eq_true _ _ ▸ hplain : (x.kind == 1) = true ∧ (x.scope == 0) = true).1
  have hbar : t.replayBar n true (placeTgt x.kind x.pa x.sel) = 0 := by
    unfold State.replayBar
    rw [hrep]
    rfl
  have hcap : t.capture n (placeTgt x.kind x.pa x.sel) = t := by
    rw [hk]
    unfold State.capture placeTgt
    dsimp only
    rw [hrep]
    rfl
  have hgo : (x.plain && (t.coreAt n).mode != .stopped) = true := by rw [hplain, bne_iff_ne.mpr hmode]; rfl
  unfold State.storeAt
  rw [hrel, Bool.false_and, if_neg Bool.false_ne_true, if_neg (by rw [hk]; decide)]
  unfold State.guarded
  dsimp only
  rw [hbar, if_pos rfl, if_pos rfl, hcap, hgo, if_pos rfl, hl, Option.isSome_some, if_pos rfl]

theorem storePerform_l1 (hst : (s.coreAt n).stores = x :: r) (hreleased : x.released = true) (hrel : x.rel = false)
    (hsent : ∀ y ∈ x :: r, y.sent = false) (hpays : s.pays = .post) (hwait : s.waiting (engPayer s n storeTag) = false)
    (hplain : x.plain = true) (hmode : (s.coreAt n).mode ≠ .stopped) (hrep : s.replaying n = false)
    (hl : (s.coreAt n).l1Find x.pa x.sel = some l) :
    ∃ t l', execStorePerform n s = .next t ∧ (t.coreAt n).stores = r ∧ (t.coreAt n).l1Find x.pa x.sel = some l' ∧
      l'.data = patch l.data (x.pa % 128) x.bytes ∧ l'.pins = l.pins ∧
      (∀ pa sel, ¬ (pa / 128 = x.pa / 128 ∧ sel = x.sel) → (t.coreAt n).l1Find pa sel = (s.coreAt n).l1Find pa sel) ∧
      (∀ a, memGet t.mem a = memGet s.mem a) ∧ t.l2 = s.l2 ∧ (∀ c a, t.spadGet c a = s.spadGet c a) := by
  have hat := storeAt_l1 (n := n) s.collecting hplain hrel hmode hrep hl
  have hunits : s.storeUnits n x = 0 := by
    unfold State.storeUnits
    dsimp only
    rw [hplain, hl, bne_iff_ne.mpr hmode]
    exact ite_self _
  have hcore : (s.collecting.l1Patch n x.pa x.sel x.bytes).coreAt n = { s.coreAt n with l1 := (s.coreAt n).l1.map (patchedLine x.pa x.sel x.bytes) } :=
    coreAt_modCoreAt_self s.collecting n _
  have hfind (pa sel : Nat) : ((taken ((s.collecting.l1Patch n x.pa x.sel x.bytes).paidUp (engPayer s n storeTag)) n x).coreAt n).l1Find pa sel =
      ((s.coreAt n).l1Find pa sel).map (patchedLine x.pa x.sel x.bytes) := by
    rw [Core.l1Find, taken_l1, coreAt_paidUp, ← Core.l1Find, hcore, l1Find_patched]
  have hkey := List.find?_some (p := fun l : L1Line => l.pa == x.pa / 128 * 128 && l.sel == x.sel) hl
  refine ⟨_, _, storePerform_free hst hreleased hsent hunits hwait hat ⟨hpays, hwait, rfl⟩, ?_, (hfind _ _).trans (congrArg _ hl), ?_, ?_,
    fun pa sel h => (hfind pa sel).trans ?_, fun a => ?_, ?_, fun c a => ?_⟩
  · rw [← taken, taken_stores, coreAt_paidUp, hcore]
    exact (congrArg (List.erase · x) hst).trans (List.erase_cons_head ..)
  · exact congrArg L1Line.data (if_pos hkey)
  · rw [patchedLine, if_pos hkey]
  · cases hf : (s.coreAt n).l1Find pa sel with
    | none => rfl
    | some l' =>
      have hkey' := List.find?_some (p := fun l : L1Line => l.pa == pa / 128 * 128 && l.sel == sel) hf
      simp only [Bool.and_eq_true, beq_iff_eq] at hkey'
      refine congrArg some (if_neg (fun hc => h ?_))
      simp only [Bool.and_eq_true, beq_iff_eq] at hc
      omega
  · rw [← taken, taken_mem, paidUp_mem]
    rfl
  · rw [← taken, taken_l2, paidUp_l2]
    rfl
  · rw [← taken, State.spadGet, taken_spad, coreAt_paidUp]
    by_cases hc : c = n
    · rw [hc, hcore]
      rfl
    · rw [show (s.collecting.l1Patch n x.pa x.sel x.bytes).coreAt c = s.coreAt c from coreAt_modCoreAt_ne s.collecting n c _ hc]
      rfl

end

/-- What a quiet command leaves unchanged, in the terms of the claim. -/
theorem Quiet.keeps {t : State} (h : Quiet s t) : (∀ a, memGet t.mem a = memGet s.mem a) ∧ (∀ c a, t.spadGet c a = s.spadGet c a) ∧
    t.l2 = s.l2 ∧ t.core.l1 = s.core.l1 ∧ t.core.stores = s.core.stores ∧ (∀ n, n ≠ s.focus → t.coreAt n = s.coreAt n) ∧
    Sync.AgreeOn allRegs s.core.sync t.core.sync ∧ Sync.AgreeControl s.core.sync t.core.sync := by
  obtain ⟨hfocus, hmem, hl2, hothers, hl1, hspad, hstores, hregs, hcontrol⟩ := h
  refine ⟨fun a => by rw [hmem], fun c a => ?_, hl2, hl1, hstores, hothers, hregs, hcontrol⟩
  by_cases hc : c = s.focus
  · rw [State.core, hfocus] at hspad
    rw [State.spadGet, State.spadGet, hc, hspad]
    rfl
  · rw [State.spadGet, hothers c hc, State.spadGet]

end

/-- Settles O60: the commands only enter their queues, and a store changes its place alone. -/
theorem memoryFrame : Obligations.MemoryFrame := by
  unfold Obligations.MemoryFrame
  intro s quiet
  have hq {m : State → Host.Outcome State Fault Refusal} (h : ∀ t, m s = .next t → Quiet s t) (t : State) (e : m s = .next t) := (h t e).keeps
  refine ⟨fun o => ⟨hq (mmaOp_quiet o _ _), hq (mmaOp_quiet o _ _), hq (mmaOp_quiet o _ _)⟩, fun o => hq (m := execMzero o) (.xnOp (.whenFree _ (.mIssue _))),
    fun o => hq (m := execMldz o) (.xnOp (.whenFree _ (.ringCheck _ _ ((Quiet.mIssue _).trans (.warn _ _))))), fun o => hq (mstz_quiet o),
    fun o => hq (m := execMskp o) (.xnOp (.ringCheck _ _ (.mIssue _))), fun o => hq (mwait_quiet o),
    fun o => ⟨hq (tacq_quiet o), hq (m := execTrel o) (.xnOp (.tCheck _ (.tIssue _))), hq (m := execTrst o) (.xnOp (.tCheck _ (.tIssue _)))⟩,
    fun o => ⟨hq (m := execTldw o) (.xnOp (.tCheck _ (.ringCheck _ _ ((Quiet.tIssue _).trans (.warn _ _))))),
      hq (m := execTcap o) (.xnOp (.tCheck _ (.ringCheck _ _ ((Quiet.tIssue _).trans (.warn _ _)))))⟩,
    fun o h => hq (tlnc_quiet o h), fun o => hq (m := execCpy o) (.xnOp (.cScoped _ _ _)), fun o => hq (m := execCpys o) (.xnOp (.cScoped _ _ _)),
    fun o => ⟨hq (m := execCpyt o) (.xnOp (.ringCheck _ _ (.cScoped _ _ _))), hq (m := execCpyw o) (.xnOp (.ringCheck _ _ (.cScoped _ _ _))),
      hq (m := execLdblk o) (.xnOp (.cScoped _ _ _))⟩, fun o => hq (m := execEvblk o) (.xnOp (.cIssue _ _)),
    fun o => ⟨hq (m := execGthr o) (.xnOp (.cScoped _ _ _)), hq (m := execSctr o) (.xnOp (.cScoped _ _ _))⟩, fun o => hq (cwait_quiet o),
    fun o => hq (m := execCsig o) (.xnOp ((Quiet.cScoped _ _ _).trans (.warn _ _))), fun o h => hq (coll_quiet o h),
    fun n x r hst hreleased hrel hsent hpays hwait => ⟨fun c o hk ht hpaid => ?_, fun l hplain hmode hrep hl => ?_⟩⟩
  · exact storePerform_spad hst hreleased hrel hsent hpays hwait hk ht hpaid
  · exact storePerform_l1 hst hreleased hrel hsent hpays hwait hplain hmode hrep hl

end Sys2Proof.Proofs.MemoryFrame
end

section
/-! Proofs. Every step has a next state, and it keeps memory in canonical form. Only the writes of the controllers, the
scrub of a frame and a reset change the list of memory, so the argument is one lemma per function that a step calls, in the order of the
definitions: `Formed.f` for a function that gives a state, `FormedPair.f` for one that gives a state and a value, `Goes.f` for the meaning
of an instruction or event. A proof follows the branches of its function and cites the lemmas of the functions that it calls. -/

namespace Sys2Proof.Proofs.MemoryForm
open Sys2Proof Sys2Proof.Machine

/-- Memory of a state in canonical form. -/
def Formed (s : State) : Prop := s.memOk

/-- An outcome that is a next state, with memory in canonical form if it was so before. -/
def Goes (s : State) (r : Host.Outcome State Fault Refusal) : Prop := ∃ t, r = .next t ∧ (Formed s → Formed t)

/-- The state of a pair, with memory in canonical form. It is a definition of its own so that the kernel compares two pairs before it
looks into them. -/
def FormedPair {β : Type} (p : State × β) : Prop := Formed p.1

/-- A state that may have been reached, with memory in canonical form. -/
def MaybeFormed (o : Option State) : Prop := ∀ t, o = some t → Formed t

/-- An outcome that may have been reached: it goes on. -/
def MayGo (s : State) (o : Option (Host.Outcome State Fault Refusal)) : Prop := ∀ r, o = some r → Goes s r

namespace Formed

variable {s t a b : State}

theorem of_mem (h : Formed s) (e : t.mem = s.mem) : Formed t := by
  unfold Formed State.memOk
  rw [e]
  exact h

theorem ite {c : Prop} [Decidable c] (ha : Formed a) (hb : Formed b) : Formed (if c then a else b) := by
  split
  · exact ha
  · exact hb

theorem foldl {α : Type} {f : State → α → State} {l : List α} (hf : ∀ t x, Formed t → Formed (f t x)) (h : Formed s) :
    Formed (l.foldl f s) := by
  induction l generalizing s with
  | nil => exact h
  | cons x l ih => exact ih (hf s x h)

theorem of_some {o : Option State} (ho : MaybeFormed o) (e : o = some t) : Formed t := ho t e

theorem getD {o : Option State} (ho : MaybeFormed o) (h : Formed s) : Formed (o.getD s) := by
  cases o with
  | none => exact h
  | some t => exact ho t rfl

theorem reset : Formed State.reset := reset_memory_wf

end Formed

theorem Formed.fst {β : Type} {p : State × β} (h : FormedPair p) : Formed p.1 := h

theorem Formed.of_fst {β : Type} {p : State × β} {t : State} {y : β} (e : p = (t, y)) (h : FormedPair p) : Formed t := by
  rw [e] at h
  exact h

namespace FormedPair

variable {β : Type} {p q : State × β} {t : State} {y : β}

theorem mk (h : Formed t) : FormedPair (t, y) := h

theorem ite {c : Prop} [Decidable c] (hp : FormedPair p) (hq : FormedPair q) : FormedPair (if c then p else q) := by
  split
  · exact hp
  · exact hq

theorem foldl {α : Type} {f : State × β → α → State × β} {l : List α} (hf : ∀ q x, FormedPair q → FormedPair (f q x)) (h : FormedPair p) :
    FormedPair (l.foldl f p) := by
  induction l generalizing p with
  | nil => exact h
  | cons x l ih => exact ih (hf p x h)

end FormedPair

namespace MaybeFormed

variable {s : State} {a b : Option State}

theorem none : MaybeFormed none := fun _ e => nomatch e

theorem some (h : Formed s) : MaybeFormed (some s) := fun _ e => Option.some.inj e ▸ h

theorem ite {c : Prop} [Decidable c] (ha : MaybeFormed a) (hb : MaybeFormed b) : MaybeFormed (if c then a else b) := by
  split
  · exact ha
  · exact hb

theorem map {α : Type} {o : Option α} {f : α → State} (h : ∀ x, Formed (f x)) : MaybeFormed (o.map f) := by
  cases o with
  | none => exact .none
  | some x => exact .some (h x)

end MaybeFormed

namespace Goes

variable {s t : State} {r r' : Host.Outcome State Fault Refusal}

theorem next (h : Formed s → Formed t) : Goes s (.next t) := ⟨t, rfl, h⟩

theorem of (h : Formed s → Formed t) (g : Goes t r) : Goes s r := by
  obtain ⟨u, e, hu⟩ := g
  exact ⟨u, e, fun hs => hu (h hs)⟩

theorem ite {c : Prop} [Decidable c] (ha : Goes s r) (hb : Goes s r') : Goes s (if c then r else r') := by
  split
  · exact ha
  · exact hb

end Goes

namespace MayGo

variable {s t : State} {r : Host.Outcome State Fault Refusal} {a b : Option (Host.Outcome State Fault Refusal)}

theorem none : MayGo s none := fun _ e => nomatch e

theorem some (h : Goes s r) : MayGo s (some r) := fun _ e => Option.some.inj e ▸ h

theorem ite {c : Prop} [Decidable c] (ha : MayGo s a) (hb : MayGo s b) : MayGo s (if c then a else b) := by
  split
  · exact ha
  · exact hb

theorem of (h : Formed s → Formed t) (g : MayGo t a) : MayGo s a := fun r e => (g r e).of h

end MayGo

section
variable {s : State}

theorem Formed.modCoreAt {n : Nat} {f : Core → Core} (h : Formed s) : Formed (s.modCoreAt n f) := .of_mem h rfl
theorem Formed.modCore {f : Core → Core} (h : Formed s) : Formed (s.modCore f) := .modCoreAt h
theorem Formed.modCl {i : Nat} {f : Cluster → Cluster} (h : Formed s) : Formed (s.modCl i f) := .of_mem h rfl
theorem Formed.modDie {d : Nat} {f : Die → Die} (h : Formed s) : Formed (s.modDie d f) := .of_mem h rfl
theorem Formed.modGuest {g : Nat} {f : Guest → Guest} (h : Formed s) : Formed (s.modGuest g f) := .of_mem h rfl
theorem Formed.tickFree (h : Formed s) : Formed s.tickFree := .of_mem h rfl
theorem Formed.modBucket {die point g : Nat} {f : Bucket → Bucket} (h : Formed s) : Formed (s.modBucket die point g f) := .of_mem h rfl
theorem Formed.debit {die point g units : Nat} (h : Formed s) : Formed (s.debit die point g units) := .modBucket h
theorem Formed.post {core : Option Nat} {die point g units : Nat} (h : Formed s) : Formed (s.post core die point g units) := .of_mem h rfl

theorem Formed.charge {die point g units : Nat} (h : Formed s) : Formed (s.charge die point g units) := by
  unfold State.charge
  split
  · exact .post h
  · exact .debit h
  · exact .of_mem h rfl

theorem FormedPair.paying {α : Type} {p : Paying} {f : State → State × α} (h : Formed s) (hf : ∀ (t : State), Formed t → FormedPair (f t)) :
    FormedPair (s.paying p f) := by
  unfold State.paying
  extract_lets +onlyGivenNames r
  have hr : FormedPair r := hf _ (.of_mem h rfl)
  clear_value r
  exact .mk (.of_mem (.fst hr) rfl)

theorem FormedPair.uncharged {α : Type} {f : State → State × α} (h : Formed s) (hf : ∀ (t : State), Formed t → FormedPair (f t)) :
    FormedPair (s.uncharged f) :=
  .paying h fun _ h1 => hf _ h1

theorem Formed.paysKey {key units : Nat} (h : Formed s) : Formed (s.paysKey key units) := by
  unfold State.paysKey
  split
  · exact .of_mem h rfl
  · exact h

theorem Formed.netUse {c k : Nat} (h : Formed s) : Formed (s.netUse c k) := .ite h (.paysKey h)
theorem Formed.chargeCtl {g pa units : Nat} (h : Formed s) : Formed (s.chargeCtl g pa units) := .charge h
theorem Formed.joinWalker {o : Payer} {page : Option Nat} (h : Formed s) : Formed (s.joinWalker o page) := .ite h (.modGuest h)
theorem Formed.leaveWalker {o : Payer} (h : Formed s) : Formed (s.leaveWalker o) := .ite (.modGuest h) h
theorem Formed.netTake {k last : Nat} (h : Formed s) : Formed (s.netTake k last) := .modCl h

theorem Formed.bring {o : Payer} {p : Nat × List Nat} (h : Formed s) : Formed (State.bring o s p) :=
  .ite (.of_mem h rfl) (.ite (.of_mem h rfl) (.of_mem h rfl))

theorem FormedPair.regulated {α : Type} {o : Payer} {wait : α → Bool} {f : State → State × α} (h : Formed s)
    (hf : ∀ (t : State), Formed t → FormedPair (f t)) :
    FormedPair (s.regulated o wait f) := by
  unfold State.regulated
  split
  · split
    · exact .mk h
    · extract_lets +onlyGivenNames r
      have hr : FormedPair r := hf _ (.of_mem h rfl)
      clear_value r
      exact .ite (.mk (.ite (.of_mem (.fst hr) rfl) (.of_mem (.leaveWalker (.fst hr)) rfl)))
        (.ite (.mk (.joinWalker h)) (.mk (.foldl (fun _ _ ht => .bring ht) h)))
  · exact .mk (.fst (hf _ h))

theorem Formed.cpGate {g : Nat} {f : State → State} (h : Formed s) (hf : ∀ (t : State), Formed t → Formed (f t)) : Formed (s.cpGate g f) :=
  .fst (.regulated h (fun _ h1 => .mk (hf _ h1)))

theorem Formed.ctlWrite {line : Nat} {key b : List Nat} (h : Formed s) : Formed (s.ctlWrite line key b) :=
  memory_wf_memWrite (b.take 128) s.mem line h

theorem Formed.l2Drop {line sel : Nat} (h : Formed s) : Formed (s.l2Drop line sel) := .of_mem h rfl
theorem Formed.logMemue {pa : Nat} (h : Formed s) : Formed (s.logMemue pa) := .of_mem h rfl
theorem Formed.logArray {c pa : Nat} (h : Formed s) : Formed (s.logArray c pa) := .of_mem h rfl

theorem Formed.l2WriteBack {l : L2Line} (h : Formed s) : Formed (s.l2WriteBack l) := by
  unfold State.l2WriteBack
  split
  · exact h
  · split
    · exact .of_mem h rfl
    · extract_lets +onlyGivenNames c t
      have ht : Formed t := .ctlWrite h
      clear_value t
      split
      · exact .debit ht
      · exact .post ht

theorem Formed.l2Evict {l : L2Line} (h : Formed s) : Formed (s.l2Evict l) := .l2Drop (.l2WriteBack h)
theorem Formed.l2Clean {l : L2Line} (h : Formed s) : Formed (s.l2Clean l) := .ite (.l2Drop (.l2WriteBack h)) (.of_mem (.l2WriteBack h) rfl)

theorem Formed.l2Alloc {g line sel : Nat} {dirty : Bool} {data : List Nat} (h : Formed s) : Formed (s.l2Alloc g line sel dirty data) := by
  unfold State.l2Alloc
  extract_lets +onlyGivenNames ways here
  split
  · exact .of_mem h rfl
  · extract_lets +onlyGivenNames n
    split
    · exact h
    · extract_lets +onlyGivenNames victim t
      have ht : Formed t := by
        unfold t
        clear_value victim
        split
        · exact .l2Evict h
        · exact h
      clear_value t
      exact .of_mem ht rfl

theorem FormedPair.homeRead {g sel pa n : Nat} (h : Formed s) : FormedPair (s.homeRead g sel pa n) := by
  unfold State.homeRead
  extract_lets +onlyGivenNames line
  split
  · exact .ite (.mk (.logMemue h)) (.mk h)
  · split
    · exact .mk (.logMemue (.chargeCtl h))
    · exact .ite (.mk (.chargeCtl h)) (.mk (.l2Alloc (.chargeCtl h)))

theorem FormedPair.ctlPut {g line sel off : Nat} {b : List Nat} (h : Formed s) : FormedPair (s.ctlPut g line sel off b) := by
  unfold State.ctlPut
  split
  · exact .mk (.chargeCtl (.ctlWrite h))
  · split
    · exact .mk (.logMemue (.chargeCtl h))
    · exact .mk (.chargeCtl (.ctlWrite h))

theorem FormedPair.homeWrite {g sel pa : Nat} {b : List Nat} (h : Formed s) : FormedPair (s.homeWrite g sel pa b) := by
  unfold State.homeWrite
  extract_lets +onlyGivenNames line
  split
  · exact .ite (.mk (.logMemue h)) (.mk (.of_mem h rfl))
  · split
    · exact .ctlPut h
    · split
      · exact .mk (.l2Alloc h)
      · split
        · exact .mk (.logMemue (.chargeCtl h))
        · exact .mk (.l2Alloc (.chargeCtl h))

theorem Formed.l2Flush {line : Nat} (h : Formed s) : Formed (s.l2Flush line) := .foldl (fun _ _ ht => .l2Evict ht) h

theorem FormedPair.uncRead {g sel pa n : Nat} (h : Formed s) : FormedPair (s.uncRead g sel pa n) := by
  unfold State.uncRead
  extract_lets +onlyGivenNames line t
  have ht : Formed t := .l2Flush h
  clear_value t
  extract_lets +onlyGivenNames t1
  have ht1 : Formed t1 := .chargeCtl ht
  clear_value t1
  split
  · exact .mk (.logMemue ht1)
  · exact .mk ht1

theorem FormedPair.uncWrite {g sel pa : Nat} {b : List Nat} (h : Formed s) : FormedPair (s.uncWrite g sel pa b) := .ctlPut (.l2Flush h)

theorem FormedPair.walkRead {g die pa grp n : Nat} (h : Formed s) : FormedPair (s.walkRead g die pa grp n) := by
  unfold State.walkRead
  extract_lets +onlyGivenNames r
  have hr : FormedPair r := .homeRead (.charge h)
  clear_value r
  split
  · exact .mk (.fst hr)
  · split
    · exact .mk (.fst hr)
    · refine .uncharged (.fst hr) ?_
      exact fun _ h1 => .homeRead h1

theorem FormedPair.walkLevel {g die gen va kind : Nat} {l : List Nat} {k : Nat} (h : Formed s) : FormedPair (s.walkLevel g die gen va kind l k) := by
  induction l generalizing s k with
  | nil =>
    unfold State.walkLevel
    exact .mk h
  | cons x xs ih =>
    unfold State.walkLevel
    extract_lets +onlyGivenNames idx n r
    have hr : FormedPair r := .walkRead h
    clear_value r
    extract_lets +onlyGivenNames s1
    have hs1 : Formed s1 := .fst hr
    clear_value s1
    split
    · exact .mk hs1
    · exact .ite (.mk hs1)
        (.ite (.ite (.mk hs1) (.ite (.mk hs1) (.mk (.fst (.ite (.homeWrite (.charge hs1)) (.mk hs1))))))
          (.ite (.mk hs1) (.ite (.mk hs1) (ih (.modDie hs1)))))

theorem FormedPair.walk {g die va kind : Nat} (h : Formed s) : FormedPair (s.walk g die va kind) := by
  unfold State.walk
  extract_lets +onlyGivenNames c wd hit
  split
  · exact .mk h
  · split
    · exact .walkLevel h
    · split
      · exact .walkLevel h
      · split
        · exact .walkLevel h
        · exact .walkLevel h

theorem FormedPair.translated {kind : Nat} {e : TlbEnt} {keep : State → State} (h : Formed s) (hkeep : ∀ (t : State), Formed t → Formed (keep t)) :
    FormedPair (s.translated kind e keep) := by
  unfold State.translated
  split
  · exact .mk h
  · exact .mk (hkeep _ h)

theorem FormedPair.translate {c va kind : Nat} (h : Formed s) : FormedPair (s.translate c va kind) := by
  have hr : FormedPair ((s.paysKey (pageKey va) 0).walk (s.coreAt c).guest (dieOf c) va kind) := .walk (.paysKey h)
  unfold State.translate
  dsimp only
  generalize (s.paysKey (pageKey va) 0).walk (s.coreAt c).guest (dieOf c) va kind = r at hr ⊢
  generalize s.tlb1 c va kind = o
  cases o with
  | some e => exact .mk h
  | none =>
    dsimp only
    generalize (if (s.clAt (clOf c)).tlbGuest == some (s.coreAt c).guest then _ else none) = o
    cases o with
    | some e => exact .translated (.paysKey h) fun _ h1 => .modCoreAt h1
    | none =>
      cases r.2 with
      | error x => exact .mk (.fst hr)
      | ok x => exact .translated (.fst hr) fun _ h1 => .modCoreAt (.ite (.modCl h1) h1)

theorem FormedPair.resolve {c va kind : Nat} (h : Formed s) : FormedPair (s.resolve c va kind) :=
  .ite (.mk h) (.ite (.mk h) (.mk (.fst (.translate h))))

theorem Formed.modPort {p : Nat} {f : Port → Port} (h : Formed s) : Formed (s.modPort p f) := .of_mem h rfl
theorem Formed.emit {p slot : Nat} {m : FlitMsg} (h : Formed s) : Formed (s.emit p slot m) := .modPort (.of_mem h rfl)

theorem Formed.sendTo {car type owner : Nat} {b : List Nat} (h : Formed s) : Formed (s.sendTo car type owner b) := by
  unfold State.sendTo
  split
  · exact h
  · exact .modPort h

theorem Formed.tell {cars b : List Nat} (h : Formed s) : Formed (s.tell cars b) := .foldl (fun _ _ ht => .sendTo ht) h

theorem Formed.slotTurn {p slot : Nat} (h : Formed s) : Formed (s.slotTurn p slot) := by
  unfold State.slotTurn
  extract_lets +onlyGivenNames q o
  split
  · exact h
  · split
    · split
      · exact .modPort h
      · exact .ite (.modPort (.of_mem h rfl)) h
    · split
      · exact h
      · split
        · exact .emit (.modPort h)
        · split
          · exact .emit h
          · split
            · exact h
            · extract_lets +onlyGivenNames m t
              have ht : Formed t := .emit (.modPort h)
              clear_value t
              exact .of_mem ht rfl

theorem Formed.portTurns {p : Nat} (h : Formed s) : Formed (s.portTurns p) := .ite h (.modPort (.foldl (fun _ _ ht => .slotTurn ht) h))
theorem Formed.fabLogPut {why pa : Nat} (h : Formed s) : Formed (s.fabLogPut why pa) := .ite (.of_mem h rfl) h

theorem FormedPair.remote {core tag pa len kind op : Nat} {data cmp : List Nat} (h : Formed s) :
    FormedPair (s.remote core tag pa len kind op data cmp) := by
  unfold State.remote
  extract_lets +onlyGivenNames car
  split
  · split
    · exact .mk h
    · exact .mk h
    · exact .mk h
  · split
    · exact .mk (.fabLogPut h)
    · exact .mk (.of_mem h rfl)

theorem Formed.remDone {core tag : Nat} (h : Formed s) : Formed (s.remDone core tag) := .of_mem h rfl
theorem FormedPair.gResolve {g va kind : Nat} (h : Formed s) : FormedPair (s.gResolve g va kind) := .ite (.mk h) (.ite (.mk h) (.mk (.fst (.walk h))))

theorem FormedPair.gReadP {g : Nat} {l : List (Nat × Nat)} (h : Formed s) : FormedPair (s.gReadP g l) := by
  induction l generalizing s with
  | nil =>
    unfold State.gReadP
    exact .mk h
  | cons x xs ih =>
    unfold State.gReadP
    extract_lets +onlyGivenNames r
    have hr : FormedPair r := .gResolve h
    clear_value r
    split
    · exact .mk (.fst hr)
    · extract_lets +onlyGivenNames s1
      have hs1 : Formed s1 := .charge (.fst hr)
      clear_value s1
      extract_lets +onlyGivenNames r2
      have hr2 : FormedPair r2 := by
        unfold r2
        split
        · exact .homeRead hs1
        · exact .uncRead hs1
        · exact .mk hs1
      clear_value r2
      split
      · exact .mk (.fst (ih (.fst hr2)))
      · exact .mk (.fst hr2)
      · exact .mk (.fst hr2)
      · exact .mk (.fst hr2)

theorem FormedPair.gRead {g va n : Nat} (h : Formed s) : FormedPair (s.gRead g va n) := .gReadP h

theorem FormedPair.gWriteP {g die point : Nat} {l : List (Nat × Nat)} {l' : List Nat} (h : Formed s) : FormedPair (s.gWriteP g die point l l') := by
  induction l generalizing s l' with
  | nil =>
    unfold State.gWriteP
    exact .mk h
  | cons x xs ih =>
    unfold State.gWriteP
    extract_lets +onlyGivenNames r
    have hr : FormedPair r := .gResolve h
    clear_value r
    split
    · exact .mk (.fst hr)
    · extract_lets +onlyGivenNames s1
      have hs1 : Formed s1 := .charge (.fst hr)
      clear_value s1
      extract_lets +onlyGivenNames r2
      have hr2 : FormedPair r2 := by
        unfold r2
        split
        · exact .mk (.fst (.homeWrite hs1))
        · exact .mk (.fst (.uncWrite hs1))
        · exact .mk hs1
      clear_value r2
      split
      · exact .mk (.fst hr2)
      · exact ih (.fst hr2)

theorem FormedPair.gWrite {g va : Nat} {b : List Nat} (h : Formed s) : FormedPair (s.gWrite g va b) := .gWriteP h
theorem Formed.replayEnd {g reason : Nat} (h : Formed s) : Formed (s.replayEnd g reason) := .modGuest h

theorem FormedPair.pageRead {g sel pa : Nat} {l : List Nat} (h : Formed s) : FormedPair (s.pageRead g sel pa l) := by
  induction l generalizing s with
  | nil =>
    unfold State.pageRead
    exact .mk h
  | cons x xs ih =>
    unfold State.pageRead
    exact .mk (.fst (ih (.fst (.homeRead h))))

theorem Formed.capture {c : Nat} {t : Tgt} (h : Formed s) : Formed (s.capture c t) := by
  unfold State.capture
  split
  · exact .ite h (.ite h (.modGuest (.fst (.gWrite (.fst (.pageRead h))))))
  · exact h

end

end Sys2Proof.Proofs.MemoryForm
end

section
/-! Proofs. Keeping the form of memory: the operations of the scalar slot and of the core. -/

namespace Sys2Proof.Proofs.MemoryForm
open Sys2Proof Sys2Proof.Machine

section
variable {s : State}

theorem FormedPair.guarded {α : Type} {c : Nat} {write : Bool} {t : Tgt} {f : State → State × Except Nat α} (h : Formed s)
    (hf : ∀ (t : State), Formed t → FormedPair (f t)) :
    FormedPair (s.guarded c write t f) :=
  .ite (hf _ (.ite (.capture h) h)) (.mk (.replayEnd h))

theorem FormedPair.tgtRead {c tag : Nat} {t : Tgt} {n : Nat} (h : Formed s) : FormedPair (s.tgtRead c tag t n) := by
  unfold State.tgtRead
  extract_lets +onlyGivenNames g
  split
  · exact .ite (.mk (.logArray h)) (.mk (.netUse h))
  · exact .mk (.fst (.homeRead h))
  · exact .mk (.fst (.uncRead h))
  · exact .mk (.tickFree h)
  · split
    · extract_lets +onlyGivenNames w off
      split
      · exact .mk (.fabLogPut h)
      · exact .mk (.fst (.homeRead h))
    · exact .remote h

theorem FormedPair.tgtWrite {c tag : Nat} {t : Tgt} {b : List Nat} (h : Formed s) : FormedPair (s.tgtWrite c tag t b) := by
  unfold State.tgtWrite
  extract_lets +onlyGivenNames g
  split
  · exact .mk (.modCoreAt (.netUse h))
  · exact .mk (.fst (.homeWrite h))
  · exact .mk (.fst (.uncWrite h))
  · exact .mk h
  · split
    · extract_lets +onlyGivenNames w off
      split
      · exact .mk (.fabLogPut h)
      · exact .mk (.fst (.homeWrite h))
    · exact .mk (.fst (.remote h))

theorem FormedPair.vaReadP {c tag kind : Nat} {l : List (Nat × Nat)} (h : Formed s) : FormedPair (s.vaReadP c tag kind l) := by
  induction l generalizing s with
  | nil =>
    unfold State.vaReadP
    exact .mk h
  | cons x xs ih =>
    unfold State.vaReadP
    extract_lets +onlyGivenNames r
    have hr : FormedPair r := .resolve h
    clear_value r
    split
    · exact .mk (.fst hr)
    · extract_lets +onlyGivenNames r2
      have hr2 : FormedPair r2 := by
        unfold r2
        refine .guarded (.fst hr) ?_
        exact fun _ h1 => .tgtRead h1
      clear_value r2
      split
      · exact .mk (.fst hr2)
      · exact .mk (.fst (ih (.fst hr2)))

theorem FormedPair.vaRead {c tag kind va n : Nat} (h : Formed s) : FormedPair (s.vaRead c tag kind va n) := .vaReadP h

theorem FormedPair.vaWriteP {c tag kind : Nat} {l : List (Nat × Nat)} {l' : List Nat} (h : Formed s) : FormedPair (s.vaWriteP c tag kind l l') := by
  induction l generalizing s l' with
  | nil =>
    unfold State.vaWriteP
    exact .mk h
  | cons x xs ih =>
    unfold State.vaWriteP
    extract_lets +onlyGivenNames r
    have hr : FormedPair r := .resolve h
    clear_value r
    split
    · exact .mk (.fst hr)
    · extract_lets +onlyGivenNames r2
      have hr2 : FormedPair r2 := by
        unfold r2
        refine .guarded (.fst hr) ?_
        exact fun _ h1 => .tgtWrite h1
      clear_value r2
      split
      · exact .mk (.fst hr2)
      · exact ih (.fst hr2)

theorem FormedPair.vaWrite {c tag kind va : Nat} {b : List Nat} (h : Formed s) : FormedPair (s.vaWrite c tag kind va b) := .vaWriteP h
theorem Formed.sendMsg {g v : Nat} (h : Formed s) : Formed (s.sendMsg g v) := .ite (.modGuest h) (.of_mem h rfl)
theorem Formed.irqPost {g v : Nat} (h : Formed s) : Formed (s.irqPost g v) := .ite (.sendMsg (.modGuest h)) (.modGuest h)
theorem Formed.hostEv {code detail addr : Nat} (h : Formed s) : Formed (s.hostEv code detail addr) := .of_mem h rfl
theorem Formed.hostIrq {v : Nat} (h : Formed s) : Formed (s.hostIrq v) := .of_mem h rfl

theorem Formed.statusEvent {g kind code detail addr : Nat} (h : Formed s) : Formed (s.statusEvent g kind code detail addr) := by
  unfold State.statusEvent
  extract_lets +onlyGivenNames q n
  split
  · exact h
  · split
    · exact .modGuest h
    · extract_lets +onlyGivenNames a r
      have hr : FormedPair r := .gWrite h
      clear_value r
      split
      · exact .hostEv (.modGuest (.fst hr))
      · exact .irqPost (.modGuest (.fst hr))

theorem Formed.evAdd {g e v : Nat} (h : Formed s) : Formed (s.evAdd g e v) := .modGuest h

theorem Formed.countIn {c : Nat} {handler : Bool} {e n : Nat} (h : Formed s) : Formed (s.countIn c handler e n) :=
  .ite h (.ite (.modCoreAt h) (.ite (.modCoreAt h) h))

theorem Formed.countAt {c e n : Nat} (h : Formed s) : Formed (s.countAt c e n) := .countIn h
theorem Formed.count {e n : Nat} (h : Formed s) : Formed (s.count e n) := .countAt h
theorem Formed.askWalk {n va kind : Nat} (h : Formed s) : Formed (s.askWalk n va kind) := .ite h (.modCoreAt h)
theorem Formed.park {i : Outside} (h : Formed s) : Formed (s.park i) := .of_mem h rfl

theorem Formed.traceRecAt {c type aux addr data cycle flags : Nat} (h : Formed s) : Formed (s.traceRecAt c type aux addr data cycle flags) :=
  .ite h (.modCl h)

theorem Formed.traceRec {c type aux addr data : Nat} (h : Formed s) : Formed (s.traceRec c type aux addr data) := .traceRecAt h

theorem Formed.traceOut {cl g : Nat} {b : List Nat} (h : Formed s) : Formed (s.traceOut cl g b) := by
  unfold State.traceOut
  extract_lets +onlyGivenNames u host cap lost
  have hlost : ∀ (t : State), Formed t → Formed (lost t) := fun _ h1 => .modCl h1
  clear_value lost
  extract_lets +onlyGivenNames onWay at_ held
  split
  · exact hlost _ h
  · split
    · exact hlost _ h
    · extract_lets +onlyGivenNames a
      split
      · refine .modCl ?_
        refine .fst ?_
        refine .uncharged h ?_
        exact fun _ h1 => .homeWrite h1
      · exact .park h

theorem Formed.traceFlush {cl : Nat} (h : Formed s) : Formed (s.traceFlush cl) := .ite h (.foldl (fun _ _ ht => .traceOut ht) (.modCl h))
theorem Formed.modSync {f : Sync → Sync} (h : Formed s) : Formed (s.modSync f) := .modCore h
theorem Formed.warn {bit : Nat} {c : Bool} (h : Formed s) : Formed (s.warn bit c) := .ite (.of_mem h rfl) h
theorem Formed.warns {l : List Nat} (h : Formed s) : Formed (s.warns l) := .foldl (fun _ _ ht => .warn ht) h
theorem Formed.writeS {i : Nat} {v : W64} {lat : Nat} (h : Formed s) : Formed (s.writeS i v lat) := .ite h (.modSync h)
theorem Formed.writeLoaded {i : Nat} {v : W64} (h : Formed s) : Formed (s.writeLoaded i v) := .ite (.ite h (.modSync h)) (.writeS h)
theorem Formed.writeG {i : Nat} {v : Bool} {lat : Nat} (h : Formed s) : Formed (s.writeG i v lat) := .ite h (.modSync h)
theorem Formed.writeV {b : Bool} {r : Nat} {v : VReg} {lat : Nat} (h : Formed s) : Formed (s.writeV b r v lat) := .modSync h
theorem Formed.writeK {i : Nat} {v : BitVec 256} {lat : Nat} (h : Formed s) : Formed (s.writeK i v lat) := .modSync h
theorem Formed.writeX {i : Nat} {v : Line} {lat : Nat} (h : Formed s) : Formed (s.writeX i v lat) := .modSync h
theorem Formed.writeW {i : Nat} {v : BitVec 512} {lat : Nat} (h : Formed s) : Formed (s.writeW i v lat) := .modSync h
theorem Formed.writeY {i : Nat} {v : W64} {lat : Nat} (h : Formed s) : Formed (s.writeY i v lat) := .modSync h
theorem Formed.writeH {b : Bool} {i : Nat} {v : W64} {lat : Nat} (h : Formed s) : Formed (s.writeH b i v lat) := .modSync h
theorem Formed.modStream {q : Nat} {f : Machine.Stream → Machine.Stream} (h : Formed s) : Formed (s.modStream q f) := .modSync h
theorem Formed.modRing {n : Nat} {f : Machine.Ring → Machine.Ring} (h : Formed s) : Formed (s.modRing n f) := .modSync h
theorem Formed.mapSync {n : Nat} {f : Sync → Sync} (h : Formed s) : Formed (s.mapSync n f) := .modCoreAt h
theorem Formed.raise {slot cause : Nat} {info : W64} (h : Formed s) : Formed (s.raise slot cause info) := .of_mem h rfl
theorem Formed.stallOn {row : Nat} (h : Formed s) : Formed (s.stallOn row) := .of_mem h rfl
theorem Formed.replayRefuse (h : Formed s) : Formed s.replayRefuse := .ite (.of_mem h rfl) (.stallOn h)
theorem Formed.holdNext {n : Nat} (h : Formed s) : Formed (s.holdNext n) := .of_mem h rfl
theorem Formed.traceB {type aux addr data : Nat} (h : Formed s) : Formed (s.traceB type aux addr data) := .ite (.traceRec h) (.modCore h)
theorem Formed.sigB {b : List Nat} (h : Formed s) : Formed (s.sigB b) := .ite (.modCore h) h
theorem Formed.foldSig {n seqNo : Nat} (h : Formed s) : Formed (s.foldSig n seqNo) := .ite h (.modGuest (.modCoreAt h))

theorem Formed.settle {n : Nat} (h : Formed s) : Formed (s.settle n) :=
  .foldl (fun _ _ ht => .traceRecAt ht) (.foldl (fun _ _ ht1 => .countAt ht1) (.modCoreAt h))

theorem Formed.ckptBase {n addr seqNo : Nat} {snap : Sync} (h : Formed s) : Formed (s.ckptBase n addr seqNo snap) := .foldSig (.modCoreAt h)
theorem Formed.takeCkpt {n addr seqNo : Nat} {snap : Sync} (h : Formed s) : Formed (s.takeCkpt n addr seqNo snap) := .ckptBase (.countAt h)
theorem Formed.dropArray {n : Nat} (h : Formed s) : Formed (s.dropArray n) := .modCl h
theorem Formed.dropRequests {n : Nat} (h : Formed s) : Formed (s.dropRequests n) := .of_mem h rfl
theorem Formed.keepHeld {n : Nat} (h : Formed s) : Formed (s.keepHeld n) := .of_mem h rfl

theorem Formed.rollback {n why : Nat} (h : Formed s) : Formed (s.rollback n why) :=
  .traceRec (.settle (.countAt (.dropRequests (.modCoreAt (.modCl (.ite (.dropArray h) h))))))

theorem Formed.haltStream {g stream errk cause a : Nat} (h : Formed s) : Formed (s.haltStream g stream errk cause a) := .statusEvent (.modGuest h)
theorem Formed.modNode {g id : Nat} {f : Node → Node} (h : Formed s) : Formed (s.modNode g id f) := .modGuest h
theorem Formed.modGrp {g id index : Nat} {f : Grp → Grp} (h : Formed s) : Formed (s.modGrp g id index f) := .modGuest h

theorem Formed.failNode {g id errk cause : Nat} (h : Formed s) : Formed (s.failNode g id errk cause) := by
  unfold State.failNode
  split
  · exact h
  · exact .ite h (.ite (.modGuest (.modNode h)) (.haltStream (.modNode h)))

theorem Formed.l1Lost {n va : Nat} (h : Formed s) : Formed (s.l1Lost n va) := .modCoreAt h

theorem Formed.l1WriteBack {n : Nat} {l : L1Line} (h : Formed s) : Formed (s.l1WriteBack n l) := by
  unfold State.l1WriteBack
  extract_lets +onlyGivenNames g pay
  have hpay : ∀ (t : State), Formed t → ∀ (units : Nat), Formed (pay t units) := fun _ h1 _ => .ite (.charge h1) (.post h1)
  clear_value pay
  exact .foldl (fun _ _ ht => .ite (.fst (.homeWrite (hpay _ ht _))) (.l1Lost (.fst (.homeWrite (hpay _ ht _))))) h

theorem Formed.l1Clean {n : Nat} (h : Formed s) : Formed (s.l1Clean n) := .modCoreAt (.foldl (fun _ _ ht => .l1WriteBack ht) h)
theorem Formed.l1Flush {n : Nat} (h : Formed s) : Formed (s.l1Flush n) := .modCoreAt (.foldl (fun _ _ ht => .l1WriteBack ht) h)
theorem Formed.l1Switch {n : Nat} (h : Formed s) : Formed (s.l1Switch n) := .modCoreAt (.fst (.paying h (fun _ h1 => .mk (.l1Flush h1))))
theorem FormedPair.l1Switched {n : Nat} (h : Formed s) : FormedPair (s.l1Switched n) := .mk (.ite h (.l1Switch h))

theorem Formed.l1Refresh {n : Nat} {l : L1Line} (h : Formed s) : Formed (s.l1Refresh n l) := by
  unfold State.l1Refresh
  extract_lets +onlyGivenNames r
  have hr : FormedPair r := .homeRead (.post h)
  clear_value r
  split
  · exact .fst hr
  · exact .modCoreAt (.fst hr)

theorem Formed.l1DropClean {n : Nat} (h : Formed s) : Formed (s.l1DropClean n) := .foldl (fun _ _ ht => .ite (.l1Refresh ht) ht) (.modCoreAt h)

theorem Formed.cutArray {n : Nat} (h : Formed s) : Formed (s.cutArray n) := by
  unfold State.cutArray
  split
  · exact .ite (.modCl h) h
  · exact h

theorem Formed.stopCore {n : Nat} {keep : Bool} (h : Formed s) : Formed (s.stopCore n keep) := by
  unfold State.stopCore
  extract_lets +onlyGivenNames t
  have ht : Formed t := .ite (.l1Switch h) (.modCoreAt h)
  clear_value t
  extract_lets +onlyGivenNames t1
  have ht1 : Formed t1 := .dropArray (.cutArray ht)
  clear_value t1
  extract_lets +onlyGivenNames t2
  have ht2 : Formed t2 := .modCoreAt (.modCoreAt ht1)
  clear_value t2
  exact .of_mem ht2 rfl

theorem Formed.returnFrames {g : Nat} {frames : List Nat} (h : Formed s) : Formed (s.returnFrames g frames) :=
  .foldl (fun _ _ ht => .modGuest (.fst (.homeWrite ht))) h

theorem Formed.dropSaved {g node index : Nat} (h : Formed s) : Formed (s.dropSaved g node index) :=
  .modGuest (.foldl (fun _ _ ht => .returnFrames ht) h)

theorem Formed.terminate {n cause : Nat} (h : Formed s) : Formed (s.terminate n cause) := by
  unfold State.terminate
  extract_lets +onlyGivenNames k g
  split
  · exact .stopCore h
  · exact .failNode (.modCl (.modGuest (.dropSaved (.foldl (fun _ _ ht => .ite (.stopCore ht) ht) h))))

theorem Formed.takeTrap {n : Nat} {r : TrapReq} (h : Formed s) : Formed (s.takeTrap n r) := by
  unfold State.takeTrap
  extract_lets +onlyGivenNames k t
  have ht : Formed t := .rollback h
  clear_value t
  exact .ite (.hostEv (.modCoreAt ht))
    (.ite (.terminate (.hostEv (.modCoreAt ht))) (.ite (.terminate (.modCoreAt ht)) (.traceRec (.countIn (.modCoreAt ht)))))

theorem Formed.leaveHandler (h : Formed s) : Formed s.leaveHandler := .of_mem h rfl
theorem Formed.beginBundle {len mask : Nat} (h : Formed s) : Formed (s.beginBundle len mask) := .of_mem h rfl

theorem Formed.syncTrap {cause slots : Nat} {info : W64} {flt : Nat} (h : Formed s) : Formed (s.syncTrap cause slots info flt) :=
  .ite (.takeTrap h) (.modCore h)

theorem Formed.endBundle {s0 s : State} {idle : Nat} (hs0 : Formed s0) (h : Formed s) : Formed (s0.endBundle s idle) := by
  unfold State.endBundle
  split
  · exact .tickFree (.of_mem h rfl)
  · split
    · extract_lets +onlyGivenNames k t
      have ht : Formed t := .of_mem hs0 rfl
      clear_value t
      extract_lets +onlyGivenNames t1
      have ht1 : Formed t1 := .modCl ht
      clear_value t1
      extract_lets +onlyGivenNames t2
      have ht2 : Formed t2 := .modGuest ht1
      clear_value t2
      extract_lets +onlyGivenNames t3
      have ht3 : Formed t3 := by
        unfold t3
        split
        · exact .ite ht2 (.count ht2)
        · exact ht2
      clear_value t3
      exact .modCore ht3
    · split
      · exact .syncTrap hs0
      · extract_lets +onlyGivenNames k fall looping go go1 go2 q cyc t t1
        have ht1 : Formed t1 := by
          unfold t1
          split
          · exact .modCore h
          · exact .modCore h
        clear_value t1
        extract_lets +onlyGivenNames t2
        have ht2 : Formed t2 := .ite (.modCore (.takeCkpt ht1)) ht1
        clear_value t2
        exact .tickFree (.of_mem ht2 rfl)

end

end Sys2Proof.Proofs.MemoryForm
end

section
/-! Proofs. Keeping the form of memory: memory accesses and control. -/

namespace Sys2Proof.Proofs.MemoryForm
open Sys2Proof Sys2Proof.Machine

section
variable {s : State}

theorem Goes.sOp {g : BitVec 4} {n : Bool} {f : State → State} (hf : ∀ (t : State), Formed t → Formed (f t)) : Goes s (sOp s g n f) :=
  .next fun h => .ite (hf _ h) h

theorem Formed.ws {r : BitVec 5} {v : W64} {lat : Nat} (h : Formed s) : Formed (s.ws r v lat) := .writeS h
theorem Goes.snop {o : OpSN} : Goes s (execSnop o s) := .sOp fun _ h => h
theorem Goes.add {o : OpSR} : Goes s (execAdd o s) := .sOp fun _ h => .ws h
theorem Goes.sub {o : OpSR} : Goes s (execSub o s) := .sOp fun _ h => .ws h
theorem Goes.mul {o : OpSR} : Goes s (execMul o s) := .sOp fun _ h => .ws h
theorem Goes.mulh {o : OpSR} : Goes s (execMulh o s) := .sOp fun _ h => .ws h
theorem Goes.mulhu {o : OpSR} : Goes s (execMulhu o s) := .sOp fun _ h => .ws h
theorem Goes.andOp {o : OpSR} : Goes s (execAnd o s) := .sOp fun _ h => .ws h
theorem Goes.orOp {o : OpSR} : Goes s (execOr o s) := .sOp fun _ h => .ws h
theorem Goes.xor {o : OpSR} : Goes s (execXor o s) := .sOp fun _ h => .ws h
theorem Goes.shl {o : OpSR} : Goes s (execShl o s) := .sOp fun _ h => .ws h
theorem Goes.shr {o : OpSR} : Goes s (execShr o s) := .sOp fun _ h => .ws h
theorem Goes.sra {o : OpSR} : Goes s (execSra o s) := .sOp fun _ h => .ws h
theorem Goes.min {o : OpSR} : Goes s (execMin o s) := .sOp fun _ h => .ws h
theorem Goes.max {o : OpSR} : Goes s (execMax o s) := .sOp fun _ h => .ws h
theorem Goes.minu {o : OpSR} : Goes s (execMinu o s) := .sOp fun _ h => .ws h
theorem Goes.maxu {o : OpSR} : Goes s (execMaxu o s) := .sOp fun _ h => .ws h
theorem Goes.addw {o : OpSR} : Goes s (execAddw o s) := .sOp fun _ h => .ws h
theorem Goes.div {o : OpSR} : Goes s (execDiv o s) := .sOp fun _ h => .warn (.ws h)
theorem Goes.divu {o : OpSR} : Goes s (execDivu o s) := .sOp fun _ h => .warn (.ws h)
theorem Goes.rem {o : OpSR} : Goes s (execRem o s) := .sOp fun _ h => .warn (.ws h)
theorem Goes.remu {o : OpSR} : Goes s (execRemu o s) := .sOp fun _ h => .warn (.ws h)
theorem Goes.clz {o : OpSR2} : Goes s (execClz o s) := .sOp fun _ h => .ws h
theorem Goes.popc {o : OpSR2} : Goes s (execPopc o s) := .sOp fun _ h => .ws h
theorem Goes.mov {o : OpSR2} : Goes s (execMov o s) := .sOp fun _ h => .ws h
theorem Goes.sel {o : OpSSel} : Goes s (execSel o s) := .sOp fun _ h => .ws h
theorem Goes.lea {o : OpSLea} : Goes s (execLea o s) := .sOp fun _ h => .ws h
theorem Goes.addi {o : OpSI} : Goes s (execAddi o s) := .sOp fun _ h => .ws h
theorem Goes.andi {o : OpSI} : Goes s (execAndi o s) := .sOp fun _ h => .ws h
theorem Goes.ori {o : OpSI} : Goes s (execOri o s) := .sOp fun _ h => .ws h
theorem Goes.xori {o : OpSI} : Goes s (execXori o s) := .sOp fun _ h => .ws h
theorem Goes.muli {o : OpSI} : Goes s (execMuli o s) := .sOp fun _ h => .ws h
theorem Goes.shli {o : OpSSh} : Goes s (execShli o s) := .sOp fun _ h => .ws h
theorem Goes.shri {o : OpSSh} : Goes s (execShri o s) := .sOp fun _ h => .ws h
theorem Goes.srai {o : OpSSh} : Goes s (execSrai o s) := .sOp fun _ h => .ws h
theorem Goes.ceq {o : OpSC} : Goes s (execCeq o s) := .sOp fun _ h => .writeG h
theorem Goes.ceqi {o : OpSCI} : Goes s (execCeqi o s) := .sOp fun _ h => .writeG h
theorem Goes.cne {o : OpSC} : Goes s (execCne o s) := .sOp fun _ h => .writeG h
theorem Goes.cnei {o : OpSCI} : Goes s (execCnei o s) := .sOp fun _ h => .writeG h
theorem Goes.clt {o : OpSC} : Goes s (execClt o s) := .sOp fun _ h => .writeG h
theorem Goes.clti {o : OpSCI} : Goes s (execClti o s) := .sOp fun _ h => .writeG h
theorem Goes.cge {o : OpSC} : Goes s (execCge o s) := .sOp fun _ h => .writeG h
theorem Goes.cgei {o : OpSCI} : Goes s (execCgei o s) := .sOp fun _ h => .writeG h
theorem Goes.cltu {o : OpSC} : Goes s (execCltu o s) := .sOp fun _ h => .writeG h
theorem Goes.cgeu {o : OpSC} : Goes s (execCgeu o s) := .sOp fun _ h => .writeG h
theorem Goes.gand {o : OpSGl} : Goes s (execGand o s) := .sOp fun _ h => .writeG h
theorem Goes.gor {o : OpSGl} : Goes s (execGor o s) := .sOp fun _ h => .writeG h
theorem Goes.gxor {o : OpSGl} : Goes s (execGxor o s) := .sOp fun _ h => .writeG h
theorem Goes.gset {o : OpSGs} : Goes s (execGset o s) := .sOp fun _ h => .writeG h
theorem Goes.movi {o : OpSL} : Goes s (execMovi o s) := .sOp fun _ h => .ws h
theorem Goes.movhi {o : OpSL} : Goes s (execMovhi o s) := .sOp fun _ h => .ws h
theorem Goes.addil {o : OpSL} : Goes s (execAddil o s) := .sOp fun _ h => .ws h
theorem Goes.sfOp {o : OpSF} {fn : RMode → Machine.Num → Machine.Num → Machine.Num} : Goes s (sfOp s o fn) := .sOp fun _ h => .warn (.ws h)
theorem Goes.fadd {o : OpSF} : Goes s (execFadd o s) := .sfOp
theorem Goes.fsub {o : OpSF} : Goes s (execFsub o s) := .sfOp
theorem Goes.fmul {o : OpSF} : Goes s (execFmul o s) := .sfOp
theorem Goes.fma {o : OpSF} : Goes s (execFma o s) := .sfOp
theorem Goes.sfMinMax {o : OpSF} {fn : Machine.Num → Machine.Num → Machine.Num} : Goes s (sfMinMax s o fn) := .sOp fun _ h => .warn (.warn (.ws h))
theorem Goes.fmin {o : OpSF} : Goes s (execFmin o s) := .sfMinMax
theorem Goes.fmax {o : OpSF} : Goes s (execFmax o s) := .sfMinMax
theorem Goes.fcvt {o : OpSFcvt} : Goes s (execFcvt o s) := .sOp fun _ h => .warn (.ws h)
theorem Goes.fceq {o : OpSFc} : Goes s (execFceq o s) := .sOp fun _ h => .warn (.writeG h)
theorem Goes.fclt {o : OpSFc} : Goes s (execFclt o s) := .sOp fun _ h => .warn (.writeG h)
theorem Goes.fcle {o : OpSFc} : Goes s (execFcle o s) := .sOp fun _ h => .warn (.writeG h)
theorem Goes.xsv {o : OpSXv} {b : Bool} : Goes s (xsv s o b) := .sOp fun _ h => .writeV h
theorem Goes.xsa {o : OpSXv} : Goes s (execXsa o s) := .xsv
theorem Goes.xsb {o : OpSXv} : Goes s (execXsb o s) := .xsv
theorem Goes.xsh {o : OpSXh} : Goes s (execXsh o s) := .sOp fun _ h => .writeH h
theorem Goes.xsj {o : OpSXh} : Goes s (execXsj o s) := .sOp fun _ h => .writeH h
theorem Goes.xsy {o : OpSXh} : Goes s (execXsy o s) := .sOp fun _ h => .writeY h

theorem FormedPair.sResolve {va kind : Nat} (h : Formed s) : FormedPair (s.sResolve va kind) := by
  unfold State.sResolve
  split
  · exact .mk h
  · split
    · exact .mk h
    · split
      · exact .mk h
      · split
        · exact .ite (.mk h) (.mk (.askWalk h))
        · exact .mk (.askWalk h)

theorem Formed.l1Put {n : Nat} {l : L1Line} (h : Formed s) : Formed (s.l1Put n l) := by
  unfold State.l1Put
  extract_lets +onlyGivenNames k idx same old add
  have hadd : ∀ (t : State), Formed t → Formed (add t) := fun _ h1 => .modCoreAt h1
  clear_value add
  split
  · exact hadd _ h
  · split
    · exact h
    · exact hadd _ (.modCoreAt (.l1WriteBack h))

theorem Formed.l1Patch {n pa sel : Nat} {b : List Nat} (h : Formed s) : Formed (s.l1Patch n pa sel b) := .modCoreAt h

theorem Formed.l1Expel {n pa sel : Nat} (h : Formed s) : Formed (s.l1Expel n pa sel) := by
  unfold State.l1Expel
  split
  · exact h
  · exact .modCoreAt (.l1WriteBack h)

theorem Formed.ask {r : SReq} (h : Formed s) : Formed (s.ask r) := by
  unfold State.ask
  split
  · exact h
  · exact .ite (.modCore (.modCore h)) (.of_mem h rfl)

theorem FormedPair.miss {r : SReq} (h : Formed s) : FormedPair (s.miss r) := .ite (.mk (.stallOn h)) (.ite (.mk (.stallOn (.ask h))) (.mk h))
theorem Formed.bracket (h : Formed s) : Formed s.bracket := .of_mem h rfl

theorem FormedPair.sLoadPiece {va n : Nat} {home : Bool} (h : Formed s) : FormedPair (s.sLoadPiece va n home) := by
  unfold State.sLoadPiece
  extract_lets +onlyGivenNames r
  have hr : FormedPair r := .sResolve h
  clear_value r
  split
  · exact .mk (.fst hr)
  · exact .mk (.stallOn (.fst hr))
  · extract_lets +onlyGivenNames s1
    have hs1 : Formed s1 := .fst hr
    clear_value s1
    extract_lets +onlyGivenNames p ask
    have hask : ∀ (op a len : Nat), FormedPair (ask op a len) := fun _ _ _ => .miss hs1
    clear_value ask
    extract_lets +onlyGivenNames fin
    have hfin : ∀ (t' : State), Formed t' → ∀ (b : List Nat), FormedPair (fin t' b) := fun _ h1 _ => .mk h1
    clear_value fin
    split
    · split
      · exact hfin _ hs1 _
      · split
        · exact .ite (.mk (.logArray hs1)) (hfin _ hs1 _)
        · split
          · exact hfin _ hs1 _
          · exact .mk hs1
          · exact hask _ _ _
    · split
      · exact hfin _ hs1 _
      · split
        · split
          · exact .ite (.mk (.logArray hs1)) (hfin _ hs1 _)
          · split
            · exact hfin _ hs1 _
            · exact .mk hs1
            · exact hask _ _ _
        · split
          · exact hfin _ hs1 _
          · exact .mk hs1
          · exact hask _ _ _
    · split
      · exact .mk (.replayRefuse hs1)
      · split
        · exact .mk (.stallOn hs1)
        · split
          · exact hfin _ hs1 _
          · split
            · exact hfin _ (.ite (.bracket hs1) hs1) _
            · exact .mk hs1
            · exact hask _ _ _

theorem FormedPair.sLoadP {home : Bool} {l : List (Nat × Nat)} (h : Formed s) : FormedPair (s.sLoadP home l) := by
  induction l generalizing s with
  | nil =>
    unfold State.sLoadP
    exact .mk h
  | cons x xs ih =>
    unfold State.sLoadP
    extract_lets +onlyGivenNames r
    have hr : FormedPair r := .sLoadPiece h
    clear_value r
    split
    · exact .mk (.fst (ih (.fst hr)))
    · exact .mk (.fst hr)

theorem FormedPair.sLoad {ea n : Nat} {home : Bool} (h : Formed s) : FormedPair (s.sLoad ea n home) := .ite (.mk h) (.sLoadP h)
theorem Formed.wLoad {r : BitVec 5} {v : W64} (h : Formed s) : Formed (s.wLoad r v) := .writeLoaded h
theorem Formed.sFault {c va : Nat} (h : Formed s) : Formed (s.sFault c va) := .raise h

theorem Goes.ldOp {o : OpSI} {n : Nat} {signed : Bool} : Goes s (ldOp s o n signed) := by
  unfold Machine.ldOp
  refine .sOp ?_
  intro t h
  extract_lets +onlyGivenNames ea r
  have hr : FormedPair r := .sLoad h
  clear_value r
  split
  · exact .wLoad (.fst hr)
  · exact .fst hr
  · exact .sFault (.fst hr)

theorem Goes.ldB {o : OpSI} : Goes s (execLdB o s) := .ldOp
theorem Goes.ldH {o : OpSI} : Goes s (execLdH o s) := .ldOp
theorem Goes.ldW {o : OpSI} : Goes s (execLdW o s) := .ldOp
theorem Goes.ldD {o : OpSI} : Goes s (execLdD o s) := .ldOp
theorem Goes.ldsB {o : OpSI} : Goes s (execLdsB o s) := .ldOp
theorem Goes.ldsH {o : OpSI} : Goes s (execLdsH o s) := .ldOp
theorem Goes.ldsW {o : OpSI} : Goes s (execLdsW o s) := .ldOp

theorem FormedPair.sStorePiece {va : Nat} {b : List Nat} {scope : Nat} {rel : Bool} (h : Formed s) : FormedPair (s.sStorePiece va b scope rel) := by
  unfold State.sStorePiece
  extract_lets +onlyGivenNames r
  have hr : FormedPair r := .sResolve h
  clear_value r
  split
  · exact .mk (.fst hr)
  · exact .mk (.stallOn (.fst hr))
  · exact .ite (.mk (.replayRefuse (.fst hr)))
      (.ite (.mk (.stallOn (.fst hr))) (.ite (.mk (.stallOn (.fst hr))) (.mk (.modCore (.ite (.bracket (.fst hr)) (.fst hr))))))

theorem FormedPair.sStoreP {scope : Nat} {rel : Bool} {l : List (Nat × Nat)} {l' : List Nat} (h : Formed s) :
    FormedPair (s.sStoreP scope rel l l') := by
  induction l generalizing s l' with
  | nil =>
    unfold State.sStoreP
    exact .mk h
  | cons x xs ih =>
    unfold State.sStoreP
    extract_lets +onlyGivenNames r
    have hr : FormedPair r := .sStorePiece h
    clear_value r
    split
    · exact ih (.fst hr)
    · exact .mk (.fst hr)

theorem FormedPair.sStore {ea : Nat} {b : List Nat} {scope : Nat} {rel : Bool} (h : Formed s) : FormedPair (s.sStore ea b scope rel) :=
  .ite (.mk h) (.sStoreP h)

theorem Goes.stOp {o : OpSI} {n : Nat} : Goes s (stOp s o n) := by
  unfold Machine.stOp
  refine .sOp ?_
  intro t h
  extract_lets +onlyGivenNames ea r
  have hr : FormedPair r := .sStore h
  clear_value r
  split
  · exact .sFault h
  · exact .fst hr

theorem Goes.stB {o : OpSI} : Goes s (execStB o s) := .stOp
theorem Goes.stH {o : OpSI} : Goes s (execStH o s) := .stOp
theorem Goes.stW {o : OpSI} : Goes s (execStW o s) := .stOp
theorem Goes.stD {o : OpSI} : Goes s (execStD o s) := .stOp

theorem Formed.warnScope {sc : Nat} (h : Formed s) : Formed (s.warnScope sc) := by
  unfold State.warnScope
  split
  · exact .warn h
  · exact h

theorem Formed.acquireL1 {scope : Nat} (h : Formed s) : Formed (s.acquireL1 scope) := .ite h (.ite (.holdNext (.l1DropClean h)) (.l1DropClean h))

theorem Goes.lda {o : OpSX} : Goes s (execLda o s) := by
  unfold execLda
  refine .sOp ?_
  intro t h
  extract_lets +onlyGivenNames n a sc
  split
  · exact .sFault h
  · extract_lets +onlyGivenNames r
    have hr : FormedPair r := .sLoad h
    clear_value r
    split
    · exact .sFault (.fst hr)
    · exact .fst hr
    · extract_lets +onlyGivenNames t1
      have ht1 : Formed t1 := .warn (.warnScope (.wLoad (.fst hr)))
      clear_value t1
      exact .sigB (.ite (.acquireL1 ht1) ht1)

theorem Goes.stl {o : OpSX} : Goes s (execStl o s) := by
  unfold execStl
  refine .sOp ?_
  intro t h
  extract_lets +onlyGivenNames n a sc
  split
  · exact .sFault h
  · extract_lets +onlyGivenNames r
    have hr : FormedPair r := .sStore h
    clear_value r
    split
    · exact .sFault h
    · exact .fst hr
    · exact .warn (.warnScope (.fst hr))

theorem FormedPair.atomicAt {c : Nat} {t : Tgt} {n f b cc : Nat} (h : Formed s) : FormedPair (s.atomicAt c t n f b cc) := by
  unfold State.atomicAt
  split
  · exact .mk h
  · split
    · split
      · exact .mk (.fabLogPut h)
      · extract_lets +onlyGivenNames r
        have hr : FormedPair r := .tgtRead h
        clear_value r
        split
        · exact .mk (.fst hr)
        · split
          · exact .mk (.fst hr)
          · extract_lets +onlyGivenNames w
            have hw : FormedPair w := by
              unfold w
              refine .uncharged (.fst hr) ?_
              exact fun _ h1 => .tgtWrite h1
            clear_value w
            exact .mk (.fst hw)
    · exact .remote h
  · extract_lets +onlyGivenNames r
    have hr : FormedPair r := .tgtRead h
    clear_value r
    split
    · exact .mk (.fst hr)
    · split
      · exact .mk (.fst hr)
      · extract_lets +onlyGivenNames w
        have hw : FormedPair w := by
          unfold w
          refine .guarded (.fst hr) ?_
          intro t1 h1
          refine .uncharged h1 ?_
          exact fun _ h2 => .tgtWrite h2
        clear_value w
        exact .mk (.fst hw)

theorem FormedPair.sAtomic {a n scope f b c : Nat} {rel : Bool} (h : Formed s) : FormedPair (s.sAtomic a n scope f b c rel) := by
  unfold State.sAtomic
  split
  · exact .mk h
  · extract_lets +onlyGivenNames r
    have hr : FormedPair r := .sResolve h
    clear_value r
    split
    · exact .mk (.fst hr)
    · exact .mk (.stallOn (.fst hr))
    · extract_lets +onlyGivenNames s1
      have hs1 : Formed s1 := .fst hr
      clear_value s1
      extract_lets +onlyGivenNames p
      split
      · exact .mk hs1
      · exact .mk hs1
      · split
        · exact .mk hs1
        · split
          · exact .mk (.replayRefuse hs1)
          · split
            · split
              · exact .mk (.stallOn hs1)
              · split
                · exact .mk hs1
                · exact .ite (.mk (.fst (.atomicAt (.l1Clean hs1)))) (.mk (.stallOn (.ask hs1)))
                · split
                  · split
                    · split
                      · exact .mk (.logArray hs1)
                      · extract_lets +onlyGivenNames old
                        refine .mk ?_
                        split
                        · exact .fst (.guarded hs1 (fun _ h1 => .mk (.l1Patch h1)))
                        · exact hs1
                    · exact .mk (.stallOn (.ask hs1))
                  · exact .mk (.stallOn (.ask hs1))
                · exact .mk (.stallOn (.ask hs1))
            · split
              · exact .mk (.stallOn hs1)
              · split
                · exact .mk hs1
                · exact .ite (.mk (.fst (.atomicAt hs1))) (.mk (.stallOn (.ask hs1)))
                · split
                  · split
                    · split
                      · exact .mk (.logArray hs1)
                      · extract_lets +onlyGivenNames old
                        refine .mk ?_
                        split
                        · exact .fst (.guarded hs1 (fun _ h1 => .mk (.l1Patch h1)))
                        · exact hs1
                    · exact .mk (.stallOn (.ask hs1))
                  · exact .mk (.stallOn (.ask hs1))
                · exact .mk (.stallOn (.ask hs1))

theorem Goes.amoOp {o : OpSX} {f : Nat} : Goes s (amoOp s o f) := by
  unfold Machine.amoOp
  refine .sOp ?_
  intro t h
  extract_lets +onlyGivenNames n a sc
  split
  · exact .sFault h
  · extract_lets +onlyGivenNames r
    have hr : FormedPair r := .sAtomic h
    clear_value r
    split
    · exact .sFault (.fst hr)
    · exact .fst hr
    · exact .sigB (.ite (.acquireL1 (.warnScope (.wLoad (.fst hr)))) (.warnScope (.wLoad (.fst hr))))

theorem Goes.amoadd {o : OpSX} : Goes s (execAmoadd o s) := .amoOp
theorem Goes.amoswp {o : OpSX} : Goes s (execAmoswp o s) := .amoOp
theorem Goes.amocas {o : OpSX} : Goes s (execAmocas o s) := .amoOp
theorem Goes.amomin {o : OpSX} : Goes s (execAmomin o s) := .amoOp
theorem Goes.amomax {o : OpSX} : Goes s (execAmomax o s) := .amoOp
theorem Goes.amoand {o : OpSX} : Goes s (execAmoand o s) := .amoOp
theorem Goes.amoor {o : OpSX} : Goes s (execAmoor o s) := .amoOp
theorem Goes.amoxor {o : OpSX} : Goes s (execAmoxor o s) := .amoOp

theorem Goes.scOp {o : OpSX} {f : State → Nat → State} (hf : ∀ (t : State), Formed t → ∀ (x : Nat), Formed (f t x)) : Goes s (scOp s o f) :=
  .sOp fun _ h => .ite (.sFault h) (.ite (.raise h) (.warn (.warnScope (hf _ h _))))

theorem FormedPair.scAccess {a : W64} {n scope f b c : Nat} (h : Formed s) : FormedPair (s.scAccess a n scope f b c) := by
  unfold State.scAccess
  split
  · exact .mk h
  · extract_lets +onlyGivenNames r
    have hr : FormedPair r := .sResolve h
    clear_value r
    split
    · exact .mk (.fst hr)
    · exact .mk (.stallOn (.fst hr))
    · extract_lets +onlyGivenNames s1
      have hs1 : Formed s1 := .fst hr
      clear_value s1
      extract_lets +onlyGivenNames p
      split
      · exact .mk hs1
      · exact .mk hs1
      · split
        · exact .mk hs1
        · split
          · exact .mk (.replayRefuse hs1)
          · split
            · split
              · exact .mk (.stallOn hs1)
              · split
                · exact .mk (.stallOn hs1)
                · split
                  · exact .mk (.stallOn hs1)
                  · extract_lets +onlyGivenNames op rel s2
                    have hs2 : Formed s2 := .modCore hs1
                    clear_value s2
                    split
                    · split
                      · extract_lets +onlyGivenNames u
                        have hu : Formed u := .ite (.l1Clean hs2) hs2
                        clear_value u
                        exact .ite (.mk (.logArray hu)) (.ite (.mk hu) (.mk (.fst (.atomicAt hu))))
                      · exact .mk (.stallOn (.ask hs2))
                    · exact .mk (.stallOn (.ask hs2))
            · split
              · exact .mk (.stallOn hs1)
              · split
                · exact .mk (.stallOn hs1)
                · split
                  · exact .mk (.stallOn hs1)
                  · extract_lets +onlyGivenNames op rel s2
                    have hs2 : Formed s2 := .modCore hs1
                    clear_value s2
                    split
                    · split
                      · extract_lets +onlyGivenNames u
                        have hu : Formed u := .ite (.l1Clean hs2) hs2
                        clear_value u
                        exact .ite (.mk (.logArray hu)) (.ite (.mk hu) (.mk (.fst (.atomicAt hu))))
                      · exact .mk (.stallOn (.ask hs2))
                    · exact .mk (.stallOn (.ask hs2))

theorem Goes.scld {o : OpSX} : Goes s (execScld o s) := by
  unfold execScld
  refine .scOp ?_
  intro t h x
  extract_lets +onlyGivenNames sc r
  have hr : FormedPair r := .scAccess h
  clear_value r
  split
  · exact .sigB (.acquireL1 (.wLoad (.fst hr)))
  · exact .fst hr
  · exact .sFault (.fst hr)

theorem Goes.scst {o : OpSX} : Goes s (execScst o s) := by
  unfold execScst
  refine .scOp ?_
  intro t h x
  extract_lets +onlyGivenNames r
  have hr : FormedPair r := .scAccess h
  clear_value r
  split
  · exact .fst hr
  · exact .fst hr
  · exact .sFault (.fst hr)

theorem Goes.scamo {o : OpSX} : Goes s (execScamo o s) := by
  unfold execScamo
  refine .scOp ?_
  intro t h x
  extract_lets +onlyGivenNames sc r
  have hr : FormedPair r := .scAccess h
  clear_value r
  split
  · exact .sigB (.acquireL1 (.wLoad (.fst hr)))
  · exact .fst hr
  · exact .sFault (.fst hr)

theorem Formed.latchPmc {cr : Nat} (h : Formed s) : Formed (s.latchPmc cr) := .ite (.modCore h) h

theorem Formed.crWrite {cr : Nat} {v : W64} (h : Formed s) : Formed (s.crWrite cr v) := by
  unfold State.crWrite
  extract_lets +onlyGivenNames n ring str
  refine .ite ?_ ?_
  · exact .ite h (.modCore h)
  · refine .ite ?_ ?_
    · exact .modSync h
    · refine .ite ?_ ?_
      · exact .modSync h
      · refine .ite ?_ ?_
        · exact .modSync h
        · refine .ite ?_ ?_
          · split
            · exact .modRing h
            · exact .modRing h
            · exact .ite (.modCore (.modRing h)) h
            · exact .modRing h
          · refine .ite ?_ ?_
            · split
              · exact .modStream h
              · exact .modStream h
              · exact .modStream h
              · exact .modStream h
            · refine .ite ?_ ?_
              · exact .modSync h
              · refine .ite ?_ ?_
                · exact .modCore h
                · refine .ite ?_ ?_
                  · exact .modCore h
                  · exact .ite (.modSync h)
                      (.ite (.modSync h) (.ite (.modCore h)
                        (.ite (.modCore h) (.ite (.ite (.modCore h) h) (.ite (.ite (.modCore h) h) (.ite (.modCore h) h))))))

theorem Goes.movc {o : OpSMovc} : Goes s (execMovc o s) := .sOp fun _ h => .ite (.stallOn h) (.ite (.stallOn h) (.latchPmc (.ws h)))
theorem Goes.movcw {o : OpSLoop} : Goes s (execMovcw o s) := .sOp fun _ h => .ite (.stallOn h) (.ite (.stallOn h) (.crWrite h))

end

end Sys2Proof.Proofs.MemoryForm
end

section
/-! Proofs. Keeping the form of memory: vector, crossbar, bit network and matrix instructions. -/

namespace Sys2Proof.Proofs.MemoryForm
open Sys2Proof Sys2Proof.Machine

section
variable {s : State}

theorem Formed.branchTo {pTaken aTaken : Bool} {pTarget aTarget : Nat} {upd : List Nat → List Nat} (h : Formed s) :
    Formed (s.branchTo pTaken aTaken pTarget aTarget upd) :=
  .modCore (.of_mem h rfl)

theorem Goes.br {o : OpSB} : Goes s (execBr o s) := .next fun h => .branchTo h
theorem Goes.jal {o : OpSB} : Goes s (execJal o s) := .next fun h => .ite (.writeS (.branchTo h)) (.branchTo h)
theorem Goes.jr {o : OpSJr} : Goes s (execJr o s) := .ite (.next fun h => .branchTo h) (.next fun h => .branchTo h)
theorem Goes.jalr {o : OpSR2} : Goes s (execJalr o s) := .next fun h => .ite (.ws (.branchTo h)) (.branchTo h)

theorem Formed.startRecord {a w0 w1 w2 w3 : Nat} (h : Formed s) : Formed (s.startRecord a w0 w1 w2 w3) :=
  .ite (.modSync h) (.traceB (.holdNext (.of_mem h rfl)))

theorem Goes.loop {o : OpSLoop} : Goes s (execLoop o s) := by
  unfold execLoop
  refine .sOp ?_
  intro t h
  extract_lets +onlyGivenNames a
  split
  · exact .raise h
  · split
    · exact .sFault h
    · extract_lets +onlyGivenNames r
      have hr : FormedPair r := .sLoad h
      clear_value r
      split
      · exact .sFault (.fst hr)
      · exact .of_mem (.fst hr) rfl
      · exact .ite (.raise (.fst hr)) (.startRecord (.fst hr))

theorem Goes.lexit {o : OpSN} : Goes s (execLexit o s) := .sOp fun _ h => .ite (.modSync h) h

theorem Goes.trap {o : OpSTrap} : Goes s (execTrap o s) := by
  unfold execTrap
  refine .sOp ?_
  intro t h
  split
  · exact h
  · extract_lets +onlyGivenNames y q t1
    have ht1 : Formed t1 := .modCore (.takeCkpt h)
    clear_value t1
    exact .of_mem (.takeTrap ht1) rfl

theorem Goes.eret {o : OpSN} : Goes s (execEret o s) := .sOp fun _ h => .ite (.leaveHandler h) (.raise h)
theorem Goes.ychk {o : OpSYc} : Goes s (execYchk o s) := .sOp fun _ h => .writeG h
theorem Goes.yieldOp {o : OpSN} : Goes s (execYield o s) := .sOp fun _ h => .ite (.modCore h) h
theorem Goes.wfe {o : OpSN} : Goes s (execWfe o s) := .sOp fun _ h => .ite (.modCore h) (.ite h (.stallOn h))
theorem MaybeFormed.settled {scope : Nat} (h : Formed s) : MaybeFormed (s.settled scope) := .ite .none (.some (.l1Clean h))

theorem Goes.evsig {o : OpSEv} : Goes s (execEvsig o s) := by
  unfold execEvsig
  refine .sOp ?_
  intro t h
  split
  · exact h
  · split
    · exact .stallOn h
    · rename_i t1 e
      have ht1 : Formed t1 := .of_some (.settled h) e
      exact .modCl ht1

theorem Formed.freshResource {k : Nat} (h : Formed s) : Formed (s.freshResource k) :=
  .ite (.modCoreAt h) (.foldl (fun _ _ ht => .modCoreAt ht) (.modCl h))

theorem FormedPair.guestClaim {g id : Nat} (h : Formed s) : FormedPair (s.guestClaim g id) := by
  unfold State.guestClaim
  split
  · exact .mk h
  · exact .ite (.mk h) (.ite (.mk (.of_mem (.freshResource h) rfl)) (.ite (.mk h) (.mk h)))

theorem FormedPair.guestRelease {g id : Nat} (h : Formed s) : FormedPair (s.guestRelease g id) := by
  unfold State.guestRelease
  split
  · exact .mk h
  · exact .ite (.mk (.of_mem h rfl)) (.ite (.mk (.of_mem h rfl)) (.mk h))

theorem Goes.service {o : OpSR2} {refused : Bool} {f : State → State} (hf : ∀ (t : State), Formed t → Formed (f t)) :
    Goes s (service s o refused f) :=
  .sOp fun _ h => .ite h (.ite (.replayRefuse h) (hf _ h))

theorem Goes.kend {o : OpSR2} : Goes s (execKend o s) := .service fun _ h => .modCore h

theorem Goes.sysord {o : OpSR2} : Goes s (execSysord o s) := by
  unfold execSysord
  refine .service ?_
  intro t h
  split
  · exact .stallOn h
  · rename_i t1 e
    have ht1 : Formed t1 := .of_some (.settled h) e
    exact .ws ht1

theorem Goes.evadd {o : OpSR2} : Goes s (execEvadd o s) := by
  unfold execEvadd
  refine .service ?_
  intro t h
  split
  · exact .stallOn h
  · rename_i t1 e
    have ht1 : Formed t1 := .of_some (.settled h) e
    exact .ws (.evAdd ht1)

theorem Goes.claim {o : OpSR2} : Goes s (execClaim o s) := .service fun _ h => .ws (.fst (.guestClaim h))
theorem Goes.release {o : OpSR2} : Goes s (execRelease o s) := .service fun _ h => .ws (.fst (.guestRelease h))
theorem Goes.gstat {o : OpSR2} : Goes s (execGstat o s) := .service fun _ h => .ws h
theorem Goes.notify {o : OpSR2} : Goes s (execNotify o s) := .service fun _ h => .ws (.statusEvent h)
theorem Goes.sysc {o : OpSSvc} : Goes s (execSysc o s) := .service fun _ h => .ws h

theorem Goes.fence {o : OpSFence} : Goes s (execFence o s) := by
  unfold execFence
  refine .sOp ?_
  intro t h
  extract_lets +onlyGivenNames sc ord t1
  have ht1 : Formed t1 := .warnScope h
  clear_value t1
  split
  · exact .warn ht1
  · extract_lets +onlyGivenNames t2
    have ht2 : Formed t2 := .ite (.holdNext (.acquireL1 ht1)) ht1
    clear_value t2
    exact .ite (.modCore ht2) ht2

theorem Formed.refillPinned {n : Nat} (h : Formed s) : Formed (s.refillPinned n) := .foldl (fun _ _ ht => .ite ht (.l1Refresh ht)) h

theorem Goes.pfence {o : OpSPf} : Goes s (execPfence o s) := by
  unfold execPfence
  refine .sOp ?_
  intro t h
  extract_lets +onlyGivenNames f t1 w
  have hw : Formed w := .warn (.warnScope h)
  clear_value w
  exact .ite hw (.ite (.stallOn h) (.holdNext (.ite (.refillPinned (.l1DropClean (.ite (.l1Clean hw) hw))) (.ite (.l1Clean hw) hw))))

theorem Goes.drain {o : OpSFence} : Goes s (execDrain o s) :=
  .sOp fun _ h => .ite (.stallOn h) (.ite (.warn (.warnScope h)) (.acquireL1 (.l1Clean (.warn (.warnScope h)))))

theorem FormedPair.readStream {slot k n : Nat} (h : Formed s) : FormedPair (s.readStream slot k n) := by
  unfold State.readStream
  extract_lets +onlyGivenNames q
  split
  · exact .mk (.raise h)
  · split
    · exact .mk (.stallOn h)
    · split
      · exact .mk (.raise h)
      · exact .mk (.modStream h)

theorem FormedPair.vB {sl : Bool} {b : BitVec 6} {W : Nat} (h : Formed s) : FormedPair (s.vB sl b W) :=
  .ite (.mk h) (.ite (.mk (.fst (.readStream h))) (.mk h))

theorem Formed.writeVMerged {sl : Bool} {r : Nat} {v : VReg} {lat : Nat} (h : Formed s) : Formed (s.writeVMerged sl r v lat) := .modSync h

theorem Formed.vput {sl msk : Bool} {d w n tag : Nat} {e : List Nat} {lat : Nat} (h : Formed s) : Formed (s.vput sl msk d w n tag e lat) :=
  .ite (.writeVMerged h) (.writeV h)

theorem Formed.fmtop {sl msk : Bool} {d w n tag lat : Nat} (h : Formed s) : Formed (s.fmtop sl msk d w n tag lat) := .warn (.vput h)

theorem Goes.vOp {g : BitVec 4} {f : State → State} (hf : ∀ (t : State), Formed t → Formed (f t)) : Goes s (vOp s g f) :=
  .next fun h => .ite (hf _ h) h

theorem Goes.vArith {o : OpV3} {ok : Nat → Bool} {useD : Bool} {lat : Nat → Nat} {f : Nat → Nat → Nat → Nat → Nat} :
    Goes s (vArith s o ok useD lat f) := by
  unfold Machine.vArith
  refine .vOp ?_
  intro t h
  extract_lets +onlyGivenNames W a r
  have hr : FormedPair r := .vB h
  clear_value r
  split
  · exact .fst hr
  · exact .ite (.fmtop (.fst hr)) (.warns (.warns (.vput (.fst hr))))

theorem Goes.vUnary {o : OpV2} {ok : Nat → Bool} {lat : Nat → Nat} {f : Nat → Nat → Nat → Nat → Nat} : Goes s (vUnary s o ok lat f) :=
  .vOp fun _ h => .ite (.fmtop h) (.vput h)

theorem Goes.vnop {o : OpV0} : Goes s (execVnop o s) := .vOp fun _ h => .warn (.warn h)
theorem Goes.vadd {o : OpV3} : Goes s (execVadd o s) := .vArith
theorem Goes.vsub {o : OpV3} : Goes s (execVsub o s) := .vArith
theorem Goes.vmul {o : OpV3} : Goes s (execVmul o s) := .vArith
theorem Goes.vfma {o : OpV3} : Goes s (execVfma o s) := .vArith
theorem Goes.vfms {o : OpV3} : Goes s (execVfms o s) := .vArith
theorem Goes.vmin {o : OpV3} : Goes s (execVmin o s) := .vArith
theorem Goes.vmax {o : OpV3} : Goes s (execVmax o s) := .vArith
theorem Goes.vabs {o : OpV2} : Goes s (execVabs o s) := .vUnary
theorem Goes.vneg {o : OpV2} : Goes s (execVneg o s) := .vUnary
theorem Goes.vsqd {o : OpV3} : Goes s (execVsqd o s) := .vArith
theorem Goes.vmulh {o : OpV3} : Goes s (execVmulh o s) := .vArith

theorem Goes.vdot4 {o : OpV3} : Goes s (execVdot4 o s) := by
  unfold execVdot4
  refine .vOp ?_
  intro t h
  extract_lets +onlyGivenNames W a r
  have hr : FormedPair r := .vB h
  clear_value r
  split
  · exact .fst hr
  · exact .ite (.fmtop (.fst hr)) (.warns (.vput (.fst hr)))

theorem Goes.vBitwise {o : OpV3} {f : Nat → Nat → Nat} : Goes s (vBitwise s o f) := by
  unfold Machine.vBitwise
  refine .vOp ?_
  intro t h
  extract_lets +onlyGivenNames W a r
  have hr : FormedPair r := .vB h
  clear_value r
  split
  · exact .fst hr
  · exact .warns (.vput (.fst hr))

theorem Goes.vand {o : OpV3} : Goes s (execVand o s) := .vBitwise
theorem Goes.vor {o : OpV3} : Goes s (execVor o s) := .vBitwise
theorem Goes.vxor {o : OpV3} : Goes s (execVxor o s) := .vBitwise
theorem Goes.vshl {o : OpV3} : Goes s (execVshl o s) := .vArith
theorem Goes.vshr {o : OpV3} : Goes s (execVshr o s) := .vArith
theorem Goes.vsra {o : OpV3} : Goes s (execVsra o s) := .vArith

theorem Goes.vCompare {o : OpVC} {f : Bool × Bool → Bool} : Goes s (vCompare s o f) := by
  unfold Machine.vCompare
  refine .vOp ?_
  intro t h
  extract_lets +onlyGivenNames W a r
  have hr : FormedPair r := .vB h
  clear_value r
  split
  · exact .fst hr
  · exact .ite (.warn (.writeK (.warn (.fst hr)))) (.warns (.writeK (.warn (.fst hr))))

theorem Goes.vceq {o : OpVC} : Goes s (execVceq o s) := .vCompare
theorem Goes.vcne {o : OpVC} : Goes s (execVcne o s) := .vCompare
theorem Goes.vclt {o : OpVC} : Goes s (execVclt o s) := .vCompare
theorem Goes.vcle {o : OpVC} : Goes s (execVcle o s) := .vCompare

theorem Goes.vsel {o : OpV3} : Goes s (execVsel o s) := by
  unfold execVsel
  refine .vOp ?_
  intro t h
  extract_lets +onlyGivenNames W a r
  have hr : FormedPair r := .vB h
  clear_value r
  split
  · exact .fst hr
  · exact .warns (.vput (.fst hr))

theorem Goes.vMask {sl msk : Bool} {g : BitVec 4} {k j h : BitVec 3} {l : BitVec 2} {f : BitVec 256 → BitVec 256 → BitVec 256} :
    Goes s (vMask s sl msk g k j h l f) :=
  .vOp fun _ h1 => .warn (.warn (.writeK h1))

theorem Goes.kand {o : OpVK} : Goes s (execKand o s) := .vMask
theorem Goes.kor {o : OpVK} : Goes s (execKor o s) := .vMask
theorem Goes.kxor {o : OpVK} : Goes s (execKxor o s) := .vMask
theorem Goes.knot {o : OpVK1} : Goes s (execKnot o s) := .vMask
theorem Goes.kpop {o : OpVKp} : Goes s (execKpop o s) := .vOp fun _ h => .warn (.vput h)

theorem Goes.vcvt {o : OpVCv} : Goes s (execVcvt o s) :=
  .vOp fun _ h => .ite (.fmtop h) (.ite (.warn (.vput h)) (.ite (.modSync (.vput h)) (.vput h)))

theorem Goes.vrnd {o : OpVRn} : Goes s (execVrnd o s) := .vOp fun _ h => .ite (.fmtop (.warn h)) (.ite (.vput (.warn h)) (.warn (.vput (.warn h))))
theorem Goes.vqblk {o : OpVQb} : Goes s (execVqblk o s) := .vOp fun _ h => .warn (.writeVMerged (.writeVMerged h))
theorem Goes.vdqblk {o : OpVDq} : Goes s (execVdqblk o s) := .vOp fun _ h => .ite (.fmtop h) (.warn (.vput h))
theorem Goes.vtag {o : OpVTg} : Goes s (execVtag o s) := .vOp fun _ h => .vput h
theorem Goes.vSpecial {o : OpV2} {fn : SpFn} : Goes s (vSpecial s o fn) := .vUnary
theorem Goes.vexp2 {o : OpV2} : Goes s (execVexp2 o s) := .vSpecial
theorem Goes.vlog2 {o : OpV2} : Goes s (execVlog2 o s) := .vSpecial
theorem Goes.vrcp {o : OpV2} : Goes s (execVrcp o s) := .vSpecial
theorem Goes.vrsq {o : OpV2} : Goes s (execVrsq o s) := .vSpecial
theorem Goes.vsigm {o : OpV2} : Goes s (execVsigm o s) := .vSpecial
theorem Goes.vtanh {o : OpV2} : Goes s (execVtanh o s) := .vSpecial

theorem Goes.vReduce {o : OpV2} {ff : Nat → Machine.Num → Machine.Num → Machine.Num} {pre : Machine.Num → Machine.Num} {idF : Machine.Num}
    {fi : Nat → List ℤ → ℤ} {idI : Nat → ℤ} :
    Goes s (vReduce s o ff pre idF fi idI) :=
  .vOp fun _ h => .ite (.fmtop h) (.vput h)

theorem Goes.vrsum {o : OpV2} : Goes s (execVrsum o s) := .vReduce
theorem Goes.vrmax {o : OpV2} : Goes s (execVrmax o s) := .vReduce
theorem Goes.vrmin {o : OpV2} : Goes s (execVrmin o s) := .vReduce
theorem Goes.vamax {o : OpV2} : Goes s (execVamax o s) := .vReduce
theorem Goes.vscan {o : OpV2} : Goes s (execVscan o s) := .vOp fun _ h => .ite (.fmtop h) (.vput h)
theorem Goes.vmov {o : OpV2} : Goes s (execVmov o s) := .vUnary

theorem Goes.vsq {o : OpVSq} : Goes s (execVsq o s) :=
  .vOp fun _ h => .ite (.raise h) (.ite (.stallOn h) (.warn (.warns (.modCore (.modStream h)))))

theorem Goes.vxs {o : OpV2} : Goes s (execVxs o s) := .vOp fun _ h => .warn (.writeS h)
theorem Goes.vxab {o : OpV2} : Goes s (execVxab o s) := .vOp fun _ h => .ite (.writeVMerged h) (.writeV h)

theorem Goes.vSplat {o : OpVB1} {ok : Nat → Bool} {f : Nat → Nat → Nat → Nat} : Goes s (vSplat s o ok f) := by
  unfold Machine.vSplat
  refine .vOp ?_
  intro t h
  extract_lets +onlyGivenNames W r
  have hr : FormedPair r := .vB h
  clear_value r
  split
  · exact .fst hr
  · exact .ite (.fmtop (.warn (.fst hr))) (.vput (.warn (.fst hr)))

theorem Goes.vspl {o : OpVB1} : Goes s (execVspl o s) := .vSplat
theorem Goes.viota {o : OpVB1} : Goes s (execViota o s) := .vSplat
theorem Formed.xWrite {f : Bool} {d a b : BitVec 5} {lanes : List Nat} (h : Formed s) : Formed (s.xWrite f d a b lanes) := .writeV h

theorem Goes.xnOp {g : BitVec 4} {n : Bool} {f : State → State} (hf : ∀ (t : State), Formed t → Formed (f t)) : Goes s (xnOp s g n f) :=
  .next fun h => .ite (hf _ h) h

theorem Goes.xprm {o : OpXP} : Goes s (execXprm o s) :=
  .ite (.next fun h => .stallOn h) (.ite (.next fun h => .raise h) (.xnOp (fun _ h => .xWrite h)))

theorem Goes.xpldA {o : OpXL} : Goes s (execXpldA o s) := .xnOp fun _ h => .writeX h
theorem Goes.xpldB {o : OpXL} : Goes s (execXpldB o s) := .xnOp fun _ h => .writeX h
theorem Goes.xzip {o : OpXZ} : Goes s (execXzip o s) := .xnOp fun _ h => .xWrite h
theorem Goes.xuzp {o : OpXZ} : Goes s (execXuzp o s) := .xnOp fun _ h => .xWrite h
theorem Goes.xcmp {o : OpXC} : Goes s (execXcmp o s) := .xnOp fun _ h => .xWrite h
theorem Goes.xexp {o : OpXC} : Goes s (execXexp o s) := .xnOp fun _ h => .xWrite h

theorem Formed.withW {p : BitVec 3} {f : State → State} (h : Formed s) (hf : ∀ (t : State), Formed t → Formed (f t)) : Formed (s.withW p f) :=
  .ite (.stallOn h) (hf _ h)

theorem Goes.nmap {o : OpNM} : Goes s (execNmap o s) := .xnOp fun _ h => .withW h (fun _ h1 => .writeY h1)
theorem Goes.nmapx {o : OpNMx} : Goes s (execNmapx o s) := .xnOp fun _ h => .withW h (fun _ h1 => .writeY h1)
theorem Goes.npld {o : OpNP} : Goes s (execNpld o s) := .xnOp fun _ h => .writeW h
theorem Goes.nmov {o : OpNV} : Goes s (execNmov o s) := .xnOp fun _ h => .writeY h
theorem Goes.nxs {o : OpNX} : Goes s (execNxs o s) := .xnOp fun _ h => .writeS h
theorem Goes.nli {o : OpNL} : Goes s (execNli o s) := .xnOp fun _ h => .writeY h
theorem Formed.ringMove {core n ep pops pushes : Nat} (h : Formed s) : Formed (s.ringMove core n ep pops pushes) := .mapSync h

theorem Formed.whenFree {t : Nat} {f : State → State} (h : Formed s) (hf : ∀ (t : State), Formed t → Formed (f t)) : Formed (s.whenFree t f) :=
  .ite (.stallOn h) (hf _ h)

theorem Formed.ringCheck {slot n : Nat} {f : State → State} (h : Formed s) (hf : ∀ (t : State), Formed t → Formed (f t)) :
    Formed (s.ringCheck slot n f) :=
  .ite (hf _ h) (.raise h)

theorem Formed.mIssue {c : MCmd} (h : Formed s) : Formed (s.mIssue c) := .modCore h

theorem Goes.mmaOp {o : OpMM} {op kind : Nat} : Goes s (mmaOp s o op kind) := by
  unfold Machine.mmaOp
  refine .xnOp ?_
  intro t h
  refine .whenFree h ?_
  intro t1 h1
  refine .ringCheck h1 ?_
  intro t2 h2
  refine .ringCheck h2 ?_
  intro t3 h3
  extract_lets +onlyGivenNames k ringA ringB mode rec_
  split
  · exact .raise h3
  · split
    · exact .raise h3
    · extract_lets +onlyGivenNames go go1 go2
      have hgo2 : ∀ (s : State), Formed s → Formed (go2 s) := fun _ h4 => .warn (.mIssue (.modCore (.ite h4 (.count h4))))
      clear_value go2
      exact .ite (hgo2 _ h3) (.ringCheck h3 (fun _ h4 => hgo2 _ h4))

theorem Goes.mma {o : OpMM} : Goes s (execMma o s) := .mmaOp
theorem Goes.mmaz {o : OpMM} : Goes s (execMmaz o s) := .mmaOp
theorem Goes.mconv {o : OpMM} : Goes s (execMconv o s) := .mmaOp
theorem Goes.mzero {o : OpMZ} : Goes s (execMzero o s) := .xnOp fun _ h => .whenFree h (fun _ h1 => .mIssue h1)
theorem Goes.mldz {o : OpML} : Goes s (execMldz o s) := .xnOp fun _ h => .whenFree h (fun _ h1 => .ringCheck h1 (fun _ h2 => .warn (.mIssue h2)))

theorem Goes.mstz {o : OpMS} : Goes s (execMstz o s) :=
  .xnOp fun _ h => .whenFree h (fun _ h1 => .ringCheck h1 (fun _ h2 => .warn (.warn (.ite (.modSync (.mIssue h2)) (.mIssue h2)))))

theorem Goes.mtag {o : OpMT} : Goes s (execMtag o s) := .xnOp fun _ h => .modRing h
theorem Goes.mskp {o : OpMK} : Goes s (execMskp o s) := .xnOp fun _ h => .ringCheck h (fun _ h1 => .mIssue h1)
theorem Goes.mwait {o : OpMW} : Goes s (execMwait o s) := .xnOp fun _ h => .ite (.stallOn h) h

theorem Formed.convStart {n : Nat} {c : MCmd} (h : Formed s) : Formed (s.convStart n c) := by
  unfold State.convStart
  split
  · exact h
  · exact .modCoreAt h

theorem Formed.mStart {n : Nat} {c : MCmd} (h : Formed s) : Formed (s.mStart n c) := by
  unfold State.mStart
  split
  · exact h
  · exact .modCoreAt h

theorem Formed.skipStart {n : Nat} {c : MCmd} (h : Formed s) : Formed (s.skipStart n c) := .ite (.modCoreAt h) (.ite (.modCoreAt (.ringMove h)) h)

theorem Formed.mBegin {n : Nat} (h : Formed s) : Formed (s.mBegin n) := by
  unfold State.mBegin
  split
  · exact h
  · extract_lets +onlyGivenNames t
    have ht : Formed t := .ite (.countAt (.modCoreAt h)) h
    clear_value t
    exact .ite (.ite ht (.ite (.skipStart ht) (.ite (.convStart ht) (.mStart ht)))) h

theorem Goes.matrixCommandBegin {core : Nat} : Goes s (execMatrixCommandBegin core s) := .next fun h => .mBegin h

theorem Formed.mVersion {n : Nat} {c : MCmd} {inherited : Nat} {t : Tile} (h : Formed s) : Formed (s.mVersion n c inherited t) :=
  .modCoreAt (.mapSync h)

theorem Formed.mFinish {n : Nat} {c : MCmd} (h : Formed s) : Formed (s.mFinish n c) := by
  unfold State.mFinish
  extract_lets +onlyGivenNames k done
  have hdone : ∀ (s : State), Formed s → ∀ (out : List (Nat × List Nat)), Formed (done s out) := fun _ h1 _ => .modCoreAt h1
  clear_value done
  extract_lets +onlyGivenNames old version
  have hversion : ∀ (s : State), Formed s → ∀ (t : Tile), Formed (version s t) := fun _ h1 _ => .mVersion h1
  clear_value version
  extract_lets +onlyGivenNames fail
  have hfail : ∀ (a : Nat), Formed (fail a) := fun _ => .ite (.modCoreAt (.tickFree (.mVersion (.logArray h))))
    (.ite (.takeTrap (.logArray h)) (.modCoreAt (.logArray h)))
  clear_value fail
  split
  · exact .modCoreAt h
  · split
    · exact hdone _ (hversion _ h _) _
    · split
      · exact hdone _ h _
      · split
        · exact hdone _ h _
        · split
          · exact hfail _
          · exact .ite (hdone _ (hversion _ h _) _) (hdone _ (hversion _ h _) _)

theorem Formed.mPublish {n : Nat} {c : MCmd} (h : Formed s) : Formed (s.mPublish n c) := by
  unfold State.mPublish
  extract_lets +onlyGivenNames t
  have ht : Formed t := .foldl (fun _ _ ht1 => .fst (.vaWrite ht1)) h
  clear_value t
  extract_lets +onlyGivenNames t1
  have ht1 : Formed t1 := .foldl (fun _ _ ht2 => .ringMove ht2) ht
  clear_value t1
  extract_lets +onlyGivenNames t2
  have ht2 : Formed t2 := by
    unfold t2
    split
    · exact ht1
    · exact .mapSync (.modCoreAt ht1)
  clear_value t2
  exact .modCoreAt ht2

theorem Formed.mComplete {n : Nat} (h : Formed s) : Formed (s.mComplete n) := by
  unfold State.mComplete
  split
  · exact .mPublish h
  · split
    · exact .ite (.mFinish h) h
    · exact h

theorem Goes.matrixCommandComplete {core : Nat} : Goes s (execMatrixCommandComplete core s) := .next fun h => .mComplete h

theorem Formed.mPartial {n : Nat} {c : MCmd} {b : Nat} (h : Formed s) : Formed (s.mPartial n c b) := by
  unfold State.mPartial
  split
  · exact h
  · split
    · exact h
    · exact .modCoreAt (.mVersion h)

theorem FormedPair.mSuspend {n : Nat} (h : Formed s) : FormedPair (s.mSuspend n) := by
  unfold State.mSuspend
  split
  · exact .mk h
  · split
    · exact .mk h
    · split
      · exact .ite (.mk h) (.mk (.modCoreAt h))
      · split
        · exact .mk (.modCoreAt (.mPartial h))
        · exact .mk h

end

end Sys2Proof.Proofs.MemoryForm
end

section
/-! Proofs. Keeping the form of memory: copies, barriers and the temporal array. -/

namespace Sys2Proof.Proofs.MemoryForm
open Sys2Proof Sys2Proof.Machine

section
variable {s : State}

theorem Formed.cIssue {cb : Bool} {c : CCmd} (h : Formed s) : Formed (s.cIssue cb c) := .modCore h
theorem Formed.cScoped {cb : Bool} {sc : BitVec 3} {c : CCmd} (h : Formed s) : Formed (s.cScoped cb sc c) := .warnScope (.cIssue h)
theorem Goes.hadd {o : OpCH} : Goes s (execHadd o s) := .xnOp fun _ h => .writeH h
theorem Goes.hmov {o : OpCM} : Goes s (execHmov o s) := .xnOp fun _ h => .writeH h
theorem Goes.hli {o : OpCI} : Goes s (execHli o s) := .xnOp fun _ h => .writeH h
theorem Goes.hxs {o : OpCX} : Goes s (execHxs o s) := .xnOp fun _ h => .writeS h
theorem Goes.cpy {o : OpCC} : Goes s (execCpy o s) := .xnOp fun _ h => .cScoped h
theorem Goes.cpys {o : OpCS} : Goes s (execCpys o s) := .xnOp fun _ h => .cScoped h
theorem Goes.cpyt {o : OpCT} : Goes s (execCpyt o s) := .xnOp fun _ h => .ringCheck h (fun _ h1 => .cScoped h1)
theorem Goes.cpyw {o : OpCT} : Goes s (execCpyw o s) := .xnOp fun _ h => .ringCheck h (fun _ h1 => .cScoped h1)
theorem Goes.ldblk {o : OpCT} : Goes s (execLdblk o s) := .xnOp fun _ h => .cScoped h
theorem Goes.evblk {o : OpCE} : Goes s (execEvblk o s) := .xnOp fun _ h => .cIssue h
theorem Goes.csig {o : OpCSg} : Goes s (execCsig o s) := .xnOp fun _ h => .warn (.cScoped h)
theorem Goes.coll {o : OpCL} : Goes s (execColl o s) := .xnOp fun _ h => .ite (.replayRefuse h) (.cScoped h)
theorem Goes.bind {o : OpCBd} : Goes s (execBind o s) := .xnOp fun _ h => .ite (.raise h) (.modStream h)
theorem Goes.unbd {o : OpCU} : Goes s (execUnbd o s) := .xnOp fun _ h => .ite (.cScoped h) (.modStream (.cScoped h))
theorem Formed.gatherOp {o : OpCG} {op : Nat} {out : Bool} (h : Formed s) : Formed (gatherOp s o op out) := .cScoped h
theorem Goes.gthr {o : OpCG} : Goes s (execGthr o s) := .xnOp fun _ h => .gatherOp h
theorem Goes.sctr {o : OpCG} : Goes s (execSctr o s) := .xnOp fun _ h => .gatherOp h

theorem Formed.copyErr {cb : Bool} {f : State → State} (h : Formed s) (hf : ∀ (t : State), Formed t → Formed (f t)) : Formed (s.copyErr cb f) :=
  .ite (.raise h) (hf _ h)

theorem Goes.cwait {o : OpCW} : Goes s (execCwait o s) := .xnOp fun _ h => .ite (.copyErr h (fun _ h1 => h1)) (.stallOn h)
theorem Goes.cflag {o : OpCF} : Goes s (execCflag o s) := .xnOp fun _ h => .copyErr h (fun _ h1 => .writeG h1)
theorem Formed.useAdm {n tag : Nat} (h : Formed s) : Formed (s.useAdm n tag) := .modCoreAt h
theorem Formed.engAsk {n tag : Nat} {reqs : List Nat} (h : Formed s) : Formed (s.engAsk n tag reqs) := .of_mem h rfl

theorem FormedPair.cells {n kind : Nat} {l : List (Nat × Nat × Nat × Nat)} (h : Formed s) : FormedPair (s.cells n kind l) := by
  induction l generalizing s with
  | nil =>
    unfold State.cells
    exact .mk h
  | cons x xs ih =>
    unfold State.cells
    exact .mk (.fst (ih (.fst (.resolve h))))

theorem FormedPair.overlay {n : Nat} {src dst : List CopyPiece} {l : List (Nat × Nat)} {l' : List Nat} (h : Formed s) :
    FormedPair (s.overlay n src dst l l') := by
  induction l generalizing s l' with
  | nil =>
    unfold State.overlay
    exact .mk h
  | cons x xs ih =>
    unfold State.overlay
    exact .mk (.fst (ih (.fst (.resolve h))))

theorem FormedPair.readRows {n tag : Nat} {l : List (Nat × Nat × Nat)} (h : Formed s) : FormedPair (s.readRows n tag l) := by
  induction l generalizing s with
  | nil =>
    unfold State.readRows
    exact .mk h
  | cons x xs ih =>
    unfold State.readRows
    extract_lets +onlyGivenNames r
    have hr : FormedPair r := .vaRead h
    clear_value r
    split
    · exact .mk (.fst hr)
    · exact .mk (.fst (ih (.fst hr)))

theorem FormedPair.writePieces {n tag : Nat} {l : List (Nat × List Nat)} (h : Formed s) : FormedPair (s.writePieces n tag l) := by
  induction l generalizing s with
  | nil =>
    unfold State.writePieces
    exact .mk h
  | cons x xs ih =>
    unfold State.writePieces
    extract_lets +onlyGivenNames r
    have hr : FormedPair r := .vaWriteP h
    clear_value r
    split
    · exact .mk (.fst hr)
    · exact ih (.fst hr)

theorem FormedPair.writeRows {n tag : Nat} {rows : List (Nat × List Nat)} (h : Formed s) : FormedPair (s.writeRows n tag rows) := .writePieces h

theorem FormedPair.readLoose {n a : Nat} (h : Formed s) : FormedPair (s.readLoose n a) := by
  unfold State.readLoose
  extract_lets +onlyGivenNames r
  have hr : FormedPair r := .resolve h
  clear_value r
  split
  · exact .mk (.fst hr)
  · exact .ite (.mk (.fst hr)) (.mk (.fst (.tgtRead (.fst hr))))

theorem FormedPair.looseReads {n : Nat} {l : List (Nat × Nat)} (h : Formed s) : FormedPair (s.looseReads n l) := by
  induction l generalizing s with
  | nil =>
    unfold State.looseReads
    exact .mk h
  | cons x xs ih =>
    unfold State.looseReads
    exact .ite (.mk (.fst (ih (.fst (.readLoose h))))) (ih h)

theorem Formed.looseWrite {n dst v : Nat} (h : Formed s) : Formed (s.looseWrite n dst v) := by
  unfold State.looseWrite
  extract_lets +onlyGivenNames d
  have hd : FormedPair d := .resolve h
  clear_value d
  split
  · exact .fst hd
  · split
    · refine .fst ?_
      refine .guarded (.fst hd) ?_
      exact fun _ h1 => .tgtWrite h1
    · exact .fst hd

theorem Formed.looseRows {n : Nat} {rows : List (Nat × Nat × Nat)} (h : Formed s) : Formed (s.looseRows n rows) :=
  .tickFree (.foldl (fun _ _ ht => .looseWrite ht) (.fst (.looseReads h)))

theorem FormedPair.cFail {s0 s : State} {e : Nat × Nat} {loose : State → State} (hs0 : Formed s0) (h : Formed s)
    (hloose : ∀ (t : State), Formed t → Formed (loose t)) :
    FormedPair (s0.cFail s e loose) :=
  .ite (.mk (.of_mem hs0 rfl)) (.mk (hloose _ h))

theorem Formed.dropColl {n seqNo : Nat} {cb : Bool} (h : Formed s) : Formed (s.dropColl n seqNo cb) := .of_mem h rfl

theorem FormedPair.cWritten {n : Nat} {cb : Bool} {c : CCmd} {e : Nat × Nat} (h : Formed s) : FormedPair (s.cWritten n cb c e) := by
  unfold State.cWritten
  split
  · exact .mk (.tickFree h)
  · exact .mk (.tickFree h)
  · exact .mk (.ite (.ringMove h) h)
  · exact .mk (.ite (.ringMove h) h)
  · exact .mk (.modCoreAt h)
  · exact .mk (.tickFree (.dropColl h))
  · exact .mk h

theorem Formed.cLoose {n : Nat} {cb : Bool} {c : CCmd} (h : Formed s) : Formed (s.cLoose n cb c) := by
  unfold State.cLoose
  split
  · exact .looseRows h
  · exact .looseRows h
  · split
    · exact .looseRows h
    · exact h
  · exact h

theorem FormedPair.cWrite {s0 s : State} {n tag : Nat} {cb : Bool} {c : CCmd} {w : List (Nat × List Nat)} (hs0 : Formed s0) (h : Formed s) :
    FormedPair (s0.cWrite s n tag cb c w) := by
  unfold State.cWrite
  extract_lets +onlyGivenNames r
  have hr : FormedPair r := .writeRows h
  clear_value r
  split
  · exact .cWritten (.fst hr)
  · exact .ite (.mk (.of_mem hs0 rfl)) (.ite (.mk (.fst hr)) (.cWritten (.cLoose (.fst hr))))

theorem FormedPair.cResume {n tag : Nat} {cb : Bool} {c : CCmd} (h : Formed s) : FormedPair (s.cResume n tag cb c) :=
  .ite (.cWritten (.cLoose h)) (.cWrite h h)

theorem FormedPair.cpyPerform {n tag : Nat} {cb : Bool} {c : CCmd} (h : Formed s) : FormedPair (s.cpyPerform n tag cb c) := by
  unfold State.cpyPerform
  extract_lets +onlyGivenNames rows r
  have hr : FormedPair r := .readRows h
  clear_value r
  split
  · exact .cFail h (.fst hr) fun _ h1 => .looseRows h1
  · extract_lets +onlyGivenNames src
    have hsrc : FormedPair src := .cells (.fst hr)
    clear_value src
    extract_lets +onlyGivenNames dst
    have hdst : FormedPair dst := .cells (.fst hsrc)
    clear_value dst
    extract_lets +onlyGivenNames outs
    have houts : FormedPair outs := .foldl (fun _ _ hacc => .mk (.fst (.overlay (.fst hacc)))) (.mk (.fst hdst))
    clear_value outs
    exact .cWrite h (.fst houts)

theorem FormedPair.cpytPerform {n tag : Nat} {cb : Bool} {c : CCmd} (h : Formed s) : FormedPair (s.cpytPerform n tag cb c) := by
  unfold State.cpytPerform
  split
  · extract_lets +onlyGivenNames r
    have hr : FormedPair r := .vaRead h
    clear_value r
    split
    · exact .cFail h (.fst hr) fun _ h1 => h1
    · exact .ite (.mk (.modCoreAt (.fst hr))) (.mk (.fst hr))
  · split
    · exact .mk h
    · exact .cWrite h h

theorem FormedPair.cpywPerform {n tag : Nat} {cb : Bool} {c : CCmd} (h : Formed s) : FormedPair (s.cpywPerform n tag cb c) := by
  unfold State.cpywPerform
  split
  · exact .mk h
  · extract_lets +onlyGivenNames r
    have hr : FormedPair r := .vaRead h
    clear_value r
    split
    · exact .cFail h (.fst hr) fun _ h1 => h1
    · exact .cWrite h (.fst hr)

theorem FormedPair.endBlock {n f : Nat} (h : Formed s) : FormedPair (s.endBlock n f) := by
  unfold State.endBlock
  extract_lets +onlyGivenNames lines g step
  have hstep : ∀ (acc : State × Option Nat), FormedPair acc → ∀ (l : L1Line), FormedPair (step acc l) := by
    intro acc a l
    unfold step
    refine .foldl (fun acc1 r hacc1 => ?_) a
    extract_lets +onlyGivenNames w
    have hw : FormedPair w := .homeWrite (.post (.fst hacc1))
    clear_value w
    exact .mk (.fst hw)
  clear_value step
  extract_lets +onlyGivenNames r
  have hr : FormedPair r := .foldl (fun _ _ ht => hstep _ ht _) (.mk h)
  clear_value r
  exact .mk (.modCoreAt (.fst hr))

theorem FormedPair.pinLine {n f va : Nat} (h : Formed s) : FormedPair (s.pinLine n f va) := by
  unfold State.pinLine
  extract_lets +onlyGivenNames r
  have hr : FormedPair r := .resolve h
  clear_value r
  split
  · exact .mk (.fst hr)
  · extract_lets +onlyGivenNames s1
    have hs1 : Formed s1 := .fst hr
    clear_value s1
    split
    · exact .mk (.modCoreAt hs1)
    · extract_lets +onlyGivenNames h1
      have hh1 : FormedPair h1 := .homeRead hs1
      clear_value h1
      split
      · exact .mk (.fst hh1)
      · exact .mk (.l1Put (.fst hh1))
  · exact .mk (.fst hr)

theorem FormedPair.pinLines {n f : Nat} {l : List Nat} (h : Formed s) : FormedPair (s.pinLines n f l) := by
  induction l generalizing s with
  | nil =>
    unfold State.pinLines
    exact .mk h
  | cons x xs ih =>
    unfold State.pinLines
    extract_lets +onlyGivenNames r
    have hr : FormedPair r := .pinLine h
    clear_value r
    split
    · exact .mk (.fst hr)
    · exact ih (.fst hr)

theorem FormedPair.ldblkPerform {n : Nat} {c : CCmd} (h : Formed s) : FormedPair (s.ldblkPerform n c) := by
  unfold State.ldblkPerform
  extract_lets +onlyGivenNames pinned
  split
  · exact .mk h
  · extract_lets +onlyGivenNames r
    have hr : FormedPair r := .pinLines h
    clear_value r
    split
    · exact .mk (.modCoreAt (.fst hr))
    · exact .mk (.modCoreAt (.fst hr))

theorem Formed.deliver {n k epoch seqNo v : Nat} (h : Formed s) : Formed (s.deliver n k epoch seqNo v) := .modCoreAt h

theorem FormedPair.gthrPerform {n tag : Nat} {cb : Bool} {c : CCmd} (h : Formed s) : FormedPair (s.gthrPerform n tag cb c) := by
  unfold State.gthrPerform
  split
  · exact .mk h
  · extract_lets +onlyGivenNames q i
    have hi : FormedPair i := .vaRead h
    clear_value i
    split
    · exact .cFail h (.fst hi) fun _ h1 => h1
    · extract_lets +onlyGivenNames live
      split
      · exact .mk (.modCoreAt (.fst hi))
      · extract_lets +onlyGivenNames r
        have hr : FormedPair r := .vaRead (.fst hi)
        clear_value r
        split
        · exact .cFail h (.fst hr) fun _ h1 => h1
        · exact .mk (.modCoreAt (.deliver (.fst hr)))

theorem FormedPair.sctrPerform {n tag : Nat} {cb : Bool} {c : CCmd} (h : Formed s) : FormedPair (s.sctrPerform n tag cb c) := by
  unfold State.sctrPerform
  split
  · exact .mk h
  · split
    · exact .mk h
    · split
      · exact .cWritten h
      · extract_lets +onlyGivenNames q i
        have hi : FormedPair i := .vaRead h
        clear_value i
        split
        · exact .ite (.cFail h (.fst hi) (fun _ h1 => h1)) (.cWritten (.fst hi))
        · exact .cWrite h (.fst hi)

theorem FormedPair.unbdPerform {n : Nat} {c : CCmd} (h : Formed s) : FormedPair (s.unbdPerform n c) := .ite (.mk h) (.mk (.modCoreAt h))
theorem Formed.collTell {g num code : Nat} (h : Formed s) : Formed (s.collTell g num code) := .tell h

theorem Formed.collSend {c : Coll} {inputs : List (Nat × List Nat)} (h : Formed s) : Formed (s.collSend c inputs) :=
  .foldl (fun _ _ ht => .sendTo ht) h

theorem Formed.collEnter {n : Nat} {cb : Bool} {c : CCmd} (h : Formed s) : Formed (s.collEnter n cb c) :=
  .modCoreAt (.ite (.of_mem h rfl) (.collTell (.of_mem h rfl)))

theorem FormedPair.collRead {n tag : Nat} {cb : Bool} {c : CCmd} (h : Formed s) : FormedPair (s.collRead n tag cb c) := by
  unfold State.collRead
  extract_lets +onlyGivenNames r
  have hr : FormedPair r := .vaRead h
  clear_value r
  split
  · extract_lets +onlyGivenNames f
    have hf : FormedPair f := .cFail h (.fst hr) fun _ h1 => h1
    clear_value f
    refine .mk ?_
    split
    · exact .collTell (.dropColl (.fst hf))
    · exact .fst hf
  · extract_lets +onlyGivenNames t
    have ht : Formed t := .fst hr
    clear_value t
    extract_lets +onlyGivenNames t1 t2
    have ht2 : Formed t2 := .of_mem ht rfl
    clear_value t2
    extract_lets +onlyGivenNames t3
    have ht3 : Formed t3 := by
      unfold t3
      split
      · exact .ite (.collSend ht2) ht2
      · exact ht2
    clear_value t3
    exact .mk (.modCoreAt ht3)

theorem FormedPair.collWrite {n tag : Nat} {cb : Bool} {c : CCmd} (h : Formed s) : FormedPair (s.collWrite n tag cb c) := by
  unfold State.collWrite
  extract_lets +onlyGivenNames src
  have hsrc : FormedPair src := .ite (.mk h) (.cells h)
  clear_value src
  extract_lets +onlyGivenNames dst
  have hdst : FormedPair dst := .ite (.mk (.fst hsrc)) (.cells (.fst hsrc))
  clear_value dst
  exact .cWrite h (.fst (.overlay (.fst hdst)))

theorem Formed.cPublish {n : Nat} {cb : Bool} {c : CCmd} (h : Formed s) : Formed (s.cPublish n cb c) := .ite (.countAt (.modCoreAt h)) (.modCoreAt h)

theorem Formed.cSettle {n : Nat} {cb : Bool} {c : CCmd} {r : CRes} (h : Formed s) : Formed (s.cSettle n cb c r) := by
  unfold State.cSettle
  split
  · exact .remDone (.modCoreAt h)
  · exact .hostEv (.modCoreAt h)
  · exact h

theorem FormedPair.cPerform {n : Nat} {cb : Bool} {c : CCmd} (h : Formed s) : FormedPair (s.cPerform n cb c) := by
  unfold State.cPerform
  extract_lets +onlyGivenNames tag
  split
  · exact .cResume h
  · extract_lets +onlyGivenNames s1
    have hs1 : Formed s1 := .ite (.fst (.endBlock h)) h
    clear_value s1
    split
    · exact .mk hs1
    · split
      · exact .cpyPerform hs1
      · exact .cpyPerform hs1
      · exact .cpytPerform hs1
      · exact .cpywPerform hs1
      · exact .ldblkPerform hs1
      · exact .mk (.fst (.endBlock hs1))
      · exact .unbdPerform hs1
      · exact .gthrPerform hs1
      · exact .sctrPerform hs1
      · exact .cWrite hs1 (.ite (.l1Clean hs1) hs1)
      · exact .ite (.collRead hs1) (.collWrite hs1)

theorem Formed.copyStep {n : Nat} {cb : Bool} (h : Formed s) : Formed (s.copyStep n cb) := by
  unfold State.copyStep
  extract_lets +onlyGivenNames k
  split
  · exact .cPublish h
  · split
    · exact .collEnter h
    · split
      · exact h
      · extract_lets +onlyGivenNames tag
        split
        · exact h
        · split
          · exact .ite (.modCoreAt (.useAdm h)) (.engAsk h)
          · extract_lets +onlyGivenNames r
            have hr : FormedPair r := by
              unfold r
              refine .regulated h ?_
              exact fun _ h1 => .cPerform h1
            clear_value r
            split
            · exact .fst hr
            · exact .cSettle (.fst hr)

theorem Goes.copyCommandComplete {core q : Nat} : Goes s (execCopyCommandComplete core q s) := .next fun h => .copyStep h
theorem FormedPair.readRuns {n tag : Nat} {l : List (Nat × Nat)} (h : Formed s) : FormedPair (s.readRuns n tag l) := .mk (.fst (.readRows h))

theorem Formed.arrive {n k : Nat} (h : Formed s) : Formed (s.arrive n k) := by
  unfold State.arrive
  extract_lets +onlyGivenNames c q tag
  split
  · exact h
  · split
    · exact .engAsk h
    · extract_lets +onlyGivenNames p
      have hp : FormedPair p := by
        unfold p
        refine .regulated h ?_
        intro t h1
        extract_lets +onlyGivenNames r
        have hr : FormedPair r := .readRuns h1
        clear_value r
        split
        · exact .mk (.fst hr)
        · exact .mk (.fst hr)
      clear_value p
      extract_lets +onlyGivenNames put
      have hput : ∀ (t : State), Formed t → ∀ (l : List SElem), Formed (put t l) := fun _ h1 _ => .modCoreAt (.remDone (.useAdm h1))
      clear_value put
      split
      · exact .fst hp
      · exact hput _ (.fst hp) _
      · exact .of_mem h rfl

theorem Goes.streamGroupArrival {core k : Nat} : Goes s (execStreamGroupArrival core k s) := .next fun h => .arrive h

theorem Formed.outWrite {n k : Nat} (h : Formed s) : Formed (s.outWrite n k) := by
  unfold State.outWrite
  extract_lets +onlyGivenNames c tag
  split
  · exact h
  · split
    · exact h
    · extract_lets +onlyGivenNames w reqs
      split
      · exact .engAsk h
      · extract_lets +onlyGivenNames ep before l w1 p
        have hp : FormedPair p := by
          unfold p
          refine .regulated h ?_
          exact fun _ h1 => .writeRows h1
        clear_value p
        extract_lets +onlyGivenNames fin
        have hfin : ∀ (t : State), Formed t → ∀ (err : List (Nat × Nat × Nat × Nat)), Formed (fin t err) := fun _ h1 _ => .modCoreAt
          (.remDone (.useAdm h1))
        clear_value fin
        split
        · exact .fst hp
        · exact hfin _ (.fst hp) _
        · exact .ite (.of_mem h rfl) (.ite (.hostEv (.modCoreAt (.fst hp))) (hfin _ (.fst hp) _))

theorem Goes.streamOutputWrite {core k : Nat} : Goes s (execStreamOutputWrite core k s) := .next fun h => .outWrite h

theorem Formed.barrierAct {cl : Nat} (h : Formed s) : Formed (s.barrierAct cl) := by
  unfold State.barrierAct
  split
  · exact h
  · exact .modCl (.l1Clean h)

theorem Goes.barrierAccess {cl : Nat} : Goes s (execBarrierAccess cl s) := .next fun h => .barrierAct h

theorem Goes.barOp {o : OpSBar} {op : Nat} : Goes s (barOp s o op) := by
  unfold Machine.barOp
  refine .sOp ?_
  intro t h
  split
  · exact h
  · extract_lets +onlyGivenNames c
    split
    · split
      · exact .stallOn h
      · exact .holdNext (.ws (.modCl h))
    · exact .ite (.stallOn h) (.stallOn (.modCl h))

theorem Goes.bar {o : OpSBar} : Goes s (execBar o s) := .barOp
theorem Goes.bara {o : OpSBar} : Goes s (execBara o s) := .barOp
theorem Goes.barw {o : OpSBar} : Goes s (execBarw o s) := .barOp
theorem Goes.bari {o : OpSBar} : Goes s (execBari o s) := .barOp
theorem Formed.tIssue {c : TCmd} (h : Formed s) : Formed (s.tIssue c) := .modCore h

theorem Formed.tCheck {op : Nat} {f : State → State} (h : Formed s) (hf : ∀ (t : State), Formed t → Formed (f t)) : Formed (s.tCheck op f) :=
  .ite (.raise h) (.ite (.stallOn h) (hf _ h))

theorem Goes.tacq {o : OpT0} : Goes s (execTacq o s) := .xnOp fun _ h => .ite (.tIssue h) (.modCl (.tIssue h))
theorem Goes.trel {o : OpT0} : Goes s (execTrel o s) := .xnOp fun _ h => .tCheck h (fun _ h1 => .tIssue h1)
theorem Goes.trst {o : OpT0} : Goes s (execTrst o s) := .xnOp fun _ h => .tCheck h (fun _ h1 => .tIssue h1)
theorem Goes.tldw {o : OpT1} : Goes s (execTldw o s) := .xnOp fun _ h => .tCheck h (fun _ h1 => .ringCheck h1 (fun _ h2 => .warn (.tIssue h2)))
theorem Goes.tcap {o : OpT1} : Goes s (execTcap o s) := .xnOp fun _ h => .tCheck h (fun _ h1 => .ringCheck h1 (fun _ h2 => .warn (.tIssue h2)))

theorem Goes.tlnc {o : OpTL} : Goes s (execTlnc o s) := by
  unfold execTlnc
  refine .xnOp ?_
  intro t h
  refine .tCheck h ?_
  intro t1 h1
  extract_lets +onlyGivenNames d base base1
  split
  · exact .raise h1
  · split
    · extract_lets +onlyGivenNames f r
      have hr : FormedPair r := .readStream h1
      clear_value r
      split
      · exact .fst hr
      · exact .warn (.tIssue (.fst hr))
    · exact .ringCheck h1 fun _ h2 => .warn (.tIssue h2)

theorem Formed.grantArray {cl : Nat} (h : Formed s) : Formed (s.grantArray cl) := by
  unfold State.grantArray
  extract_lets +onlyGivenNames a
  split
  · exact h
  · split
    · exact h
    · exact .modCl h

theorem Goes.temporalGrant {cl : Nat} : Goes s (execTemporalGrant cl s) := .next fun h => .grantArray h

theorem Formed.tBegin {cl : Nat} (h : Formed s) : Formed (s.tBegin cl) := by
  unfold State.tBegin
  split
  · exact .ite (.modCoreAt h) h
  · exact h

theorem Goes.temporalCommandBegin {cl : Nat} : Goes s (execTemporalCommandBegin cl s) := .next fun h => .tBegin h
theorem Formed.asyncMemue {n info : Nat} (h : Formed s) : Formed (s.asyncMemue n info) := .modCoreAt (.logArray h)
theorem Formed.arrayCut {cl n : Nat} {c : TCmd} {cycles : Nat} (h : Formed s) : Formed (s.arrayCut cl n c cycles) := .ite (.modCl h) (.modCl h)

theorem Formed.tFinish {cl n : Nat} {c : TCmd} (h : Formed s) : Formed (s.tFinish cl n c) := by
  unfold State.tFinish
  extract_lets +onlyGivenNames drop
  have hdrop : ∀ (t : State), Formed t → ∀ (moves : Bool), Formed (drop t moves) := fun _ h1 _ => .modCoreAt
    (.ite (.foldl (fun _ _ ht1 => .ringMove ht1) h1) h1)
  clear_value drop
  extract_lets +onlyGivenNames modA
  have hmodA : ∀ (t : State), Formed t → ∀ (f : TArray → TArray), Formed (modA t f) := fun _ h1 _ => .modCl h1
  clear_value modA
  split
  · exact .modCoreAt (hdrop _ (hmodA _ h _) _)
  · extract_lets +onlyGivenNames t
    split
    · exact hdrop _ (.tickFree (.asyncMemue (hmodA _ h _))) _
    · exact hdrop _ (hmodA _ h _) _
  · extract_lets +onlyGivenNames t bad arr a w cols s1
    have hs1 : Formed s1 := hmodA _ h _
    clear_value s1
    extract_lets +onlyGivenNames s2
    have hs2 : Formed s2 := by
      unfold s2
      split
      · exact hs1
      · exact .asyncMemue hs1
    clear_value s2
    clear_value bad
    split
    · exact hdrop _ (.tickFree (.asyncMemue hs2)) _
    · exact hdrop _ hs2 _
  · exact hdrop _ (.fst (.vaWrite (.fst (.vaWrite h)))) _
  · exact hdrop _ (hmodA _ h _) _

end

end Sys2Proof.Proofs.MemoryForm
end

section
/-! Proofs. Keeping the form of memory: launch and scheduling. -/

namespace Sys2Proof.Proofs.MemoryForm
open Sys2Proof Sys2Proof.Machine

section
variable {s : State}

theorem Formed.tComplete {cl : Nat} (h : Formed s) : Formed (s.tComplete cl) := by
  unfold State.tComplete
  split
  · exact .arrayCut h
  · exact .modCoreAt h
  · split
    · exact .ite (.tFinish h) h
    · exact h

theorem Goes.temporalCommandComplete {cl : Nat} : Goes s (execTemporalCommandComplete cl s) := .next fun h => .tComplete h

theorem FormedPair.readLines {g : Nat} {l : List Nat} (h : Formed s) : FormedPair (s.readLines g l) := by
  induction l generalizing s with
  | nil =>
    unfold State.readLines
    exact .mk h
  | cons x xs ih =>
    unfold State.readLines
    extract_lets +onlyGivenNames r
    have hr : FormedPair r := .homeRead h
    clear_value r
    split
    · exact .mk (.fst hr)
    · exact .mk (.fst (ih (.fst hr)))

theorem FormedPair.readImage {g : Nat} {frames : List Nat} (h : Formed s) : FormedPair (s.readImage g frames) := by
  unfold State.readImage
  refine .uncharged h ?_
  exact fun _ h1 => .readLines h1

theorem FormedPair.loadImage {g : Nat} {v : SavedCtx} (h : Formed s) : FormedPair (s.loadImage g v) := by
  unfold State.loadImage
  extract_lets +onlyGivenNames r
  have hr : FormedPair r := .readImage h
  clear_value r
  split
  · exact .mk (.fst hr)
  · exact .mk (.fst hr)

theorem FormedPair.nodeRead {g addr : Nat} (h : Formed s) : FormedPair (s.nodeRead g addr) := by
  unfold State.nodeRead
  extract_lets +onlyGivenNames r
  have hr : FormedPair r := .gRead h
  clear_value r
  split
  · exact .mk (.fst hr)
  · exact .ite (.mk (.fst (.gRead (.fst hr)))) (.mk (.fst hr))

theorem Formed.modCms {g k : Nat} {f : Cms → Cms} (h : Formed s) : Formed (s.modCms g k f) := .modGuest h
theorem Formed.tailWrite {g k v : Nat} (h : Formed s) : Formed (s.tailWrite g k v) := .modCms h
theorem Goes.commandStreamTailWrite {g k v : Nat} : Goes s (execCommandStreamTailWrite g k v s) := .next fun h => .ite (.park h) (.tailWrite h)
theorem Goes.commandStreamDisable {g k : Nat} : Goes s (execCommandStreamDisable g k s) := .next fun h => .modCms h
theorem Goes.haltClear {g k : Nat} : Goes s (execHaltClear g k s) := .next fun h => .ite (.modCms h) h

theorem Goes.streamEntryTake {g k : Nat} : Goes s (execStreamEntryTake g k s) := by
  unfold execStreamEntryTake
  refine .next fun h => ?_
  split
  · exact h
  · refine .cpGate h ?_
    intro t h1
    extract_lets +onlyGivenNames q ea r
    have hr : FormedPair r := .gRead (.modCms h1)
    clear_value r
    split
    · exact .haltStream (.fst hr)
    · exact .ite (.haltStream (.fst hr)) (.modCms (.fst hr))

theorem Formed.enterNode {g stream epoch : Nat} {n : Node} (h : Formed s) : Formed (s.enterNode g stream epoch n) := .modGuest h

theorem Goes.nodeEnter {g k : Nat} : Goes s (execNodeEnter g k s) := by
  unfold execNodeEnter
  refine .next fun h => ?_
  split
  · exact h
  · extract_lets +onlyGivenNames q
    split
    · exact .modCms h
    · refine .cpGate h ?_
      intro t h1
      extract_lets +onlyGivenNames r
      have hr : FormedPair r := .nodeRead h1
      clear_value r
      split
      · exact .haltStream (.fst hr)
      · exact .ite (.haltStream (.fst hr))
          (.ite (.modGuest (.modCms (.fst hr))) (.ite (.modCms (.enterNode (.fst hr))) (.modCms (.modCms (.enterNode (.fst hr))))))

theorem Formed.nodeDone {g id : Nat} (h : Formed s) : Formed (s.nodeDone g id) := by
  unfold State.nodeDone
  split
  · exact h
  · exact .ite (.evAdd (.modNode h)) (.modNode h)

theorem Goes.eventNode {g id : Nat} : Goes s (execEventNode g id s) := by
  unfold execEventNode
  refine .next fun h => ?_
  split
  · exact h
  · exact .nodeDone (.evAdd h)

theorem Goes.hostirqNode {g id : Nat} : Goes s (execHostirqNode g id s) := by
  unfold execHostirqNode
  refine .next fun h => ?_
  split
  · exact h
  · exact .nodeDone (.irqPost h)

theorem FormedPair.spliceCore {g c node seqNo crc image : Nat} {l : List Nat} (h : Formed s) :
    FormedPair (s.spliceCore g c node seqNo crc image l) := by
  unfold State.spliceCore
  extract_lets +onlyGivenNames k due a a1
  have ha1 : FormedPair a1 := .ite (.mk h) (.ite (.mk (.modCoreAt h)) (.mk (.modCoreAt h)))
  clear_value a1
  exact .mk (.modGuest (.fst ha1))

theorem Formed.spliceBegin {c : Nat} {x : SpliceReq} (h : Formed s) : Formed (s.spliceBegin c x) := .ite (.modCoreAt h) (.modNode (.modCoreAt h))

theorem Goes.spliceNode {g id : Nat} : Goes s (execSpliceNode g id s) := by
  unfold execSpliceNode
  refine .next fun h => ?_
  split
  · exact h
  · split
    · refine .cpGate h ?_
      intro t h1
      extract_lets +onlyGivenNames r
      have hr : FormedPair r := .gRead h1
      clear_value r
      split
      · exact .failNode (.fst hr)
      · extract_lets +onlyGivenNames cores z
        have hz : FormedPair z := .foldl (fun _ _ hp => .mk (.fst (.spliceCore (.fst hp)))) (.mk (.fst hr))
        clear_value z
        exact .modNode (.fst hz)
    · exact .ite h (.ite (.nodeDone h) (.failNode h))

theorem Goes.condNode {g k : Nat} : Goes s (execCondNode g k s) := by
  unfold execCondNode
  extract_lets +onlyGivenNames q
  refine .next fun h => ?_
  split
  · exact h
  · split
    · exact h
    · refine .cpGate h ?_
      intro t h1
      extract_lets +onlyGivenNames r
      have hr : FormedPair r := .gRead h1
      clear_value r
      split
      · exact .failNode (.fst hr)
      · exact .modCms (.nodeDone (.fst hr))

theorem Goes.kernelRecordReady {g id : Nat} : Goes s (execKernelRecordReady g id s) := by
  unfold execKernelRecordReady
  refine .next fun h => ?_
  split
  · exact h
  · extract_lets +onlyGivenNames go
    have hgo : ∀ (s : State), Formed s → Formed (go s) := by
      intro s1 a
      unfold go
      extract_lets +onlyGivenNames r
      have hr : FormedPair r := .ite (.gRead a) (.mk a)
      clear_value r
      split
      · exact .failNode (.fst hr)
      · exact .ite (.nodeDone (.fst hr)) (.modGuest (.modNode (.fst hr)))
    clear_value go
    exact .ite (.cpGate h (fun _ h1 => hgo _ h1)) (hgo _ h)

theorem Formed.turnBank {c g : Nat} (h : Formed s) : Formed (s.turnBank c g) := .ite h (.modCoreAt (.ite (.modGuest h) h))
theorem Formed.turnTo {c g : Nat} (h : Formed s) : Formed (s.turnTo c g) := .modCl (.modCoreAt (.turnBank h))

theorem Formed.placeMember {g : Nat} {n : Node} {cl index m caps : Nat} {img : Plane} (h : Formed s) :
    Formed (s.placeMember g n cl index m caps img) :=
  .modCoreAt (.turnTo h)

theorem Formed.pipeHeader {g : Nat} {n : Node} {cl : Nat} {e : List Nat} (h : Formed s) : Formed (s.pipeHeader g n cl e) := .modCoreAt h
theorem Formed.assignBars {cl mask gang : Nat} (h : Formed s) : Formed (s.assignBars cl mask gang) := .modCl h
theorem FormedPair.imageFor {g : Nat} {n : Node} {cl : Nat} (h : Formed s) : FormedPair (s.imageFor g n cl) := .ite (.mk h) (.mk (.fst (.gRead h)))

theorem Formed.placeNow {g : Nat} {n : Node} {cl : Nat} (h : Formed s) : Formed (s.placeNow g n cl) := by
  unfold State.placeNow
  extract_lets +onlyGivenNames gc
  split
  · exact .failNode h
  · extract_lets +onlyGivenNames r
    have hr : FormedPair r := .imageFor h
    clear_value r
    split
    · exact .failNode (.fst hr)
    · extract_lets +onlyGivenNames held caps t
      have ht : Formed t := .foldl (fun _ _ ht1 => .placeMember ht1) (.fst hr)
      clear_value t
      extract_lets +onlyGivenNames t1
      have ht1 : Formed t1 := .foldl (fun _ _ ht2 => .pipeHeader ht2) ht
      clear_value t1
      exact .modGuest (.modNode (.assignBars ht1))

theorem Formed.placeGroup {g : Nat} {n : Node} {cl : Nat} (h : Formed s) : Formed (s.placeGroup g n cl) :=
  .ite (.cpGate h (fun _ h1 => .placeNow h1)) (.placeNow h)

theorem Formed.restoreCtx {g cl : Nat} {v : SavedCtx} (h : Formed s) : Formed (s.restoreCtx g cl v) := by
  unfold State.restoreCtx
  extract_lets +onlyGivenNames c im
  have him : FormedPair im := .loadImage h
  clear_value im
  extract_lets +onlyGivenNames s1
  have hs1 : Formed s1 := .fst him
  clear_value s1
  extract_lets +onlyGivenNames v1 memb gc re t t1
  have ht1 : Formed t1 := .modCoreAt (.turnTo hs1)
  clear_value t1
  extract_lets +onlyGivenNames t2
  have ht2 : Formed t2 := by
    unfold t2
    refine .foldl (fun t3 b ht3 => ?_) ht1
    refine .foldl (fun t4 i ht4 => ?_) ht3
    extract_lets +onlyGivenNames va r
    have hr : FormedPair r := .resolve ht4
    clear_value r
    split
    · extract_lets +onlyGivenNames d
      have hd : FormedPair d := .homeRead (.post (.fst hr))
      clear_value d
      split
      · exact .modCoreAt (.fst hd)
      · exact .fst hd
    · exact .fst hr
  clear_value t2
  exact .traceRec (.returnFrames ht2)

theorem Formed.resumeGroup {g : Nat} {r : Grp} (h : Formed s) : Formed (s.resumeGroup g r) := by
  unfold State.resumeGroup
  extract_lets +onlyGivenNames cs t
  have ht : Formed t := .modCl h
  clear_value t
  extract_lets +onlyGivenNames t1
  have ht1 : Formed t1 := .foldl (fun _ _ ht2 => .restoreCtx ht2) ht
  clear_value t1
  exact .modGuest (.modGrp ht1)

theorem Formed.askYield {c why ydl : Nat} (h : Formed s) : Formed (s.askYield c why ydl) := .modCoreAt h
theorem Formed.clearWindow {g n : Nat} (h : Formed s) : Formed (s.clearWindow g n) := .modCoreAt h
theorem Formed.unmoor {g : Nat} {r : Grp} (h : Formed s) : Formed (s.unmoor g r) := .modGrp h

theorem Formed.moor {g : Nat} {r : Grp} {cl : Nat} (h : Formed s) : Formed (s.moor g r cl) :=
  .modGuest (.modGrp (.foldl (fun _ _ ht => .modCoreAt ht) (.foldl (fun _ _ ht1 => .clearWindow ht1) (.foldl (fun _ _ ht2 => .modCoreAt ht2) h))))

theorem Formed.relocate {g part : Nat} {r : Grp} (h : Formed s) : Formed (s.relocate g part r) := by
  unfold State.relocate
  extract_lets +onlyGivenNames t
  have ht : Formed t := .unmoor h
  clear_value t
  split
  · exact ht
  · split
    · exact .moor ht
    · exact .statusEvent ht

theorem Formed.yieldGroup {g : Nat} {r : Grp} (h : Formed s) : Formed (s.yieldGroup g r) := .modGrp (.foldl (fun _ _ ht => .askYield ht) h)

theorem MaybeFormed.placeOne {g p : Nat} (h : Formed s) : MaybeFormed (s.placeOne g p) := by
  unfold State.placeOne
  extract_lets +onlyGivenNames x saved
  clear_value saved
  split
  · split
    · exact .map fun _ => .statusEvent (.moor h)
    · exact .ite (.some (.resumeGroup h)) .none
  · split
    · exact .some (.ite (.placeGroup h) (.foldl (fun t b ht => .modNode ht) (.placeGroup h)))
    · split
      · exact .some (.foldl (fun t r ht => .yieldGroup ht) h)
      · exact .none

theorem MaybeFormed.placeFrom {g : Nat} {l : List Nat} (h : Formed s) : MaybeFormed (s.placeFrom g l) := by
  induction l with
  | nil =>
    unfold State.placeFrom
    exact .none
  | cons x xs ih =>
    unfold State.placeFrom
    split
    · rename_i t e
      have ht : Formed t := .of_some (.placeOne h) e
      exact .some ht
    · exact ih

theorem MaybeFormed.placeNext {g : Nat} (h : Formed s) : MaybeFormed (s.placeNext g) := .ite (.placeFrom h) .none
theorem Goes.groupPlacement {g : Nat} : Goes s (execGroupPlacement g s) := .next fun h => .getD (.placeNext h) h

theorem Goes.groupComplete {g id index : Nat} : Goes s (execGroupComplete g id index s) := by
  unfold execGroupComplete
  refine .next fun h => ?_
  split
  · exact h
  · extract_lets +onlyGivenNames t
    have ht : Formed t := .modGuest h
    clear_value t
    extract_lets +onlyGivenNames t1
    have ht1 : Formed t1 := .modCl ht
    clear_value t1
    extract_lets +onlyGivenNames t2
    have ht2 : Formed t2 := .modNode ht1
    clear_value t2
    split
    · exact ht2
    · exact .ite (.nodeDone ht2) ht2

theorem Formed.updSafe (h : Formed s) : Formed s.updSafe := .of_mem h rfl
theorem Formed.thermTrip (h : Formed s) : Formed s.thermTrip := .hostIrq (.updSafe (.of_mem h rfl))
theorem Formed.clockStep (h : Formed s) : Formed s.clockStep := .ite (.thermTrip (.tickFree (.of_mem h rfl))) (.tickFree (.of_mem h rfl))

theorem Goes.windowGuard {k : Nat} : Goes s (execWindowGuard k s) := by
  unfold execWindowGuard
  refine .next fun h => ?_
  split
  · exact h
  · extract_lets +onlyGivenNames w t
    have ht : Formed t := .foldl (fun _ _ ht1 => .askYield ht1) h
    clear_value t
    exact .of_mem ht rfl

theorem Goes.windowEnd {k : Nat} : Goes s (execWindowEnd k s) := by
  unfold execWindowEnd
  refine .next fun h => ?_
  split
  · exact h
  · extract_lets +onlyGivenNames t
    have ht : Formed t := .foldl (fun _ _ ht1 => .modCoreAt ht1) h
    clear_value t
    exact .of_mem ht rfl

theorem Goes.request {g : BitVec 4} {n : Bool} {scope : Nat} {f : State → State} (hf : ∀ (t : State), Formed t → Formed (f t)) :
    Goes s (request s g n scope f) := by
  unfold Machine.request
  refine .sOp ?_
  intro t h
  split
  · exact h
  · split
    · exact .replayRefuse h
    · split
      · exact .stallOn h
      · rename_i t1 e
        have ht1 : Formed t1 := .of_some (.settled h) e
        exact hf _ ht1

theorem FormedPair.launchAt {g stream a : Nat} (h : Formed s) : FormedPair (s.launchAt g stream a) := by
  unfold State.launchAt
  split
  · exact .mk h
  · extract_lets +onlyGivenNames r
    have hr : FormedPair r := .nodeRead h
    clear_value r
    split
    · exact .mk (.fst hr)
    · exact .ite (.mk (.fst hr)) (.ite (.mk (.fst hr)) (.mk (.enterNode (.fst hr))))

theorem Formed.cpStall {f : State → State} (h : Formed s) (hf : ∀ (t : State), Formed t → Formed (f t)) : Formed (s.cpStall f) := by
  unfold State.cpStall
  extract_lets +onlyGivenNames r
  have hr : FormedPair r := .regulated h fun _ h1 => .mk (hf _ h1)
  clear_value r
  split
  · exact .stallOn (.fst hr)
  · exact .fst hr

theorem Goes.lnch {o : OpSR2} : Goes s (execLnch o s) := .request fun _ h => .cpStall h (fun _ h1 => .ws (.fst (.launchAt h1)))

theorem FormedPair.rearm {g k a : Nat} (h : Formed s) : FormedPair (s.rearm g k a) := by
  unfold State.rearm
  extract_lets +onlyGivenNames q
  split
  · exact .mk h
  · split
    · exact .mk h
    · split
      · exact .mk (.modCms h)
      · split
        · exact .mk h
        · extract_lets +onlyGivenNames ea r
          have hr : FormedPair r := .gWrite h
          clear_value r
          split
          · exact .mk (.haltStream (.fst hr))
          · exact .mk (.modCms (.fst hr))

theorem Goes.garm {o : OpSGarm} : Goes s (execGarm o s) := by
  unfold execGarm
  refine .request ?_
  intro t h
  extract_lets +onlyGivenNames k a go
  have hgo : ∀ (s : State), Formed s → Formed (go s) := fun _ h1 => .ws (.fst (.rearm h1))
  clear_value go
  exact .ite (.cpStall h (fun _ h1 => hgo _ h1)) (hgo _ h)

theorem Goes.hirq {o : OpSHirq} : Goes s (execHirq o s) := .request fun _ h => .irqPost h

theorem Goes.pflip {o : OpSD} : Goes s (execPflip o s) := by
  unfold execPflip
  refine .sOp ?_
  intro t h
  split
  · exact h
  · split
    · exact .stallOn h
    · rename_i t1 e
      have ht1 : Formed t1 := .of_some (.settled h) e
      exact .ite (.stallOn h) (.ite (.ws ht1) (.ite (.stallOn h) (.holdNext (.ws (.modCore ht1)))))

end

end Sys2Proof.Proofs.MemoryForm
end

section
/-! Proofs. Keeping the form of memory: the fabric, frames and guests. -/

namespace Sys2Proof.Proofs.MemoryForm
open Sys2Proof Sys2Proof.Machine

section
variable {s : State}

theorem Formed.emitAll {p : Nat} {l : List FlitMsg} (h : Formed s) : Formed (s.emitAll p l) := .foldl (fun _ _ ht => .emit ht) h
theorem Formed.sendReport {p : Nat} (h : Formed s) : Formed (s.sendReport p) := .emitAll (.modPort (.of_mem h rfl))
theorem Goes.signalDetect {p : Nat} : Goes s (execSignalDetect p s) := .next fun h => .ite (.modPort h) h
theorem Goes.trainingComplete {p : Nat} : Goes s (execTrainingComplete p s) := .next fun h => .ite (.sendReport (.modPort h)) h
theorem Goes.rateFallback {p : Nat} : Goes s (execRateFallback p s) := .next fun h => .ite h (.modPort h)
theorem Formed.abortColl {c : Coll} {cause : Nat} (h : Formed s) : Formed (s.abortColl c cause) := .modCoreAt (.dropColl h)
theorem Formed.modGrpReg {g : Nat} {f : Fcgrp → Fcgrp} (h : Formed s) : Formed (s.modGrpReg g f) := .of_mem h rfl

theorem Formed.loseLink {s old : State} {link : Nat} (h : Formed s) : Formed (s.loseLink old link) := by
  unfold State.loseLink
  extract_lets +onlyGivenNames f lost hit t
  have ht : Formed t := .of_mem h rfl
  clear_value t
  extract_lets +onlyGivenNames t1
  have ht1 : Formed t1 := .foldl (fun _ _ ht2 => .fabLogPut ht2) ht
  clear_value t1
  exact .foldl (fun _ _ ht2 => .hostEv (.foldl (fun _ _ ht3 => .ite (.statusEvent ht3) ht3) ht2))
    (.foldl (fun _ _ ht3 => .modGrpReg (.abortColl ht3)) ht1)

theorem Formed.downPort {p why : Nat} (h : Formed s) : Formed (s.downPort p why) := by
  unfold State.downPort
  extract_lets +onlyGivenNames t
  have ht : Formed t := .modPort h
  clear_value t
  exact .ite ht (.of_mem (.tell (.loseLink ht)) rfl)

theorem Goes.portDown {p why : Nat} : Goes s (execPortDown p why s) := .next fun h => .ite h (.downPort h)
theorem Goes.trainingTimeout {p : Nat} : Goes s (execTrainingTimeout p s) := .next fun h => .ite (.downPort h) h
theorem Formed.sendCipher {p : Nat} {r : LinkRep} (h : Formed s) : Formed (s.sendCipher p r) := .ite (.emitAll (.of_mem h rfl)) h

theorem Formed.acceptReport {p : Nat} {r : LinkRep} (h : Formed s) : Formed (s.acceptReport p r) := by
  unfold State.acceptReport
  split
  · exact .downPort h
  · extract_lets +onlyGivenNames t
    have ht : Formed t := .modPort (.sendCipher h)
    clear_value t
    exact .foldl (fun _ _ ht1 => .tell ht1) (.ite ht (.tell ht))

theorem Goes.linkReport {p : Nat} {r : LinkRep} : Goes s (execLinkReport p r s) := .next fun h => .ite (.acceptReport h) h

theorem Formed.deliverFlit {p : Nat} {f : Flit} (h : Formed s) : Formed (s.deliverFlit p f) :=
  .ite h (.ite (.ite (.modPort h) h) (.ite (.of_mem h rfl) h))

theorem Goes.flitReceive {p : Nat} {f : Flit} : Goes s (execFlitReceive p f s) :=
  .next fun h => .ite h (.ite (.ite (.downPort h) (.modPort h)) (.ite (.modPort h) (.deliverFlit (.modPort h))))

theorem Goes.flitResend {p : Nat} : Goes s (execFlitResend p s) := .next fun h => .ite h (.modPort h)
theorem Goes.flitSilence {p : Nat} : Goes s (execFlitSilence p s) := .next fun h => .ite (.downPort h) h
theorem Goes.rekey {p : Nat} : Goes s (execRekey p s) := .next fun h => .ite (.sendReport (.modPort h)) h

theorem Goes.peerLossNotice {n : LinkNews} : Goes s (execPeerLossNotice n s) :=
  .next fun h => .ite (.of_mem h rfl) (.ite h (.loseLink (.of_mem h rfl)))

theorem Goes.fabricDisable : Goes s (execFabricDisable s) := .next fun h => .foldl (fun _ _ ht => .ite ht (.downPort ht)) (.of_mem h rfl)
theorem Formed.respond {a : RemAcc} {why : Nat} {b : List Nat} (h : Formed s) : Formed (s.respond a why b) := .sendTo h

theorem FormedPair.serve {a : RemAcc} {p : Nat × Nat × Nat} (h : Formed s) : FormedPair (s.serve a p) := by
  unfold State.serve
  extract_lets +onlyGivenNames t
  have ht : Formed t := .charge h
  clear_value t
  split
  · exact .homeRead ht
  · split
    · exact .mk (.fst (.homeWrite ht))
    · extract_lets +onlyGivenNames r
      have hr : FormedPair r := .homeRead ht
      clear_value r
      split
      · exact .mk (.fst hr)
      · extract_lets +onlyGivenNames f b
        split
        · exact .mk (.fst hr)
        · extract_lets +onlyGivenNames w
          have hw : FormedPair w := by
            unfold w
            refine .uncharged (.fst hr) ?_
            exact fun _ h1 => .homeWrite h1
          clear_value w
          exact .mk (.fst hw)

theorem Formed.remoteServe {a : RemAcc} {pa guest sel : Nat} (h : Formed s) : Formed (s.remoteServe a pa guest sel) := by
  unfold State.remoteServe
  extract_lets +onlyGivenNames r
  have hr : FormedPair r := .serve h
  clear_value r
  split
  · exact .respond (.fst hr)
  · exact .respond (.fst hr)

theorem Goes.remoteAccess {a : RemAcc} : Goes s (execRemoteAccess a s) := by
  unfold execRemoteAccess
  refine .next fun h => ?_
  split
  · exact .respond h
  · exact .park h

theorem Goes.remoteResponse {id ok : Nat} {data : List Nat} : Goes s (execRemoteResponse id ok data s) := by
  unfold execRemoteResponse
  refine .next fun h => ?_
  split
  · exact h
  · exact .ite (.of_mem h rfl) (.fabLogPut (.of_mem h rfl))

theorem Goes.fabLogRead : Goes s (execFabLogRead s) := .next fun h => .of_mem h rfl
theorem Goes.windowRewrite {w base cfg : Nat} : Goes s (execWindowRewrite w base cfg s) := .next fun h => .of_mem h rfl
theorem Goes.windowRevocation {k : Nat} : Goes s (execWindowRevocation k s) := .next fun h => h

theorem Goes.collectiveComplete {g : Nat} {peers : List PeerInput} : Goes s (execCollectiveComplete g peers s) := by
  unfold execCollectiveComplete
  refine .next fun h => ?_
  split
  · exact h
  · exact .ite h (.ite (.collTell (.abortColl h)) (.modCoreAt (.ite h (.collSend h))))

theorem Goes.collectiveTimeout {g : Nat} : Goes s (execCollectiveTimeout g s) := by
  unfold execCollectiveTimeout
  refine .next fun h => ?_
  split
  · exact .ite (.collTell (.abortColl h)) (.abortColl h)
  · extract_lets +onlyGivenNames r k
    split
    · exact .ite (.collTell (.modGrpReg h)) (.modGrpReg h)
    · exact h

theorem Goes.fcgrpWrite {g v : Nat} : Goes s (execFcgrpWrite g v s) := .next fun h => .modGrpReg (.foldl (fun _ _ ht => .abortColl ht) h)

theorem Goes.abortMessage {g : Nat} {m : AbortNews} : Goes s (execAbortMessage g m s) := by
  unfold execAbortMessage
  extract_lets +onlyGivenNames t
  refine .next fun h => ?_
  have ht : Formed t := by
    unfold t
    split
    · exact .abortColl h
    · exact .modGrpReg h
  exact .tell (.modGrpReg ht)

theorem Goes.abortAckTimeout {p : Nat} : Goes s (execAbortAckTimeout p s) := .next fun h => .ite (.downPort h) h

theorem Formed.resetColls {g : Nat} (h : Formed s) : Formed (s.resetColls g) := by
  unfold State.resetColls
  extract_lets +onlyGivenNames mine
  refine .foldl (fun t c ht => ?_) h
  extract_lets +onlyGivenNames t1 t2
  have ht2 : Formed t2 := .of_mem ht rfl
  clear_value t2
  exact .of_mem (.collTell ht2) rfl

theorem Formed.revokeWindows {g : Nat} (h : Formed s) : Formed (s.revokeWindows g) := .ite (.of_mem h rfl) (.tell (.of_mem h rfl))

theorem Formed.hostWindow {g : Nat} {write : Bool} {addr : Nat} {data : List Nat} (h : Formed s) : Formed (s.hostWindow g write addr data) := by
  unfold State.hostWindow
  extract_lets +onlyGivenNames va fail
  have hfail : ∀ (t : State), Formed t → ∀ (e : Nat × Nat), Formed (fail t e) := fun _ h1 _ => .of_mem (.statusEvent h1) rfl
  clear_value fail
  split
  · extract_lets +onlyGivenNames r
    have hr : FormedPair r := .gWrite h
    clear_value r
    split
    · exact .fst hr
    · exact hfail _ (.fst hr) _
  · extract_lets +onlyGivenNames r
    have hr : FormedPair r := .gRead h
    clear_value r
    split
    · exact .of_mem (.fst hr) rfl
    · exact .of_mem (hfail _ (.fst hr) _) rfl

theorem Goes.hostWindowAccess {guest write addr : Nat} {data : List Nat} : Goes s (execHostWindowAccess guest write addr data s) :=
  .next fun h => .ite h (.park h)

theorem Formed.modGc {g : Nat} {f : Contract → Contract} (h : Formed s) : Formed (s.modGc g f) := .modGuest h
theorem Formed.clearWays {g mask : Nat} (h : Formed s) : Formed (s.clearWays g mask) := .foldl (fun _ _ ht => .l2Evict ht) h

theorem Goes.contractLoad {g v : Nat} : Goes s (execContractLoad g v s) :=
  .next fun h => .ite h (.ite (.modGc (.modGc h)) (.modGc (.modGuest (.clearWays (.modGc h)))))

theorem Goes.start {g : Nat} : Goes s (execStart g s) := .next fun h => .ite h (.ite (.modGc h) (.modGc h))
theorem Formed.resizeTo {g part : Nat} (h : Formed s) : Formed (s.resizeTo g part) := .foldl (fun _ _ ht => .askYield ht) (.modGuest h)
theorem Goes.resize {g part : Nat} : Goes s (execResize g part s) := .next fun h => .ite (.resizeTo (.modGc h)) h
theorem Formed.scrubCluster {g cl : Nat} (h : Formed s) : Formed (s.scrubCluster g cl) := .modCl (.foldl (fun _ _ ht => .clearWindow ht) h)

theorem Formed.resizeEnd {g : Nat} (h : Formed s) : Formed (s.resizeEnd g) := by
  unfold State.resizeEnd
  extract_lets +onlyGivenNames x leave moved t
  have ht : Formed t := .foldl (fun _ _ ht1 => .relocate ht1) h
  clear_value t
  extract_lets +onlyGivenNames t1
  have ht1 : Formed t1 := .foldl (fun _ _ ht2 => .ite (.scrubCluster ht2) ht2) ht
  clear_value t1
  exact .hostEv (.statusEvent (.modGc ht1))

theorem Formed.stopBegin {g : Nat} (h : Formed s) : Formed (s.stopBegin g) := .foldl (fun _ _ ht => .askYield ht) (.modGuest h)
theorem Goes.stop {g : Nat} : Goes s (execStop g s) := .next fun h => .ite h (.ite (.modGuest h) (.stopBegin h))

theorem Formed.dirtyReport {g : Nat} (h : Formed s) : Formed (s.dirtyReport g) :=
  .foldl (fun _ _ ht => .fst (.homeWrite ht)) (.fst (.foldl (fun _ _ hp => .mk (.fst (.homeWrite (.fst hp)))) (.mk h)))

theorem Formed.stopEnd {g : Nat} (h : Formed s) : Formed (s.stopEnd g) := by
  unfold State.stopEnd
  extract_lets +onlyGivenNames t
  have ht : Formed t := .foldl (fun _ _ ht1 => .l2Clean ht1) h
  clear_value t
  exact .hostIrq (.modGc (.of_mem (.ite ht (.dirtyReport ht)) rfl))

theorem Formed.dropTlbs {g : Nat} (h : Formed s) : Formed (s.dropTlbs g) := .of_mem h rfl

theorem Formed.resetBegin {g : Nat} (h : Formed s) : Formed (s.resetBegin g) := by
  unfold State.resetBegin
  extract_lets +onlyGivenNames cores grps t
  have ht : Formed t := .modGc h
  clear_value t
  extract_lets +onlyGivenNames t1
  have ht1 : Formed t1 := .foldl (fun _ _ ht2 => .stopCore ht2) ht
  clear_value t1
  exact .resetColls (.modGuest (.foldl (fun _ _ ht2 => .modCoreAt ht2) (.foldl (fun _ _ ht3 => .ite (.modCl ht3) ht3) (.of_mem ht1 rfl))))

theorem Formed.resetWays {g : Nat} (h : Formed s) : Formed (s.resetWays g) := .foldl (fun _ _ ht => .l2Evict ht) (.of_mem h rfl)
theorem Formed.checkInstr (h : Formed s) : Formed s.checkInstr := .ite (.updSafe (.of_mem h rfl)) h

theorem Formed.resetEnd {g : Nat} (h : Formed s) : Formed (s.resetEnd g) := by
  unfold State.resetEnd
  extract_lets +onlyGivenNames part t
  have ht : Formed t := .modGuest (.revokeWindows h)
  clear_value t
  extract_lets +onlyGivenNames t1
  have ht1 : Formed t1 := .dropTlbs ht
  clear_value t1
  extract_lets +onlyGivenNames t2
  have ht2 : Formed t2 := .foldl (fun _ _ ht3 => .ite (.scrubCluster ht3) ht3) ht1
  clear_value t2
  extract_lets +onlyGivenNames t3
  have ht3 : Formed t3 := .of_mem ht2 rfl
  clear_value t3
  extract_lets +onlyGivenNames t4
  have ht4 : Formed t4 := .resetWays ht3
  clear_value t4
  exact .ite (.checkInstr (.modGuest (.of_mem ht4 rfl))) (.modGuest (.of_mem ht4 rfl))

theorem Formed.resetGuest {g : Nat} (h : Formed s) : Formed (s.resetGuest g) := .ite h (.resetBegin h)
theorem Goes.reset {g : Nat} : Goes s (execReset g s) := .next fun h => .resetGuest h
theorem Goes.functionLevelReset {g : Nat} : Goes s (execFunctionLevelReset g s) := .next fun h => .resetGuest h

theorem MaybeFormed.advanceGuest {g : Nat} (h : Formed s) : MaybeFormed (s.advanceGuest g) :=
  .ite (.ite .none (.some (.resetEnd h)))
    (.ite (.ite (.some (.resizeEnd h)) .none) (.ite (.some (.stopBegin h)) (.ite (.ite (.some (.stopEnd h)) .none) .none)))

theorem Formed.takeWays {g mask : Nat} (h : Formed s) : Formed (s.takeWays g mask) := .modGc (.foldl (fun _ _ ht => .l2Evict ht) h)

theorem Formed.adjust {g kind old new : Nat} (h : Formed s) : Formed (s.adjust g kind old new) := by
  unfold State.adjust
  split
  · exact .resizeTo h
  · exact .takeWays h
  · exact .of_mem h rfl
  · exact h

theorem Formed.cutMinima {kind : Nat} (h : Formed s) : Formed (s.cutMinima kind) := by
  unfold State.cutMinima
  extract_lets +onlyGivenNames l sum
  split
  · exact h
  · extract_lets +onlyGivenNames new cut t
    have ht : Formed t := .foldl (fun _ _ ht1 => .statusEvent (.adjust (.modGc ht1))) h
    clear_value t
    exact .ite (.hostEv (.updSafe (.of_mem ht rfl))) ht

theorem Goes.gcMinWrite {g v : Nat} : Goes s (execGcMinWrite g v s) := .next fun h => .ite (.checkInstr (.modGc h)) (.modGc h)
theorem Formed.setKey {g : Nat} {key : List Nat} {valid : Bool} (h : Formed s) : Formed (s.setKey g key valid) := .modGc (.of_mem h rfl)
theorem Goes.generate {g : Nat} : Goes s (execGenerate g s) := .next fun h => .ite h (.setKey (.of_mem h rfl))

theorem Goes.importKey {g : Nat} : Goes s (execImportKey g s) := by
  unfold execImportKey
  refine .next fun h => ?_
  split
  · exact h
  · extract_lets +onlyGivenNames a r
    have hr : FormedPair r := .foldl (fun _ _ hp => .mk (.fst (.homeRead (.fst hp)))) (.mk h)
    clear_value r
    split
    · exact .setKey (.fst hr)
    · exact .setKey (.fst hr)

theorem Goes.erase {g : Nat} : Goes s (execErase g s) := .next fun h => .ite h (.setKey h)
theorem Formed.giveFrame {g pa : Nat} (h : Formed s) : Formed (s.giveFrame g pa) := .modGuest (.of_mem h rfl)

theorem Goes.poolAlloc {g : Nat} : Goes s (execPoolAlloc g s) := by
  unfold execPoolAlloc
  refine .next fun h => ?_
  split
  · exact .giveFrame (.of_mem h rfl)
  · exact .of_mem h rfl

theorem Formed.releaseFrame {pa : Nat} (h : Formed s) : Formed (s.releaseFrame pa) := .ite h (.of_mem h rfl)
theorem Goes.poolFree {pa : Nat} : Goes s (execPoolFree pa s) := .next fun h => .releaseFrame h

theorem Goes.frameScrub : Goes s (execFrameScrub s) := by
  unfold execFrameScrub
  refine .next fun h => ?_
  split
  · exact h
  · next f t _ =>
    extract_lets +onlyGivenNames p s1
    have hs1 : Formed s1 := memory_wf_memClear s.mem f (2 ^ 21) h
    clear_value s1
    split
    · exact .giveFrame (.of_mem hs1 rfl)
    · exact .of_mem hs1 rfl

theorem Goes.attestation {g : Nat} : Goes s (execAttestation g s) := by
  unfold execAttestation
  extract_lets +onlyGivenNames x
  refine .next fun h => ?_
  split
  · exact h
  · split
    · exact .statusEvent h
    · extract_lets +onlyGivenNames r
      have hr : FormedPair r := .gRead h
      clear_value r
      split
      · exact .statusEvent (.fst hr)
      · extract_lets +onlyGivenNames im
        have him : FormedPair im := .ite (.mk (.fst hr)) (.gRead (.fst hr))
        clear_value im
        extract_lets +onlyGivenNames img body t
        have ht : Formed t := .fst him
        clear_value t
        extract_lets +onlyGivenNames t1 t2
        have ht2 : Formed t2 := .of_mem ht rfl
        clear_value t2
        extract_lets +onlyGivenNames w
        have hw : FormedPair w := .gWrite ht2
        clear_value w
        split
        · exact .statusEvent (.fst hw)
        · exact .statusEvent (.fst hw)

theorem Goes.eventCounterAdd {g e v : Nat} : Goes s (execEventCounterAdd g e v s) := .next fun h => .evAdd h
theorem Goes.irqTimer {g v : Nat} : Goes s (execIrqTimer g v s) := .next fun h => .ite (.sendMsg h) h
theorem Goes.vectorUnmask {g v : Nat} : Goes s (execVectorUnmask g v s) := .next fun h => .ite (.sendMsg (.modGuest h)) (.modGuest h)

theorem Goes.hostClaim {id : Nat} : Goes s (execHostClaim id s) := by
  unfold execHostClaim
  refine .next fun h => ?_
  split
  · exact h
  · exact .ite (.modCl (.of_mem h rfl)) (.of_mem h rfl)

theorem Goes.hostRelease {id : Nat} : Goes s (execHostRelease id s) := by
  unfold execHostRelease
  refine .next fun h => ?_
  split
  · exact h
  · exact .ite (.of_mem h rfl) (.ite (.ite (.modCl (.of_mem h rfl)) (.of_mem h rfl)) h)

theorem Formed.grant {g : Grant} (h : Formed s) : Formed (s.grant g) := by
  unfold State.grant
  split
  · exact .of_mem h rfl
  · exact .of_mem h rfl

theorem Formed.passPoint {h : HeldReq} {t : Nat} (hs : Formed s) : Formed (s.passPoint h t) := by
  unfold State.passPoint
  extract_lets +onlyGivenNames pass
  have hpass : Formed pass := .grant hs
  clear_value pass
  split
  · exact .ite hs (.ite hpass (.ite (.modCoreAt hs) (.modCoreAt hs)))
  · exact .ite hs hpass

theorem Formed.putRecord {cl g va : Nat} {b : List Nat} (h : Formed s) : Formed (s.putRecord cl g va b) := by
  unfold State.putRecord
  extract_lets +onlyGivenNames r
  have hr : FormedPair r := .gWriteP h
  clear_value r
  split
  · exact .modCl (.fst hr)
  · exact .modCl (.fst hr)

theorem Formed.outside {i : Outside} (h : Formed s) : Formed (s.outside i) := by
  unfold State.outside
  split
  · exact .hostWindow h
  · exact .tailWrite h
  · exact .remoteServe h
  · exact .putRecord h

theorem Formed.outsideStep {g : Nat} {p : Nat × Outside} (h : Formed s) : Formed (s.outsideStep g p) := by
  unfold State.outsideStep
  extract_lets +onlyGivenNames r
  have hr : FormedPair r := .regulated h fun _ h1 => .mk (.outside h1)
  clear_value r
  split
  · exact .fst hr
  · exact .of_mem (.fst hr) rfl

theorem Formed.admitStep {die point g : Nat} (h : Formed s) : Formed (s.admitStep die point g) := by
  unfold State.admitStep
  extract_lets +onlyGivenNames t
  have ht : Formed t := by
    unfold t
    split
    · exact .outsideStep h
    · split
      · exact .debit (.of_mem h rfl)
      · split
        · exact .passPoint (.modBucket (.of_mem h rfl))
        · exact h
  clear_value t
  exact .modBucket ht

theorem Goes.regulationAdmit {die point guest : Nat} : Goes s (execRegulationAdmit die point guest s) := .next fun h => .ite (.admitStep h) h

theorem Formed.admitAll {die point g k : Nat} (h : Formed s) : Formed (s.admitAll die point g k) := by
  induction k generalizing s with
  | zero =>
    unfold State.admitAll
    exact h
  | succ n ih =>
    unfold State.admitAll
    exact .ite (ih (.admitStep h)) h

theorem Goes.regulatorTick : Goes s (execRegulatorTick s) := by
  unfold execRegulatorTick
  extract_lets +onlyGivenNames at_ ks t
  refine .next fun h => ?_
  have ht : Formed t := .of_mem h rfl
  clear_value t
  exact .foldl (fun _ _ hu => .modBucket hu) (.foldl (fun _ _ hu => .admitAll hu) (.foldl (fun _ _ hu => .modBucket hu) ht))

theorem Goes.budget {die point guest : Nat} : Goes s (execBudget die point guest s) :=
  .next fun h => .ite h (.ite (.statusEvent (.modBucket h)) (.foldl (fun _ _ ht => .modCoreAt ht) (.modBucket h)))

theorem FormedPair.sPerform {n : Nat} {r : SReq} (h : Formed s) : FormedPair (s.sPerform n r) := by
  unfold State.sPerform
  extract_lets +onlyGivenNames s1
  have hs1 : Formed s1 := .ite (.l1Clean h) h
  clear_value s1
  extract_lets +onlyGivenNames t s2
  have hs2 : Formed s2 := .ite (.l1Expel hs1) hs1
  clear_value s2
  split
  · extract_lets +onlyGivenNames w
    have hw : FormedPair w := by
      unfold w
      refine .guarded hs2 ?_
      exact fun _ h1 => .tgtWrite h1
    clear_value w
    exact .mk (.fst hw)
  · refine .guarded hs2 ?_
    exact fun _ h1 => .atomicAt h1
  · refine .guarded hs2 ?_
    exact fun _ h1 => .tgtRead h1

theorem Formed.sAnswer {n : Nat} {r : SReq} (h : Formed s) : Formed (s.sAnswer n r) := by
  unfold State.sAnswer
  extract_lets +onlyGivenNames p
  have hp : FormedPair p := by
    unfold p
    refine .regulated h ?_
    exact fun _ h1 => .sPerform h1
  clear_value p
  extract_lets +onlyGivenNames put
  have hput : ∀ (t : State), Formed t → ∀ (stage : Nat) (b : List Nat) (x : Nat), Formed (put t stage b x) := fun _ h1 _ _ _ => .modCoreAt h1
  clear_value put
  split
  · exact hput _ (.fst hp) _ _ _
  · exact hput _ (.fst hp) _ _ _
  · exact .ite (.of_mem h rfl) (hput _ (.fst hp) _ _ _)

theorem Goes.l2Lookup {req : Nat} : Goes s (execL2Lookup req s) := by
  unfold execL2Lookup
  refine .next fun h => ?_
  split
  · exact h
  · exact .ite (.sAnswer h) h

theorem Goes.controllerAccess {req : Nat} : Goes s (execControllerAccess req s) := by
  unfold execControllerAccess
  refine .next fun h => ?_
  split
  · exact .ite (.sAnswer h) h
  · exact h

end

end Sys2Proof.Proofs.MemoryForm
end

section
/-! Proofs. Keeping the form of memory: the events of cores, engines and clusters. -/

namespace Sys2Proof.Proofs.MemoryForm
open Sys2Proof Sys2Proof.Machine

section
variable {s : State}

theorem Formed.takeAnswer {n : Nat} {r : SReq} (h : Formed s) : Formed (s.takeAnswer n r) := by
  unfold State.takeAnswer
  extract_lets +onlyGivenNames t
  have ht : Formed t := .remDone (.modCoreAt h)
  clear_value t
  exact .ite (.modCoreAt (.ite (.l1Put ht) ht)) (.ite (.modCoreAt (.l1Put ht)) (.modCoreAt ht))

theorem Goes.loadDataReturn {core : Nat} : Goes s (execLoadDataReturn core s) := by
  unfold execLoadDataReturn
  refine .next fun h => ?_
  split
  · exact h
  · split
    · exact h
    · split
      · exact .modCoreAt (.netTake h)
      · split
        · extract_lets +onlyGivenNames p
          have hp : FormedPair p := .sPerform h
          clear_value p
          split
          · exact .takeAnswer (.fst hp)
          · exact .takeAnswer (.fst hp)
        · exact .takeAnswer h

theorem Formed.askFetch {n va : Nat} (h : Formed s) : Formed (s.askFetch n va) := .ite h (.countAt (.askWalk h))

theorem Formed.fetchStep {n : Nat} (h : Formed s) : Formed (s.fetchStep n) := by
  unfold State.fetchStep
  split
  · exact h
  · extract_lets +onlyGivenNames s1
    have hs1 : Formed s1 := .modCoreAt h
    clear_value s1
    extract_lets +onlyGivenNames k va fail
    have hfail : ∀ (t : State), Formed t → ∀ (c : Nat), Formed (fail t c) := fun _ h1 _ => .modCoreAt h1
    clear_value fail
    extract_lets +onlyGivenNames left ask
    have hask : ∀ (t : State), Formed t → ∀ (tgt pa sel len : Nat), Formed (ask t tgt pa sel len) := fun _ h1 _ _ _ _ => .modCoreAt h1
    clear_value ask
    extract_lets +onlyGivenNames go
    have hgo : ∀ (t : State), Formed t → ∀ (tg : Tgt), Formed (go t tg) := by
      intro t a tg
      unfold go
      split
      · exact .ite (hfail _ (.logArray a) _) (.modCoreAt a)
      · split
        · exact .ite (hfail _ (.logArray a) _) (.modCoreAt a)
        · extract_lets +onlyGivenNames line
          split
          · extract_lets +onlyGivenNames r
            have hr : FormedPair r := .homeRead a
            clear_value r
            split
            · exact hfail _ (.fst hr) _
            · exact .modCoreAt (.ite (.l1Put (.fst hr)) (.fst hr))
          · exact hask _ a _ _ _ _
      · exact hask _ a _ _ _ _
      · exact hask _ a _ _ _ _
      · exact hask _ a _ _ _ _
    clear_value go
    split
    · exact hfail _ hs1 _
    · split
      · split
        · exact hgo _ hs1 _
        · exact hfail _ hs1 _
      · split
        · split
          · exact hfail _ hs1 _
          · exact hgo _ hs1 _
        · split
          · exact .ite (hfail _ (.modCoreAt hs1) _) (.askFetch hs1)
          · exact .askFetch hs1

theorem Goes.fetchFill {core : Nat} : Goes s (execFetchFill core s) := .next fun h => .fetchStep h

theorem Formed.walkTaken {n : Nat} {w : AccReq} {r : Except Nat TlbEnt} (h : Formed s) : Formed (s.walkTaken n w r) := by
  unfold State.walkTaken
  extract_lets +onlyGivenNames t
  have ht : Formed t := .modCoreAt h
  clear_value t
  split
  · exact ht
  · exact .modCoreAt ht

theorem Formed.joinerTakes {r : Except Nat TlbEnt} {kind : Nat} {p : Nat × AccReq} (h : Formed s) : Formed (State.joinerTakes r kind s p) := by
  unfold State.joinerTakes
  extract_lets +onlyGivenNames gone
  have hgone : Formed gone := .leaveWalker h
  clear_value gone
  split
  · exact .ite (.walkTaken (.modCoreAt hgone)) h
  · exact .ite (.walkTaken hgone) h

theorem Formed.walkStep {n : Nat} (h : Formed s) : Formed (s.walkStep n) := by
  unfold State.walkStep
  extract_lets +onlyGivenNames k
  split
  · exact h
  · extract_lets +onlyGivenNames o
    split
    · exact h
    · split
      · exact .walkTaken (.fst (.translate (.leaveWalker h)))
      · split
        · exact .joinWalker h
        · extract_lets +onlyGivenNames others r
          have hr : FormedPair r := by
            unfold r
            refine .regulated h ?_
            exact fun _ h1 => .translate h1
          clear_value r
          split
          · exact .fst hr
          · exact .foldl (fun _ _ ht => .joinerTakes ht) (.walkTaken (.leaveWalker (.fst hr)))

theorem Goes.translationWalk {core : Nat} : Goes s (execTranslationWalk core s) := .next fun h => .walkStep h

theorem Goes.wpgtAnswer {core resume : Nat} : Goes s (execWpgtAnswer core resume s) := by
  unfold execWpgtAnswer
  extract_lets +onlyGivenNames ok k prot t t1
  refine .next fun h => ?_
  have ht1 : Formed t1 := .of_mem h rfl
  clear_value t1
  split
  · exact ht1
  · exact .ite ht1 (.takeTrap ht1)

theorem Goes.shadowInvalidate {guest lo hi : Nat} : Goes s (execShadowInvalidate guest lo hi s) := .next fun h => .of_mem h rfl

theorem Formed.squash {n : Nat} {b : Branch} (h : Formed s) : Formed (s.squash n b) :=
  .countAt (.countAt (.modCoreAt (.dropRequests (.ite (.dropArray h) h))))

theorem Formed.resolveBranch {n : Nat} (h : Formed s) : Formed (s.resolveBranch n) := by
  unfold State.resolveBranch
  split
  · extract_lets +onlyGivenNames t
    have ht : Formed t := .ite (.squash h) (.modCoreAt h)
    clear_value t
    exact .ite (.traceRec (.countAt (.settle ht))) (.settle ht)
  · split
    · exact .ite (.takeTrap h) h
    · exact h

theorem Goes.branchResolution {core : Nat} : Goes s (execBranchResolution core s) := .next fun h => .resolveBranch h

theorem Goes.checkpoint {core : Nat} : Goes s (execCheckpoint core s) := by
  unfold execCheckpoint
  refine .next fun h => ?_
  split
  · exact .modCoreAt (.takeCkpt h)
  · exact h

theorem FormedPair.storeAt {n : Nat} {x : Store} (h : Formed s) : FormedPair (s.storeAt n x) := by
  unfold State.storeAt
  extract_lets +onlyGivenNames s1
  have hs1 : Formed s1 := .ite (.l1Clean h) h
  clear_value s1
  split
  · exact .mk hs1
  · extract_lets +onlyGivenNames t
    refine .guarded hs1 ?_
    intro t1 h1
    split
    · split
      · exact .mk (.l1Patch h1)
      · split
        · extract_lets +onlyGivenNames line r
          have hr : FormedPair r := .homeRead h1
          clear_value r
          split
          · exact .mk (.fst hr)
          · exact .mk (.l1Patch (.l1Put (.fst hr)))
        · exact .tgtWrite h1
    · exact .tgtWrite (.ite (.l1Expel h1) h1)

theorem Formed.storeDone {n : Nat} {x : Store} {ok : Bool} (h : Formed s) : Formed (s.storeDone n x ok) := .modCoreAt (.of_mem h rfl)

theorem Formed.storeStep {n : Nat} (h : Formed s) : Formed (s.storeStep n) := by
  unfold State.storeStep
  split
  · exact .storeDone h
  · split
    · exact h
    · split
      · exact h
      · split
        · exact .engAsk h
        · extract_lets +onlyGivenNames o r
          have hr : FormedPair r := .regulated h fun t ht => .storeAt ht
          clear_value r
          extract_lets +onlyGivenNames out
          have hout (t : State) (ht : Formed t) (f : Core → Core) : Formed (out t f) := .modCoreAt (.useAdm ht)
          clear_value out
          split
          · exact .fst hr
          · exact hout _ (.fst hr) _
          · split
            · refine hout _ ?_ _
              exact .of_mem h rfl
            · exact hout _ (.fst hr) _

theorem Goes.storePerform {core : Nat} : Goes s (execStorePerform core s) := .next fun h => .storeStep h

theorem Formed.stopMoves {n : Nat} (h : Formed s) : Formed (s.stopMoves n) := by
  unfold State.stopMoves
  split
  · exact .ite h (.modCoreAt h)
  · exact h

theorem Goes.asyncTrap {core : Nat} : Goes s (execAsyncTrap core s) := by
  unfold execAsyncTrap
  extract_lets +onlyGivenNames k
  refine .next fun h => ?_
  split
  · exact h
  · exact .ite h (.takeTrap (.modCoreAt (.ite (.keepHeld (.stopMoves h)) (.stopMoves h))))

theorem Goes.forcedSave {core : Nat} : Goes s (execForcedSave core s) :=
  .next fun h => .ite h (.modCoreAt (.ite (.rollback h) (.hostEv (.rollback h))))

theorem Goes.savewaitEnd {core : Nat} : Goes s (execSavewaitEnd core s) := .next fun h => .ite (.modCoreAt h) h

theorem Goes.eventLatchSet {core : Nat} : Goes s (execEventLatchSet core s) := by
  unfold execEventLatchSet
  refine .next fun h => ?_
  split
  · exact h
  · exact .ite (.modCoreAt (.modCl h)) (.modCl h)

theorem Goes.capstanIssue {core : Nat} : Goes s (execCapstanIssue core s) := .next fun h => .ite (.modCoreAt h) h

theorem Formed.writeFrame {n g f : Nat} {b : List Nat} (h : Formed s) : Formed (s.writeFrame n g f b) := by
  unfold State.writeFrame
  refine .fst (.paying h fun t ht => ?_)
  exact .mk (.foldl (fun _ _ hu => .fst (.homeWrite (.charge hu))) ht)

theorem Formed.writeImage {n : Nat} (h : Formed s) : Formed (s.writeImage n) := .foldl (fun _ _ ht => .writeFrame ht) h
theorem Formed.saveBegin {n : Nat} (h : Formed s) : Formed (s.saveBegin n) := .modCoreAt (.ite h (.takeCkpt h))

theorem Formed.popFrames {n need k : Nat} (h : Formed s) : Formed (s.popFrames n need k) := by
  induction k generalizing s with
  | zero =>
    unfold State.popFrames
    exact h
  | succ n ih =>
    unfold State.popFrames
    exact .ite h (.ite (.hostEv (.modCoreAt h)) (ih (.modCoreAt (.modGuest (.fst (.homeRead h))))))

theorem Formed.groupSaved {g id index : Nat} (h : Formed s) : Formed (s.groupSaved g id index) := by
  unfold State.groupSaved
  split
  · exact h
  · exact .ite h (.modGuest (.modGrp (.modCl h)))

theorem Formed.saveEnd {n : Nat} (h : Formed s) : Formed (s.saveEnd n) := by
  unfold State.saveEnd
  extract_lets +onlyGivenNames t
  have ht : Formed t := .modCoreAt (.writeImage h)
  clear_value t
  exact .groupSaved (.modGuest (.modCoreAt (.traceRec ht)))

theorem Formed.saveStep {n : Nat} (h : Formed s) : Formed (s.saveStep n) := by
  unfold State.saveStep
  split
  · exact h
  · extract_lets +onlyGivenNames m
    have hm : FormedPair m := .mSuspend h
    clear_value m
    split
    · exact .fst hm
    · extract_lets +onlyGivenNames r
      have hr : FormedPair r := .l1Switched (.dropArray (.modCoreAt (.fst hm)))
      clear_value r
      exact .ite (.fst hr) (.ite (.popFrames (.fst hr)) (.saveEnd (.popFrames (.fst hr))))

theorem Formed.memberEnded {n : Nat} (h : Formed s) : Formed (s.memberEnded n) := .groupSaved (.modGrp h)

theorem Formed.kendStep {n : Nat} (h : Formed s) : Formed (s.kendStep n) := by
  unfold State.kendStep
  extract_lets +onlyGivenNames s1
  have hs1 : Formed s1 := .ite (.dropArray h) h
  clear_value s1
  extract_lets +onlyGivenNames s2
  have hs2 : Formed s2 := .mapSync hs1
  clear_value s2
  split
  · exact hs2
  · extract_lets +onlyGivenNames s3
    have hs3 : Formed s3 := .modCoreAt hs2
    clear_value s3
    extract_lets +onlyGivenNames k
    split
    · exact hs3
    · extract_lets +onlyGivenNames t
      have ht : Formed t := .foldl (fun _ _ ht1 => .statusEvent ht1) hs3
      clear_value t
      extract_lets +onlyGivenNames t1
      have ht1 : Formed t1 := by
        unfold t1
        refine .foldl (fun t2 f ht2 => ?_) ht
        extract_lets +onlyGivenNames r
        have hr : FormedPair r := .endBlock ht2
        clear_value r
        split
        · exact .statusEvent (.fst hr)
        · exact .fst hr
      clear_value t1
      exact .ite (.fst (.l1Switched (.modCoreAt ht1))) (.modCoreAt (.memberEnded (.fst (.l1Switched (.modCoreAt ht1)))))

theorem Formed.savingStep {n : Nat} (h : Formed s) : Formed (s.savingStep n) := .ite (.kendStep h) (.saveStep h)

theorem Goes.bkpt {o : OpSBk} : Goes s (execBkpt o s) := by
  unfold execBkpt
  refine .sOp ?_
  intro t h
  split
  · exact .ite (.modCore h) h
  · exact h

theorem Goes.mark {o : OpSLoop} : Goes s (execMark o s) := .sOp fun _ h => .ite h (.traceB h)

theorem Goes.debugStop {core : Nat} : Goes s (execDebugStop core s) := by
  unfold execDebugStop
  extract_lets +onlyGivenNames k
  refine .next fun h => ?_
  split
  · exact h
  · exact .ite h (.ite (.modCoreAt (.ckptBase h)) (.traceRec (.modCoreAt h)))

theorem Formed.haltBy {n : Nat} {view : Option (Nat × Nat)} (h : Formed s) : Formed (s.haltBy n view) := .ite (.modCoreAt h) h
theorem Goes.halt {core : Nat} : Goes s (execHalt core s) := .next fun h => .haltBy h

theorem Formed.resumeBy {n : Nat} {view : Option (Nat × Nat)} (h : Formed s) : Formed (s.resumeBy n view) := by
  unfold State.resumeBy
  split
  · exact h
  · exact .ite h (.modCoreAt (.l1DropClean (.l1Clean h)))

theorem Goes.resume {core : Nat} : Goes s (execResume core s) := .next fun h => .resumeBy h

theorem Formed.crWriteAt {n cr : Nat} {v : W64} (h : Formed s) : Formed (s.crWriteAt n cr v) := by
  unfold State.crWriteAt
  extract_lets +onlyGivenNames t
  have ht : Formed t := .crWrite (.of_mem h rfl)
  clear_value t
  exact .of_mem ht rfl

theorem Formed.dbgWrite {n : Nat} {view : Option (Nat × Nat)} {v : Nat} (h : Formed s) : Formed (s.dbgWrite n view v) := by
  unfold State.dbgWrite
  split
  · exact h
  · extract_lets +onlyGivenNames file reg w
    split
    · exact h
    · extract_lets +onlyGivenNames t
      have ht : Formed t := .ite (.ite (.modCoreAt h) (.crWriteAt h)) (.modCoreAt h)
      clear_value t
      exact .modCoreAt ht

theorem Goes.dbgDataWrite {core v : Nat} : Goes s (execDbgDataWrite core v s) := .next fun h => .dbgWrite h
theorem Goes.traceEnable {cl v : Nat} : Goes s (execTraceEnable cl v s) := .next fun h => .ite h (.modCl (.traceFlush h))
theorem Goes.traceSample {cl k : Nat} : Goes s (execTraceSample cl k s) := .next fun h => .ite h (.ite (.traceRec (.modCl h)) (.modCl h))
theorem Goes.pmctlClr {core : Nat} : Goes s (execPmctlClr core s) := .next fun h => .ite h (.modCoreAt h)
theorem Goes.counterLowRead {core i : Nat} : Goes s (execCounterLowRead core i s) := .next fun h => .ite h (.modCoreAt h)
theorem Goes.mcinv {core : Nat} : Goes s (execMcinv core s) := .next fun h => .ite h (.modCoreAt h)
theorem Formed.modRpl {g : Nat} {f : Replay → Replay} (h : Formed s) : Formed (s.modRpl g f) := .modGuest h
theorem Formed.replayStop {g reason : Nat} (h : Formed s) : Formed (s.replayStop g reason) := .modRpl h

theorem Goes.replayGo {guest : Nat} : Goes s (execReplayGo guest s) := by
  unfold execReplayGo
  extract_lets +onlyGivenNames r
  refine .next fun h => ?_
  split
  · exact h
  · extract_lets +onlyGivenNames s1
    have hs1 : Formed s1 := .modRpl h
    clear_value s1
    extract_lets +onlyGivenNames q
    have hq : FormedPair q := .nodeRead hs1
    clear_value q
    split
    · exact .replayStop (.fst hq)
    · split
      · exact .ite (.replayStop (.fst hq)) (.modRpl (.foldl (fun _ _ ht => .fst (.guestClaim ht)) (.fst hq)))
      · exact .replayStop (.fst hq)

theorem Goes.replayAbort {guest : Nat} : Goes s (execReplayAbort guest s) := .next fun h => .ite (.modRpl h) h
theorem Formed.l2EvictGuest {g : Nat} (h : Formed s) : Formed (s.l2EvictGuest g) := .foldl (fun _ _ ht => .l2Evict ht) h
theorem Formed.dropTlbsAt {g cl : Nat} (h : Formed s) : Formed (s.dropTlbsAt g cl) := .modDie (.modCl (.foldl (fun _ _ ht => .modCoreAt ht) h))

theorem Formed.restorePage {g i pa sel : Nat} (h : Formed s) : Formed (s.restorePage g i pa sel) := by
  unfold State.restorePage
  extract_lets +onlyGivenNames r
  refine .foldl (fun t j ht => ?_) h
  extract_lets +onlyGivenNames d
  have hd : FormedPair d := .gRead ht
  clear_value d
  split
  · exact .fst (.uncWrite (.fst hd))
  · exact .fst hd

theorem Formed.saveWindow {g i c : Nat} (h : Formed s) : Formed (s.saveWindow g i c) := .fst (.gWrite h)

theorem Formed.restoreWindow {g i c : Nat} (h : Formed s) : Formed (s.restoreWindow g i c) := by
  unfold State.restoreWindow
  extract_lets +onlyGivenNames a o d
  have hd : FormedPair d := .gRead h
  clear_value d
  split
  · exact .modCoreAt (.fst hd)
  · exact .fst hd

theorem FormedPair.passSelectors {g p : Nat} (h : Formed s) : FormedPair (s.passSelectors g p) := by
  unfold State.passSelectors
  extract_lets +onlyGivenNames d
  have hd : FormedPair d := .gRead h
  clear_value d
  split
  · exact .mk (.fst hd)
  · exact .mk (.fst hd)

theorem Formed.passStart {g p : Nat} (h : Formed s) : Formed (s.passStart g p) := by
  unfold State.passStart
  extract_lets +onlyGivenNames q
  have hq : FormedPair q := .nodeRead h
  clear_value q
  split
  · exact .replayStop (.fst hq)
  · split
    · exact .replayStop (.fst hq)
    · extract_lets +onlyGivenNames cl cores win idx
      split
      · exact .replayStop (.fst hq)
      · extract_lets +onlyGivenNames t
        have ht : Formed t := .ite (.modRpl (.foldl (fun _ _ ht1 => .saveWindow ht1) (.fst hq))) (.fst hq)
        clear_value t
        extract_lets +onlyGivenNames t1
        have ht1 : Formed t1 := .l2EvictGuest (.foldl (fun _ _ ht2 => .l1Flush ht2) ht)
        clear_value t1
        extract_lets +onlyGivenNames t2 t3
        have ht3 : Formed t3 := .foldl (fun _ _ ht4 => .restorePage ht4) ht1
        clear_value t3
        extract_lets +onlyGivenNames t4
        have ht4 : Formed t4 := .ite ht1 (.foldl (fun _ _ ht5 => .restoreWindow ht5) ht3)
        clear_value t4
        extract_lets +onlyGivenNames t5
        have ht5 : Formed t5 := .dropTlbsAt ht4
        clear_value t5
        exact .modRpl (.modGuest (.foldl (fun _ _ ht6 => .modCoreAt ht6) (.fst (.passSelectors ht5))))

theorem Formed.passCancel {g : Nat} {n : Node} (h : Formed s) : Formed (s.passCancel g n) := by
  unfold State.passCancel
  extract_lets +onlyGivenNames t
  have ht : Formed t := by
    unfold t
    split
    · exact h
    · split
      · split
        · exact .terminate h
        · exact h
      · exact .modGuest (.foldl (fun _ _ ht1 => .returnFrames ht1) h)
  clear_value t
  exact .modNode ht

theorem Formed.reportMember {g : Nat} {n : Node} {early : Bool} {m : Nat} (h : Formed s) : Formed (s.reportMember g n early m) :=
  .ite (.modRpl (.statusEvent (.fst (.gWrite h)))) (.fst (.gWrite h))

theorem Formed.passEnd {g : Nat} {n : Node} (h : Formed s) : Formed (s.passEnd g n) := by
  unfold State.passEnd
  extract_lets +onlyGivenNames early t
  have ht : Formed t := .ite (.passCancel h) h
  clear_value t
  extract_lets +onlyGivenNames t1
  have ht1 : Formed t1 := .foldl (fun _ _ ht2 => .reportMember ht2) ht
  clear_value t1
  exact .ite (.replayStop (.modRpl ht1)) (.ite (.replayStop (.ite (.evAdd (.modRpl ht1)) (.modRpl ht1))) (.modRpl ht1))

theorem Goes.replayPass {guest : Nat} : Goes s (execReplayPass guest s) := by
  unfold execReplayPass
  refine .next fun h => ?_
  split
  · exact h
  · extract_lets +onlyGivenNames p
    split
    · exact .passStart h
    · split
      · exact .replayStop h
      · exact .ite (.passStart (.passEnd h)) (.passEnd h)

end

end Sys2Proof.Proofs.MemoryForm
end

section
/-! Proofs. Keeping the form of memory: guests, debug and the platform. -/

namespace Sys2Proof.Proofs.MemoryForm
open Sys2Proof Sys2Proof.Machine

section
variable {s : State}

theorem Formed.repairEvent {code detail : Nat} {gs : List (Nat × Nat)} {addr : Nat} (h : Formed s) : Formed (s.repairEvent code detail gs addr) :=
  .hostEv (.foldl (fun _ _ ht => .statusEvent ht) h)

theorem Goes.channelRefresh {_die _ch : Nat} : Goes s (execChannelRefresh _die _ch s) := .next fun h => h

theorem Goes.channelRetirement {die ch : Nat} : Goes s (execChannelRetirement die ch s) := by
  unfold execChannelRetirement
  extract_lets +onlyGivenNames n
  refine .next fun h => ?_
  split
  · exact h
  · split
    · exact .hostEv h
    · extract_lets +onlyGivenNames bad owners t
      have ht : Formed t := .foldl (fun _ _ ht1 => .ctlWrite ht1) h
      clear_value t
      exact .cutMinima (.repairEvent (.of_mem ht rfl))

theorem Formed.evacuate {cores : List Nat} (h : Formed s) : Formed (s.evacuate cores) := .foldl (fun _ _ ht => .modCoreAt ht) h
theorem Formed.retireCluster {cl : Nat} (h : Formed s) : Formed (s.retireCluster cl) := .ite h (.evacuate (.modCl h))
theorem Goes.clusterRetire {cl : Nat} : Goes s (execClusterRetire cl s) := .next fun h => .retireCluster h
theorem Formed.swapCluster {cl : Nat} (h : Formed s) : Formed (s.swapCluster cl) := .ite h (.ite (.retireCluster h) (.evacuate (.modCl h)))
theorem Goes.clusterSwap {cl : Nat} : Goes s (execClusterSwap cl s) := .next fun h => .swapCluster h
theorem Formed.retireCore {n : Nat} (h : Formed s) : Formed (s.retireCore n) := .ite h (.ite (.swapCluster h) (.evacuate (.modCoreAt h)))
theorem Goes.coreRetire {core : Nat} : Goes s (execCoreRetire core s) := .next fun h => .retireCore h

theorem Formed.resumeAll {on : Nat → Bool} (h : Formed s) : Formed (s.resumeAll on) :=
  .foldl (fun _ _ ht => .ite ht (.foldl (fun _ _ ht1 => .foldl (fun _ _ ht2 => .ite (.resumeGroup ht2) ht2) ht1) ht)) h

theorem Formed.swapEnd {cl : Nat} (h : Formed s) : Formed (s.swapEnd cl) :=
  .repairEvent (.resumeAll (.modDie (.modCl (.foldl (fun _ _ ht => .modCoreAt ht) h))))

theorem Formed.relocateFrom {lost : Nat → Bool} (h : Formed s) : Formed (s.relocateFrom lost) :=
  .foldl (fun _ _ ht => .foldl (fun _ _ ht1 => .relocate ht1) ht) h

theorem Formed.retireEnd {cl : Nat} (h : Formed s) : Formed (s.retireEnd cl) := by
  unfold State.retireEnd
  exact .cutMinima (.relocateFrom (.modCl h))

theorem Formed.coreEnd {n : Nat} (h : Formed s) : Formed (s.coreEnd n) := by
  unfold State.coreEnd
  extract_lets +onlyGivenNames t
  have ht : Formed t := .modCoreAt h
  clear_value t
  extract_lets +onlyGivenNames t1
  have ht1 : Formed t1 := .relocateFrom ht
  clear_value t1
  extract_lets +onlyGivenNames t2
  have ht2 : Formed t2 := .foldl (fun _ _ ht3 => .modCoreAt ht3) ht1
  clear_value t2
  exact .cutMinima (.repairEvent ht2)

theorem MaybeFormed.repairStep (h : Formed s) : MaybeFormed s.repairStep := by
  unfold State.repairStep
  split
  · exact .some (.ite (.swapEnd h) (.retireEnd h))
  · split
    · exact .some (.coreEnd h)
    · exact .none

theorem Goes.sramRowRepair {core row : Nat} : Goes s (execSramRowRepair core row s) := by
  unfold execSramRowRepair
  extract_lets +onlyGivenNames k
  refine .next fun h => ?_
  split
  · exact h
  · split
    · exact .retireCore h
    · extract_lets +onlyGivenNames bad t
      have ht : Formed t := .modCoreAt h
      clear_value t
      extract_lets +onlyGivenNames t1 t2
      have ht2 : Formed t2 := .ite (.of_mem ht rfl) ht
      clear_value t2
      extract_lets +onlyGivenNames t3
      have ht3 : Formed t3 := .tickFree (.countAt ht2)
      clear_value t3
      split
      · exact ht3
      · split
        · extract_lets +onlyGivenNames t4
          have ht4 : Formed t4 := .modCoreAt ht3
          clear_value t4
          refine .foldl (fun t5 w ht5 => ?_) ht4
          split
          · exact .statusEvent ht5
          · exact ht5
        · exact .foldl (fun _ _ ht4 => .statusEvent ht4) (.modCoreAt ht3)

theorem Goes.l2WayRetire {way : Nat} : Goes s (execL2WayRetire way s) := by
  unfold execL2WayRetire
  refine .next fun h => ?_
  split
  · exact h
  · extract_lets +onlyGivenNames losers t
    have ht : Formed t := .foldl (fun _ _ ht1 => .l2Evict ht1) h
    clear_value t
    extract_lets +onlyGivenNames u
    have hu : Formed u := .cutMinima (.of_mem ht rfl)
    clear_value u
    extract_lets +onlyGivenNames u1
    have hu1 : Formed u1 := .foldl (fun _ _ hu2 => .modGc hu2) hu
    clear_value u1
    exact .foldl (fun _ _ hu2 => .statusEvent hu2) hu1

theorem Goes.walkerFailover {die : Nat} : Goes s (execWalkerFailover die s) := .next fun h => .ite h (.modDie h)
theorem Goes.meshLinkFailure {die : Nat} : Goes s (execMeshLinkFailure die s) := .next fun h => .ite h (.modDie h)

theorem Goes.dieLinkLoss {link : Nat} : Goes s (execDieLinkLoss link s) := by
  unfold execDieLinkLoss
  refine .next fun h => ?_
  split
  · exact h
  · extract_lets +onlyGivenNames p p1 t
    have ht : Formed t := .of_mem h rfl
    clear_value t
    split
    · extract_lets +onlyGivenNames t1
      have ht1 : Formed t1 := .foldl (fun _ _ ht2 => .stopCore ht2) ht
      clear_value t1
      exact .hostIrq (.updSafe (.of_mem ht1 rfl))
    · exact ht

theorem Formed.powerOn : Formed s.powerOn := .of_mem .reset rfl
theorem Goes.perstN : Goes s (execPerstN s) := .next fun _ => .powerOn
theorem Goes.powerLoss : Goes s (execPowerLoss s) := .next fun _ => .powerOn

theorem Formed.bringDie {die : Nat} {pass : Bool} (h : Formed s) : Formed (s.bringDie die pass) :=
  .ite (.of_mem h rfl) (.ite (.of_mem h rfl) (.of_mem h rfl))

theorem Goes.dieBringup {die pass : Nat} : Goes s (execDieBringup die pass s) := by
  unfold execDieBringup
  refine .next fun h => ?_
  split
  · exact h
  · split
    · split
      · exact h
      · exact .ite (.bringDie (.of_mem h rfl)) h
    · exact .ite (.bringDie h) h

theorem Goes.recoveryMailbox {data : List Nat} : Goes s (execRecoveryMailbox data s) := .next fun h => .ite (.updSafe (.of_mem h rfl)) h
theorem Goes.full : Goes s (execFull s) := .next fun h => .ite (.of_mem h rfl) h

theorem Formed.switchEnd (h : Formed s) : Formed s.switchEnd := by
  unfold State.switchEnd
  extract_lets +onlyGivenNames t
  have ht : Formed t := .foldl (fun _ _ ht1 => .l2Evict ht1) h
  clear_value t
  exact .hostIrq (.resumeAll (.of_mem ht rfl))

theorem MaybeFormed.upkeep (h : Formed s) : MaybeFormed s.upkeep := by
  unfold State.upkeep
  split
  · exact .some (.of_mem h rfl)
  · split
    · exact .some (.spliceBegin h)
    · split
      · exact .some (.modCoreAt h)
      · exact .ite (.some (.switchEnd h)) (.repairStep h)

theorem Goes.frameStart : Goes s (execFrameStart s) := by
  unfold execFrameStart
  refine .next fun h => ?_
  split
  · exact h
  · extract_lets +onlyGivenNames f c jump t t1
    have ht1 : Formed t1 := .of_mem h rfl
    clear_value t1
    exact .ite (.evacuate (.of_mem (.clockStep ht1) rfl)) (.clockStep ht1)

theorem Goes.tsync : Goes s (execTsync s) := .next fun h => .ite h (.of_mem h rfl)
theorem Goes.tsyncTimeout : Goes s (execTsyncTimeout s) := .next fun h => .ite (.of_mem h rfl) h
theorem Goes.thermalTrip : Goes s (execThermalTrip s) := .next fun h => .thermTrip h

theorem MaybeFormed.hostWritePiece {pa : Nat} {b : List Nat} (h : Formed s) : MaybeFormed (s.hostWritePiece pa b) := by
  unfold State.hostWritePiece
  split
  · exact .none
  · extract_lets +onlyGivenNames line
    split
    · exact .ite .none (.some (.of_mem h rfl))
    · split
      · exact .some (.ctlWrite h)
      · exact .ite (.some (.ctlWrite h)) .none

theorem Formed.hostFail {pa : Nat} (h : Formed s) : Formed (s.hostFail pa) := .of_mem h rfl

/-- The writes of an access of the host, for any way to write a piece: with `State.hostWritePiece` in it the kernel would evaluate that
function wherever it compares two matches on its result. -/
def hostWriteWith (P : State → Nat → List Nat → Option State) (s : State) : List (Nat × Nat) → List Nat → State
  | [], _ => s
  | p :: t, b => match P s p.1 (b.take p.2) with
    | some s' => hostWriteWith P s' t (b.drop p.2)
    | none => hostWriteWith P (s.hostFail p.1) t (b.drop p.2)

theorem hostWrite_eq : @State.hostWrite = hostWriteWith State.hostWritePiece := by
  delta State.hostWrite State.hostWrite._f hostWriteWith hostWriteWith._f
  generalize State.hostWritePiece = P
  rfl

theorem Formed.hostWriteWith {P : State → Nat → List Nat → Option State} (hP : ∀ {s pa b}, Formed s → MaybeFormed (P s pa b)) {s : State}
    {l : List (Nat × Nat)} {b : List Nat} (h : Formed s) : Formed (hostWriteWith P s l b) := by
  induction l generalizing s b with
  | nil => exact h
  | cons x l ih =>
    unfold MemoryForm.hostWriteWith
    split
    · next t e => exact ih (hP h t e)
    · exact ih (.hostFail h)

theorem Formed.hostWrite {l : List (Nat × Nat)} {b : List Nat} (h : Formed s) : Formed (s.hostWrite l b) := by
  rw [hostWrite_eq]
  exact .hostWriteWith .hostWritePiece h

theorem Goes.hostPhysicalAccess {write addr : Nat} {data : List Nat} : Goes s (execHostPhysicalAccess write addr data s) := by
  unfold execHostPhysicalAccess
  refine .next fun h => ?_
  split
  · exact h
  · split
    · exact .hostWrite h
    · split
      · exact .of_mem h rfl
      · exact .of_mem h rfl

theorem Goes.pmcsrWrite {d3 : Nat} : Goes s (execPmcsrWrite d3 s) := .next fun h => .of_mem h rfl

theorem Goes.ieee11491 {ir : Nat} {data : List Nat} : Goes s (execIeee11491 ir data s) := by
  unfold execIeee11491
  extract_lets +onlyGivenNames n bypass pins p put
  refine .next fun h => ?_
  have hput (out : List Nat) : Formed (put out) := .of_mem h rfl
  clear_value put
  split
  · exact hput _
  · exact hput _
  · exact hput _
  · exact hput _
  · exact .of_mem (hput _) rfl
  · exact hput _

theorem Formed.after {f : State → Host.Outcome State Fault Refusal} (h : Formed s) (hf : ∀ t, Goes t (f t)) : Formed (s.after f) := by
  obtain ⟨t, e, ht⟩ := hf s
  unfold State.after
  rw [e]
  exact ht h

theorem Formed.putPoint {die p r v : Nat} (h : Formed s) : Formed (s.putPoint die p r v) :=
  .ite h (.ite (.ite h (.modBucket h)) (.ite (.of_mem h rfl) h))

theorem Formed.putFrame {r v : Nat} (h : Formed s) : Formed (s.putFrame r v) := by
  unfold State.putFrame
  extract_lets +onlyGivenNames s1
  have hs1 : Formed s1 := .ite
    (.after (.foldl (fun _ _ ht => .after (.after ht (fun _ => .windowGuard)) (fun _ => .windowEnd)) h) (fun _ => .frameStart)) h
  clear_value s1
  exact .ite (.of_mem hs1 rfl)
    (.ite (.ite (.of_mem hs1 rfl) hs1) (.ite (.of_mem hs1 rfl) (.ite (.ite (.of_mem hs1 rfl) (.ite (.of_mem hs1 rfl) hs1)) hs1)))

theorem Formed.locked {g : Nat} {f : Contract → Contract} (h : Formed s) : Formed (s.locked g f) := .ite h (.modGc h)

theorem Formed.putContract {g r v : Nat} (h : Formed s) : Formed (s.putContract g r v) := by
  unfold State.putContract
  split
  · exact .ite (.after h (fun _ => .contractLoad)) (.locked h)
  · exact .ite (.after h (fun _ => .resize)) (.modGc h)
  · exact .locked h
  · exact .locked h
  · exact .modGc (.ite h (.after h (fun _ => .shadowInvalidate)))
  · exact .modGc h
  · exact .modGc h
  · exact .modGc h
  · exact .after h fun _ => .gcMinWrite
  · extract_lets +onlyGivenNames t
    have ht : Formed t := .modGc h
    clear_value t
    split
    · exact .after ht fun _ => .generate
    · exact .after ht fun _ => .importKey
    · exact .after ht fun _ => .erase
    · exact ht
  · exact .modGc h
  · split
    · exact .after h fun _ => .start
    · exact .after h fun _ => .stop
    · exact .after h fun _ => .reset
    · exact h
  · exact .ite (.locked h) h

theorem Formed.putTrace {host : Bool} {cl r v : Nat} (h : Formed s) : Formed (s.putTrace host cl r v) := by
  unfold State.putTrace
  extract_lets +onlyGivenNames go
  have hgo : ∀ (f : TraceUnit → TraceUnit), Formed (go f) := fun _ => .modCl h
  clear_value go
  split
  · exact .after h fun _ => .traceEnable
  · exact hgo _
  · exact hgo _
  · exact hgo _
  · exact h

theorem Formed.dbgActs {host : Bool} {n v : Nat} (h : Formed s) : Formed (s.dbgActs host n v) :=
  .ite (.haltBy (.ite (.resumeBy h) h)) (.ite (.resumeBy h) h)

theorem Formed.putDebugHost {n r v : Nat} (h : Formed s) : Formed (s.putDebugHost n r v) := by
  unfold State.putDebugHost
  split
  · exact .dbgActs (.of_mem h rfl)
  · exact .of_mem h rfl
  · exact .dbgWrite h
  · exact h

theorem Formed.putDebugGuest {g n r v : Nat} (h : Formed s) : Formed (s.putDebugGuest g n r v) := by
  unfold State.putDebugGuest
  split
  · exact h
  · split
    · exact .ite (.dbgActs (.modCoreAt h)) (.modCoreAt h)
    · exact .modCoreAt h
    · exact .ite (.dbgWrite h) h
    · exact h

theorem Formed.putReplay {g r v : Nat} (h : Formed s) : Formed (s.putReplay g r v) := by
  unfold State.putReplay
  split
  · exact .modRpl h
  · exact .modRpl h
  · exact .modRpl h
  · exact .modRpl h
  · exact .modRpl h
  · extract_lets +onlyGivenNames t
    have ht : Formed t := .modRpl h
    clear_value t
    extract_lets +onlyGivenNames t1
    have ht1 : Formed t1 := .ite (.after ht (fun _ => .replayAbort)) ht
    clear_value t1
    exact .ite (.after ht1 (fun _ => .replayGo)) ht1
  · exact h

theorem Formed.putPlatform {r v : Nat} (h : Formed s) : Formed (s.putPlatform r v) := by
  unfold State.putPlatform
  extract_lets +onlyGivenNames go
  have hgo : ∀ (p : Plat), Formed (go p) := fun _ => .of_mem h rfl
  clear_value go
  split
  · exact .ite (.updSafe (hgo _)) h
  · exact .ite (.after h (fun _ => .full)) h
  · exact hgo _
  · exact hgo _
  · exact hgo _
  · exact hgo _
  · exact h

theorem Formed.putPort {k r v : Nat} (h : Formed s) : Formed (s.putPort k r v) := .ite (.modPort h) (.ite (.modPort h) h)
theorem Formed.putWindow {n : Nat} {cfg : Bool} {v : Nat} (h : Formed s) : Formed (s.putWindow n cfg v) := .of_mem h rfl

theorem Formed.putFabric {r v : Nat} (h : Formed s) : Formed (s.putFabric r v) := by
  unfold State.putFabric
  split
  · exact .ite (.of_mem h rfl) (.after (.of_mem h rfl) (fun _ => .fabricDisable))
  · exact .ite (.of_mem h rfl) (.ite (.putPort h) (.ite (.putWindow h) (.ite (.after h (fun _ => .fcgrpWrite)) h)))

theorem Formed.putBowline {off v : Nat} (h : Formed s) : Formed (s.putBowline off v) := by
  unfold State.putBowline
  extract_lets +onlyGivenNames blk o
  split
  · exact .putPoint h
  · split
    · exact .putFrame h
    · split
      · exact .ite (.putContract h) h
      · split
        · exact .ite (.after h (fun _ => .poolFree)) h
        · exact .ite (.ite (.ite (.putTrace h) h) (.ite (.putDebugHost h) (.ite (.putReplay h) h))) (.ite (.putPlatform h) (.ite (.putFabric h) h))

theorem Formed.putStream {g k r v : Nat} (h : Formed s) : Formed (s.putStream g k r v) := by
  unfold State.putStream
  split
  · exact .modCms (.ite h (.after h (fun _ => .commandStreamDisable)))
  · exact .after h fun _ => .commandStreamTailWrite
  · exact .ite (.after h (fun _ => .haltClear)) h
  · exact h

theorem Formed.putRing {g r v : Nat} (h : Formed s) : Formed (s.putRing g r v) := by
  unfold State.putRing
  split
  · exact .ite (.modGuest h) (.modGuest h)
  · exact .modGuest h
  · exact h

theorem Formed.putVf {g off v : Nat} (h : Formed s) : Formed (s.putVf g off v) := by
  unfold State.putVf
  refine .ite ?_ ?_
  · exact .putStream h
  · refine .ite ?_ ?_
    · exact .after h fun _ => .eventCounterAdd
    · split
      · exact .putRing h
      · split
        · exact .modGuest h
        · split
          · exact .modGuest h
          · exact .ite (.modGuest h)
              (.ite (.ite (.after h (fun _ => .attestation)) h)
                (.ite (.ite (.putTrace h) h) (.ite (.putDebugGuest h) (.ite (.putReplay h) (.ite (.modGuest h) h)))))

theorem Formed.putPfMsix {off v : Nat} (h : Formed s) : Formed (s.putPfMsix off v) :=
  .ite h (.ite (.of_mem h rfl) (.ite (.of_mem h rfl) (.of_mem h rfl)))

theorem Formed.putMsix {g off v : Nat} (h : Formed s) : Formed (s.putMsix g off v) :=
  .ite h (.ite (.modGuest h) (.ite (.modGuest h) (.after (.modGuest h) (fun _ => .vectorUnmask))))

theorem Goes.registerWrite {space off v : Nat} : Goes s (execRegisterWrite space off v s) :=
  .next fun h => .ite h (.ite (.putBowline h) (.ite (.putVf h) (.ite (.putMsix h) (.ite (.putPfMsix h) h))))

end

end Sys2Proof.Proofs.MemoryForm
end

section
/-! Proofs. Keeping the form of memory: the sequencer and the step. -/

namespace Sys2Proof.Proofs.MemoryForm
open Sys2Proof Sys2Proof.Machine

section
variable {s : State}

theorem Formed.ckptAtPc (h : Formed s) : Formed s.ckptAtPc := .ite (.modCore (.takeCkpt h)) h
theorem Formed.ckpAt {y : Sync} (h : Formed s) : Formed (s.ckpAt y) := .ite h (.ite (.takeCkpt h) (.modCore h))

theorem Formed.countBundle {s t : State} {b : Bundle} {l : List Instr} (ht : Formed t) : Formed (s.countBundle t b l) :=
  .foldl (fun _ _ ht1 => .ite (.countIn ht1) (.modCore ht1)) (.countIn ht)

theorem Formed.signBranch {i : Instr} (h : Formed s) : Formed (s.signBranch i) := by
  unfold State.signBranch
  split
  · exact .ite (.sigB (.ite (.sigB h) h)) (.ite (.sigB h) h)
  · exact h

theorem Formed.refetch {l : List Instr} (h : Formed s) : Formed (s.refetch l) := by
  unfold State.refetch
  extract_lets +onlyGivenNames reg
  split
  · exact .ite (.modCore h) h
  · exact h

theorem Goes.runSlots {ex : Meaning} {l : List Instr} (hex : ∀ i t, Goes t (ex i t)) : Goes s (runSlots ex l s) := by
  induction l generalizing s with
  | nil => exact .next fun h => h
  | cons i l ih =>
    obtain ⟨t, e, ht⟩ := hex i s
    unfold Machine.runSlots
    rw [e]
    exact .of ht ih

theorem Formed.collisionFirst (h : Formed s) : Formed s.collisionFirst := .ite (.of_mem h rfl) h
theorem Formed.countStalls {mask : Nat} (h : Formed s) : Formed (s.countStalls mask) := .foldl (fun _ _ ht => .ite (.count ht) ht) h

theorem Formed.issued {s t : State} {b : Bundle} {l : List Instr} (h : Formed s) (ht : Formed t) : Formed (s.issued t b l) := by
  unfold State.issued
  extract_lets +onlyGivenNames t1
  have ht1 : Formed t1 := .collisionFirst ht
  clear_value t1
  extract_lets +onlyGivenNames y
  split
  · exact .endBundle h ht1
  · split
    · exact .ite (.ckptAtPc h) (.countStalls (.endBundle h ht1))
    · extract_lets +onlyGivenNames s1
      have hs1 : Formed s1 := .ite (.ckpAt h) h
      clear_value s1
      split
      · exact .endBundle hs1 (.countBundle ht1)
      · exact .ite (.endBundle hs1 ht1)
          (.modCore (.endBundle hs1 (.refetch (.foldl (fun _ _ ht2 => .signBranch ht2) (.countBundle (.ite (.ckpAt ht1) ht1))))))

theorem Goes.issueGood {ex : Meaning} {b : Bundle} {l : List Instr} (hex : ∀ i t, Goes t (ex i t)) : Goes s (s.issueGood ex b l) := by
  unfold State.issueGood
  split
  · exact .next fun h => .ckptAtPc h
  · extract_lets +onlyGivenNames s2 cx s3
    obtain ⟨t, e, ht⟩ := runSlots (l := slotOrder l) (s := s3) hex
    rw [e]
    exact .next fun h => .issued h (ht (.of_mem h rfl))

theorem Formed.fetchTrap {cause slots : Nat} (h : Formed s) : Formed (s.fetchTrap cause slots) := .tickFree (.syncTrap h)

theorem Goes.issueBundle {ex : Meaning} (hex : ∀ i t, Goes t (ex i t)) : Goes s (s.issueBundle ex) := by
  unfold State.issueBundle
  extract_lets +onlyGivenNames k
  split
  · exact .next fun h => .fetchTrap h
  · split
    · exact .next fun h => .fetchTrap h
    · split
      · exact .next fun h => .fetchTrap h
      · split
        · exact .next fun h => .countStalls (.modCore h)
        · split
          · exact .next fun h => .syncTrap h
          · split
            · exact .next fun h => .fetchTrap h
            · exact .issueGood fun _ _ => hex _ _

theorem Goes.coreTurn {ex : Meaning} (hex : ∀ i t, Goes t (ex i t)) : Goes s (s.coreTurn ex) := by
  unfold State.coreTurn
  extract_lets +onlyGivenNames k
  split
  · exact .next fun h => .savingStep h
  · exact .ite (.next fun h => .saveBegin h)
      (.ite (.next fun h => h) (.ite (.next fun h => .saveBegin h) (.ite (.next fun h => h) (.issueBundle (fun _ _ => hex _ _)))))

theorem Goes.illegalEncoding {core : Nat} : Goes s (execIllegalEncoding core s) := by
  unfold execIllegalEncoding
  extract_lets +onlyGivenNames t
  refine .next fun h => ?_
  have ht : Formed t := .of_mem h rfl
  clear_value t
  split
  · exact h
  · split
    · exact h
    · split
      · exact h
      · exact .of_mem (.fetchTrap ht) rfl

theorem Goes.idleBundle {hdr : Nat} : Goes s (execIdleBundle hdr s) := .ite (.next fun h => h) (.issueGood (fun _ _ => .next fun h => h))

theorem MayGo.firstDue {α : Type} {due : α → Bool} {act : α → Host.Outcome State Fault Refusal} {l : List α} (h : ∀ x, Goes s (act x)) :
    MayGo s (firstDue due act l) := by
  induction l with
  | nil => exact .none
  | cons x l ih => exact .ite (.some (h x)) ih

theorem MayGo.firstOf_nil : MayGo s (firstOf []) := .none

theorem MayGo.firstOf_cons {f : Unit → Option (Host.Outcome State Fault Refusal)} {l : List (Unit → Option (Host.Outcome State Fault Refusal))}
    (h : MayGo s (f ())) (hl : MayGo s (firstOf l)) : MayGo s (firstOf (f :: l)) := by
  unfold firstOf
  split
  · next r e => exact .some (h r e)
  · exact hl

theorem MayGo.timeEvent : MayGo s s.timeEvent :=
  firstOf_cons (.ite (.some .regulatorTick) .none) <| firstOf_cons (.firstDue fun _ => .windowEnd) <| firstOf_cons (.firstDue fun _ => .windowGuard) <|
  firstOf_cons (.ite (.some .frameStart) .none) <| firstOf_cons (.ite (.some .tsyncTimeout) .none) <|
  firstOf_cons (.firstDue fun _ => .abortAckTimeout) firstOf_nil

/-- An event that occurs when its condition holds goes on if it does when it occurs. -/
theorem MayGo.whenDue {c : Prop} [Decidable c] {r : Host.Outcome State Fault Refusal} (h : Goes s r) : MayGo s (if c then Option.some r else Option.none) :=
  .ite (.some h) .none

theorem MayGo.coreEvent {n : Nat} : MayGo s (s.coreEvent n) := by
  unfold State.coreEvent
  extract_lets +onlyGivenNames k
  exact firstOf_cons (whenDue .checkpoint) <| firstOf_cons (whenDue .branchResolution) <| firstOf_cons (whenDue .eventLatchSet) <|
    firstOf_cons (whenDue .forcedSave) <| firstOf_cons (whenDue .branchResolution) <| firstOf_cons (whenDue .savewaitEnd) <|
    firstOf_cons (whenDue .asyncTrap) <| firstOf_cons (whenDue .debugStop) <| firstOf_cons (whenDue .loadDataReturn) <|
    firstOf_cons (whenDue .l2Lookup) <| firstOf_cons (whenDue .controllerAccess) <| firstOf_cons (whenDue .translationWalk) <|
    firstOf_cons (whenDue .fetchFill) <| firstOf_cons (whenDue .storePerform) <| firstOf_cons (whenDue .matrixCommandComplete) <|
    firstOf_cons (whenDue .matrixCommandBegin) <| firstOf_cons (whenDue .copyCommandComplete) <| firstOf_cons (whenDue .copyCommandComplete) <|
    firstOf_cons (.firstDue fun _ => .streamGroupArrival) <| firstOf_cons (.firstDue fun _ => .streamOutputWrite) <|
    firstOf_cons (whenDue .capstanIssue) firstOf_nil

theorem MayGo.clusterEvent {c : Nat} : MayGo s (s.clusterEvent c) :=
  firstOf_cons (whenDue .barrierAccess) <| firstOf_cons (whenDue .temporalCommandComplete) <| firstOf_cons (whenDue .temporalCommandBegin) <|
  firstOf_cons (whenDue .temporalGrant) <| firstOf_cons (.firstDue fun _ => .traceSample) firstOf_nil

theorem MayGo.pointEvent {b : Nat} : MayGo s (s.pointEvent b) := .ite (.some (.regulationAdmit)) (.ite (.some (.budget)) .none)

theorem MayGo.nodeEvent {g : Nat} {n : Node} : MayGo s (s.nodeEvent g n) := by
  unfold State.nodeEvent
  extract_lets +onlyGivenNames go
  exact firstOf_cons (whenDue .eventNode) <| firstOf_cons (whenDue .hostirqNode) <| firstOf_cons (whenDue .spliceNode) <|
    firstOf_cons (whenDue .kernelRecordReady) firstOf_nil

theorem MayGo.nodesEvent {g : Nat} {l : List Node} : MayGo s (s.nodesEvent g l) := by
  induction l with
  | nil => exact .none
  | cons n l ih =>
    unfold State.nodesEvent
    split
    · next r e => exact .some (nodeEvent r e)
    · exact ih

/-- An event of a group that is over. -/
theorem MayGo.groupOver {g : Nat} {o : Option Grp} :
    MayGo s (match o with | Option.some r => Option.some (execGroupComplete g r.node r.index s) | Option.none => Option.none) := by
  cases o with
  | none => exact .none
  | some r => exact .some .groupComplete

theorem MayGo.guestEvent {g : Nat} : MayGo s (s.guestEvent g) := by
  unfold State.guestEvent
  extract_lets +onlyGivenNames x streams cp
  have hcp {o : Option (Host.Outcome State Fault Refusal)} (h : MayGo s o) : MayGo s (if s.cpWaits g then Option.none else o) := .ite .none h
  exact firstOf_cons groupOver <| firstOf_cons (whenDue .replayPass) <| firstOf_cons (hcp nodesEvent) <|
    firstOf_cons (hcp (.firstDue fun _ => .condNode)) <| firstOf_cons (hcp (.firstDue fun _ => .nodeEnter)) <|
    firstOf_cons (hcp (.firstDue fun _ => .streamEntryTake)) <| firstOf_cons (hcp (whenDue .groupPlacement)) <|
    firstOf_cons (.firstDue fun _ => .irqTimer) <| firstOf_cons (whenDue .collectiveComplete) <|
    firstOf_cons (whenDue .collectiveTimeout) firstOf_nil

theorem MayGo.firstEvent {f : Nat → Option (Host.Outcome State Fault Refusal)} {l : List Nat} (h : ∀ x, MayGo s (f x)) :
    MayGo s (firstEvent f l) := by
  induction l with
  | nil => exact .none
  | cons x l ih =>
    unfold Machine.firstEvent
    split
    · next r e => exact .some (h x r e)
    · exact ih

theorem MayGo.dueEvent : MayGo s s.dueEvent :=
  firstOf_cons timeEvent <| firstOf_cons (.firstEvent fun _ => coreEvent) <| firstOf_cons (.firstEvent fun _ => pointEvent) <|
  firstOf_cons (.firstEvent fun _ => clusterEvent) <| firstOf_cons (.firstEvent fun _ => guestEvent) <|
  firstOf_cons (.firstEvent fun _ => whenDue .rekey) <| firstOf_cons (.ite .none (.some .frameScrub)) firstOf_nil

theorem MaybeFormed.housekeeping (h : Formed s) : MaybeFormed s.housekeeping := by
  unfold State.housekeeping
  split
  · exact .advanceGuest h
  · exact .upkeep h

theorem Formed.coreCycle {n : Nat} (h : Formed s) : Formed (s.coreCycle n) := .ite h (.ite (.modCoreAt h) (.modCoreAt (.countAt h)))
theorem Formed.tickTime (h : Formed s) : Formed s.tickTime := .ite (.of_mem h rfl) (.of_mem h rfl)

/-- The next cycle has come. -/
theorem Formed.withNow {n : Nat} (h : Formed s) : Formed { s with now := n } := .of_mem h rfl

/-- The turn has gone to a core. -/
theorem Formed.withFocus {n : Nat} (h : Formed s) : Formed { s with focus := n } := .of_mem h rfl

theorem Formed.newCycle (h : Formed s) : Formed s.newCycle := by
  unfold State.newCycle
  refine .withFocus (.portTurns (.portTurns (.withNow (.tickTime ?_))))
  exact .foldl (fun _ _ ht => .coreCycle ht) (.foldl (fun _ _ ht => .traceFlush ht) h)

theorem Formed.passTurn (h : Formed s) : Formed s.passTurn := by
  unfold State.passTurn
  split
  · exact .of_mem h rfl
  · exact .newCycle h

theorem Goes.turn {ex : Meaning} (hex : ∀ i t, Goes t (ex i t)) : Goes s (s.turn ex) := by
  obtain ⟨t, e, ht⟩ := coreTurn (s := s) hex
  unfold State.turn
  rw [e]
  exact .next fun h => .ite (ht h) (.passTurn (ht h))

theorem Goes.advance {ex : Meaning} (hex : ∀ i t, Goes t (ex i t)) : Goes s (s.advance ex) := by
  unfold State.advance
  split
  · next r e => exact MayGo.dueEvent r e
  · split
    · next t e => exact .next fun h => .of_some (.housekeeping h) e
    · exact .turn hex

theorem Goes.stepWith {ex : Meaning} (hex : ∀ i t, Goes t (ex i t)) : Goes s (s.stepWith ex) := by
  unfold State.stepWith
  split
  · exact .next fun h => .statusEvent (.of_mem h rfl)
  · split
    · exact .ite (hex _ _) (.next fun h => .of_mem h rfl)
    · exact .advance fun _ _ => hex _ _

/-- Every instruction and every event goes on. -/
theorem Goes.exec (i : Instr) : Goes s (exec i s) :=
  match i with
  | .snop _ => .snop
  | .add _ => .add
  | .sub _ => .sub
  | .mul _ => .mul
  | .mulh _ => .mulh
  | .mulhu _ => .mulhu
  | .div _ => .div
  | .divu _ => .divu
  | .rem _ => .rem
  | .remu _ => .remu
  | .and _ => .andOp
  | .or _ => .orOp
  | .xor _ => .xor
  | .shl _ => .shl
  | .shr _ => .shr
  | .sra _ => .sra
  | .min _ => .min
  | .max _ => .max
  | .minu _ => .minu
  | .maxu _ => .maxu
  | .clz _ => .clz
  | .popc _ => .popc
  | .sel _ => .sel
  | .addw _ => .addw
  | .lea _ => .lea
  | .mov _ => .mov
  | .addi _ => .addi
  | .andi _ => .andi
  | .ori _ => .ori
  | .xori _ => .xori
  | .shli _ => .shli
  | .shri _ => .shri
  | .srai _ => .srai
  | .muli _ => .muli
  | .ceq _ => .ceq
  | .cne _ => .cne
  | .clt _ => .clt
  | .cge _ => .cge
  | .cltu _ => .cltu
  | .cgeu _ => .cgeu
  | .ceqi _ => .ceqi
  | .cnei _ => .cnei
  | .clti _ => .clti
  | .cgei _ => .cgei
  | .gand _ => .gand
  | .gor _ => .gor
  | .gxor _ => .gxor
  | .gset _ => .gset
  | .movi _ => .movi
  | .movhi _ => .movhi
  | .addil _ => .addil
  | .fadd _ => .fadd
  | .fsub _ => .fsub
  | .fmul _ => .fmul
  | .fma _ => .fma
  | .fmin _ => .fmin
  | .fmax _ => .fmax
  | .fcvt _ => .fcvt
  | .fceq _ => .fceq
  | .fclt _ => .fclt
  | .fcle _ => .fcle
  | .ldB _ => .ldB
  | .ldH _ => .ldH
  | .ldW _ => .ldW
  | .ldD _ => .ldD
  | .ldsB _ => .ldsB
  | .ldsH _ => .ldsH
  | .ldsW _ => .ldsW
  | .stB _ => .stB
  | .stH _ => .stH
  | .stW _ => .stW
  | .stD _ => .stD
  | .lda _ => .lda
  | .stl _ => .stl
  | .amoadd _ => .amoadd
  | .amoswp _ => .amoswp
  | .amocas _ => .amocas
  | .amomin _ => .amomin
  | .amomax _ => .amomax
  | .amoand _ => .amoand
  | .amoor _ => .amoor
  | .amoxor _ => .amoxor
  | .scld _ => .scld
  | .scst _ => .scst
  | .scamo _ => .scamo
  | .fence _ => .fence
  | .pfence _ => .pfence
  | .drain _ => .drain
  | .br _ => .br
  | .jal _ => .jal
  | .jr _ => .jr
  | .jalr _ => .jalr
  | .loop _ => .loop
  | .lexit _ => .lexit
  | .trap _ => .trap
  | .kend _ => .kend
  | .sysord _ => .sysord
  | .evadd _ => .evadd
  | .claim _ => .claim
  | .release _ => .release
  | .gstat _ => .gstat
  | .notify _ => .notify
  | .sysc _ => .sysc
  | .eret _ => .eret
  | .ychk _ => .ychk
  | .yield _ => .yieldOp
  | .wfe _ => .wfe
  | .evsig _ => .evsig
  | .movc _ => .movc
  | .movcw _ => .movcw
  | .xsa _ => .xsa
  | .xsb _ => .xsb
  | .xsh _ => .xsh
  | .xsj _ => .xsj
  | .xsy _ => .xsy
  | .bar _ => .bar
  | .bara _ => .bara
  | .barw _ => .barw
  | .bari _ => .bari
  | .lnch _ => .lnch
  | .garm _ => .garm
  | .hirq _ => .hirq
  | .pflip _ => .pflip
  | .bkpt _ => .bkpt
  | .mark _ => .mark
  | .vnop _ => .vnop
  | .vadd _ => .vadd
  | .vsub _ => .vsub
  | .vmul _ => .vmul
  | .vfma _ => .vfma
  | .vfms _ => .vfms
  | .vmin _ => .vmin
  | .vmax _ => .vmax
  | .vabs _ => .vabs
  | .vneg _ => .vneg
  | .vsqd _ => .vsqd
  | .vmulh _ => .vmulh
  | .vdot4 _ => .vdot4
  | .vand _ => .vand
  | .vor _ => .vor
  | .vxor _ => .vxor
  | .vshl _ => .vshl
  | .vshr _ => .vshr
  | .vsra _ => .vsra
  | .vceq _ => .vceq
  | .vcne _ => .vcne
  | .vclt _ => .vclt
  | .vcle _ => .vcle
  | .vsel _ => .vsel
  | .kand _ => .kand
  | .kor _ => .kor
  | .kxor _ => .kxor
  | .knot _ => .knot
  | .kpop _ => .kpop
  | .vcvt _ => .vcvt
  | .vqblk _ => .vqblk
  | .vdqblk _ => .vdqblk
  | .vrnd _ => .vrnd
  | .vexp2 _ => .vexp2
  | .vlog2 _ => .vlog2
  | .vrcp _ => .vrcp
  | .vrsq _ => .vrsq
  | .vsigm _ => .vsigm
  | .vtanh _ => .vtanh
  | .vrsum _ => .vrsum
  | .vrmax _ => .vrmax
  | .vrmin _ => .vrmin
  | .vscan _ => .vscan
  | .vamax _ => .vamax
  | .vmov _ => .vmov
  | .vsq _ => .vsq
  | .vxs _ => .vxs
  | .vxab _ => .vxab
  | .vspl _ => .vspl
  | .viota _ => .viota
  | .vtag _ => .vtag
  | .xprm _ => .xprm
  | .xpldA _ => .xpldA
  | .xpldB _ => .xpldB
  | .xzip _ => .xzip
  | .xuzp _ => .xuzp
  | .xcmp _ => .xcmp
  | .xexp _ => .xexp
  | .nmap _ => .nmap
  | .nmapx _ => .nmapx
  | .npld _ => .npld
  | .nmov _ => .nmov
  | .nxs _ => .nxs
  | .nli _ => .nli
  | .mma _ => .mma
  | .mmaz _ => .mmaz
  | .mconv _ => .mconv
  | .mzero _ => .mzero
  | .mldz _ => .mldz
  | .mstz _ => .mstz
  | .mtag _ => .mtag
  | .mskp _ => .mskp
  | .mwait _ => .mwait
  | .tacq _ => .tacq
  | .trel _ => .trel
  | .tldw _ => .tldw
  | .tlnc _ => .tlnc
  | .tcap _ => .tcap
  | .trst _ => .trst
  | .cpy _ => .cpy
  | .cpys _ => .cpys
  | .cpyt _ => .cpyt
  | .cpyw _ => .cpyw
  | .ldblk _ => .ldblk
  | .evblk _ => .evblk
  | .bind _ => .bind
  | .unbd _ => .unbd
  | .gthr _ => .gthr
  | .sctr _ => .sctr
  | .cwait _ => .cwait
  | .cflag _ => .cflag
  | .csig _ => .csig
  | .coll _ => .coll
  | .hadd _ => .hadd
  | .hmov _ => .hmov
  | .hli _ => .hli
  | .hxs _ => .hxs
  | .fetchFill _ => .fetchFill
  | .branchResolution _ => .branchResolution
  | .checkpoint _ => .checkpoint
  | .storePerform _ => .storePerform
  | .loadDataReturn _ => .loadDataReturn
  | .asyncTrap _ => .asyncTrap
  | .forcedSave _ => .forcedSave
  | .savewaitEnd _ => .savewaitEnd
  | .eventLatchSet _ => .eventLatchSet
  | .matrixCommandBegin _ => .matrixCommandBegin
  | .matrixCommandComplete _ => .matrixCommandComplete
  | .copyCommandComplete _ _ => .copyCommandComplete
  | .streamGroupArrival _ _ => .streamGroupArrival
  | .streamOutputWrite _ _ => .streamOutputWrite
  | .temporalGrant _ => .temporalGrant
  | .temporalCommandBegin _ => .temporalCommandBegin
  | .temporalCommandComplete _ => .temporalCommandComplete
  | .barrierAccess _ => .barrierAccess
  | .capstanIssue _ => .capstanIssue
  | .regulationAdmit _ _ _ => .regulationAdmit
  | .regulatorTick => .regulatorTick
  | .budget _ _ _ => .budget
  | .l2Lookup _ => .l2Lookup
  | .controllerAccess _ => .controllerAccess
  | .translationWalk _ => .translationWalk
  | .wpgtAnswer _ _ => .wpgtAnswer
  | .shadowInvalidate _ _ _ => .shadowInvalidate
  | .channelRefresh die ch => channelRefresh (_die := die) (_ch := ch)
  | .channelRetirement _ _ => .channelRetirement
  | .clusterSwap _ => .clusterSwap
  | .clusterRetire _ => .clusterRetire
  | .coreRetire _ => .coreRetire
  | .sramRowRepair _ _ => .sramRowRepair
  | .l2WayRetire _ => .l2WayRetire
  | .walkerFailover _ => .walkerFailover
  | .meshLinkFailure _ => .meshLinkFailure
  | .dieLinkLoss _ => .dieLinkLoss
  | .commandStreamTailWrite _ _ _ => .commandStreamTailWrite
  | .commandStreamDisable _ _ => .commandStreamDisable
  | .haltClear _ _ => .haltClear
  | .streamEntryTake _ _ => .streamEntryTake
  | .nodeEnter _ _ => .nodeEnter
  | .eventNode _ _ => .eventNode
  | .hostirqNode _ _ => .hostirqNode
  | .spliceNode _ _ => .spliceNode
  | .condNode _ _ => .condNode
  | .kernelRecordReady _ _ => .kernelRecordReady
  | .groupPlacement _ => .groupPlacement
  | .groupComplete _ _ _ => .groupComplete
  | .frameStart => .frameStart
  | .windowGuard _ => .windowGuard
  | .windowEnd _ => .windowEnd
  | .contractLoad _ _ => .contractLoad
  | .start _ => .start
  | .stop _ => .stop
  | .reset _ => .reset
  | .resize _ _ => .resize
  | .generate _ => .generate
  | .importKey _ => .importKey
  | .erase _ => .erase
  | .poolAlloc _ => .poolAlloc
  | .poolFree _ => .poolFree
  | .frameScrub => .frameScrub
  | .attestation _ => .attestation
  | .eventCounterAdd _ _ _ => .eventCounterAdd
  | .irqTimer _ _ => .irqTimer
  | .vectorUnmask _ _ => .vectorUnmask
  | .hostClaim _ => .hostClaim
  | .hostRelease _ => .hostRelease
  | .debugStop _ => .debugStop
  | .halt _ => .halt
  | .resume _ => .resume
  | .dbgDataWrite _ _ => .dbgDataWrite
  | .traceEnable _ _ => .traceEnable
  | .traceSample _ _ => .traceSample
  | .pmctlClr _ => .pmctlClr
  | .counterLowRead _ _ => .counterLowRead
  | .mcinv _ => .mcinv
  | .replayGo _ => .replayGo
  | .replayAbort _ => .replayAbort
  | .replayPass _ => .replayPass
  | .perstN => .perstN
  | .dieBringup _ _ => .dieBringup
  | .full => .full
  | .thermalTrip => .thermalTrip
  | .tsync => .tsync
  | .tsyncTimeout => .tsyncTimeout
  | .functionLevelReset _ => .functionLevelReset
  | .hostWindowAccess _ _ _ _ => .hostWindowAccess
  | .signalDetect _ => .signalDetect
  | .trainingComplete _ => .trainingComplete
  | .trainingTimeout _ => .trainingTimeout
  | .rateFallback _ => .rateFallback
  | .linkReport _ _ => .linkReport
  | .flitReceive _ _ => .flitReceive
  | .flitResend _ => .flitResend
  | .flitSilence _ => .flitSilence
  | .rekey _ => .rekey
  | .remoteAccess _ => .remoteAccess
  | .remoteResponse _ _ _ => .remoteResponse
  | .collectiveComplete _ _ => .collectiveComplete
  | .collectiveTimeout _ => .collectiveTimeout
  | .fcgrpWrite _ _ => .fcgrpWrite
  | .portDown _ _ => .portDown
  | .peerLossNotice _ => .peerLossNotice
  | .abortMessage _ _ => .abortMessage
  | .abortAckTimeout _ => .abortAckTimeout
  | .fabricDisable => .fabricDisable
  | .fabLogRead => .fabLogRead
  | .windowRewrite _ _ _ => .windowRewrite
  | .windowRevocation car => windowRevocation (k := car)
  | .registerWrite _ _ _ => .registerWrite
  | .illegalEncoding _ => .illegalEncoding
  | .idleBundle _ => .idleBundle
  | .hostPhysicalAccess _ _ _ => .hostPhysicalAccess
  | .gcMinWrite _ _ => .gcMinWrite
  | .pmcsrWrite _ => .pmcsrWrite
  | .ieee11491 _ _ => .ieee11491
  | .powerLoss => .powerLoss
  | .recoveryMailbox _ => .recoveryMailbox

theorem Goes.step : Goes s (step s) := stepWith fun i _ => exec i

end

/-- Settles O13: every instruction and every step has a next state, by the lemma of each function that the step calls. -/
theorem machineGoesOn : Obligations.MachineGoesOn := by
  unfold Obligations.MachineGoesOn
  refine ⟨fun i s => ?_, fun s => ?_⟩
  · obtain ⟨t, e, _⟩ := Goes.exec i (s := s)
    exact ⟨t, e⟩
  · obtain ⟨t, e, _⟩ := Goes.step (s := s)
    exact ⟨t, e⟩

/-- Settles O17: every function that a step calls keeps memory in canonical form; only the writes of the controllers, the scrub of
a frame and a reset change it. -/
theorem memoryFormKept : Obligations.MemoryFormKept := by
  unfold Obligations.MemoryFormKept
  intro s t h e
  obtain ⟨u, eu, hu⟩ := Goes.step (s := s)
  rw [e] at eu
  exact Host.Outcome.next.inj eu ▸ hu h

end Sys2Proof.Proofs.MemoryForm
end
